-- ==== Sys2Proof/Word.lean ====
section
/-! DEFINITION. The plain words and operand types of the ZF9512 model: bytes, the paths by which a command
reaches the device, the header of a command packet, status codes and the outside data that events carry. -/

namespace Sys2Proof

/-- A byte (R3: multi-byte fields are little-endian). -/
abbrev Byte := BitVec 8

/-- The two PCIe functions: PF0 non-secure, PF1 secure (15_host_link.md). -/
inductive Fn where
  | pf0 | pf1
deriving DecidableEq, Repr

/-- One source of commands (16_command_reference.md, "Acceptance and order"): a command ring, a mailbox or the
Ethernet command port. -/
inductive Path where
  | ring (k : Fin 3)
  | mb (m : Fin 8)
  | eth
deriving DecidableEq, Repr

/-- The status codes of a completion (R426). -/
inductive Status where
  | ok | badOpcode | badParam | badCrc | state | busy | security | signature | supplyLow | thermal
  | ledgerHeld | catalogueLoop | tooLate | absent | timeout | calFail | deferred
deriving DecidableEq, Repr

/-- The code of a status (R426). -/
def Status.code : Status → Nat
  | .ok => 0x0 | .badOpcode => 0x1 | .badParam => 0x2 | .badCrc => 0x3 | .state => 0x4 | .busy => 0x5
  | .security => 0x6 | .signature => 0x7 | .supplyLow => 0x8 | .thermal => 0x9 | .ledgerHeld => 0xA
  | .catalogueLoop => 0xB | .tooLate => 0xC | .absent => 0xD | .timeout => 0xE | .calFail => 0xF
  | .deferred => 0x10

/-- What reaches the device with one command packet besides the typed parameters of its opcode (R406, R408):
the path, the header fields, the bytes of the extended parameters, and the reserved bits of the inline
parameters (`rsv`, the packet's inline bytes outside the opcode's defined fields, as a 256-bit word). -/
structure Hdr where
  /-- The path the packet arrives by. -/
  path : Path
  /-- TAG, bytes 2–3. -/
  tag : BitVec 16
  /-- FLAGS, bytes 4–5: bit 0 SECURE, 1 WANT_COMPLETION, 2 AT_TIME, 3 CHAIN, [15:4] reserved. -/
  flags : BitVec 16
  /-- PLEN, bytes 6–7. -/
  plen : BitVec 16
  /-- AT, bytes 8–15. -/
  at_ : BitVec 64
  /-- EXTPTR, bytes 16–23. -/
  extptr : BitVec 64
  /-- EXTLEN, bytes 24–27. -/
  extlen : BitVec 32
  /-- Bits of the 32 inline bytes that the opcode does not define. -/
  rsv : BitVec 256
  /-- The extended parameters the device reads, or the bytes that follow the packet on a mailbox or datagram. -/
  ext : List Byte
  /-- The host refused the DMA read of the extended parameters (R408). -/
  extRefused : Bool
  /-- Source address and port of the datagram that carried the packet (R403); zero on other paths. -/
  peer : BitVec 128
  peerPort : BitVec 16
  /-- Source MAC address of that datagram's frame (R401). -/
  mac : BitVec 48
deriving DecidableEq, Repr

def Hdr.secure (h : Hdr) : Bool := h.flags.getLsbD 0
def Hdr.want (h : Hdr) : Bool := h.flags.getLsbD 1
def Hdr.atTime (h : Hdr) : Bool := h.flags.getLsbD 2
def Hdr.chain (h : Hdr) : Bool := h.flags.getLsbD 3

/-- An input-port sample or IQ point: two's complement I and Q. -/
structure Iq where
  i : Int
  q : Int
deriving DecidableEq, Repr, Inhabited

/-- Why a courier port leaves UP (R440). -/
inductive DownCause where
  | laneLoss | crcRun | peerDown | command | powerOff
deriving DecidableEq, Repr

/-- What wakes the device from Dormant (R454). -/
inductive WakeCause where
  | evt252 | wakeB
deriving DecidableEq, Repr

/-- Ethernet traffic other than commands and PTP (R401). -/
inductive EthTraffic where
  | arp | neighborSolicitation | echo | other
deriving DecidableEq, Repr

/-- The frame that carries what the Ethernet port receives (R400, R401). -/
structure EthRx where
  /-- Source MAC address. -/
  mac : BitVec 48
  /-- Source IP address, IPv4-mapped for IPv4. -/
  ip : BitVec 128
  /-- The address that the frame names: the destination of an IP packet, or the address that ARP or Neighbor Solicitation
  asks for, IPv4-mapped for IPv4; 0 at layer 2. -/
  target : BitVec 128
  /-- Tag control word of an IEEE 802.1Q tag. -/
  tag : Option (BitVec 16)
  /-- Payload of the frame in bytes. -/
  size : BitVec 16
  /-- The frame has an error: FEC, FCS or length. -/
  bad : Bool
  /-- Fine slot, within its tick, of its timestamp point at the balls (R330). -/
  fine : BitVec 4
deriving DecidableEq, Repr

/-- A received PTP message, with its frame (R330). -/
structure PtpFrame where
  rx : EthRx
  msg : List Byte
deriving DecidableEq, Repr

/-- Received traffic other than commands and PTP, with its frame (R401). -/
structure EthRequest where
  rx : EthRx
  kind : EthTraffic
deriving DecidableEq, Repr

/-- What a bus write of a register carries: its size in bytes, and the value (R379). -/
structure BusWrite where
  size : BitVec 8
  value : BitVec 32
deriving DecidableEq, Repr

/-- An edge at a ball: the level it leads to, and its fine slot within the tick (R328, R353). -/
structure PinEdge where
  level : Bool
  fine : BitVec 4
deriving DecidableEq, Repr

/-- A received courier frame, and the fine slot within its tick at which it arrives (R435). -/
structure LinkFrame where
  frame : BitVec 256
  fine : BitVec 4
deriving DecidableEq, Repr

end Sys2Proof
end

