-- ==== Sys2Proof/Config.lean ====
section
/-! DEFINITION. What the spec leaves open or gives to each implementation: constants without a body, so that no
proof can see a value of them, and the design choices of the model that are numbers. -/

namespace Sys2Proof

/-- Coefficient k of decimating stage 0 to 2 of the DDC (R161), in units of 2^-30: the spec gives half-band stages of unit
gain and bounds their response; the first coefficient follows from the others. -/
opaque Config.ddcTap : Nat → Nat → Int

/-- ADC code of sample m (raw time 2m) of input i (R160): what was at the ball is the outside world's. -/
opaque Config.adcSample : Nat → Nat → Int

/-- A DDC output sample in a span that R164 and R481 make undefined. -/
opaque Config.ddcUndefined : Nat → Nat → Iq

/-- Coefficient k of the fractional-delay filter of R80 for a delay of f/16 sample, in units of 2^-30: the spec gives its
delay and flatness, not its coefficients. -/
opaque Config.fineTap : Nat → Nat → Int

/-- Coefficient k of interpolating stage 0 to 3 of R87, in units of 2^-30: the spec gives half-band stages, passband and
image rejection, not the coefficients; the first follows from the others. -/
opaque Config.interpTap : Nat → Nat → Int

/-- Coefficient k of phase p of the interpolation by 4 of R93, in units of 2^-30. -/
opaque Config.basebandTap : Nat → Nat → Int

/-- Coefficients 2 to 15 of the inverse-sinc filter of R89, in units of 2^-30: coefficients 0 and 1 follow from the gains
that the rule gives. -/
opaque Config.sincTap : Nat → Int

/-- Coefficients 0 to 6 of the droop compensator of R225 for ORDER and DDELAY, in units of 2^-30: the spec gives symmetry, DC
gain and flatness, from which the others follow. -/
opaque Config.droopTap : Nat → Nat → Nat → Int

/-- Coefficient k of phase p of the resampler of R226, in units of 2^-30: the spec does not give the table. -/
opaque Config.resampleTap : Nat → Nat → Int

/-- Where in its dither period a cycle at the higher level falls (R287): the spec gives the number of cycles, not their
order. Operands: output, period, cycle. -/
opaque Config.dither : Nat → Nat → Nat → Nat

/-- Reading of supply n of read k in µV (R445): the voltage at the pin is the outside's. -/
opaque Config.supplyReading : Nat → Nat → Int

/-- Reading of temperature sensor k of scan n, 2^-8 °C (R459): the junction's temperature is the outside world's. -/
opaque Config.temperature : Nat → Nat → BitVec 16

/-- Levels at the strap pins at the release of a cold reset (R492). -/
opaque Config.straps : Nat → Nat

/-- What a foreground calibration of draw n sets trim k of its unit to (R472): what the references measure is not in the spec. -/
opaque Config.trimValue : Nat → Nat → Nat

/-- Offset in 0.01 % of full scale that a system measurement finds (R480). -/
opaque Config.calOffset : Nat → Int

/-- Transit time of the catalogue beyond 2.0 ns, in fine slots modulo 25 (R341: 2.0 to 3.5 ns). -/
opaque Config.transit : Nat → Nat

/-- Width of a producer's pulse beyond 1.75 ns, in fine slots modulo 9 (R338: 2.0 ns ± 0.25 ns). Operands: producer, instant. -/
opaque Config.pulseWidth : Nat → Nat → Nat

/-- Bounded delays that the spec leaves open within a range: the draw's value is taken modulo the range. -/
opaque Config.delay : Nat → Nat

/-- Which way an outcome that the spec calls undefined or unordered falls (R74, R347, R397). -/
opaque Config.choice : Nat → Bool

/-- Whether an item of a calibration passes (R472, R480, R481): what the references measure is not in the spec. -/
opaque Config.calPasses : Nat → Bool

/-- Level difference in 0.01 dB that a system measurement finds (R481): the signal at the ball is the outside world's. -/
opaque Config.calDifference : Nat → Int

/-- VCORE_TARGET before clamping, in units of 0.1 mV (R455): the performance monitors are not in the spec. -/
opaque Config.vcoreTarget : Nat → Nat

/-- Announced clock accuracy and variance of the PTP port, 24 bits (R331 gives neither). -/
opaque Config.ptpQuality : Nat

/-- clockIdentity of the PTP port, 64 bits: the spec does not give it. -/
opaque Config.ptpIdentity : Nat

/-- Residual of the follower's alignment (R438), units of 2^-4 fine slot. -/
opaque Config.alignResidual : Nat → Int

/-- Seed of the scrambler of a transmit lane at a training, 31 bits (R431 gives none). -/
opaque Config.scramblerSeed : Nat → Nat

/-- DEBUG_NONCE of draw n (R499): 256 random bits. -/
opaque Config.nonce : Nat → Nat

/-- A random or unspecified 64-bit value of draw n. -/
opaque Config.freeWord : Nat → BitVec 64

end Sys2Proof
end

