-- ==== Sys2Proof/Machine/Arith.lean ====
section
/-! DEFINITION. Bit fields of a word held as a number, two's complement, rounding, saturation, bytes. -/

namespace Sys2Proof.Machine

/-- Bits `[lsb + w - 1 : lsb]` of `x`. -/
def bits (x lsb w : Nat) : Nat := (x >>> lsb) % 2 ^ w

/-- Bit `n` of `x`. -/
def bit (x n : Nat) : Bool := Nat.testBit x n

/-- `x` with bits `[lsb + w - 1 : lsb]` replaced by `v` (taken modulo `2^w`). -/
def setBits (x lsb w v : Nat) : Nat :=
  (x >>> (lsb + w)) * 2 ^ (lsb + w) + (v % 2 ^ w) * 2 ^ lsb + x % 2 ^ lsb

/-- A mask of `w` ones from bit `lsb`. -/
def ones (lsb w : Nat) : Nat := (2 ^ w - 1) <<< lsb

/-- `x` without the bits of `m`. -/
def clearMask (x m : Nat) : Nat := x ^^^ (x &&& m)

/-- A `w`-bit two's complement number read as an integer. -/
def toS (w x : Nat) : Int := if bit x (w - 1) then (x : Int) - (2 : Int) ^ w else (x : Int)

/-- An integer as a `w`-bit two's complement number. -/
def ofS (w : Nat) (v : Int) : Nat := (v % ((2 : Int) ^ w)).toNat

/-- `v` saturated to `w`-bit signed. -/
def sat (w : Nat) (v : Int) : Int :=
  if v < -(2 : Int) ^ (w - 1) then -(2 : Int) ^ (w - 1)
  else if v > (2 : Int) ^ (w - 1) - 1 then (2 : Int) ^ (w - 1) - 1 else v

/-- `v / 2^k` rounded half up. -/
def rshift (v : Int) (k : Nat) : Int := (2 * v + (2 : Int) ^ k) / (2 : Int) ^ (k + 1)

/-- Whether saturation to `w` bits changes `v`. -/
def saturates (w : Nat) (v : Int) : Bool := decide (sat w v ≠ v)

/-- The exact complex product. -/
def cmul (a b : Iq) : Iq := ⟨a.i * b.i - a.q * b.q, a.i * b.q + a.q * b.i⟩

/-- The sum of two points. -/
def cadd (a b : Iq) : Iq := ⟨a.i + b.i, a.q + b.q⟩

/-- Whether bit `k` of a mask is set, as a list of the set positions below `n`. -/
def setPositions (m n : Nat) : List Nat := (List.range n).filter (fun k => bit m k)

/-- Number of bits set below `n`. -/
def popCount (m n : Nat) : Nat := (setPositions m n).length

/-- The mask whose set bits are the members of `l`. -/
def maskOf (l : List Nat) : Nat := l.foldl (fun m k => m ||| (1 <<< k)) 0

/-- Little-endian bytes as a number (R3). -/
def leNat : List Byte → Nat
  | [] => 0
  | b :: l => b.toNat + 256 * leNat l

/-- The low `n` bytes of `x`, little-endian (R3). -/
def leBytes : Nat → Nat → List Byte
  | 0, _ => []
  | n + 1, x => BitVec.ofNat 8 x :: leBytes n (x / 256)

/-- Big-endian bytes as a number (R142). -/
def beNat (l : List Byte) : Nat := l.foldl (fun a b => a * 256 + b.toNat) 0

/-- The low `n` bytes of `x`, big-endian. -/
def beBytes (n x : Nat) : List Byte := (leBytes n x).reverse

/-- Bytes `[off, off + n)` of a list. -/
def sub (l : List Byte) (off n : Nat) : List Byte := (l.drop off).take n

/-- 64-bit wrap of a counter or a raw time. -/
def w64 (n : Nat) : Nat := n % 2 ^ 64

/-- `n` rounded up to a multiple of `m` (m > 0). -/
def roundUp (n m : Nat) : Nat := (n + m - 1) / m * m

end Sys2Proof.Machine
end

