-- ==== Sys2Proof/Machine/Fields.lean ====
section
/-! DEFINITION. The fields of the nineteen control-object classes, as the field maps of spec/ give them:
each constant names a field by its class code (R425), its lowest bit and its width; the `rows` lists give
every field its access code (R5), whether it is staged (R36) and its reset value (R6). Reserved bits are
the bits no row covers (R4). -/

namespace Sys2Proof.Machine

/-- Access codes of a field (R5). -/
inductive Access where
  | ro | rw | wo | w1c | rc | rs
deriving DecidableEq, Repr

/-- One row of a field map: lowest bit, width, access, staged, reset value. -/
structure Row where
  lsb : Nat
  width : Nat
  acc : Access
  staged : Bool
  reset : Nat
deriving DecidableEq, Repr

/-- A field of an object class: class code (R425), lowest bit, width. -/
structure Field where
  cls : Nat
  lsb : Nat
  width : Nat
deriving DecidableEq, Repr

/-! ### OBJ_OUTPUT (03_drive_synthesis.md): one constant per field of its field map (R105). -/

def Fld.output.faultTick : Field := ⟨0x01, 192, 64⟩
def Fld.output.fscBusy : Field := ⟨0x01, 163, 1⟩
def Fld.output.arcEcc : Field := ⟨0x01, 162, 1⟩
def Fld.output.dacClip : Field := ⟨0x01, 161, 1⟩
def Fld.output.sumClip : Field := ⟨0x01, 160, 1⟩
def Fld.output.faultMute : Field := ⟨0x01, 159, 1⟩
def Fld.output.state : Field := ⟨0x01, 152, 3⟩
def Fld.output.dirty : Field := ⟨0x01, 144, 1⟩
def Fld.output.digGain : Field := ⟨0x01, 128, 16⟩
def Fld.output.fsc : Field := ⟨0x01, 112, 8⟩
def Fld.output.mode : Field := ⟨0x01, 104, 2⟩
def Fld.output.sincComp : Field := ⟨0x01, 96, 1⟩
def Fld.output.liveCarrier : Field := ⟨0x01, 48, 48⟩
def Fld.output.carrier : Field := ⟨0x01, 0, 48⟩

/-- The rows of the field map of OBJ_OUTPUT (R105): bit position, width, access code, staged or not, reset. -/
def rowsOutput : List Row :=
  [⟨192, 64, .ro, false, 0x0⟩,
   ⟨163, 1, .ro, false, 0x0⟩,
   ⟨162, 1, .w1c, false, 0x0⟩,
   ⟨161, 1, .w1c, false, 0x0⟩,
   ⟨160, 1, .w1c, false, 0x0⟩,
   ⟨159, 1, .w1c, false, 0x0⟩,
   ⟨152, 3, .ro, false, 0x1⟩,
   ⟨144, 1, .ro, false, 0x0⟩,
   ⟨128, 16, .rw, true, 0x4000⟩,
   ⟨112, 8, .rw, false, 0x50⟩,
   ⟨104, 2, .rw, false, 0x0⟩,
   ⟨96, 1, .rw, false, 0x0⟩,
   ⟨48, 48, .ro, false, 0x400000000000⟩,
   ⟨0, 48, .rw, true, 0x400000000000⟩]


/-! ### OBJ_SLOT (03_drive_synthesis.md): one constant per field of its field map (R103). -/

def Fld.slot.lastPlayTick : Field := ⟨0x02, 64, 64⟩
def Fld.slot.lastPdesc : Field := ⟨0x02, 48, 14⟩
def Fld.slot.mutedPlay : Field := ⟨0x02, 36, 1⟩
def Fld.slot.trunc : Field := ⟨0x02, 35, 1⟩
def Fld.slot.slotBand : Field := ⟨0x02, 34, 1⟩
def Fld.slot.holding : Field := ⟨0x02, 33, 1⟩
def Fld.slot.playing : Field := ⟨0x02, 32, 1⟩
def Fld.slot.dirty : Field := ⟨0x02, 31, 1⟩
def Fld.slot.rdchEn : Field := ⟨0x02, 25, 1⟩
def Fld.slot.rdch : Field := ⟨0x02, 16, 9⟩
def Fld.slot.frame : Field := ⟨0x02, 0, 12⟩

/-- The rows of the field map of OBJ_SLOT (R103): bit position, width, access code, staged or not, reset. -/
def rowsSlot : List Row :=
  [⟨64, 64, .ro, false, 0x0⟩,
   ⟨48, 14, .ro, false, 0x0⟩,
   ⟨36, 1, .w1c, false, 0x0⟩,
   ⟨35, 1, .w1c, false, 0x0⟩,
   ⟨34, 1, .w1c, false, 0x0⟩,
   ⟨33, 1, .ro, false, 0x0⟩,
   ⟨32, 1, .ro, false, 0x0⟩,
   ⟨31, 1, .ro, false, 0x0⟩,
   ⟨25, 1, .rw, true, 0x1⟩,
   ⟨16, 9, .rw, true, 0x0⟩,
   ⟨0, 12, .rw, true, 0x0⟩]


/-! ### OBJ_DESC (03_drive_synthesis.md): one constant per field of its field map (R75). -/

def Fld.desc.holdLen : Field := ⟨0x03, 136, 24⟩
def Fld.desc.holdAt : Field := ⟨0x03, 120, 16⟩
def Fld.desc.klinkEn : Field := ⟨0x03, 97, 1⟩
def Fld.desc.holdEn : Field := ⟨0x03, 96, 1⟩
def Fld.desc.klenM1 : Field := ⟨0x03, 84, 12⟩
def Fld.desc.kaddr : Field := ⟨0x03, 64, 20⟩
def Fld.desc.frame : Field := ⟨0x03, 48, 12⟩
def Fld.desc.scale : Field := ⟨0x03, 32, 16⟩
def Fld.desc.lengthM1 : Field := ⟨0x03, 16, 16⟩
def Fld.desc.addr : Field := ⟨0x03, 0, 16⟩

/-- The rows of the field map of OBJ_DESC (R75): bit position, width, access code, staged or not, reset. -/
def rowsDesc : List Row :=
  [⟨136, 24, .rw, false, 0x0⟩,
   ⟨120, 16, .rw, false, 0x0⟩,
   ⟨97, 1, .rw, false, 0x0⟩,
   ⟨96, 1, .rw, false, 0x0⟩,
   ⟨84, 12, .rw, false, 0x0⟩,
   ⟨64, 20, .rw, false, 0x0⟩,
   ⟨48, 12, .rw, false, 0xfff⟩,
   ⟨32, 16, .rw, false, 0x0⟩,
   ⟨16, 16, .rw, false, 0x0⟩,
   ⟨0, 16, .rw, false, 0x0⟩]


/-! ### OBJ_FRAME (02_frames.md): one constant per field of its field map (R66). -/

def Fld.frame.conflictTick : Field := ⟨0x04, 448, 64⟩
def Fld.frame.dirty : Field := ⟨0x04, 415, 1⟩
def Fld.frame.opRefused : Field := ⟨0x04, 385, 1⟩
def Fld.frame.frameConflict : Field := ⟨0x04, 384, 1⟩
def Fld.frame.liveSel : Field := ⟨0x04, 352, 1⟩
def Fld.frame.liveOffset : Field := ⟨0x04, 320, 32⟩
def Fld.frame.liveFreq : Field := ⟨0x04, 256, 48⟩
def Fld.frame.fsel : Field := ⟨0x04, 192, 1⟩
def Fld.frame.offset : Field := ⟨0x04, 160, 32⟩
def Fld.frame.freqB : Field := ⟨0x04, 64, 48⟩
def Fld.frame.freqA : Field := ⟨0x04, 0, 48⟩

/-- The rows of the field map of OBJ_FRAME (R66): bit position, width, access code, staged or not, reset. -/
def rowsFrame : List Row :=
  [⟨448, 64, .ro, false, 0x0⟩,
   ⟨415, 1, .ro, false, 0x0⟩,
   ⟨385, 1, .w1c, false, 0x0⟩,
   ⟨384, 1, .w1c, false, 0x0⟩,
   ⟨352, 1, .ro, false, 0x0⟩,
   ⟨320, 32, .ro, false, 0x0⟩,
   ⟨256, 48, .ro, false, 0x0⟩,
   ⟨192, 1, .rw, true, 0x0⟩,
   ⟨160, 32, .rw, true, 0x0⟩,
   ⟨64, 48, .rw, true, 0x0⟩,
   ⟨0, 48, .rw, true, 0x0⟩]


/-! ### OBJ_CURATOR (04_curator_execution.md): one constant per field of its field map (R139). -/

def Fld.curator.mk3 : Field := ⟨0x05, 960, 64⟩
def Fld.curator.mk2 : Field := ⟨0x05, 896, 64⟩
def Fld.curator.mk1 : Field := ⟨0x05, 832, 64⟩
def Fld.curator.mk0 : Field := ⟨0x05, 768, 64⟩
def Fld.curator.haltTick : Field := ⟨0x05, 704, 64⟩
def Fld.curator.startTick : Field := ⟨0x05, 640, 64⟩
def Fld.curator.shotNum : Field := ⟨0x05, 576, 64⟩
def Fld.curator.cnt3 : Field := ⟨0x05, 192, 16⟩
def Fld.curator.cnt2 : Field := ⟨0x05, 176, 16⟩
def Fld.curator.cnt1 : Field := ⟨0x05, 160, 16⟩
def Fld.curator.cnt0 : Field := ⟨0x05, 144, 16⟩
def Fld.curator.faultPc : Field := ⟨0x05, 132, 12⟩
def Fld.curator.faultCode : Field := ⟨0x05, 128, 4⟩
def Fld.curator.pc : Field := ⟨0x05, 116, 12⟩
def Fld.curator.entry : Field := ⟨0x05, 104, 12⟩
def Fld.curator.wordsM1 : Field := ⟨0x05, 92, 12⟩
def Fld.curator.syncWait : Field := ⟨0x05, 88, 4⟩
def Fld.curator.evtFlag : Field := ⟨0x05, 15, 1⟩
def Fld.curator.waiting : Field := ⟨0x05, 14, 1⟩
def Fld.curator.haltReason : Field := ⟨0x05, 11, 3⟩
def Fld.curator.cntUnder : Field := ⟨0x05, 9, 1⟩
def Fld.curator.staleRead : Field := ⟨0x05, 8, 1⟩
def Fld.curator.barrierTimeout : Field := ⟨0x05, 7, 1⟩
def Fld.curator.waitTimeout : Field := ⟨0x05, 6, 1⟩
def Fld.curator.storeEccCorr : Field := ⟨0x05, 5, 1⟩
def Fld.curator.unpoweredPlay : Field := ⟨0x05, 4, 1⟩
def Fld.curator.storeValid : Field := ⟨0x05, 3, 1⟩
def Fld.curator.state : Field := ⟨0x05, 0, 3⟩

/-- The rows of the field map of OBJ_CURATOR (R139): bit position, width, access code, staged or not, reset. -/
def rowsCurator : List Row :=
  [⟨960, 64, .ro, false, 0x0⟩,
   ⟨896, 64, .ro, false, 0x0⟩,
   ⟨832, 64, .ro, false, 0x0⟩,
   ⟨768, 64, .ro, false, 0x0⟩,
   ⟨704, 64, .ro, false, 0x0⟩,
   ⟨640, 64, .ro, false, 0x0⟩,
   ⟨576, 64, .ro, false, 0x0⟩,
   ⟨192, 16, .ro, false, 0x0⟩,
   ⟨176, 16, .ro, false, 0x0⟩,
   ⟨160, 16, .ro, false, 0x0⟩,
   ⟨144, 16, .ro, false, 0x0⟩,
   ⟨132, 12, .ro, false, 0x0⟩,
   ⟨128, 4, .ro, false, 0x0⟩,
   ⟨116, 12, .ro, false, 0x0⟩,
   ⟨104, 12, .ro, false, 0x0⟩,
   ⟨92, 12, .ro, false, 0x0⟩,
   ⟨88, 4, .ro, false, 0x0⟩,
   ⟨15, 1, .ro, false, 0x0⟩,
   ⟨14, 1, .ro, false, 0x0⟩,
   ⟨11, 3, .ro, false, 0x0⟩,
   ⟨9, 1, .w1c, false, 0x0⟩,
   ⟨8, 1, .w1c, false, 0x0⟩,
   ⟨7, 1, .w1c, false, 0x0⟩,
   ⟨6, 1, .w1c, false, 0x0⟩,
   ⟨5, 1, .w1c, false, 0x0⟩,
   ⟨4, 1, .w1c, false, 0x0⟩,
   ⟨3, 1, .ro, false, 0x0⟩,
   ⟨0, 3, .ro, false, 0x0⟩]


/-! ### OBJ_INPUT (06_readout_chain.md): one constant per field of its field map (R167). -/

def Fld.input.ovrTick : Field := ⟨0x06, 192, 64⟩
def Fld.input.adcOvr : Field := ⟨0x06, 128, 1⟩
def Fld.input.state : Field := ⟨0x06, 120, 3⟩
def Fld.input.liveZone : Field := ⟨0x06, 116, 2⟩
def Fld.input.liveAtten : Field := ⟨0x06, 112, 4⟩
def Fld.input.liveCarrier : Field := ⟨0x06, 64, 48⟩
def Fld.input.dirty : Field := ⟨0x06, 57, 1⟩
def Fld.input.inputEn : Field := ⟨0x06, 56, 1⟩
def Fld.input.zone : Field := ⟨0x06, 52, 2⟩
def Fld.input.atten : Field := ⟨0x06, 48, 4⟩
def Fld.input.carrier : Field := ⟨0x06, 0, 48⟩

/-- The rows of the field map of OBJ_INPUT (R167): bit position, width, access code, staged or not, reset. -/
def rowsInput : List Row :=
  [⟨192, 64, .ro, false, 0x0⟩,
   ⟨128, 1, .w1c, false, 0x0⟩,
   ⟨120, 3, .ro, false, 0x1⟩,
   ⟨116, 2, .ro, false, 0x2⟩,
   ⟨112, 4, .ro, false, 0x0⟩,
   ⟨64, 48, .ro, false, 0x600000000000⟩,
   ⟨57, 1, .ro, false, 0x0⟩,
   ⟨56, 1, .rw, false, 0x0⟩,
   ⟨52, 2, .rw, true, 0x2⟩,
   ⟨48, 4, .rw, true, 0x0⟩,
   ⟨0, 48, .rw, true, 0x600000000000⟩]


/-! ### OBJ_RDCH (06_readout_chain.md): one constant per field of its field map (R185). -/

def Fld.rdch.ovfTick : Field := ⟨0x07, 448, 64⟩
def Fld.rdch.lastEndTick : Field := ⟨0x07, 384, 64⟩
def Fld.rdch.lastArmTick : Field := ⟨0x07, 320, 64⟩
def Fld.rdch.lastQ : Field := ⟨0x07, 288, 32⟩
def Fld.rdch.lastI : Field := ⟨0x07, 256, 32⟩
def Fld.rdch.ovfTap : Field := ⟨0x07, 224, 12⟩
def Fld.rdch.pending : Field := ⟨0x07, 213, 3⟩
def Fld.rdch.open : Field := ⟨0x07, 212, 1⟩
def Fld.rdch.kernEcc : Field := ⟨0x07, 207, 1⟩
def Fld.rdch.armDrop : Field := ⟨0x07, 206, 1⟩
def Fld.rdch.winAbandon : Field := ⟨0x07, 205, 1⟩
def Fld.rdch.chBand : Field := ⟨0x07, 204, 1⟩
def Fld.rdch.prodClip : Field := ⟨0x07, 203, 1⟩
def Fld.rdch.outSat : Field := ⟨0x07, 202, 1⟩
def Fld.rdch.ovf : Field := ⟨0x07, 201, 1⟩
def Fld.rdch.held : Field := ⟨0x07, 200, 1⟩
def Fld.rdch.oshift : Field := ⟨0x07, 24, 4⟩
def Fld.rdch.accGain : Field := ⟨0x07, 16, 4⟩
def Fld.rdch.wstart : Field := ⟨0x07, 0, 13⟩

/-- The rows of the field map of OBJ_RDCH (R185): bit position, width, access code, staged or not, reset. -/
def rowsRdch : List Row :=
  [⟨448, 64, .ro, false, 0x0⟩,
   ⟨384, 64, .ro, false, 0x0⟩,
   ⟨320, 64, .ro, false, 0x0⟩,
   ⟨288, 32, .ro, false, 0x0⟩,
   ⟨256, 32, .ro, false, 0x0⟩,
   ⟨224, 12, .ro, false, 0x0⟩,
   ⟨213, 3, .ro, false, 0x0⟩,
   ⟨212, 1, .ro, false, 0x0⟩,
   ⟨207, 1, .w1c, false, 0x0⟩,
   ⟨206, 1, .w1c, false, 0x0⟩,
   ⟨205, 1, .w1c, false, 0x0⟩,
   ⟨204, 1, .w1c, false, 0x0⟩,
   ⟨203, 1, .w1c, false, 0x0⟩,
   ⟨202, 1, .w1c, false, 0x0⟩,
   ⟨201, 1, .w1c, false, 0x0⟩,
   ⟨200, 1, .w1c, false, 0x0⟩,
   ⟨24, 4, .rw, false, 0x0⟩,
   ⟨16, 4, .rw, false, 0x0⟩,
   ⟨0, 13, .rw, false, 0x0⟩]


/-! ### OBJ_DISC (07_verdicts.md): one constant per field of its field map (R214). -/

def Fld.disc.driftTick : Field := ⟨0x08, 960, 64⟩
def Fld.disc.lastProdTick : Field := ⟨0x08, 896, 64⟩
def Fld.disc.c2Q : Field := ⟨0x08, 848, 48⟩
def Fld.disc.c2I : Field := ⟨0x08, 800, 48⟩
def Fld.disc.c1Q : Field := ⟨0x08, 752, 48⟩
def Fld.disc.c1I : Field := ⟨0x08, 704, 48⟩
def Fld.disc.c0Q : Field := ⟨0x08, 656, 48⟩
def Fld.disc.c0I : Field := ⟨0x08, 608, 48⟩
def Fld.disc.lastCode : Field := ⟨0x08, 598, 2⟩
def Fld.disc.adaptState : Field := ⟨0x08, 596, 2⟩
def Fld.disc.drift : Field := ⟨0x08, 595, 1⟩
def Fld.disc.seedDirty : Field := ⟨0x08, 594, 1⟩
def Fld.disc.dirty : Field := ⟨0x08, 593, 1⟩
def Fld.disc.driftLim : Field := ⟨0x08, 544, 32⟩
def Fld.disc.confMargin : Field := ⟨0x08, 512, 32⟩
def Fld.disc.margin : Field := ⟨0x08, 480, 32⟩
def Fld.disc.radius2 : Field := ⟨0x08, 448, 32⟩
def Fld.disc.radius1 : Field := ⟨0x08, 416, 32⟩
def Fld.disc.radius0 : Field := ⟨0x08, 384, 32⟩
def Fld.disc.seed2Q : Field := ⟨0x08, 352, 32⟩
def Fld.disc.seed2I : Field := ⟨0x08, 320, 32⟩
def Fld.disc.seed1Q : Field := ⟨0x08, 288, 32⟩
def Fld.disc.seed1I : Field := ⟨0x08, 256, 32⟩
def Fld.disc.seed0Q : Field := ⟨0x08, 224, 32⟩
def Fld.disc.seed0I : Field := ⟨0x08, 192, 32⟩
def Fld.disc.recordEn : Field := ⟨0x08, 15, 1⟩
def Fld.disc.adaptK : Field := ⟨0x08, 8, 5⟩
def Fld.disc.adaptEn : Field := ⟨0x08, 4, 1⟩
def Fld.disc.ncent : Field := ⟨0x08, 0, 2⟩

/-- The rows of the field map of OBJ_DISC (R214): bit position, width, access code, staged or not, reset. -/
def rowsDisc : List Row :=
  [⟨960, 64, .ro, false, 0x0⟩,
   ⟨896, 64, .ro, false, 0x0⟩,
   ⟨848, 48, .ro, false, 0x0⟩,
   ⟨800, 48, .ro, false, 0x0⟩,
   ⟨752, 48, .ro, false, 0x0⟩,
   ⟨704, 48, .ro, false, 0x0⟩,
   ⟨656, 48, .ro, false, 0x0⟩,
   ⟨608, 48, .ro, false, 0x0⟩,
   ⟨598, 2, .ro, false, 0x0⟩,
   ⟨596, 2, .ro, false, 0x1⟩,
   ⟨595, 1, .w1c, false, 0x0⟩,
   ⟨594, 1, .ro, false, 0x0⟩,
   ⟨593, 1, .ro, false, 0x0⟩,
   ⟨544, 32, .rw, true, 0x0⟩,
   ⟨512, 32, .rw, true, 0x0⟩,
   ⟨480, 32, .rw, true, 0x0⟩,
   ⟨448, 32, .rw, true, 0xffffffff⟩,
   ⟨416, 32, .rw, true, 0xffffffff⟩,
   ⟨384, 32, .rw, true, 0xffffffff⟩,
   ⟨352, 32, .rw, true, 0x0⟩,
   ⟨320, 32, .rw, true, 0x0⟩,
   ⟨288, 32, .rw, true, 0x0⟩,
   ⟨256, 32, .rw, true, 0x0⟩,
   ⟨224, 32, .rw, true, 0x0⟩,
   ⟨192, 32, .rw, true, 0x0⟩,
   ⟨15, 1, .rw, true, 0x0⟩,
   ⟨8, 5, .rw, true, 0x8⟩,
   ⟨4, 1, .rw, true, 0x0⟩,
   ⟨0, 2, .rw, true, 0x2⟩]


/-! ### OBJ_DEMIX (06_readout_chain.md): one constant per field of its field map (R186). -/

def Fld.demix.satTick : Field := ⟨0x09, 448, 64⟩
def Fld.demix.demixSat : Field := ⟨0x09, 98, 1⟩
def Fld.demix.dirty : Field := ⟨0x09, 97, 1⟩
def Fld.demix.liveEn : Field := ⟨0x09, 96, 1⟩
def Fld.demix.liveMember : Field := ⟨0x09, 64, 16⟩
def Fld.demix.demixEn : Field := ⟨0x09, 16, 1⟩
def Fld.demix.member : Field := ⟨0x09, 0, 16⟩

/-- The rows of the field map of OBJ_DEMIX (R186): bit position, width, access code, staged or not, reset. -/
def rowsDemix : List Row :=
  [⟨448, 64, .ro, false, 0x0⟩,
   ⟨98, 1, .w1c, false, 0x0⟩,
   ⟨97, 1, .ro, false, 0x0⟩,
   ⟨96, 1, .ro, false, 0x0⟩,
   ⟨64, 16, .ro, false, 0x0⟩,
   ⟨16, 1, .rw, true, 0x0⟩,
   ⟨0, 16, .rw, true, 0x0⟩]


/-! ### OBJ_SURVEY (08_survey_streams.md): one constant per field of its field map (R237). -/

def Fld.survey.startTick : Field := ⟨0x0a, 448, 64⟩
def Fld.survey.stopTick : Field := ⟨0x0a, 384, 64⟩
def Fld.survey.firstInstant : Field := ⟨0x0a, 320, 64⟩
def Fld.survey.lastCount : Field := ⟨0x0a, 265, 7⟩
def Fld.survey.haltReason : Field := ⟨0x0a, 262, 3⟩
def Fld.survey.srcHalt : Field := ⟨0x0a, 260, 1⟩
def Fld.survey.sat : Field := ⟨0x0a, 259, 1⟩
def Fld.survey.state : Field := ⟨0x0a, 256, 3⟩
def Fld.survey.dgramBlocksM1 : Field := ⟨0x0a, 196, 4⟩
def Fld.survey.udpDest : Field := ⟨0x0a, 192, 3⟩
def Fld.survey.ring : Field := ⟨0x0a, 185, 6⟩
def Fld.survey.dest : Field := ⟨0x0a, 184, 1⟩
def Fld.survey.outGain : Field := ⟨0x0a, 168, 16⟩
def Fld.survey.delayFrac : Field := ⟨0x0a, 160, 6⟩
def Fld.survey.delayInt : Field := ⟨0x0a, 144, 16⟩
def Fld.survey.ratio : Field := ⟨0x0a, 96, 33⟩
def Fld.survey.shifts : Field := ⟨0x0a, 32, 50⟩
def Fld.survey.droopEn : Field := ⟨0x0a, 28, 1⟩
def Fld.survey.decimM1 : Field := ⟨0x0a, 16, 12⟩
def Fld.survey.ddelay : Field := ⟨0x0a, 15, 1⟩
def Fld.survey.order : Field := ⟨0x0a, 12, 3⟩
def Fld.survey.srcKind : Field := ⟨0x0a, 9, 1⟩
def Fld.survey.src : Field := ⟨0x0a, 0, 9⟩

/-- The rows of the field map of OBJ_SURVEY (R237): bit position, width, access code, staged or not, reset. -/
def rowsSurvey : List Row :=
  [⟨448, 64, .ro, false, 0x0⟩,
   ⟨384, 64, .ro, false, 0x0⟩,
   ⟨320, 64, .ro, false, 0x0⟩,
   ⟨265, 7, .ro, false, 0x0⟩,
   ⟨262, 3, .ro, false, 0x0⟩,
   ⟨260, 1, .w1c, false, 0x0⟩,
   ⟨259, 1, .w1c, false, 0x0⟩,
   ⟨256, 3, .ro, false, 0x0⟩,
   ⟨196, 4, .rw, false, 0x1⟩,
   ⟨192, 3, .rw, false, 0x0⟩,
   ⟨185, 6, .rw, false, 0x0⟩,
   ⟨184, 1, .rw, false, 0x0⟩,
   ⟨168, 16, .rw, false, 0x4000⟩,
   ⟨160, 6, .rw, false, 0x0⟩,
   ⟨144, 16, .rw, false, 0x0⟩,
   ⟨96, 33, .rw, false, 0x100000000⟩,
   ⟨32, 50, .rw, false, 0x0⟩,
   ⟨28, 1, .rw, false, 0x1⟩,
   ⟨16, 12, .rw, false, 0xf9⟩,
   ⟨15, 1, .rw, false, 0x0⟩,
   ⟨12, 3, .rw, false, 0x3⟩,
   ⟨9, 1, .rw, false, 0x0⟩,
   ⟨0, 9, .rw, false, 0x0⟩]


/-! ### OBJ_APPRAISER (09_appraiser.md): one constant per field of its field map (R260). -/

def Fld.appraiser.stopTick : Field := ⟨0x0b, 768, 64⟩
def Fld.appraiser.startTick : Field := ⟨0x0b, 704, 64⟩
def Fld.appraiser.dropped : Field := ⟨0x0b, 672, 32⟩
def Fld.appraiser.excluded : Field := ⟨0x0b, 640, 32⟩
def Fld.appraiser.accepted : Field := ⟨0x0b, 608, 32⟩
def Fld.appraiser.ovfPoint : Field := ⟨0x0b, 576, 32⟩
def Fld.appraiser.ovfShot : Field := ⟨0x0b, 544, 32⟩
def Fld.appraiser.ovfCell : Field := ⟨0x0b, 520, 14⟩
def Fld.appraiser.prodSat : Field := ⟨0x0b, 518, 1⟩
def Fld.appraiser.drop : Field := ⟨0x0b, 517, 1⟩
def Fld.appraiser.ovf : Field := ⟨0x0b, 516, 1⟩
def Fld.appraiser.state : Field := ⟨0x0b, 512, 3⟩
def Fld.appraiser.pairs : Field := ⟨0x0b, 256, 192⟩
def Fld.appraiser.hOriginQ : Field := ⟨0x0b, 224, 32⟩
def Fld.appraiser.hOriginI : Field := ⟨0x0b, 192, 32⟩
def Fld.appraiser.pointLimit : Field := ⟨0x0b, 160, 32⟩
def Fld.appraiser.shotBase : Field := ⟨0x0b, 128, 32⟩
def Fld.appraiser.chMask : Field := ⟨0x0b, 64, 64⟩
def Fld.appraiser.npairsM1 : Field := ⟨0x0b, 40, 4⟩
def Fld.appraiser.hShift : Field := ⟨0x0b, 32, 5⟩
def Fld.appraiser.prodShift : Field := ⟨0x0b, 24, 6⟩
def Fld.appraiser.nbinsM1 : Field := ⟨0x0b, 8, 14⟩
def Fld.appraiser.trigEn : Field := ⟨0x0b, 7, 1⟩
def Fld.appraiser.stateFilt : Field := ⟨0x0b, 4, 3⟩
def Fld.appraiser.extreme : Field := ⟨0x0b, 3, 1⟩
def Fld.appraiser.recipe : Field := ⟨0x0b, 0, 3⟩

/-- The rows of the field map of OBJ_APPRAISER (R260): bit position, width, access code, staged or not, reset. -/
def rowsAppraiser : List Row :=
  [⟨768, 64, .ro, false, 0x0⟩,
   ⟨704, 64, .ro, false, 0x0⟩,
   ⟨672, 32, .ro, false, 0x0⟩,
   ⟨640, 32, .ro, false, 0x0⟩,
   ⟨608, 32, .ro, false, 0x0⟩,
   ⟨576, 32, .ro, false, 0x0⟩,
   ⟨544, 32, .ro, false, 0x0⟩,
   ⟨520, 14, .ro, false, 0x0⟩,
   ⟨518, 1, .w1c, false, 0x0⟩,
   ⟨517, 1, .w1c, false, 0x0⟩,
   ⟨516, 1, .w1c, false, 0x0⟩,
   ⟨512, 3, .ro, false, 0x0⟩,
   ⟨256, 192, .rw, false, 0x0⟩,
   ⟨224, 32, .rw, false, 0x0⟩,
   ⟨192, 32, .rw, false, 0x0⟩,
   ⟨160, 32, .rw, false, 0x0⟩,
   ⟨128, 32, .rw, false, 0x1⟩,
   ⟨64, 64, .rw, false, 0x0⟩,
   ⟨40, 4, .rw, false, 0x0⟩,
   ⟨32, 5, .rw, false, 0x0⟩,
   ⟨24, 6, .rw, false, 0x0⟩,
   ⟨8, 14, .rw, false, 0x0⟩,
   ⟨7, 1, .rw, false, 0x0⟩,
   ⟨4, 3, .rw, false, 0x0⟩,
   ⟨3, 1, .rw, false, 0x0⟩,
   ⟨0, 3, .rw, false, 0x0⟩]


/-! ### OBJ_VITRINE (10_vitrines.md): one constant per field of its field map (R283). -/

def Fld.vitrine.ovr : Field := ⟨0x0c, 749, 1⟩
def Fld.vitrine.delivered : Field := ⟨0x0c, 748, 1⟩
def Fld.vitrine.preShort : Field := ⟨0x0c, 747, 1⟩
def Fld.vitrine.srcLost : Field := ⟨0x0c, 746, 1⟩
def Fld.vitrine.violation : Field := ⟨0x0c, 745, 1⟩
def Fld.vitrine.done : Field := ⟨0x0c, 744, 1⟩
def Fld.vitrine.endReason : Field := ⟨0x0c, 740, 3⟩
def Fld.vitrine.state : Field := ⟨0x0c, 736, 3⟩
def Fld.vitrine.trigCause : Field := ⟨0x0c, 704, 6⟩
def Fld.vitrine.violIndex : Field := ⟨0x0c, 672, 32⟩
def Fld.vitrine.nsamples : Field := ⟨0x0c, 640, 32⟩
def Fld.vitrine.trigTick : Field := ⟨0x0c, 576, 64⟩
def Fld.vitrine.armTick : Field := ⟨0x0c, 512, 64⟩
def Fld.vitrine.maskLenM1 : Field := ⟨0x0c, 320, 16⟩
def Fld.vitrine.maskStep : Field := ⟨0x0c, 312, 4⟩
def Fld.vitrine.maskEn : Field := ⟨0x0c, 311, 1⟩
def Fld.vitrine.maskBank : Field := ⟨0x0c, 304, 7⟩
def Fld.vitrine.maskAddr : Field := ⟨0x0c, 288, 16⟩
def Fld.vitrine.tbTick : Field := ⟨0x0c, 224, 64⟩
def Fld.vitrine.burstLevel : Field := ⟨0x0c, 208, 16⟩
def Fld.vitrine.zcLevel : Field := ⟨0x0c, 192, 16⟩
def Fld.vitrine.hyst : Field := ⟨0x0c, 176, 16⟩
def Fld.vitrine.level : Field := ⟨0x0c, 160, 16⟩
def Fld.vitrine.cueMask : Field := ⟨0x0c, 144, 16⟩
def Fld.vitrine.cueValue : Field := ⟨0x0c, 128, 16⟩
def Fld.vitrine.cueIn : Field := ⟨0x0c, 118, 3⟩
def Fld.vitrine.codeMask : Field := ⟨0x0c, 114, 4⟩
def Fld.vitrine.verdict : Field := ⟨0x0c, 104, 10⟩
def Fld.vitrine.preFull : Field := ⟨0x0c, 101, 1⟩
def Fld.vitrine.trigEn : Field := ⟨0x0c, 96, 5⟩
def Fld.vitrine.postTicks : Field := ⟨0x0c, 64, 20⟩
def Fld.vitrine.preTicks : Field := ⟨0x0c, 32, 20⟩
def Fld.vitrine.loopOut : Field := ⟨0x0c, 24, 7⟩
def Fld.vitrine.ring : Field := ⟨0x0c, 21, 3⟩
def Fld.vitrine.measComp : Field := ⟨0x0c, 20, 1⟩
def Fld.vitrine.lvlComp : Field := ⟨0x0c, 19, 1⟩
def Fld.vitrine.lvlSlope : Field := ⟨0x0c, 17, 2⟩
def Fld.vitrine.src : Field := ⟨0x0c, 3, 9⟩
def Fld.vitrine.srcKind : Field := ⟨0x0c, 0, 3⟩

/-- The rows of the field map of OBJ_VITRINE (R283): bit position, width, access code, staged or not, reset. -/
def rowsVitrine : List Row :=
  [⟨749, 1, .w1c, false, 0x0⟩,
   ⟨748, 1, .ro, false, 0x0⟩,
   ⟨747, 1, .w1c, false, 0x0⟩,
   ⟨746, 1, .w1c, false, 0x0⟩,
   ⟨745, 1, .w1c, false, 0x0⟩,
   ⟨744, 1, .w1c, false, 0x0⟩,
   ⟨740, 3, .ro, false, 0x0⟩,
   ⟨736, 3, .ro, false, 0x0⟩,
   ⟨704, 6, .ro, false, 0x0⟩,
   ⟨672, 32, .ro, false, 0xffffffff⟩,
   ⟨640, 32, .ro, false, 0x0⟩,
   ⟨576, 64, .ro, false, 0x0⟩,
   ⟨512, 64, .ro, false, 0x0⟩,
   ⟨320, 16, .rw, false, 0x0⟩,
   ⟨312, 4, .rw, false, 0x0⟩,
   ⟨311, 1, .rw, false, 0x0⟩,
   ⟨304, 7, .rw, false, 0x0⟩,
   ⟨288, 16, .rw, false, 0x0⟩,
   ⟨224, 64, .rw, false, 0x0⟩,
   ⟨208, 16, .rw, false, 0x0⟩,
   ⟨192, 16, .rw, false, 0x0⟩,
   ⟨176, 16, .rw, false, 0x0⟩,
   ⟨160, 16, .rw, false, 0x0⟩,
   ⟨144, 16, .rw, false, 0x0⟩,
   ⟨128, 16, .rw, false, 0x0⟩,
   ⟨118, 3, .rw, false, 0x0⟩,
   ⟨114, 4, .rw, false, 0x0⟩,
   ⟨104, 10, .rw, false, 0x0⟩,
   ⟨101, 1, .rw, false, 0x0⟩,
   ⟨96, 5, .rw, false, 0x0⟩,
   ⟨64, 20, .rw, false, 0x400⟩,
   ⟨32, 20, .rw, false, 0x0⟩,
   ⟨24, 7, .rw, false, 0x0⟩,
   ⟨21, 3, .rw, false, 0x0⟩,
   ⟨20, 1, .rw, false, 0x0⟩,
   ⟨19, 1, .rw, false, 0x0⟩,
   ⟨17, 2, .rw, false, 0x0⟩,
   ⟨3, 9, .rw, false, 0x0⟩,
   ⟨0, 3, .rw, false, 0x0⟩]


/-! ### OBJ_BIAS (11_bias_outputs.md): one constant per field of its field map (R306). -/

def Fld.bias.lastLoadTick : Field := ⟨0x0d, 192, 64⟩
def Fld.bias.overload : Field := ⟨0x0d, 99, 1⟩
def Fld.bias.slewing : Field := ⟨0x0d, 98, 1⟩
def Fld.bias.deglitch : Field := ⟨0x0d, 97, 1⟩
def Fld.bias.clamped : Field := ⟨0x0d, 96, 1⟩
def Fld.bias.effCode : Field := ⟨0x0d, 64, 20⟩
def Fld.bias.dacCode : Field := ⟨0x0d, 32, 20⟩
def Fld.bias.inputCode : Field := ⟨0x0d, 0, 20⟩

/-- The rows of the field map of OBJ_BIAS (R306): bit position, width, access code, staged or not, reset. -/
def rowsBias : List Row :=
  [⟨192, 64, .ro, false, 0x0⟩,
   ⟨99, 1, .w1c, false, 0x0⟩,
   ⟨98, 1, .ro, false, 0x0⟩,
   ⟨97, 1, .ro, false, 0x0⟩,
   ⟨96, 1, .ro, false, 0x1⟩,
   ⟨64, 20, .ro, false, 0x80000⟩,
   ⟨32, 20, .ro, false, 0x80000⟩,
   ⟨0, 20, .rw, false, 0x80000⟩]


/-! ### OBJ_BIASBANK (11_bias_outputs.md): one constant per field of its field map (R307). -/

def Fld.biasbank.rangeTick : Field := ⟨0x0e, 448, 64⟩
def Fld.biasbank.clearTick : Field := ⟨0x0e, 384, 64⟩
def Fld.biasbank.loadMask : Field := ⟨0x0e, 128, 32⟩
def Fld.biasbank.clrmode : Field := ⟨0x0e, 78, 1⟩
def Fld.biasbank.cleared : Field := ⟨0x0e, 77, 1⟩
def Fld.biasbank.deferred : Field := ⟨0x0e, 76, 1⟩
def Fld.biasbank.strobeDrop : Field := ⟨0x0e, 75, 1⟩
def Fld.biasbank.supplyLoss : Field := ⟨0x0e, 74, 1⟩
def Fld.biasbank.supplyGood : Field := ⟨0x0e, 73, 1⟩
def Fld.biasbank.clrActive : Field := ⟨0x0e, 72, 1⟩
def Fld.biasbank.state : Field := ⟨0x0e, 68, 3⟩
def Fld.biasbank.dirty : Field := ⟨0x0e, 66, 1⟩
def Fld.biasbank.liveSpan : Field := ⟨0x0e, 64, 2⟩
def Fld.biasbank.safeValid : Field := ⟨0x0e, 36, 1⟩
def Fld.biasbank.safeCode : Field := ⟨0x0e, 16, 20⟩
def Fld.biasbank.slewExp : Field := ⟨0x0e, 12, 4⟩
def Fld.biasbank.slewEn : Field := ⟨0x0e, 8, 1⟩
def Fld.biasbank.srcEn : Field := ⟨0x0e, 5, 3⟩
def Fld.biasbank.bankEn : Field := ⟨0x0e, 4, 1⟩
def Fld.biasbank.span : Field := ⟨0x0e, 0, 2⟩

/-- The rows of the field map of OBJ_BIASBANK (R307): bit position, width, access code, staged or not, reset. -/
def rowsBiasbank : List Row :=
  [⟨448, 64, .ro, false, 0x0⟩,
   ⟨384, 64, .ro, false, 0x0⟩,
   ⟨128, 32, .rw, false, 0xffffffff⟩,
   ⟨78, 1, .ro, false, 0x0⟩,
   ⟨77, 1, .w1c, false, 0x0⟩,
   ⟨76, 1, .w1c, false, 0x0⟩,
   ⟨75, 1, .w1c, false, 0x0⟩,
   ⟨74, 1, .w1c, false, 0x0⟩,
   ⟨73, 1, .ro, false, 0x0⟩,
   ⟨72, 1, .ro, false, 0x0⟩,
   ⟨68, 3, .ro, false, 0x1⟩,
   ⟨66, 1, .ro, false, 0x0⟩,
   ⟨64, 2, .ro, false, 0x2⟩,
   ⟨36, 1, .ro, false, 0x0⟩,
   ⟨16, 20, .rw, false, 0x80000⟩,
   ⟨12, 4, .rw, false, 0x8⟩,
   ⟨8, 1, .rw, false, 0x0⟩,
   ⟨5, 3, .rw, false, 0x7⟩,
   ⟨4, 1, .rw, false, 0x0⟩,
   ⟨0, 2, .rw, true, 0x2⟩]


/-! ### OBJ_TIME (12_time_reference.md): one constant per field of its field map (R334). -/

def Fld.time.ptpOffset : Field := ⟨0x0f, 1152, 64⟩
def Fld.time.cont : Field := ⟨0x0f, 1088, 64⟩
def Fld.time.offsetB : Field := ⟨0x0f, 976, 112⟩
def Fld.time.offsetA : Field := ⟨0x0f, 864, 112⟩
def Fld.time.rateB : Field := ⟨0x0f, 816, 40⟩
def Fld.time.rateA : Field := ⟨0x0f, 768, 40⟩
def Fld.time.phaseErrB : Field := ⟨0x0f, 736, 32⟩
def Fld.time.phaseErrA : Field := ⟨0x0f, 704, 32⟩
def Fld.time.lastPulseB : Field := ⟨0x0f, 640, 64⟩
def Fld.time.lastPulseA : Field := ⟨0x0f, 576, 64⟩
def Fld.time.relockRaw : Field := ⟨0x0f, 512, 64⟩
def Fld.time.unlockRaw : Field := ⟨0x0f, 448, 64⟩
def Fld.time.switchRaw : Field := ⟨0x0f, 384, 64⟩
def Fld.time.rawNow : Field := ⟨0x0f, 320, 64⟩
def Fld.time.clockClass : Field := ⟨0x0f, 284, 8⟩
def Fld.time.ptpPortState : Field := ⟨0x0f, 280, 4⟩
def Fld.time.alignFault : Field := ⟨0x0f, 278, 1⟩
def Fld.time.pulseReject : Field := ⟨0x0f, 277, 1⟩
def Fld.time.timeStepped : Field := ⟨0x0f, 276, 1⟩
def Fld.time.bLost : Field := ⟨0x0f, 275, 1⟩
def Fld.time.aLost : Field := ⟨0x0f, 274, 1⟩
def Fld.time.domSwitched : Field := ⟨0x0f, 273, 1⟩
def Fld.time.rtDiscont : Field := ⟨0x0f, 272, 1⟩
def Fld.time.rawAligned : Field := ⟨0x0f, 268, 1⟩
def Fld.time.epochSet : Field := ⟨0x0f, 267, 1⟩
def Fld.time.slewing : Field := ⟨0x0f, 266, 1⟩
def Fld.time.sysState : Field := ⟨0x0f, 264, 2⟩
def Fld.time.domBState : Field := ⟨0x0f, 260, 3⟩
def Fld.time.domAState : Field := ⟨0x0f, 257, 3⟩
def Fld.time.actDomain : Field := ⟨0x0f, 256, 1⟩
def Fld.time.timeSource : Field := ⟨0x0f, 184, 8⟩
def Fld.time.priority2 : Field := ⟨0x0f, 176, 8⟩
def Fld.time.priority1 : Field := ⟨0x0f, 168, 8⟩
def Fld.time.logMinDreq : Field := ⟨0x0f, 160, 4⟩
def Fld.time.logAnnounce : Field := ⟨0x0f, 156, 4⟩
def Fld.time.logSync : Field := ⟨0x0f, 152, 4⟩
def Fld.time.ptpDomain : Field := ⟨0x0f, 144, 8⟩
def Fld.time.ptpTransport : Field := ⟨0x0f, 140, 2⟩
def Fld.time.ptpP2p : Field := ⟨0x0f, 139, 1⟩
def Fld.time.ptpOneStep : Field := ⟨0x0f, 138, 1⟩
def Fld.time.ptpMasterOnly : Field := ⟨0x0f, 137, 1⟩
def Fld.time.ptpEn : Field := ⟨0x0f, 136, 1⟩
def Fld.time.ppsOutWidth : Field := ⟨0x0f, 104, 30⟩
def Fld.time.utcOffset : Field := ⟨0x0f, 88, 16⟩
def Fld.time.ppsDelayB : Field := ⟨0x0f, 64, 24⟩
def Fld.time.ppsDelayA : Field := ⟨0x0f, 40, 24⟩
def Fld.time.pulseWin : Field := ⟨0x0f, 24, 16⟩
def Fld.time.followPort : Field := ⟨0x0f, 22, 2⟩
def Fld.time.timeRole : Field := ⟨0x0f, 20, 2⟩
def Fld.time.loopTc : Field := ⟨0x0f, 16, 4⟩
def Fld.time.slewPpb : Field := ⟨0x0f, 8, 7⟩
def Fld.time.refoutEn : Field := ⟨0x0f, 7, 1⟩
def Fld.time.ppsOutEn : Field := ⟨0x0f, 6, 1⟩
def Fld.time.ppsOutSrc : Field := ⟨0x0f, 4, 2⟩
def Fld.time.epochArb : Field := ⟨0x0f, 3, 1⟩
def Fld.time.autoSwitch : Field := ⟨0x0f, 2, 1⟩
def Fld.time.domEnB : Field := ⟨0x0f, 1, 1⟩
def Fld.time.domEnA : Field := ⟨0x0f, 0, 1⟩

/-- The rows of the field map of OBJ_TIME (R334): bit position, width, access code, staged or not, reset. -/
def rowsTime : List Row :=
  [⟨1152, 64, .ro, false, 0x0⟩,
   ⟨1088, 64, .ro, false, 0x0⟩,
   ⟨976, 112, .ro, false, 0x0⟩,
   ⟨864, 112, .ro, false, 0x0⟩,
   ⟨816, 40, .ro, false, 0x0⟩,
   ⟨768, 40, .ro, false, 0x0⟩,
   ⟨736, 32, .ro, false, 0x0⟩,
   ⟨704, 32, .ro, false, 0x0⟩,
   ⟨640, 64, .ro, false, 0x0⟩,
   ⟨576, 64, .ro, false, 0x0⟩,
   ⟨512, 64, .ro, false, 0x0⟩,
   ⟨448, 64, .ro, false, 0x0⟩,
   ⟨384, 64, .ro, false, 0x0⟩,
   ⟨320, 64, .ro, false, 0x0⟩,
   ⟨284, 8, .ro, false, 0xf8⟩,
   ⟨280, 4, .ro, false, 0x3⟩,
   ⟨278, 1, .w1c, false, 0x0⟩,
   ⟨277, 1, .w1c, false, 0x0⟩,
   ⟨276, 1, .w1c, false, 0x0⟩,
   ⟨275, 1, .w1c, false, 0x0⟩,
   ⟨274, 1, .w1c, false, 0x0⟩,
   ⟨273, 1, .w1c, false, 0x0⟩,
   ⟨272, 1, .w1c, false, 0x0⟩,
   ⟨268, 1, .ro, false, 0x1⟩,
   ⟨267, 1, .ro, false, 0x0⟩,
   ⟨266, 1, .ro, false, 0x0⟩,
   ⟨264, 2, .ro, false, 0x0⟩,
   ⟨260, 3, .ro, false, 0x0⟩,
   ⟨257, 3, .ro, false, 0x0⟩,
   ⟨256, 1, .ro, false, 0x0⟩,
   ⟨184, 8, .rw, false, 0xa0⟩,
   ⟨176, 8, .rw, false, 0x80⟩,
   ⟨168, 8, .rw, false, 0x80⟩,
   ⟨160, 4, .rw, false, 0x0⟩,
   ⟨156, 4, .rw, false, 0x1⟩,
   ⟨152, 4, .rw, false, 0x0⟩,
   ⟨144, 8, .rw, false, 0x0⟩,
   ⟨140, 2, .rw, false, 0x1⟩,
   ⟨139, 1, .rw, false, 0x0⟩,
   ⟨138, 1, .rw, false, 0x0⟩,
   ⟨137, 1, .rw, false, 0x1⟩,
   ⟨136, 1, .rw, false, 0x0⟩,
   ⟨104, 30, .rw, false, 0x5f5e100⟩,
   ⟨88, 16, .rw, false, 0x25⟩,
   ⟨64, 24, .rw, false, 0x0⟩,
   ⟨40, 24, .rw, false, 0x0⟩,
   ⟨24, 16, .rw, false, 0x3e8⟩,
   ⟨22, 2, .rw, false, 0x0⟩,
   ⟨20, 2, .rw, false, 0x0⟩,
   ⟨16, 4, .rw, false, 0x4⟩,
   ⟨8, 7, .rw, false, 0x64⟩,
   ⟨7, 1, .rw, false, 0x1⟩,
   ⟨6, 1, .rw, false, 0x0⟩,
   ⟨4, 2, .rw, false, 0x0⟩,
   ⟨3, 1, .rw, false, 0x0⟩,
   ⟨2, 1, .rw, false, 0x1⟩,
   ⟨1, 1, .rw, false, 0x0⟩,
   ⟨0, 1, .rw, false, 0x0⟩]


/-! ### OBJ_CATALOGUE (13_event_catalogue.md): one constant per field of its field map (R358). -/

def Fld.catalogue.commitTick : Field := ⟨0x10, 960, 64⟩
def Fld.catalogue.liveCycles : Field := ⟨0x10, 928, 32⟩
def Fld.catalogue.groupLive : Field := ⟨0x10, 896, 16⟩
def Fld.catalogue.intPf : Field := ⟨0x10, 32, 32⟩
def Fld.catalogue.groupClash : Field := ⟨0x10, 12, 1⟩
def Fld.catalogue.absentDrop : Field := ⟨0x10, 11, 1⟩
def Fld.catalogue.loopDrop : Field := ⟨0x10, 10, 1⟩
def Fld.catalogue.coincident : Field := ⟨0x10, 9, 1⟩
def Fld.catalogue.busyDrop : Field := ⟨0x10, 8, 1⟩
def Fld.catalogue.commitPending : Field := ⟨0x10, 1, 1⟩
def Fld.catalogue.dirty : Field := ⟨0x10, 0, 1⟩

/-- The rows of the field map of OBJ_CATALOGUE (R358): bit position, width, access code, staged or not, reset. -/
def rowsCatalogue : List Row :=
  [⟨960, 64, .ro, false, 0x0⟩,
   ⟨928, 32, .ro, false, 0x0⟩,
   ⟨896, 16, .ro, false, 0xffff⟩,
   ⟨32, 32, .rw, false, 0x0⟩,
   ⟨12, 1, .w1c, false, 0x0⟩,
   ⟨11, 1, .w1c, false, 0x0⟩,
   ⟨10, 1, .w1c, false, 0x0⟩,
   ⟨9, 1, .w1c, false, 0x0⟩,
   ⟨8, 1, .w1c, false, 0x0⟩,
   ⟨1, 1, .ro, false, 0x0⟩,
   ⟨0, 1, .ro, false, 0x0⟩]


/-! ### OBJ_COURIER (17_courier_links.md): one constant per field of its field map (R441). -/

def Fld.courier.upTick : Field := ⟨0x11, 960, 64⟩
def Fld.courier.downTick : Field := ⟨0x11, 896, 64⟩
def Fld.courier.alignResid : Field := ⟨0x11, 880, 16⟩
def Fld.courier.hopMeas : Field := ⟨0x11, 864, 16⟩
def Fld.courier.pad : Field := ⟨0x11, 848, 16⟩
def Fld.courier.laneOk : Field := ⟨0x11, 832, 4⟩
def Fld.courier.fellBack : Field := ⟨0x11, 820, 1⟩
def Fld.courier.trainFail : Field := ⟨0x11, 819, 1⟩
def Fld.courier.budget : Field := ⟨0x11, 818, 1⟩
def Fld.courier.linkDrop : Field := ⟨0x11, 817, 1⟩
def Fld.courier.crcErr : Field := ⟨0x11, 816, 1⟩
def Fld.courier.liveGen : Field := ⟨0x11, 811, 1⟩
def Fld.courier.linkState : Field := ⟨0x11, 808, 3⟩
def Fld.courier.dirty : Field := ⟨0x11, 800, 1⟩
def Fld.courier.cueRxEn : Field := ⟨0x11, 15, 1⟩
def Fld.courier.cueDst : Field := ⟨0x11, 12, 3⟩
def Fld.courier.cueTxEn : Field := ⟨0x11, 11, 1⟩
def Fld.courier.cueSrc : Field := ⟨0x11, 8, 3⟩
def Fld.courier.genFallback : Field := ⟨0x11, 2, 1⟩
def Fld.courier.genMax : Field := ⟨0x11, 1, 1⟩

/-- The rows of the field map of OBJ_COURIER (R441): bit position, width, access code, staged or not, reset. -/
def rowsCourier : List Row :=
  [⟨960, 64, .ro, false, 0x0⟩,
   ⟨896, 64, .ro, false, 0x0⟩,
   ⟨880, 16, .ro, false, 0x0⟩,
   ⟨864, 16, .ro, false, 0x0⟩,
   ⟨848, 16, .ro, false, 0x0⟩,
   ⟨832, 4, .ro, false, 0x0⟩,
   ⟨820, 1, .w1c, false, 0x0⟩,
   ⟨819, 1, .w1c, false, 0x0⟩,
   ⟨818, 1, .w1c, false, 0x0⟩,
   ⟨817, 1, .w1c, false, 0x0⟩,
   ⟨816, 1, .w1c, false, 0x0⟩,
   ⟨811, 1, .ro, false, 0x0⟩,
   ⟨808, 3, .ro, false, 0x0⟩,
   ⟨800, 1, .ro, false, 0x0⟩,
   ⟨15, 1, .rw, true, 0x0⟩,
   ⟨12, 3, .rw, true, 0x0⟩,
   ⟨11, 1, .rw, true, 0x0⟩,
   ⟨8, 3, .rw, true, 0x0⟩,
   ⟨2, 1, .rw, false, 0x1⟩,
   ⟨1, 1, .rw, false, 0x1⟩]


/-! ### OBJ_THERMAL (18_power_thermal.md): one constant per field of its field map (R467). -/

def Fld.thermal.graceMiss : Field := ⟨0x12, 896, 128⟩
def Fld.thermal.stopTick : Field := ⟨0x12, 832, 64⟩
def Fld.thermal.muteTick : Field := ⟨0x12, 768, 64⟩
def Fld.thermal.tripTick : Field := ⟨0x12, 704, 64⟩
def Fld.thermal.avsLastTick : Field := ⟨0x12, 640, 64⟩
def Fld.thermal.orderCode : Field := ⟨0x12, 208, 8⟩
def Fld.thermal.graceExpired : Field := ⟨0x12, 207, 1⟩
def Fld.thermal.avsBehind : Field := ⟨0x12, 206, 1⟩
def Fld.thermal.avsOverlap : Field := ⟨0x12, 205, 1⟩
def Fld.thermal.orderErr : Field := ⟨0x12, 204, 1⟩
def Fld.thermal.sagSeen : Field := ⟨0x12, 203, 1⟩
def Fld.thermal.tripSeen : Field := ⟨0x12, 202, 1⟩
def Fld.thermal.stopSeen : Field := ⟨0x12, 201, 1⟩
def Fld.thermal.warnSeen : Field := ⟨0x12, 200, 1⟩
def Fld.thermal.bandReq : Field := ⟨0x12, 192, 1⟩
def Fld.thermal.nvInhibit : Field := ⟨0x12, 191, 1⟩
def Fld.thermal.warnActive : Field := ⟨0x12, 190, 1⟩
def Fld.thermal.thermalState : Field := ⟨0x12, 187, 3⟩
def Fld.thermal.powerState : Field := ⟨0x12, 184, 3⟩
def Fld.thermal.tjMaxSensor : Field := ⟨0x12, 176, 6⟩
def Fld.thermal.tjMax : Field := ⟨0x12, 160, 16⟩
def Fld.thermal.vcoreTarget : Field := ⟨0x12, 144, 16⟩
def Fld.thermal.vcoreSet : Field := ⟨0x12, 128, 16⟩
def Fld.thermal.avsVmin : Field := ⟨0x12, 80, 16⟩
def Fld.thermal.avsVmax : Field := ⟨0x12, 64, 16⟩
def Fld.thermal.avsSlew : Field := ⟨0x12, 56, 4⟩
def Fld.thermal.avsGap : Field := ⟨0x12, 40, 16⟩
def Fld.thermal.avsPace : Field := ⟨0x12, 33, 7⟩
def Fld.thermal.avsEn : Field := ⟨0x12, 32, 1⟩
def Fld.thermal.graceUs : Field := ⟨0x12, 8, 11⟩
def Fld.thermal.stopT : Field := ⟨0x12, 0, 8⟩

/-- The rows of the field map of OBJ_THERMAL (R467): bit position, width, access code, staged or not, reset. The
reset of VCORE_TARGET and VCORE_SET is a DESIGN CHOICE: R455 holds VDD_CORE at 0.75 V until the first write. -/
def rowsThermal : List Row :=
  [⟨896, 128, .ro, false, 0x0⟩,
   ⟨832, 64, .ro, false, 0x0⟩,
   ⟨768, 64, .ro, false, 0x0⟩,
   ⟨704, 64, .ro, false, 0x0⟩,
   ⟨640, 64, .ro, false, 0x0⟩,
   ⟨208, 8, .ro, false, 0x0⟩,
   ⟨207, 1, .w1c, false, 0x0⟩,
   ⟨206, 1, .w1c, false, 0x0⟩,
   ⟨205, 1, .w1c, false, 0x0⟩,
   ⟨204, 1, .w1c, false, 0x0⟩,
   ⟨203, 1, .w1c, false, 0x0⟩,
   ⟨202, 1, .w1c, false, 0x0⟩,
   ⟨201, 1, .w1c, false, 0x0⟩,
   ⟨200, 1, .w1c, false, 0x0⟩,
   ⟨192, 1, .ro, false, 0x0⟩,
   ⟨191, 1, .ro, false, 0x0⟩,
   ⟨190, 1, .ro, false, 0x0⟩,
   ⟨187, 3, .ro, false, 0x0⟩,
   ⟨184, 3, .ro, false, 0x2⟩,
   ⟨176, 6, .ro, false, 0x0⟩,
   ⟨160, 16, .ro, false, 0x0⟩,
   ⟨144, 16, .ro, false, 0x1d4c⟩,
   ⟨128, 16, .ro, false, 0x1d4c⟩,
   ⟨80, 16, .rw, false, 0x1964⟩,
   ⟨64, 16, .rw, false, 0x2134⟩,
   ⟨56, 4, .rw, false, 0x5⟩,
   ⟨40, 16, .rw, false, 0x0⟩,
   ⟨33, 7, .rw, false, 0x0⟩,
   ⟨32, 1, .rw, false, 0x1⟩,
   ⟨8, 11, .rw, false, 0x7d0⟩,
   ⟨0, 8, .rw, false, 0x69⟩]


/-! ### OBJ_ETH (15_host_link.md): one constant per field of its field map (R404). -/

def Fld.eth.ipv6Addr : Field := ⟨0x13, 896, 128⟩
def Fld.eth.cmdPeer : Field := ⟨0x13, 768, 128⟩
def Fld.eth.cmdPrefix : Field := ⟨0x13, 760, 8⟩
def Fld.eth.ipv4Addr : Field := ⟨0x13, 720, 32⟩
def Fld.eth.macAddr : Field := ⟨0x13, 672, 48⟩
def Fld.eth.txDrop : Field := ⟨0x13, 131, 1⟩
def Fld.eth.cmdDrop : Field := ⟨0x13, 130, 1⟩
def Fld.eth.rxErr : Field := ⟨0x13, 129, 1⟩
def Fld.eth.linkUp : Field := ⟨0x13, 128, 1⟩
def Fld.eth.mtu : Field := ⟨0x13, 32, 14⟩
def Fld.eth.pcp : Field := ⟨0x13, 29, 3⟩
def Fld.eth.vlanEn : Field := ⟨0x13, 28, 1⟩
def Fld.eth.vlanId : Field := ⟨0x13, 16, 12⟩
def Fld.eth.cmdEn : Field := ⟨0x13, 4, 1⟩
def Fld.eth.fecEn : Field := ⟨0x13, 3, 1⟩
def Fld.eth.ethMode : Field := ⟨0x13, 0, 2⟩

/-- The rows of the field map of OBJ_ETH (R404): bit position, width, access code, staged or not, reset. -/
def rowsEth : List Row :=
  [⟨896, 128, .rw, false, 0x0⟩,
   ⟨768, 128, .rw, false, 0x0⟩,
   ⟨760, 8, .rw, false, 0x0⟩,
   ⟨720, 32, .rw, false, 0x0⟩,
   ⟨672, 48, .rw, false, 0x0⟩,
   ⟨131, 1, .w1c, false, 0x0⟩,
   ⟨130, 1, .w1c, false, 0x0⟩,
   ⟨129, 1, .w1c, false, 0x0⟩,
   ⟨128, 1, .ro, false, 0x0⟩,
   ⟨32, 14, .rw, false, 0x5dc⟩,
   ⟨29, 3, .rw, false, 0x0⟩,
   ⟨28, 1, .rw, false, 0x0⟩,
   ⟨16, 12, .rw, false, 0x0⟩,
   ⟨4, 1, .rw, false, 0x0⟩,
   ⟨3, 1, .rw, false, 0x1⟩,
   ⟨0, 2, .rw, false, 0x0⟩]


/-! ### time-pulse block TPn, bits relative to the block (block n at bit 1280 + 192 n of OBJ_TIME) (R334). -/

def Fld.tp.tpLate : Field := ⟨0x0f, 145, 1⟩
def Fld.tp.tpActive : Field := ⟨0x0f, 144, 1⟩
def Fld.tp.width : Field := ⟨0x0f, 112, 32⟩
def Fld.tp.period : Field := ⟨0x0f, 72, 40⟩
def Fld.tp.polarity : Field := ⟨0x0f, 70, 1⟩
def Fld.tp.tpEn : Field := ⟨0x0f, 69, 1⟩
def Fld.tp.base : Field := ⟨0x0f, 68, 1⟩
def Fld.tp.startFine : Field := ⟨0x0f, 64, 4⟩
def Fld.tp.start : Field := ⟨0x0f, 0, 64⟩

/-- The rows of one time-pulse block TPn, bits relative to the block (block n at bit 1280 + 192 n of OBJ_TIME). -/
def rowsTp : List Row :=
  [⟨145, 1, .w1c, false, 0x0⟩,
   ⟨144, 1, .ro, false, 0x0⟩,
   ⟨112, 32, .rw, false, 0x1⟩,
   ⟨72, 40, .rw, false, 0x0⟩,
   ⟨70, 1, .rw, false, 0x0⟩,
   ⟨69, 1, .rw, false, 0x0⟩,
   ⟨68, 1, .rw, false, 0x0⟩,
   ⟨64, 4, .rw, false, 0x0⟩,
   ⟨0, 64, .rw, false, 0x0⟩]


/-! ### LUT cell word, bits relative to the word (cell j at bit 2048 + 64 j of OBJ_CATALOGUE) (R359). -/

def Fld.lut.ffEn : Field := ⟨0x10, 61, 1⟩
def Fld.lut.ffClk : Field := ⟨0x10, 60, 1⟩
def Fld.lut.filter : Field := ⟨0x10, 56, 4⟩
def Fld.lut.clkSel : Field := ⟨0x10, 48, 8⟩
def Fld.lut.table : Field := ⟨0x10, 32, 16⟩
def Fld.lut.sel3 : Field := ⟨0x10, 24, 8⟩
def Fld.lut.sel2 : Field := ⟨0x10, 16, 8⟩
def Fld.lut.sel1 : Field := ⟨0x10, 8, 8⟩
def Fld.lut.sel0 : Field := ⟨0x10, 0, 8⟩

/-- The rows of one LUT cell word, bits relative to the word (cell j at bit 2048 + 64 j of OBJ_CATALOGUE). -/
def rowsLut : List Row :=
  [⟨61, 1, .rw, true, 0x0⟩,
   ⟨60, 1, .rw, true, 0x0⟩,
   ⟨56, 4, .rw, true, 0x0⟩,
   ⟨48, 8, .rw, true, 0x0⟩,
   ⟨32, 16, .rw, true, 0x0⟩,
   ⟨24, 8, .rw, true, 0x0⟩,
   ⟨16, 8, .rw, true, 0x0⟩,
   ⟨8, 8, .rw, true, 0x0⟩,
   ⟨0, 8, .rw, true, 0x0⟩]


/-! ### GPIO byte, bits relative to the byte (pin g at bit 4736 + 8 g of OBJ_CATALOGUE) (R360). -/

def Fld.gpio.edge : Field := ⟨0x10, 4, 2⟩
def Fld.gpio.toggle : Field := ⟨0x10, 3, 1⟩
def Fld.gpio.pw : Field := ⟨0x10, 1, 2⟩
def Fld.gpio.dir : Field := ⟨0x10, 0, 1⟩

/-- The rows of one GPIO byte, bits relative to the byte (pin g at bit 4736 + 8 g of OBJ_CATALOGUE). -/
def rowsGpio : List Row :=
  [⟨4, 2, .rw, false, 0x0⟩,
   ⟨3, 1, .rw, false, 0x0⟩,
   ⟨1, 2, .rw, false, 0x0⟩,
   ⟨0, 1, .rw, false, 0x0⟩]


/-! ### destination entry, bits relative to the entry (entry d at bit 1024 + 256 d of OBJ_ETH) (R404). -/

def Fld.dest.destIp : Field := ⟨0x13, 128, 128⟩
def Fld.dest.destMac : Field := ⟨0x13, 80, 48⟩
def Fld.dest.destPort : Field := ⟨0x13, 64, 16⟩
def Fld.dest.valid : Field := ⟨0x13, 0, 1⟩

/-- The rows of one destination entry, bits relative to the entry (entry d at bit 1024 + 256 d of OBJ_ETH). -/
def rowsDest : List Row :=
  [⟨128, 128, .rw, false, 0x0⟩,
   ⟨80, 48, .rw, false, 0x0⟩,
   ⟨64, 16, .rw, false, 0x0⟩,
   ⟨0, 1, .rw, false, 0x0⟩]

/-- Rows of a repeated sub-format, moved up by `base`. -/
def shiftRows (base : Nat) (l : List Row) : List Row :=
  l.map (fun r => ⟨r.lsb + base, r.width, r.acc, r.staged, r.reset⟩)

/-- The 256 coefficient words of OBJ_DEMIX (R186, R187): RE and IM of each; the diagonal resets to one. -/
def rowsCoef : List Row :=
  (List.range 256).flatMap (fun k =>
    [⟨512 + 64 * k, 18, .rw, true, if k / 16 = k % 16 then 0x10000 else 0⟩,
     ⟨512 + 64 * k + 32, 18, .rw, true, 0⟩])

/-- The sixteen-bit map slots of OBJ_COURIER: EXPk and IMPk, bit 15 valid, bits [8:0] the entry. -/
def rowsMaps : List Row :=
  (List.range 8).flatMap (fun k =>
    [⟨256 + 16 * k, 9, .rw, true, 0⟩, ⟨271 + 16 * k, 1, .rw, true, 0⟩,
     ⟨384 + 16 * k, 9, .rw, true, 0⟩, ⟨399 + 16 * k, 1, .rw, true, 0⟩])

/-- The regions of OBJ_CATALOGUE beside its header (R357): group rows, LUT cells, cue matchers, cue output
words, GPIO bytes, matrix. Columns 254 and 255 of the matrix are reserved (R339). -/
def rowsRegions : List Row :=
  ⟨1024, 1024, .rw, true, 0⟩
    :: ((List.range 32).flatMap (fun j => shiftRows (2048 + 64 * j) rowsLut)
    ++ [⟨4096, 512, .rw, true, 0⟩, ⟨4608, 128, .rw, false, 0⟩]
    ++ (List.range 16).flatMap (fun g => shiftRows (4736 + 8 * g) rowsGpio)
    ++ (List.range 256).map (fun p => ⟨8192 + 256 * p, 254, .rw, true, 0⟩))

/-- Every row of an object class, its repeated formats included. On drive slots RDCH and RDCH_EN are
reserved (R21, R103). -/
def objRows (cls inst : Nat) : List Row :=
  match cls with
  | 0x01 => rowsOutput
  | 0x02 => if inst < 512 then rowsSlot.filter (fun r => !(r.lsb == 16 || r.lsb == 25)) else rowsSlot
  | 0x03 => rowsDesc
  | 0x04 => rowsFrame
  | 0x05 => rowsCurator
  | 0x06 => rowsInput
  | 0x07 => rowsRdch
  | 0x08 => rowsDisc
  | 0x09 => rowsDemix ++ rowsCoef
  | 0x0A => rowsSurvey
  | 0x0B => rowsAppraiser
  | 0x0C => rowsVitrine
  | 0x0D => rowsBias
  | 0x0E => rowsBiasbank
  | 0x0F => rowsTime ++ (List.range 4).flatMap (fun n => shiftRows (1280 + 192 * n) rowsTp)
  | 0x10 => rowsCatalogue ++ rowsRegions
  | 0x11 => rowsCourier ++ rowsMaps
  | 0x12 => rowsThermal
  | 0x13 => rowsEth ++ (List.range 8).flatMap (fun d => shiftRows (1024 + 256 * d) rowsDest)
  | _ => []

/-- The mask of the rows that satisfy `p`. -/
def rowMask (p : Row → Bool) (l : List Row) : Nat :=
  l.foldl (fun m r => if p r then m ||| ones r.lsb r.width else m) 0

/-- Number of instances of an object class (R425). -/
def objCount : Nat → Nat
  | 0x01 => 96 | 0x02 => 1024 | 0x03 => 16384 | 0x04 => 4096 | 0x05 => 128 | 0x06 => 32 | 0x07 => 512
  | 0x08 => 512 | 0x09 => 32 | 0x0A => 64 | 0x0B => 8 | 0x0C => 8 | 0x0D => 128 | 0x0E => 4 | 0x0F => 1
  | 0x10 => 1 | 0x11 => 4 | 0x12 => 1 | 0x13 => 1 | _ => 0

/-- Size of an object in bytes (R425). -/
def objSize : Nat → Nat
  | 0x01 => 32 | 0x02 => 16 | 0x03 => 32 | 0x04 => 64 | 0x05 => 128 | 0x06 => 32 | 0x07 => 64 | 0x08 => 128
  | 0x09 => 2112 | 0x0A => 64 | 0x0B => 128 | 0x0C => 128 | 0x0D => 32 | 0x0E => 64 | 0x0F => 256
  | 0x10 => 9216 | 0x11 => 128 | 0x12 => 128 | 0x13 => 384 | _ => 0

/-- The image in which every row holds its reset value (R6). -/
def rowsReset (l : List Row) : Nat := l.foldl (fun m r => m + r.reset <<< r.lsb) 0

/-- Reset image of an object instance: the field map's reset values; a slot binds to its own frame, and a probe
slot to its own readout channel, whose fields a drive slot lacks (R20, R21, R103); F4095 has every field zero (R65). Every repeated format (coefficients,
matrix, LUT, GPIO, maps, time pulses, destinations) resets to the value of its own rows. -/
def resetImage (cls inst : Nat) : Nat :=
  match cls with
  | 0x01 => rowsReset rowsOutput
  | 0x02 => if inst < 512 then rowsReset (objRows 0x02 inst) + inst else rowsReset rowsSlot + inst + (inst - 512) <<< 16
  | 0x03 => rowsReset rowsDesc
  | 0x04 => rowsReset rowsFrame
  | 0x05 => rowsReset rowsCurator
  | 0x06 => rowsReset rowsInput
  | 0x07 => rowsReset rowsRdch
  | 0x08 => rowsReset rowsDisc
  | 0x09 => rowsReset (rowsDemix ++ rowsCoef)
  | 0x0A => rowsReset rowsSurvey
  | 0x0B => rowsReset rowsAppraiser
  | 0x0C => rowsReset rowsVitrine
  | 0x0D => rowsReset rowsBias
  | 0x0E => rowsReset rowsBiasbank
  | 0x0F => rowsReset (objRows 0x0F 0)
  | 0x10 => rowsReset (objRows 0x10 0)
  | 0x11 => rowsReset (objRows 0x11 0)
  | 0x12 => rowsReset rowsThermal
  | 0x13 => rowsReset (objRows 0x13 0)
  | _ => 0

/-- Key of an object instance in the stores `objs` and `live`. -/
def okey (cls inst : Nat) : Nat := cls * 65536 + inst

/-- What an unlisted object key holds: its reset image. -/
def objDefault (k : Nat) : Nat := resetImage (k / 65536) (k % 65536)

end Sys2Proof.Machine
end

