-- ==== Sys2Proof/Machine/Store.lean ====
section
/-! DEFINITION. Sparse stores: the one canonical form in which the model keeps anything indexed by an address
(object images, counters, archive and kernel words, control stores). Keys rise strictly and no entry equals
what an unlisted key reads as, so equal stores are equal lists. -/

namespace Sys2Proof.Machine

/-- A sparse store: key and value pairs. -/
abbrev Sparse (α : Type) := List (Nat × α)

/-- The value of key `k`; an unlisted key reads as the given default. -/
def sget {α : Type} (d : Nat → α) : Sparse α → Nat → α
  | [], k => d k
  | (a, v) :: m, k => if a = k then v else sget d m k

/-- Removes key `k`. -/
def sdel {α : Type} (m : Sparse α) (k : Nat) : Sparse α := m.filter (fun e => decide (e.1 ≠ k))

/-- Enters `v` at key `k`. -/
def sput {α : Type} : Sparse α → Nat → α → Sparse α
  | [], k, v => [(k, v)]
  | (a, w) :: m, k, v =>
    if a = k then (k, v) :: m else if k < a then (k, v) :: (a, w) :: m else (a, w) :: sput m k v

/-- Writes `v` at key `k`; writing the default removes the entry. -/
def sset {α : Type} [DecidableEq α] (d : Nat → α) (m : Sparse α) (k : Nat) (v : α) : Sparse α :=
  if v = d k then sdel m k else sput m k v

/-- Every key of `m` is above `b`, and the keys rise. -/
def risesFrom {α : Type} : Nat → Sparse α → Bool
  | _, [] => true
  | b, (a, _) :: m => decide (b ≤ a) && risesFrom (a + 1) m

/-- The canonical form: keys rise strictly, and no entry equals its default. -/
def swf {α : Type} [DecidableEq α] (d : Nat → α) (m : Sparse α) : Bool :=
  risesFrom 0 m && m.all (fun e => decide (e.2 ≠ d e.1))

/-- Removes every key in `[lo, lo + n)`: those keys read as their defaults again. -/
def sclear {α : Type} (m : Sparse α) (lo n : Nat) : Sparse α :=
  m.filter (fun e => decide (e.1 < lo ∨ lo + n ≤ e.1))

end Sys2Proof.Machine
end

