-- ==== Sys2Proof/Syntax.lean ====
section
/-! DEFINITION. The commands of the ZF9512, one constructor per row of spec/opcode_table.json: the host commands of
the opcode catalogue (R430) with their packet header and inline parameters, the object and register writes that
the table lists on their own, and the events by which the device or the world outside changes its state. -/

namespace Sys2Proof

/-- A command: one row of the table with its operands. -/
inductive Instr where
  /-- SYS_NOP (R430): Command that does nothing and completes. -/
  | sysNop (h : Hdr)
  /-- SYS_IDENTIFY (R427): Command that returns the IDCODE, silicon revision, subsystem IDs and Docent firmware version. -/
  | sysIdentify (h : Hdr)
  /-- OBJ_READ (R424): Command that reads a byte range of one object instance at one tick. -/
  | objRead (h : Hdr) (cls : BitVec 8) (inst : BitVec 16) (offset len : BitVec 32)
  /-- OBJ_WRITE (R424): Command that writes a byte range of one object instance at one tick, after the object's validity checks. -/
  | objWrite (h : Hdr) (cls : BitVec 8) (inst : BitVec 16) (offset len : BitVec 32) (data : BitVec 128)
  /-- SYS_RESET (R428): Secure command that requests a warm reset or a Docent restart 10,000 ticks after its completion. -/
  | sysReset (h : Hdr) (kind : BitVec 8)
  /-- SYS_NOTIFY (R423): Command that sets the notice route of the issuing function. -/
  | sysNotify (h : Hdr) (route : BitVec 8)
  /-- SYS_CANCEL (R417): Command that cancels the scheduled commands of its path that carry a given TAG. -/
  | sysCancel (h : Hdr) (tag : BitVec 16)
  /-- RING_ASSIGN (R391): Command that sets the owning function of a device-produced ring. -/
  | ringAssign (h : Hdr) (ring owner : BitVec 8)
  /-- PWR_STATE (R453): Command that moves the device between the Run, Idle, Quiet and Dormant power states. -/
  | pwrState (h : Hdr) (target : BitVec 8)
  /-- PWR_DOMAIN (R449): Command that powers switchable power domains on or off. -/
  | pwrDomain (h : Hdr) (domains on : BitVec 64)
  /-- TIME_READ (R430): Command that returns system time, the active domain and SYS_STATE at the read instant. -/
  | timeRead (h : Hdr)
  /-- TIME_SET_EPOCH (R320): Command that schedules an epoch step of system time at the next whole second. -/
  | timeSetEpoch (h : Hdr) (secs : BitVec 64)
  /-- TIME_SWITCH (R322): Command that schedules a switch of the active time domain at a named tick. -/
  | timeSwitch (h : Hdr) (dom : BitVec 8) (step : Bool) (tick : BitVec 64)
  /-- TIME_CAPTURE_READ (R329): Command that writes the queued timestamps of the named capture units and empties their queues. -/
  | timeCaptureRead (h : Hdr) (units : BitVec 16)
  /-- ARCHIVE_LOAD (R72): Command that writes envelope words into an archive bank and returns the CRC read back. -/
  | archiveLoad (h : Hdr) (bank : BitVec 8) (start count : BitVec 32)
  /-- ARCHIVE_READ (R72): Command that returns archive bank words by DMA, with single-bit errors corrected. -/
  | archiveRead (h : Hdr) (bank : BitVec 8) (start count : BitVec 32)
  /-- KERNEL_LOAD (R72): Command that writes words into the kernel archive and returns the CRC read back. -/
  | kernelLoad (h : Hdr) (start count : BitVec 32)
  /-- KERNEL_READ (R72): Command that returns kernel archive words by DMA. -/
  | kernelRead (h : Hdr) (start count : BitVec 32)
  /-- OUTPUT_ENABLE (R98): Command that takes a mask of RF outputs to ACTIVE from a tick. -/
  | outputEnable (h : Hdr) (mask : BitVec 96)
  /-- OUTPUT_DISABLE (R99): Command that takes a mask of RF outputs to MUTED from a tick. -/
  | outputDisable (h : Hdr) (mask : BitVec 96)
  /-- OUTPUT_COMMIT (R107): Command that captures the dirty OBJ_OUTPUT and OBJ_SLOT staged fields for a commit tick. -/
  | outputCommit (h : Hdr) (tick : BitVec 64)
  /-- CUR_ACCESSION (R144): Command that checks, writes, reads back and verifies a signed curator image into the named control stores. -/
  | curAccession (h : Hdr)
  /-- CUR_READBACK (R149): Command that returns words of a curator control store to host memory. -/
  | curReadback (h : Hdr) (cur addr count : BitVec 16)
  /-- CUR_START (R150): Command that arms the named curators for a common start tick. -/
  | curStart (h : Hdr) (mask : BitVec 128) (tick : BitVec 64)
  /-- CUR_STOP (R153): Command that requests a halt of the named curators at a tick or at their next SHOT word. -/
  | curStop (h : Hdr) (mask : BitVec 128) (tick : BitVec 64) (atShot : Bool)
  /-- CUR_BARRIER (R155): Command that sets the membership mask of a barrier. -/
  | curBarrier (h : Hdr) (b : BitVec 8) (mask : BitVec 128)
  /-- FRAME_OP (R58): Command that applies a frame operation to one frame at its execution or AT tick. -/
  | frameOp (h : Hdr) (frame : BitVec 16) (fop : BitVec 8) (farg : BitVec 16)
  /-- FRAME_COMMIT (R64): Command that captures the dirty frame definitions for a commit tick, optionally with KEEP_PHASE. -/
  | frameCommit (h : Hdr) (tick : BitVec 64) (keepPhase : Bool)
  /-- READOUT_COMMIT (R188): Command that captures the dirty OBJ_INPUT, OBJ_DEMIX and OBJ_DISC staged copies for a commit tick. -/
  | readoutCommit (h : Hdr) (tick : BitVec 64)
  /-- DISC_REBASE (R203): Command that schedules a rebase of the seeds of a mask of channels to their live centroids. -/
  | discRebase (h : Hdr) (tick : BitVec 64)
  /-- DISC_SEED_STORE (R204): Command that writes the staged discriminator configuration of named channels into the strongroom. -/
  | discSeedStore (h : Hdr)
  /-- DISC_SEED_RESTORE (R204): Command that copies the stored discriminator records into the staged copies. -/
  | discSeedRestore (h : Hdr)
  /-- BIAS_WRITE (R305): Command that writes codes into bias input registers, optionally strobing them one tick later. -/
  | biasWrite (h : Hdr) (bank first : BitVec 8) (count : BitVec 8) (strobeAfter : Bool)
  /-- BIAS_STROBE (R305): Command that delivers a load strobe to each bias bank with a non-zero mask. -/
  | biasStrobe (h : Hdr) (masks : BitVec 128)
  /-- BIAS_CLEAR (R302): Command that clears the named bias banks to their clear code. -/
  | biasClear (h : Hdr) (banks : BitVec 8)
  /-- BIAS_COMMIT (R299): Command that captures staged bias spans for a commit tick. -/
  | biasCommit (h : Hdr) (tick : BitVec 64)
  /-- CAT_COMMIT (R355): Command that loop-checks the staged catalogue configuration and captures it for a commit tick. -/
  | catCommit (h : Hdr) (tick : BitVec 64)
  /-- CAT_GROUP (R348): Command that writes GROUP_LIVE at its execution or AT tick. -/
  | catGroup (h : Hdr) (mask : BitVec 16)
  /-- VIT_ARM (R277): Command that arms the named vitrines for an arm tick after copying their masks. -/
  | vitArm (h : Hdr) (mask : BitVec 8) (tick : BitVec 64)
  /-- VIT_TRIGGER (R278): Command that gives a command trigger to the named vitrines. -/
  | vitTrigger (h : Hdr) (mask : BitVec 8)
  /-- VIT_ABORT (R278): Command that takes the named vitrines to IDLE and discards their records. -/
  | vitAbort (h : Hdr) (mask : BitVec 8)
  /-- CAL_OUTPUT (R472): Command that starts foreground calibration of the named RF outputs. -/
  | calOutput (h : Hdr) (mask : BitVec 96)
  /-- CAL_INPUT (R474): Command that takes the named inputs into CAL for 150,000 ticks. -/
  | calInput (h : Hdr) (mask : BitVec 32)
  /-- CAL_BIAS (R475): Command that takes the named bias banks into CAL for 1,000,000 ticks. -/
  | calBias (h : Hdr) (banks : BitVec 8)
  /-- CAL_SYS_ZERO (R480): Command that measures a terminated input with its appraiser to open a pending zero. -/
  | calSysZero (h : Hdr) (input : BitVec 8)
  /-- CAL_SYS_FULL (R481): Command that measures an applied tone and sets the zone's gain and offset trims. -/
  | calSysFull (h : Hdr) (input : BitVec 8) (ampl : BitVec 16) (freq : BitVec 48)
  /-- CAL_SYS_STORE (R483): Command that writes system-calibration corrections of named inputs into the strongroom. -/
  | calSysStore (h : Hdr) (mask : BitVec 32)
  /-- RESUME (R466): Command that leaves thermal STOPPED or TRIPPED, clears THERMAL_HOLD and unlocks bias banks. -/
  | resume (h : Hdr)
  /-- LDG_SNAP (R372): Command that schedules a ledger snapshot at tick T, optionally requesting it from peers. -/
  | ldgSnap (h : Hdr) (tick : BitVec 64) (peers : Bool)
  /-- LDG_READ (R373): Command that writes a ledger record of one unit class from the held shadows. -/
  | ldgRead (h : Hdr) (cls : BitVec 8) (first count : BitVec 16)
  /-- LDG_RELEASE (R374): Command that takes a HELD ledger to FREE. -/
  | ldgRelease (h : Hdr)
  /-- LDG_STATUS (R430): Command that returns the ledger state, snapshot number and T. -/
  | ldgStatus (h : Hdr)
  /-- SURVEY_START (R234): Command that arms the named survey streams for a start tick. -/
  | surveyStart (h : Hdr) (mask tick : BitVec 64)
  /-- SURVEY_STOP (R235): Command that stops the named survey streams at a stop tick. -/
  | surveyStop (h : Hdr) (mask tick : BitVec 64)
  /-- CP_LINK (R434): Command that brings the named courier ports up through training and measurement or takes them down. -/
  | cpLink (h : Hdr) (ports up : BitVec 8)
  /-- CP_COMMIT (R441): Command that captures staged courier maps and cue fields for a commit tick. -/
  | cpCommit (h : Hdr) (tick : BitVec 64)
  /-- SEC_POLICY (R524): Secure command that sets the secure accession policy in the strongroom. -/
  | secPolicy (h : Hdr) (policy : Bool)
  /-- SEC_KEY_LOAD (R524): Secure command that writes a P-256 public key into an accession key slot. -/
  | secKeyLoad (h : Hdr) (slot : BitVec 8)
  /-- SEC_FW_UPDATE (R497): Secure command that checks a Docent image and writes it into the slot that was not booted. -/
  | secFwUpdate (h : Hdr)
  /-- SEC_DEBUG_UNLOCK (R499): Secure command that opens management-core debug on a valid signed response to DEBUG_NONCE. -/
  | secDebugUnlock (h : Hdr)
  /-- APP_START (R255): Command that clears an appraiser's cells and arms it for a run. -/
  | appStart (h : Hdr) (app : BitVec 8) (start stop : BitVec 64)
  /-- APP_STOP (R257): Command that lowers an appraiser's stop bound to a stop tick. -/
  | appStop (h : Hdr) (app : BitVec 8) (stop : BitVec 64)
  /-- APP_READ (R252): Command that moves a finished appraiser run into a result record under a block exponent. -/
  | appRead (h : Hdr) (app : BitVec 8)
  /-- INPUT_EN (R166): Object write that enables an input to STARTING or takes it to OFF, abandoning its pending windows. -/
  | inputEn (h : Hdr) (i : Fin 32) (v : Bool)
  /-- FSC (R95): Object write that changes an output's full-scale current and starts FSC_BUSY and FSC_MUTE. -/
  | fsc (h : Hdr) (o : Fin 96) (v : BitVec 8)
  /-- BANK_EN (R297): Object write that enables a bias bank or takes it to OFF at once with clamps closed. -/
  | bankEn (h : Hdr) (k : Fin 4) (v : Bool)
  /-- TP_EN (R327): Object write that enables a time-pulse output from the first edge at least 1,000 ticks ahead. -/
  | tpEn (h : Hdr) (n : Fin 4) (v : Bool)
  /-- SLEW_EN (R294): Object write that requests a change of a bias bank's slew limiter setting. -/
  | slewEn (h : Hdr) (k : Fin 4) (v : Bool)
  /-- DOM_EN (R321): Object write that enables a time domain to ACQUIRING or disables it, switching away when possible. -/
  | domEn (h : Hdr) (b : Bool) (v : Bool)
  /-- ETH_MODE (R404): Object write that changes the Ethernet mode or FEC and retrains the link. -/
  | ethMode (h : Hdr) (mode : BitVec 2) (fec : Bool)
  /-- INPUT_CODE (R288): Object write of a bias input register, taking effect at its execution tick. -/
  | inputCode (h : Hdr) (b : Fin 128) (code : BitVec 20)
  /-- LENGTH (R42): Ring register write that sets the length at once when disabled or stages it when enabled. -/
  | ringLength (f : Fn) (n : Fin 80) (v : BitVec 32)
  /-- PROD (R387): Host write of a command ring's producer index that makes new entries available. -/
  | ringProd (f : Fn) (n : Fin 80) (v : BitVec 32)
  /-- CONS (R387): Host write of a device-produced ring's consumer index that frees entries. -/
  | ringCons (f : Fn) (n : Fin 80) (v : BitVec 32)
  /-- EN (R388): Ring register write that enables or disables a ring after any transfer in progress. -/
  | ringEn (f : Fn) (n : Fin 80) (v : BitVec 32)
  /-- DOORBELL (R393): Host write that posts an H2D mailbox message and starts its timeout. -/
  | doorbell (m : Fin 8) (v : BitVec 32)
  /-- TAKE (R393): Host write that takes the D2H mailbox message and sets the Docent's ACK. -/
  | take (m : Fin 8)
  /-- D2H_LAST_WORD_READ (R393): Host read of the last word of a D2H message, which takes the message. -/
  | d2hLastWordRead (m : Fin 8)
  /-- RAW_LO (R384): Register read that latches raw time and system time into the function's timebase latch. -/
  | rawLo (f : Fn)
  /-- BOOT_GO (R494): Register write that makes the boot ROM fetch and check a Docent image from host memory. -/
  | bootGo (v : BitVec 32) (image : Option (List Byte))
  /-- MSIX_MASK_CLEAR (R382): Write that unmasks an MSI-X vector and sends one message if its PBA bit is set. -/
  | msixMaskClear (f : Fn) (v : Fin 32)
  /-- REGISTER_WRITE (R379): BAR0 write to a register with no behaviour of its own, including W1C clears. -/
  | registerWrite (f : Fn) (off : BitVec 16) (w : BusWrite)
  /-- D2H_DOORBELL (R393): The Docent posts a D2H message or notice, setting D2H_FULL and firing EVP223. -/
  | d2hDoorbell (m : Fin 8) (msg : List Byte) (tmoUs : BitVec 24)
  /-- H2D_TAKE (R393): The Docent takes a posted H2D message, clearing H2D_FULL and setting ACK. -/
  | h2dTake (m : Fin 8)
  /-- H2D_TIMEOUT (R394): Expiry of an H2D message timeout with the message still posted. -/
  | h2dTimeout (m : Fin 8)
  /-- D2H_TIMEOUT (R392): Expiry of the Docent's timeout on a posted D2H message. -/
  | d2hTimeout (m : Fin 8)
  /-- COMMAND_FETCH (R387): The device fetches and accepts a command entry from an enabled ring with room for it. -/
  | commandFetch (k : Fin 3) (packet : BitVec 512) (ext : Option (List Byte))
  /-- COMMAND_DATAGRAM (R402): Receipt of a UDP command datagram on port 49400. -/
  | commandDatagram (rx : EthRx) (port : BitVec 16) (payload : List Byte)
  /-- CHAINED_COMMAND_START (R418): A command held by CHAIN starts or is skipped when its predecessor completes. -/
  | chainedCommandStart (p : Path)
  /-- SCHEDULED_EXECUTION (R415): A scheduled command executes when its AT tick is reached. -/
  | scheduledExecution
  /-- DEFERRED_EXECUTION (R416): A deferred scheduled command executes at the first tick its checks no longer give BUSY. -/
  | deferredExecution
  /-- DEFERRED_TIMEOUT (R416): A deferred scheduled command completes with TIMEOUT at AT tick + 10,000. -/
  | deferredTimeout
  /-- HELD_COMPLETION_WRITE (R390): A held completion or notice is written once its ring has room and is enabled. -/
  | heldCompletionWrite (k : Fin 3)
  /-- RING_IRQ_TIME (R386): Expiry of a ring's IRQ_TIME with an uncounted entry, setting the ring cause. -/
  | ringIrqTime (n : Fin 80)
  /-- COMMIT_APPLY (R36): At a commit tick the captured staged copies of a pending commit reach every live copy at once. -/
  | commitApply
  /-- CURATOR_START (R150): At its start tick an ARMED curator starts its ENTRY word and becomes RUNNING. -/
  | curatorStart (c : Fin 128)
  /-- WORD_START (R116): A curator starts a word at an even tick, checks it and applies its actions in order. -/
  | wordStart (c : Fin 128)
  /-- WAIT_TIMEOUT (R126): A wait word reaches the end of its HOLD without its condition and continues at NEXT. -/
  | waitTimeout (c : Fin 128)
  /-- BARRIER_RELEASE (R131): A barrier instance completes and releases every member to its NEXT word. -/
  | barrierRelease (b : Fin 16)
  /-- BARRIER_TIMEOUT (R132): A barrier member reaches its limit unreleased and continues at ALT. -/
  | barrierTimeout (c : Fin 128)
  /-- CURATOR_HALT (R136): A curator halts at a commanded halt tick. -/
  | curatorHalt (c : Fin 128)
  /-- FSC_MUTE_END (R95): 5,000 ticks after the last FSC change FSC_BUSY clears and FSC_MUTE returns to ACTIVE. -/
  | fscMuteEnd (o : Fin 96)
  /-- STARTING_END (R165): 2,000 ticks after INPUT_EN is set the input leaves STARTING for RUNNING. -/
  | startingEnd (i : Fin 32)
  /-- POINT_FORMED (R178): At e + 38 a window's accumulator is shifted and saturated into its IQ point. -/
  | pointFormed (c : Fin 512)
  /-- VERDICT_PRODUCED (R191): A point is demixed and classified into a verdict at its production tick. -/
  | verdictProduced (c : Fin 512)
  /-- VERDICT_DELIVERY (R206): At p + 16 the verdicts of one tick are delivered atomically to every observer. -/
  | verdictDelivery
  /-- RECORD_BLOCK_CLOSE (R212): A verdict-record block closes at p1 + 1,000 and is written to the ring or discarded. -/
  | recordBlockClose
  /-- SURVEY_RUN_START (R229): An ARMED survey stream starts taking source samples at its start tick. -/
  | surveyRunStart (n : Fin 64)
  /-- SURVEY_BLOCK (R231): A survey block closes with 120 samples and goes to its ring or UDP destination. -/
  | surveyBlock (n : Fin 64)
  /-- SURVEY_STOP_TICK (R235): A survey stream stops at its stop tick and delivers its last block. -/
  | surveyStopTick (n : Fin 64)
  /-- APP_RUN_START (R255): An ARMED appraiser starts its run at its start tick. -/
  | appRunStart (n : Fin 8)
  /-- APP_POINT (R242): An appraiser takes a queued point into its cells as accepted or excluded. -/
  | appPoint (n : Fin 8)
  /-- APP_RUN_END (R256): An appraiser run ends at its stop bound or limit and drains to DONE. -/
  | appRunEnd (n : Fin 8)
  /-- VIT_CAPTURE_START (R277): An armed vitrine starts capturing at its arm tick. -/
  | vitCaptureStart (v : Fin 8)
  /-- LEVEL_TRIGGER (R269): A source sample crosses LEVEL and triggers a vitrine. -/
  | levelTrigger (v : Fin 8)
  /-- TB_TICK (R268): Ball tick TB_TICK is reached and triggers a vitrine. -/
  | tbTick (v : Fin 8)
  /-- MASK_VIOLATION (R274): The first sample that breaks a vitrine mask is detected and capture stops. -/
  | maskViolation (v : Fin 8)
  /-- FILL_END (R275): A vitrine fill ends normally at A(n_last) + 2. -/
  | fillEnd (v : Fin 8)
  /-- POST_TRIGGER_WAIT_LIMIT (R275): The post-trigger wait limit passes without the last sample and the record closes as SOURCE_LOST. -/
  | postTriggerWaitLimit (v : Fin 8)
  /-- VITRINE_DONE (R276): A vitrine finishes its scan and enters DONE, firing EVP160 and starting delivery. -/
  | vitrineDone (v : Fin 8)
  /-- VITRINE_BLOCK_WRITE (R280): A vitrine writes the next block of its record when its ring has a free entry. -/
  | vitrineBlockWrite (v : Fin 8)
  /-- BIAS_UPDATE_EDGE (R290): At update edge u a strobe or clear moves codes into the DAC registers. -/
  | biasUpdateEdge (k : Fin 4)
  /-- DEGLITCH_END (R292): A deglitcher hold of 1,500 ticks ends and the output tracks again. -/
  | deglitchEnd (b : Fin 128)
  /-- SLEW_EN_APPLY (R294): A requested SLEW_EN change takes effect once every output of the bank is steady. -/
  | slewEnApply (k : Fin 4)
  /-- LDAC_B (R289): A falling edge on LDAC_Bk arrives as a load strobe for its bank. -/
  | ldacB (k : Fin 4)
  /-- CLR_B (R302): A low level on CLR_B clears all bias banks and holds the clear while low. -/
  | clrB
  /-- SUPPLY_GOOD (R298): VBP and VBN become good, letting an enabled bias bank enter WAIT_STROBE. -/
  | supplyGood
  /-- SUPPLY_LOSS (R296): VBP or VBN stops being good and every bias bank outside OFF closes its clamps and enters OFF. -/
  | supplyLoss
  /-- GPIO_EDGE (R353): A configured edge on a GPIO pin fires producer EVP(200 + g). -/
  | gpioEdge (g : Fin 16) (edge : PinEdge)
  /-- GPIO_PULSE_END (R353): A GPIO output pulse reaches the end of its width. -/
  | gpioPulseEnd (g : Fin 16)
  /-- CUE_WORD (R270): A cue word is decoded on a cue input and presented to matchers and vitrines. -/
  | cueWord (n : Fin 8) (w : BitVec 16) (err : Bool)
  /-- LUT_CELL_OUTPUT (R349): A LUT cell's final output changes and, on a rise, fires its producer. -/
  | lutCellOutput (j : Fin 32)
  /-- EVT_CURATOR_FLAG (R127): An event arrives at EVTc and sets the curator's flag or is dropped as busy. -/
  | evtCuratorFlag (c : Fin 128)
  /-- EVT_VITRINE_TRIGGER (R268): An event arrives at EVT(128 + v) as a catalogue trigger of a vitrine. -/
  | evtVitrineTrigger (v : Fin 8)
  /-- EVT_APPRAISER_START (R255): An event arrives at EVT(136 + n) and starts an armed appraiser run. -/
  | evtAppraiserStart (n : Fin 8)
  /-- EVT_BIAS_STROBE (R289): An event arrives at EVT(144 + k) as a load strobe of a bias bank. -/
  | evtBiasStrobe (k : Fin 4)
  /-- TIMESTAMP_CAPTURE (R328): An event reaches EVT(148 + n) and a capture unit stamps its raw time. -/
  | timestampCapture (n : Fin 16) (fine : BitVec 64)
  /-- EVT_GPIO_OUTPUT (R353): An event arrives at EVT(164 + g) and drives or toggles a GPIO output. -/
  | evtGpioOutput (g : Fin 16)
  /-- EVT_CUE_OUTPUT (R352): An event arrives at EVT(180 + n) and sends one cue word on CUEOn. -/
  | evtCueOutput (n : Fin 8)
  /-- HOST_INTERRUPT (R383): An event arrives at EVT(188 + j) and sets CAT_PENDING in the selected function. -/
  | hostInterrupt (j : Fin 32)
  /-- GROUP_ENABLE (R347): An event at EVT(220 + g) enables catalogue group Gg. -/
  | groupEnable (g : Fin 16)
  /-- GROUP_DISABLE (R347): An event at EVT(236 + g) disables catalogue group Gg. -/
  | groupDisable (g : Fin 16)
  /-- EVT_LEDGER_SNAPSHOT (R369): An event at EVT253 schedules a local ledger snapshot for arrival + 1,000. -/
  | evtLedgerSnapshot
  /-- WAKE (R454): An EVT252 event or WAKE_B low wakes the device from Dormant into Quiet. -/
  | wake (cause : WakeCause)
  /-- PPS_EDGE (R317): A rising edge on PPS_A or PPS_B is captured and accepted or rejected by its domain. -/
  | ppsEdge (b : Bool) (fine : BitVec 4)
  /-- PULSE_MISS (R317): A pulse acceptance window passes with no accepted edge. -/
  | pulseMiss (b : Bool)
  /-- DOMAIN_LOCK (R316): A domain's lock is applied 1,000 ticks after the fourth qualifying edge. -/
  | domainLock (b : Bool)
  /-- LOOP_UPDATE (R318): A locked domain's rate and offset update is applied 1,000 ticks after an accepted edge. -/
  | loopUpdate (b : Bool)
  /-- EPOCH_STEP (R320): At the chosen whole second the epoch of TIME_SET_EPOCH takes effect. -/
  | epochStep
  /-- DOMAIN_SWITCH (R323): At the switch tick of TIME_SWITCH the active domain changes and CONT is set. -/
  | domainSwitch
  /-- TP_EDGE (R326): A time-pulse output reaches its leading edge and fires EVP(176 + n). -/
  | tpEdge (n : Fin 4)
  /-- TP_PULSE_END (R326): A time pulse reaches the end of its WIDTH. -/
  | tpPulseEnd (n : Fin 4)
  /-- PPS_OUT_EDGE (R325): PPS_OUT rises when its source reaches a whole second and fires EVP180. -/
  | ppsOutEdge
  /-- PPS_OUT_FALL (R325): PPS_OUT falls after PPS_OUT_WIDTH ticks. -/
  | ppsOutFall
  /-- PTP_MESSAGE (R330): Receipt of a PTP message on the Ethernet port. -/
  | ptpMessage (frame : PtpFrame)
  /-- ETH_REQUEST (R401): Receipt of an ARP, Neighbor Solicitation or Echo Request, or of other traffic that is dropped. -/
  | ethRequest (req : EthRequest)
  /-- COURIER_FRAME (R432): Receipt of a courier frame carrying verdicts, a cue word, a time-sync word and a link-management word. -/
  | courierFrame (p : Fin 4) (frame : LinkFrame)
  /-- TRAINING_FALLBACK (R434): Generation 2 training has not reached MEASURE within 20 ms and the port retrains at generation 1. -/
  | trainingFallback (p : Fin 4)
  /-- MEASURE_END (R434): A port ends its 1,024 MEASURE frame periods and tests its hop against the budget. -/
  | measureEnd (p : Fin 4)
  /-- CP_LINK_TIMEOUT (R434): The 50 ms bound of link bring-up expires and CP_LINK completes with TIMEOUT. -/
  | cpLinkTimeout (p : Fin 4)
  /-- LINK_DOWN (R440): A courier port leaves UP for DOWN on a lane loss, CRC run, peer state, command or power-off. -/
  | linkDown (p : Fin 4) (cause : DownCause)
  /-- TIME_MESSAGE (R438): The reference sends a TIME message on every UP port every 1,024 ticks. -/
  | timeMessage
  /-- PARAM_MESSAGE (R438): The reference sends a PARAM message at a parameter change or every 1 ms. -/
  | paramMessage
  /-- LEDGER_SNAPSHOT (R365): At snapshot tick T every counter and environment reading is copied into the shadows. -/
  | ledgerSnapshot
  /-- LEDGER_MIRROR (R364): PD_AON mirrors the counters of a powered domain at least every 1,000 ticks. -/
  | ledgerMirror
  /-- PLL_UNLOCK (R27): The root PLL loses lock, muting outputs, stopping curators and switching PD_AON to the oscillator. -/
  | pllUnlock
  /-- PLL_RELOCK (R310): The root PLL locks again and raw time continues from the next multiple of 16. -/
  | pllRelock (fine : BitVec 64)
  /-- SUPPLY_SAG (R446): A supply first falls below its sag threshold, firing EVP218 and posting a notice. -/
  | supplySag (supply : BitVec 6) (reading : BitVec 32)
  /-- NV_INHIBIT_CLEAR (R447): VAUX and VDD_CORE have stayed good for 10 ms and the non-volatile write inhibit clears. -/
  | nvInhibitClear
  /-- ORDER_ERR (R444): A supply ordering error is detected and recorded in ORDER_CODE. -/
  | orderErr (code : BitVec 8)
  /-- POWER_LOSS (R450): A domain's switch reports an unplanned loss of power. -/
  | powerLoss (d : Fin 56)
  /-- THERMAL_SCAN (R459): PD_AON completes a scan of the 48 temperature sensors every 1 ms. -/
  | thermalScan (temps : List (BitVec 16))
  /-- THERMAL_TRIP (R465): The hardwired comparator detects a junction at 115 °C and performs the TRIP actions. -/
  | thermalTrip (sensor : BitVec 6) (temp : BitVec 16)
  /-- MUTE_POINT (R463): The mute point of a thermal STOP is reached, halting remaining curators and muting outputs. -/
  | mutePoint
  /-- TILE_POWER_DOWN (R464): At m + 1,000 the converter tiles power down after a thermal STOP. -/
  | tilePowerDown
  /-- AVS_TARGET (R455): Every 1 ms the device computes VCORE_TARGET and, in Idle, writes it to the regulator. -/
  | avsTarget
  /-- INTERLEAVE_TRACKING (R478): Background tracking updates an input's slice trims at most once per 1,000,000 ticks. -/
  | interleaveTracking (i : Fin 32)
  /-- SOURCE_ROTATION (R479): The conservator exchanges two unary current sources of an ACTIVE output during a play gap. -/
  | sourceRotation (o : Fin 96)
  /-- CAL_OUTPUT_END (R472): Foreground calibration of an output ends and CAL_OUTPUT completes. -/
  | calOutputEnd
  /-- CAL_INPUT_END (R474): At c + 150,000 each calibrated input returns to RUNNING and CAL_INPUT completes. -/
  | calInputEnd
  /-- CAL_BIAS_END (R475): At c + 1,000,000 each calibrated bank returns to ACTIVE and applies its deferred strobe. -/
  | calBiasEnd
  /-- SYS_MEASUREMENT_END (R480): An appraiser's system-calibration measurement ends and CAL_SYS_ZERO or CAL_SYS_FULL completes. -/
  | sysMeasurementEnd
  /-- DORMANT_ENTRY (R453): 10 µs after PWR_STATE completes, every domain but PD_AON powers off. -/
  | dormantEntry
  /-- COLD_RESET (R487): PORST_B, the power-on detector or brown-out resets the whole device. -/
  | coldReset
  /-- WARM_RESET (R488): SYSRST_B or SYS_RESET 0x00 resets every domain except the bias banks. -/
  | warmReset
  /-- DOCENT_RESTART (R489): The management cores restart while the timed domain keeps running. -/
  | docentRestart (cause : BitVec 8)
  /-- FLR (R397): Function-level reset of PF0 or PF1 resets that function's rings, mailboxes and MSI-X state. -/
  | flr (f : Fn)
  /-- LINK_RESET (R397): PCIe hot reset, link down or PCIE_PERST_B resets both functions and the PHY. -/
  | linkReset
  /-- BOOT (R496): After a reset the boot ROM loads and checks a Docent image and the Docent sets READY. -/
  | boot
  /-- CLR_B_RELEASE (R302): CLR_B returns high, ending the held clear so that strobes and input-register writes act again and CLR_ACTIVE clears. -/
  | clrBRelease
  /-- FRAME_LOCK (R434): Frame lock is found on all lanes at both ends and a training courier port enters MEASURE. -/
  | frameLock (p : Fin 4)
  /-- ETH_LINK_UP (R404): The Ethernet PCS aligns and LINK_UP sets, letting survey datagrams and completions be sent. -/
  | ethLinkUp
  /-- ETH_LINK_DOWN (R233): The Ethernet link goes down and LINK_UP clears, so survey datagrams are discarded as lost. -/
  | ethLinkDown
  /-- CUE_OUTPUT_WORD_END (R352): A cue word on CUEOn finishes its 120 ticks and the output is no longer busy. -/
  | cueOutputWordEnd (n : Fin 8)
  /-- SUPPLY_SAG_END (R446): No supply remains sagged, the EVP218 level falls, and a later sag fires the producer again. -/
  | supplySagEnd
  /-- ADC_OVR (R160): An ADC sample reaches a code limit, which sets ADC_OVR, records OVR_TICK and counts an over-range sample. -/
  | adcOvr (i : Fin 32)
  /-- OVERLOAD (R306): A bias output buffer reaches its current limit, which sets the sticky OVERLOAD flag and counts an overload. -/
  | overload (b : Fin 128)
  /-- PTP_MESSAGE_INTERVAL (R330): A PTP message interval expires and the port sends its Sync, Announce or Delay_Req message. -/
  | ptpMessageInterval
  /-- PAUSE_FRAME (R400): An IEEE 802.3 PAUSE frame is received and the port honours it by pausing transmission. -/
  | pauseFrame (quanta : BitVec 16)
deriving DecidableEq, Repr

end Sys2Proof
end

