-- ==== Sys2Proof/Machine/State.lean ====
section
/-! DEFINITION. The state of the ZF9512. Every field the object field maps name lives in the object images (`objs`,
and `live` for the live copies of staged fields, R36) at the bit position its map gives it; the structures below
hold what the spec gives the machine beside its objects. Everything is plain data. Ticks are raw time divided by
16 (R8, R25). A docstring ends with the width, the rule that names the piece, and its reset value. -/

namespace Sys2Proof.Machine

/-- Why the model stops. -/
inductive Fault where
  /-- Raised by no meaning: every command of the table has an effect on every operand. It stands for a happening that the
  spec gives no effect. Safe: the model would stop where no device behaviour is described. -/
  | illFormed
deriving DecidableEq, Repr

/-- Why a command has no meaning in the model. -/
inductive Refusal where
  /-- Raised by `exec` for a command whose meaning is not written. Safe: nothing is claimed. -/
  | notModelled (mnemonic : String)
deriving DecidableEq, Repr

/-- One change of a live image, kept so that a later evaluation whose reference instant lies before the change uses
the values then in force (R50, R53). `tick` counts on through a wrap of raw time. `isSet` marks a set-type frame operation (R60). -/
structure Undo where
  key : Nat
  tick : Nat
  old : Nat
  isSet : Bool
deriving DecidableEq, Repr

/-- How a frame that the Ethernet port sends is addressed: destination MAC address, and the tag control word of its
IEEE 802.1Q tag (R400, R401). -/
structure EthTx where
  mac : Nat
  tag : Option Nat
deriving DecidableEq, Repr

/-- What leaves the device (the model's record of it, newest first). -/
inductive Outgoing where
  /-- A DMA write with the requester ID of a function (R385). -/
  | dma (f : Fn) (addr : Nat) (data : List Byte)
  /-- A DMA read of a number of bytes with the requester ID of a function (R385, R399, R408). -/
  | dmaRead (f : Fn) (addr len : Nat)
  /-- An MSI-X message of a function: address and data of its table entry (R382). -/
  | msix (f : Fn) (v : Nat)
  /-- A UDP datagram: frame, destination address, port, source port, payload (R233, R403). -/
  | datagram (e : EthTx) (ip port srcPort : Nat) (payload : List Byte)
  /-- An answer of the Ethernet port to ARP, Neighbor Solicitation or Echo, to an IP address (R401). -/
  | ethAnswer (e : EthTx) (ip : Nat) (kind : EthTraffic)
  /-- A PTP message: frame, destination IP address (0 at layer 2), bytes (R330, R401). -/
  | ptp (e : EthTx) (ip : Nat) (msg : List Byte)
  /-- A cue word on an output: its three characters, control or data, and the raw time of its first bit (R352). -/
  | cue (n : Nat) (chars : List (Bool × Nat)) (raw : Nat)
  /-- A courier frame: the 64 scrambled bits that each of the four lanes carries, lane 0 first, least significant bit first (R431). -/
  | courier (p : Nat) (lanes : List Nat)
  /-- An AVSBus write of a voltage in units of 0.1 mV (R455). -/
  | avs (v : Nat)
  /-- A rising or falling edge of a time pulse or PPS_OUT: pin (0–3 TP, 4 PPS_OUT), level, raw time (R325, R326). -/
  | edge (pin : Nat) (high : Bool) (raw : Nat)
deriving DecidableEq, Repr

/-- A pulse in progress on a tone slot. -/
structure Play where
  slot : Nat
  /-- Descriptor image taken at the start tick (R75). -/
  desc : Nat
  t0 : Nat
  fine : Nat
  /-- Frame of the pulse (R79). -/
  frame : Nat
  /-- First sample tick that is dropped (R83, R138). -/
  cut : Option Nat
  /-- A sample of this play was silenced and counted (R85). -/
  band : Bool
  /-- A sample of this play was discarded at the ball and counted (R99). -/
  muted : Bool
  /-- Envelope samples fetched, newest first, the last 64, and how many were fetched: one a tick, four real ones a tick in
  BASEBAND (R70, R78, R92). -/
  env : List Iq
  got : Nat
deriving DecidableEq, Repr

/-- What an output's slots add up to in a sample tick: 16-bit I and Q, or four real samples in BASEBAND (R86, R93). -/
structure SumRow where
  tick : Nat
  z : Iq
  four : List Int
deriving DecidableEq, Repr

/-- A change of a frame that waits for the frame clock: an operation, or a commit of a captured image. -/
inductive FrameChange where
  | op (f fop arg : Nat)
  | commit (f cap : Nat) (keep : Bool)
deriving DecidableEq, Repr

/-- Drive and probe synthesis (03_drive_synthesis.md). -/
structure DrvGroup where
  /-- Frame changes that wait for their gated clock, oldest first; R26, R452; DESIGN CHOICE; reset none. -/
  held : List FrameChange
  /-- Pulses in progress; one at most per slot playing; R82; reset none. -/
  plays : List Play
  /-- Tick at which FSC_BUSY of an output ends; 64 bits each; R95; reset 0. -/
  fscEnd : Sparse Nat
  /-- Tick of the latest sample tick at which a slot of the output was PLAYING, plus one; R479; reset 0. -/
  lastPlaying : Sparse Nat
  /-- Tick of an output's last current-source exchange, plus one; R479; reset 0. -/
  lastRot : Sparse Nat
  /-- Number of exchanges made on an output; R479; reset 0. -/
  rotations : Sparse Nat
  /-- Sums of an output's last 160 sample ticks that are not zero, newest first; R86, R87; reset none. -/
  sums : Sparse (List SumRow)
deriving DecidableEq, Repr

/-- A load of archive or kernel words: its tick, its first key (kernel keys from 2^24), the number of words, and the memory
and its ECC conditions before it (R74). -/
structure LoadRec where
  tick : Nat
  key : Nat
  count : Nat
  words : Sparse Nat
  errs : Sparse Nat
deriving DecidableEq, Repr

/-- Archive banks and the kernel archive (R70, R71). -/
structure ArcGroup where
  /-- Archive words, 96 banks of 65,536 words of 32 bits, key 65536·bank + address; R70; reset lost, read as 0. -/
  words : Sparse Nat
  /-- Kernel archive, 1,048,576 words of 32 bits; R71; reset lost, read as 0. -/
  kern : Sparse Nat
  /-- ECC condition of an archive word: 0 good, 1 single-bit error, 2 uncorrectable; R73; reset 0. -/
  wordErr : Sparse Nat
  /-- ECC condition of a kernel word; R73; reset 0. -/
  kernErr : Sparse Nat
  /-- Loads of the last 24 ticks, newest first; R74; reset none. -/
  loads : List LoadRec
  /-- Descriptors written in the tick in progress with their images before: a word that starts at the tick of the write
  plays the old values; R75; reset none. -/
  descOld : List (Nat × Nat)
deriving DecidableEq, Repr

/-- A slot's MEAS record (R118). -/
structure MeasRec where
  slot : Nat
  rc : Nat
  t0 : Nat
deriving DecidableEq, Repr

/-- What a curator holds beside OBJ_CURATOR. -/
structure CurRt where
  /-- A word is in progress; R111; reset no. -/
  inWord : Bool
  /-- Start tick of the word in progress; R111; reset 0. -/
  t0 : Nat
  /-- The word in progress, 160 bits; R112; reset 0. -/
  word : Nat
  /-- Start tick of the next word, when it is decided; R111; reset none. -/
  nextAt : Option Nat
  /-- Address of the next word; R115; reset 0. -/
  nextPc : Nat
  /-- The slots' MEAS records; R118; reset empty. -/
  meas : List MeasRec
  /-- Tick at which the flag set; R123; reset 0. -/
  flagTick : Nat
  /-- Tick of a halt that is not a CUR_STOP's, with its reason (1 PROGRAM, 4 SYSTEM); R137; reset none. -/
  haltAt : Option (Nat × Nat)
  /-- Halt tick of the CUR_STOP whose request is pending; R137, R153; reset none. -/
  stopAt : Option Nat
  /-- A stop-at-shot request of a CUR_STOP is pending; R137, R153; reset no. -/
  atShot : Bool
  /-- A stop-at-shot request of a thermal STOP is pending; R137, R462; reset no. -/
  thermalShot : Bool
  /-- The last accession failed verification of this curator; R144; reset no. -/
  verifyFailed : Bool
  /-- A test of the word in progress read a STALE verdict as erasure; R128; reset no. -/
  staleSeen : Bool
  /-- Identity, plus one, of the CUR_STOP whose request is pending; R153, R154; reset 0. -/
  stopId : Nat
deriving DecidableEq, Repr

/-- A curator that holds nothing. -/
def CurRt.idle : CurRt := ⟨false, 0, 0, none, 0, [], 0, none, none, false, false, false, false, 0⟩

/-- Curators, control stores and barriers. -/
structure CurGroup where
  /-- Control stores, 128 of 4,096 words of 160 bits, key 4096·c + address; R110; reset 0. -/
  store : Sparse Nat
  /-- ECC condition of a store word: 0 good, 1 single-bit, 2 uncorrectable; R114; reset 0. -/
  storeErr : Sparse Nat
  /-- Running state of each curator; reset idle. -/
  rt : Sparse CurRt
  /-- Membership masks of barriers 1–15, 128 bits each; R155; reset 0. -/
  barMask : Sparse Nat
  /-- Release tick of a completed barrier instance, 0 when none; R131; reset 0. -/
  barRel : Sparse Nat
deriving DecidableEq, Repr

/-- A readout window (R171). -/
structure Win where
  rc : Nat
  slot : Nat
  t0 : Nat
  s : Nat
  e : Nat
  kbase : Nat
  taps : Nat
  frame : Nat
  gain : Nat
  oshift : Nat
  acc : Iq
  gsatI : Bool
  gsatQ : Bool
  /-- Some sample lies in a calibration interval: the point will be held (R183). -/
  held : Bool
  /-- A product component saturated and was counted; an out-of-band sample was counted. -/
  clip : Bool
  band : Bool
  /-- Arming curator and its shot number (R118). -/
  cur : Nat
  shot : Nat
deriving DecidableEq, Repr

/-- A point formed and on its way to its discriminator (R175). -/
structure Pt where
  rc : Nat
  z : Iq
  ovf : Bool
  stale : Bool
  /-- Tick at which the verdict is produced: e + 42 or e + 46. -/
  p : Nat
  e : Nat
  s : Nat
  shot : Nat
  /-- Demix membership and the live coefficient image taken at the point tick (R188). -/
  member : Bool
  demix : Nat
  /-- The demix stage is passed, and the point took another member's correction (R181). -/
  demixed : Bool
  demixMark : Bool
deriving DecidableEq, Repr

/-- Readout inputs, channels and windows. -/
structure RdGroup where
  /-- Pending windows, at most four per channel; R173, R174; reset none. -/
  wins : List Win
  /-- Points formed whose verdict is not yet produced; R175; reset none. -/
  pts : List Pt
  /-- First ball tick and frame of a channel's windows, newest first, back to the one in force 64 ticks ago; R169; reset
  none. -/
  frames : Sparse (List (Nat × Nat))
  /-- End of STARTING of an input; R165; reset 0. -/
  startEnd : Sparse Nat
  /-- Calibration intervals (input, first ball tick, end); R183; reset none. -/
  calIvs : List (Nat × Nat × Nat)
  /-- Spans of ball ticks whose DDC samples are undefined (input, first, end); R164, R481; reset none. -/
  undef : List (Nat × Nat × Nat)
  /-- Over-range samples of the last 96 ticks, newest first: (input, ball tick); R160; reset none. -/
  overs : List (Nat × Nat)
deriving DecidableEq, Repr

/-- One delivery of a verdict-table entry (R206). -/
structure Verdict where
  valid : Bool
  code : Nat
  ovf : Bool
  stale : Bool
  drift : Bool
  demix : Bool
  prod : Nat
  deliv : Nat
deriving DecidableEq, Repr

def Verdict.none : Verdict := ⟨false, 0, false, false, false, false, 0, 0⟩

/-- A verdict-table entry: its latest delivery and the one before, which a cycle that begins at the delivery tick
still sees (R123). -/
structure VEntry where
  cur : Verdict
  prev : Verdict
deriving DecidableEq, Repr

def VEntry.none : VEntry := ⟨Verdict.none, Verdict.none⟩

/-- A verdict between production and delivery (R206, R437). -/
structure VPend where
  idx : Nat
  v : Verdict
  /-- Courier port of an import. -/
  port : Nat
  /-- ERASE_WHY of a local verdict (R205). -/
  why : Nat
  /-- What appraisers take (R240): the point, SHOT, first ball tick. -/
  z : Iq
  shot : Nat
  s : Nat
deriving DecidableEq, Repr

/-- A verdict record awaiting its block (R211). -/
structure VRec where
  p : Nat
  idx : Nat
  cf : Nat
  shot : Nat
  s : Nat
deriving DecidableEq, Repr

/-- Discriminators, verdict bus and records. -/
structure VdGroup where
  /-- Drift latches, one bit per channel; R198; reset 0. -/
  drift : Nat
  /-- Verdict table, 1,024 entries; R206; reset never written. -/
  table : Sparse VEntry
  /-- Verdicts not yet delivered; R206; reset none. -/
  flight : List VPend
  /-- Records of the open block, in order; R212; reset none. -/
  block : List VRec
deriving DecidableEq, Repr

/-- A survey run: the chain of one stream. -/
structure SvRun where
  /-- OBJ_SURVEY image taken at the start. -/
  cfg : Nat
  /-- First source sample tick a (R229). -/
  a : Nat
  /-- First source sample tick that is not taken, once stopped (R235). -/
  tp : Option Nat
  /-- Number of source samples taken. -/
  taken : Nat
  /-- CIC stage registers of I and of Q: integrators, and delay lines of the combs, 48 bits each (R223). -/
  intI : List Int
  intQ : List Int
  combI : List (List Int)
  combQ : List (List Int)
  /-- CIC outputs with a saturation mark, newest first, the last 15; number formed. -/
  cic : List (Iq × Bool)
  nCic : Nat
  /-- Droop compensator outputs with a saturation mark, newest first, the last 16; number formed. -/
  dr : List (Iq × Bool)
  nDr : Nat
  /-- Number of grid positions formed, the run-in samples before the first delivered one included (R229). -/
  formed : Nat
  /-- Number of samples delivered; samples of the open block, newest first. -/
  delivered : Nat
  block : List Iq
  blkSat : Bool
  blkStale : Bool
  /-- Blocks of the open datagram, oldest first (R233). -/
  dgram : List (List Byte)
  /-- Latest source sample that entered as zero, plus one (R222). -/
  lastStale : Nat
deriving DecidableEq, Repr

def SvRun.none : SvRun := ⟨0, 0, .none, 0, [], [], [], [], [], 0, [], 0, 0, 0, [], false, false, [], 0⟩

/-- Survey engine. -/
structure SvGroup where
  /-- Runs of the 64 streams; R229; reset none. -/
  run : Sparse SvRun
  /-- Stop asked of a stream: tick plus one, and identity plus one of the SURVEY_STOP; R235; reset none. -/
  stop : Sparse (Nat × Nat)
deriving DecidableEq, Repr

/-- A point waiting in an appraiser's queue (R240, R242). -/
structure ApPt where
  rc : Nat
  z : Iq
  code : Nat
  ovf : Bool
  stale : Bool
  p : Nat
  shot : Nat
  s : Nat
  /-- Tick at which it may be in its cells. -/
  ready : Nat
deriving DecidableEq, Repr

/-- A cell of an appraiser's memory (R239): sums or counts. -/
structure Cell where
  i : Int
  q : Int
  n : Nat
  m : Nat
  satI : Bool
  satQ : Bool
deriving DecidableEq, Repr

def Cell.zero : Cell := ⟨0, 0, 0, 0, false, false⟩

/-- An appraiser's run. -/
structure ApRun where
  /-- OBJ_APPRAISER image taken at APP_START. -/
  cfg : Nat
  /-- Stop bound; none without one (R256). -/
  bound : Option Nat
  /-- END_REASON that the bound gives (R254). -/
  reason : Nat
  queue : List ApPt
  /-- Points of the latest production tick already taken (R247). -/
  seen : List ApPt
  /-- Cycle in which the last queued point will be in its cells, and the lane operations it uses (R242). -/
  slot : Nat × Nat
  cells : Sparse Cell
  /-- OUTSIDE counts by rank (R248). -/
  outside : Sparse Nat
  /-- First ball tick of the first accepted point's window (R254). -/
  first : Option Nat
  staleEx : Bool
  erased : Bool
  prodSat : Bool
  ovf : Bool
  dropped : Bool
  /-- Tick at which the run is DONE, once known (R256). -/
  doneAt : Option Nat
deriving DecidableEq, Repr

def ApRun.none : ApRun :=
  ⟨0, .none, 0, [], [], (0, 0), [], [], .none, false, false, false, false, false, .none⟩

/-- Appraisers. -/
structure ApGroup where
  /-- Runs and memories of the eight appraisers; R239; reset empty. -/
  run : Sparse ApRun
deriving DecidableEq, Repr

/-- A vitrine's capture. -/
structure ViRun where
  /-- OBJ_VITRINE image taken at VIT_ARM. -/
  cfg : Nat
  ta : Nat
  /-- The arm tick has come (R277). -/
  started : Bool
  /-- Copied mask words (R272). -/
  mask : List Nat
  /-- Captured samples, newest first: ball tick, from a calibration interval or not, samples (kinds 1 and 2 hold I and
  then Q). -/
  cap : List (Nat × Bool × List Int)
  /-- Ball tick and index of the trigger, first and last tick of the fill (R266). -/
  trig : Nat
  trigIndex : Nat
  first : Nat
  nlast : Nat
  /-- The level comparator has seen a sample low enough for a rising crossing, high enough for a falling one (R269). -/
  lowSeen : Bool
  highSeen : Bool
  /-- Level crossings that have yet to trigger: ball tick and place within the tick (R268). -/
  lvl : List (Nat × Nat)
  /-- Next ball tick that the level comparator looks at (R269). -/
  scan : Nat
  /-- Next ball tick to test against the mask; a violation found: detection tick and index (R273, R274). -/
  testFrom : Nat
  viol : Option (Nat × Nat)
  /-- The mask violation has been detected: number of samples of the record. -/
  cutAt : Option Nat
  /-- Tick at which DONE is entered (R276). -/
  doneAt : Option Nat
  /-- The source was lost from this tick on (R265). -/
  lostAt : Option Nat
  /-- Blocks not yet written, oldest first: raw time, flags, body (R279). -/
  blocks : List (Nat × Nat × List Byte)
  /-- The record has no full pre-trigger part (R266). -/
  preShort : Bool
  /-- OBJ_VITRINE image before the trigger was taken, and whether an event at its task input gave the trigger in that tick
  (R271, R278). -/
  before : Nat
  byEvt : Bool
  /-- The trigger taken has yet to be counted: an earlier one may take its place (R271, R362). -/
  unsettled : Bool
  /-- Ball ticks of the last 128 ticks whose trigger the vitrine ignored, newest first (R271). -/
  ignored : List Nat
deriving DecidableEq, Repr

def ViRun.none : ViRun :=
  ⟨0, 0, false, [], [], 0, 0, 0, 0, false, false, [], 0, 0, .none, .none, .none, .none, [], false, 0, false, false, []⟩

/-- Vitrines. -/
structure ViGroup where
  /-- Captures of the eight vitrines; R263 to R283; reset none. -/
  run : Sparse ViRun
deriving DecidableEq, Repr

/-- A change of DAC registers at an update edge (R290, R302). -/
structure BiUpd where
  bank : Nat
  /-- Tick of the strobe or clear, and its update edge. -/
  t : Nat
  u : Nat
  /-- A clear. -/
  clear : Bool
  /-- (output of the bank, code) pairs of a strobe. -/
  codes : List (Nat × Nat)
  /-- The releasing strobe (R291). -/
  release : Bool
deriving DecidableEq, Repr

/-- Bias banks and outputs beside their objects. -/
structure BiGroup where
  /-- Strobes of this tick, per bank: the mask of outputs that take part, bit 32 when a strobe reached the bank, bit 33
  when an event is among its sources, bit 34 when a disabled source gave one; R289; reset 0. -/
  strobe : Sparse Nat
  /-- Strobes that BIAS_WRITE gives one tick later: (tick, bank, mask); R305; reset none. -/
  after : List (Nat × Nat × Nat)
  /-- Previous content of an input register and the tick of its last write; R290; reset none. -/
  prev : Sparse (Nat × Nat)
  /-- Changes waiting for their update edge; R290; reset none. -/
  upd : List BiUpd
  /-- End of a deglitcher hold; R292; reset 0. -/
  holdEnd : Sparse Nat
  /-- Ticks a frozen hold still had; R303; reset 0. -/
  holdLeft : Sparse Nat
  /-- Bank-clock edge from which a bank's frozen motion goes on, 0 for none yet; R303; reset 0. -/
  resumeAt : Sparse Nat
  /-- Outputs whose ramp LOCKED froze, 128 bits; R303; reset 0. -/
  frozen : Nat
  /-- Governing SLEW_EN of each bank, 4 bits; R294; reset 0. -/
  slewGov : Nat
  /-- Tick at which CAL of a bank ended, plus one; R304; reset 0. -/
  calEnd : Sparse Nat
  /-- Outputs of a deferred strobe, with bit 32 when one was deferred; R304; reset 0. -/
  deferred : Sparse Nat
  /-- Earliest tick of a releasing strobe in RANGING; R300; reset 0. -/
  rangeRel : Sparse Nat
  /-- Banks whose releasing strobe waits for its edge, 4 bits; R291; reset 0. -/
  releasing : Nat
  /-- CLR_B holds the clear; R302; reset no. -/
  clrLow : Bool
  /-- VBP and VBN are good; R296; reset no. -/
  supplyGood : Bool
  /-- BIAS_STROBE commands waiting for the end of the tick; R305; reset none. -/
  waiting : List Nat
deriving DecidableEq, Repr

/-- One set of time parameters, in force from an instant of raw time without its wraps (R313). -/
structure TimeSet where
  from_ : Nat
  rateA : Int
  offA : Int
  rateB : Int
  offB : Int
  act : Bool
  cont0 : Int
  contAt : Nat
  slew : Nat
  /-- The set began with a change that R313 keeps: a loop update, lock, switch or epoch step. -/
  kept : Bool
  /-- Sum of the epoch steps made up to the set, in seconds (R316, R320). -/
  steps : Int
deriving DecidableEq, Repr

/-- A time domain beside its object fields. -/
structure DomRt where
  /-- Domain instants of the latest edges, newest first (R316). -/
  edges : List Int
  /-- RF and r_prev (R318). -/
  rf : Int
  rprev : Int
  /-- Locked since cold reset and since the last unlock (R316). -/
  everLocked : Bool
  misses : Nat
  /-- Lock to be applied: tick, rate, instant of the fourth edge. -/
  lockAt : Option (Nat × Int × Int)
  /-- Loop updates to be applied: (tick, new rate). -/
  updates : List (Nat × Int)
  /-- Whole second at which the next edge is expected (R317). -/
  expect : Int
deriving DecidableEq, Repr

def DomRt.none : DomRt := ⟨[], 0, 0, false, 0, .none, [], 0⟩

/-- Time reference beside OBJ_TIME. -/
structure TmGroup where
  /-- Current parameters: rates 40 bits, offsets 112 bits, active domain, continuity offset 64 bits; R311, R323; reset 0. -/
  now : TimeSet
  /-- Earlier parameter sets, newest first, back over the last 64 kept changes; R313; reset none. -/
  hist : List TimeSet
  domA : DomRt
  domB : DomRt
  /-- Epoch steps waiting for a whole second: earliest tick, seconds value, command; R320; reset none. -/
  epoch : List (Nat × Nat × Nat)
  /-- Switch waiting: (tick, target, step, command); R322; reset none. -/
  switches : List (Nat × Bool × Bool × Nat)
  /-- Next edge index of a time pulse, plus one; 0 when idle; R326; reset 0. -/
  tpNext : Sparse Nat
  /-- Raw instant at which the pulse of a time-pulse output ends, 0 outside a pulse; R326; reset 0. -/
  tpEnd : Sparse Nat
  /-- Raw instants between which a time-pulse output was last active, the first plus one; R326, R338; reset 0. -/
  tpSpan : Sparse (Nat × Nat)
  /-- Least whole second that PPS_OUT may emit next: the last emitted plus one; R325; reset 0. -/
  ppsLast : Int
  /-- Raw instant at which PPS_OUT falls; 0 while low; R325; reset 0. -/
  ppsFall : Nat
  /-- Raw instants between which PPS_OUT was last high, the first plus one; R325, R338; reset 0. -/
  ppsSpan : Nat × Nat
  /-- Stamps of the capture units, oldest first: (unit, stamp, count); R328; reset none. -/
  stamps : List (Nat × Nat × Nat)
  /-- Stamp count of a unit; R329; reset 0. -/
  stampCount : Sparse Nat
  /-- The root PLL is unlocked; R26, R310, R496; reset yes, until its first lock. -/
  unlocked : Bool
  /-- The root PLL has locked since cold reset; R496; reset no. -/
  everLocked : Bool
  /-- A follower has made its alignment load; R333; reset no. -/
  aligned : Bool
  /-- SYS_STATE has been TRACKING with EPOCH_SET 1; R331; reset no. -/
  tracked : Bool
  /-- Fine slots that the tick in progress covers: 16, 320 with the root PLL unlocked, or what a relock leaves of them; R310; reset
  320. -/
  span : Nat
  /-- Raw instants, without wraps, between which the tick in progress looks for what falls at an instant: those that no tick before
  it has looked at, up to the end it had when it began; R310; reset 0 and 320. -/
  lookFrom : Nat
  lookTo : Nat
  /-- PARAM messages that a follower has received before its load of raw time, oldest first; R333, R438; reset none. -/
  early : List (List Nat)
deriving DecidableEq, Repr

/-- An event on its way to a task input (R341, R342). -/
structure Flight where
  evt : Nat
  /-- Raw instant at which it reaches the input. -/
  reach : Nat
  /-- Arrival tick. -/
  arrival : Nat
  /-- Instant that a capture unit stamps (R328). -/
  stamp : Nat
  /-- Events that merged with this one (R343). -/
  merged : Nat
deriving DecidableEq, Repr

/-- A LUT cell (R341, R349, R350). -/
structure LutRt where
  /-- Final output as presented to the fabric. -/
  out : Bool
  /-- Changes of the output since the tick in progress began, and still to come, oldest first: raw instant and new level. -/
  queue : List (Nat × Bool)
  /-- Final output before the output delay. -/
  last : Bool
  filt : Bool
  count : Nat
  ff : Bool
deriving DecidableEq, Repr

def LutRt.none : LutRt := ⟨false, [], false, false, 0, false⟩

/-- Event catalogue beside OBJ_CATALOGUE. -/
structure CatGroup where
  /-- Raw instant, plus one, of a producer's last fired event; R340; reset 0. -/
  last : Sparse Nat
  /-- Events on their way to task inputs; R341; reset none. -/
  flight : List Flight
  /-- Producer instants still to come: (tick, producer, ball instant); changes of GPIO outputs: (tick, 256 + pin, 0 to
  invert or 1 for high); changes of sampled pin levels: (tick, 512 + pin, twice the ball instant plus the level); R353;
  reset none. -/
  due : List (Nat × Nat × Nat)
  /-- LUT cells; R349, R350; reset 0. -/
  lut : Sparse LutRt
  /-- Levels at the GPIO balls driven from outside, 16 bits; R353; reset 0. -/
  gpioIn : Nat
  /-- Levels the device drives on GPIO outputs, 16 bits; R353; reset 0. -/
  gpioOut : Nat
  /-- Pin levels as the input sampler presents them to LUT cells, 16 bits; R338, R341, R353; reset 0. -/
  gpioSeen : Nat
  /-- End of a GPIO output pulse; R353; reset 0. -/
  gpioEnd : Sparse Nat
  /-- End of the word on a cue output; R352; reset 0. -/
  cueEnd : Sparse Nat
  /-- The word on a cue output; 16 bits; R352; reset 0. -/
  cueWord : Sparse Nat
  /-- Last enable and disable instants of groups, for clashes: (group, reach, twice the new level plus 1 where the gate
  changed); R347; reset none. -/
  groupEv : List (Nat × Nat × Nat)
deriving DecidableEq, Repr

/-- Ledger. -/
structure LdgGroup where
  /-- Counters, 64 bits each, key class·2^20 + instance·32 + entry; R362; reset 0. -/
  cnt : Sparse Nat
  /-- Mirrored values in PD_AON; R364; reset 0. -/
  mirror : Sparse Nat
  /-- Tick of the last mirroring; R364; reset 0. -/
  mirrorAt : Nat
  /-- Domains whose units are LOSSY, 56 bits; R364; reset 0. -/
  lossy : Nat
  /-- 0 FREE, 1 PENDING, 2 HELD; R367; reset FREE. -/
  st : Nat
  /-- Snapshot tick T; R365; reset 0. -/
  tick : Nat
  /-- Snapshot number; R368; reset 0. -/
  num : Nat
  /-- ORIGIN_NUM and ORIGIN of the pending or held snapshot; R371; reset 0. -/
  originNum : Nat
  origin : Nat
  /-- Ports the request was sent on; R370; reset 0. -/
  sentTo : Nat
  /-- Shadows of the counters; R365; reset none. -/
  shadow : Sparse Nat
  /-- Domains on at T; R365; reset 0. -/
  shadowOn : Nat
  shadowLossy : Nat
  /-- Environment readings of the snapshot; R366; reset none. -/
  shadowEnv : List Int
  /-- LDG_SNAP commands that complete at a tick, T + 8: the tick, the command's identity, the ports its request went to, and the
  snapshot's number once it is taken; R372; reset none. -/
  waiting : List (Nat × Nat × Nat × Nat)
  /-- EVT253 events of the tick in progress, decided at its end; R339, R374; reset 0. -/
  events : Nat
  /-- Record sources whose next record carries LOST, by their number in ledger class 0x19, 98 bits; R16, R17; reset 0. -/
  lost : Nat
deriving DecidableEq, Repr

/-- Registers of a ring (R386). -/
structure Ring where
  base : Nat
  length : Nat
  vector : Nat
  wbEn : Bool
  irqEn : Bool
  en : Bool
  prod : Nat
  cons : Nat
  ptrErr : Bool
  lenErr : Bool
  lost : Bool
  staged : Option Nat
  /-- 0 unassigned, 1 PF0, 2 PF1. -/
  owner : Nat
  wb : Nat
  irqTime : Nat
  irqCountM1 : Nat
  /-- Counted entries since the last cause, and the tick of the first of them (R386). -/
  counted : Nat
  firstAt : Nat
  /-- Consumer wraps at this old length for the pass in progress (R42). -/
  oldLen : Option Nat
  /-- Unread entries of a record ring: index and what R389 needs of a discarded one (records of a verdict-record
  block, stream or vitrine of the others). -/
  tags : List (Nat × Nat)
deriving DecidableEq, Repr

/-- A ring at its reset values with an owner (R386). -/
def Ring.fresh (owner : Nat) : Ring :=
  ⟨0, 16, 0, false, false, false, 0, 0, false, false, false, none, owner, 0, 0, 0, 0, 0, none, []⟩

/-- Reset value of ring n (R385): rings 0, 1, 3, 4 belong to PF0, 2 and 5 to PF1, the others to nobody. -/
def ringReset (n : Nat) : Ring :=
  Ring.fresh (if n = 0 ∨ n = 1 ∨ n = 3 ∨ n = 4 then 1 else if n = 2 ∨ n = 5 then 2 else 0)

/-- A mailbox: both slots (R392). -/
structure Mbox where
  /-- H2D_DATA as a 2,048-bit image; R392; reset 0. -/
  h2d : Nat
  /-- H2D_LEN as written, and the length of the posted message; 9 bits each; R392; reset 0. -/
  h2dLen : Nat
  h2dPosted : Nat
  h2dFull : Bool
  ack : Bool
  h2dRreset : Bool
  h2dWithdrawn : Bool
  h2dTimeout : Bool
  tmoUs : Nat
  /-- Tick at which the H2D timeout sets, 0 for none. -/
  h2dDue : Nat
  /-- D2H_DATA as a 2,048-bit image; R392; reset 0. -/
  d2h : Nat
  d2hLen : Nat
  d2hFull : Bool
  d2hDoorbell : Bool
  d2hRreset : Bool
  d2hWithdrawn : Bool
  d2hTimeout : Bool
  d2hDue : Nat
  irqEn : Nat
  /-- The Docent's own record: its D2H message was taken. -/
  d2hAck : Bool
  /-- The Docent's own DOORBELL flag: an H2D message was posted and not yet taken; R393; reset 0. -/
  h2dBell : Bool
deriving DecidableEq, Repr

/-- A mailbox at reset (R392). -/
def Mbox.empty : Mbox :=
  ⟨0, 0, 0, false, false, false, false, false, 0, 0, 0, 0, false, false, false, false, false, 0, 0, false, false⟩

/-- Registers of one function (R380, R381, R384). -/
structure FnRegs where
  /-- MSI-X table, 32 entries of 128 bits; reset every mask bit 1. -/
  msix : Sparse Nat
  pba : Nat
  catPending : Nat
  /-- MB_POST, MB_ACK, MB_TMO, MB_NOTE: 16 bits. -/
  mbCause : Nat
  /-- MB_VEC0 to MB_VEC3 register. -/
  mbVec : Nat
  scratch : Nat
  /-- Timebase latch: raw, seconds, ns, the packed register 0x2014. -/
  latch : Nat × Nat × Nat × Nat
  /-- Notice route (R423). -/
  route : Nat
  /-- Routes, by number, on which a notice was dropped since the last that was posted there (R422); reset 0. -/
  noticeLost : Nat
  /-- Vectors that sent a message in the tick in progress (R382); 32 bits; reset 0. -/
  sentNow : Nat
  /-- Catalogue vectors whose event of the tick in progress found them pending (R383); 32 bits; reset 0. -/
  catBusy : Nat
deriving DecidableEq, Repr

def FnRegs.fresh (route : Nat) : FnRegs := ⟨[], 0, 0, 0, 0, 0, (0, 0, 0, 0), route, 0, 0, 0⟩

/-- A completion or notice held for its ring (R390). -/
structure HeldEntry where
  ring : Nat
  notice : Bool
  fn : Nat
  bytes : List Byte
deriving DecidableEq, Repr

/-- Host link. -/
structure HostGroup where
  /-- Ring register sets 0–79; R386; reset values of the map. -/
  rings : Sparse Ring
  /-- RING_CAUSE bits, 80 bits; R381; reset 0. -/
  ringCause : Nat
  /-- Mailboxes MB0–MB7; R392; reset empty. -/
  mbs : Sparse Mbox
  pf0 : FnRegs
  pf1 : FnRegs
  /-- Held completions and notices; R390, R422; reset none. -/
  held : List HeldEntry
  /-- The Docent's queued D2H messages: (mailbox, bytes); R395; reset none. -/
  mbq : List (Nat × List Byte)
deriving DecidableEq, Repr

/-- How far a command has come. -/
inductive CmdState where
  /-- Held by CHAIN behind the command `pred` of its path (R418). -/
  | chained (pred : Nat)
  /-- Its predecessor has completed, well or not: it starts or is skipped in this tick (R418). -/
  | ready (ok : Bool)
  /-- Waiting for its AT tick (R415). -/
  | sched (at_ : Nat)
  /-- Deferred since its AT tick (R416). -/
  | deferred (at_ : Nat)
  /-- Executes in its own place in tick `at_`: a FRAME_OP in step 3 of R33 (R58, R415), a CAT_GROUP at the start of a tick
  (R348). -/
  | soon (at_ : Nat)
  /-- Executed; its completion waits for a named instant. -/
  | waiting
deriving DecidableEq, Repr

/-- What a command answers: status, four results, returned data, and whether the completion comes later, at an
instant its owning rule names. -/
structure Reply where
  status : Status
  r0 : Nat
  r1 : Nat
  r2 : Nat
  r3 : Nat
  data : List Byte
  later : Bool
deriving DecidableEq, Repr

/-- A command at work for a time that its rule bounds: it completes at `due` with `rep`, and what it holds back until
then is in `vals`. `nv` marks a write of the strongroom (R486). -/
structure Timed where
  id : Nat
  due : Nat
  nv : Bool
  vals : List (Nat × Nat)
  rep : Reply
deriving DecidableEq, Repr

/-- A command accepted and not completed. -/
structure Cmd where
  id : Nat
  instr : Instr
  h : Hdr
  /-- Acceptance tick (R413), and place in the order of acceptance. -/
  acc : Nat
  ord : Nat
  st : CmdState
  /-- A 128-bit working mask: curators, streams or units the command still works on. -/
  mask : Nat
  /-- Results gathered so far. -/
  res : Nat
  /-- Its completion is discarded: a function reset came after its acceptance (R397). -/
  discard : Bool
  /-- It was deferred: it completes with DEFERRED in place of OK (R416). -/
  late : Bool
deriving DecidableEq, Repr

/-- A completion on its way out: completions of one tick leave at the end of the tick, in order of acceptance (R413). -/
structure OutEntry where
  /-- Place in the order of acceptance. -/
  ord : Nat
  path : Path
  peer : Nat
  port : Nat
  mac : Nat
  extptr : Nat
  /-- Capture units whose records the returned data holds (R329). -/
  units : Nat
  /-- The completion, empty where only the returned data leaves (R408, R412). -/
  bytes : List Byte
  data : List Byte
deriving DecidableEq, Repr

/-- A captured object of a pending commit: key and image (R36). -/
structure Commit where
  tick : Nat
  /-- Command identity. -/
  id : Nat
  /-- 1 FRAME, 2 OUTPUT, 3 READOUT, 4 BIAS, 5 CAT, 6 CP, 7 DISC_REBASE. -/
  kind : Nat
  caps : List (Nat × Nat)
  keep : Bool
  /-- Keys of captured OBJ_DISC whose SEED_DIRTY was set (R202); channels of a rebase. -/
  seeds : List Nat
  res0 : Nat
  res1 : Nat
  res2 : Nat
deriving DecidableEq, Repr

/-- Commands and commits. -/
structure CmdGroup where
  /-- Commands accepted and not completed, in order of acceptance; R413; reset none. -/
  open_ : List Cmd
  nextId : Nat
  /-- How the last packet of a path ended: 0 none since reset, 1 not completed, 2 well, 3 badly; R418; reset 0. -/
  last : Sparse Nat
  /-- Identity of the last packet of a path; R418. -/
  lastId : Sparse Nat
  /-- Pending commits in order of acceptance; R39; reset none. -/
  commits : List Commit
  /-- Resets requested by SYS_RESET: (tick, kind); R428; reset none. -/
  resetAt : List (Nat × Nat)
  /-- Commands at work that complete within a bound; R146, R204, R486; reset none. -/
  timed : List Timed
  /-- Completions of the tick in progress; R413; reset none. -/
  outbox : List OutEntry
deriving DecidableEq, Repr

/-- A courier port beside OBJ_COURIER. -/
structure CpRt where
  /-- Link-up requested; bound tick of CP_LINK; R434. -/
  want : Bool
  boundAt : Nat
  /-- Tick at which generation 2 training falls back. -/
  fallAt : Nat
  /-- End of MEASURE and tick of its first frame; in UP, `measEnd` is the tick from which the port leaves at its next
  frame boundary, 0 for none (R440). -/
  measEnd : Nat
  measStart : Nat
  /-- Echoes received and the largest round trip (R435). -/
  echoes : Nat
  maxR : Nat
  /-- Departure times of marks awaiting their echo, oldest first. -/
  marks : List Nat
  /-- Mark of the peer to be answered: its arrival raw time. -/
  owed : Option Nat
  /-- This end sends 0b011 (R434). -/
  ready : Bool
  /-- Peer sends 0b011. -/
  peerUp : Bool
  seq : Nat
  crcRun : Nat
  errs : Nat
  /-- TSYNC words queued for departure, oldest first. -/
  txq : List Nat
  /-- TSYNC words of the message being received, oldest first. -/
  rxq : List Nat
  /-- Cue word to forward. -/
  cue : Option Nat
  /-- Verdicts to export: (tick, position, lane bits). -/
  exports : List (Nat × Nat × Nat)
  /-- States of the scramblers of the four transmit lanes, 31 bits each, lane 0 first (R431). -/
  scram : List Nat
deriving DecidableEq, Repr

def CpRt.none : CpRt :=
  ⟨false, 0, 0, 0, 0, 0, 0, [], .none, false, false, 0, 0, 0, [], [], .none, [], []⟩

/-- Courier links. -/
structure CpGroup where
  /-- The four ports; R431 to R441; reset down. -/
  rt : Sparse CpRt
  /-- Tick of the next TIME and PARAM messages; R438; reset 0. -/
  timeAt : Nat
  paramAt : Nat
deriving DecidableEq, Repr

/-- Supplies, power states and thermal management beside OBJ_THERMAL. -/
structure PwGroup where
  /-- Powered domains, bit n for domain n of R449, 56 bits; R451; reset Quiet: every domain but 9–40. -/
  on : Nat
  /-- On mask of PWR_DOMAIN that Run and Idle power; R451; reset all ones. -/
  onMask : Nat
  /-- Supplies that are sagged, 11 bits: fallen below their sag threshold and not risen to their good threshold since; R442; reset
  0. -/
  sagged : Nat
  /-- Supplies whose sag began in the tick in progress and is to be announced, 11 bits; R446; reset 0. -/
  sagOnset : Nat
  /-- ORDER_CODE of an ordering error that came before VAUX was good, 0 for none; R444; reset 0. -/
  orderWait : Nat
  /-- Ordering errors in force: the code, and the domains that it keeps unpowered; R444; reset none. -/
  orderHolds : List (Nat × Nat)
  /-- Readings of the eleven supplies in µV; R445; reset 0. -/
  readings : List Int
  /-- Tick at which NV_INHIBIT may clear, 0 while a cause is in force; R447; reset 0. -/
  nvClear : Nat
  /-- Temperatures TS0–TS47, 2^-8 °C; R459; reset 0. -/
  temps : List Nat
  /-- Raw time of the latest scan; R366; reset 0. -/
  scanRaw : Nat
  /-- Mute point of a STOP and tick of the tile power-down; 0 for none; R463, R464; reset 0. -/
  muteAt : Nat
  graceEnd : Nat
  tileOff : Nat
  /-- Tick of Dormant entry, 0 for none; R453; reset 0. -/
  dormantAt : Nat
  /-- THERMAL_HOLD; R462; reset 0. -/
  hold : Bool
  /-- A core-voltage step window in progress: its last tick; R457; reset 0. -/
  avsWin : Nat
  /-- Tick since which the target exceeds the set value by more than 15 mV, plus one; R457; reset 0. -/
  avsSince : Nat
  /-- CKD domains gated by TRIP; R465; reset no. -/
  tripGated : Bool
  /-- CLRMODE, BOOTSEL1:0 and TESTEN straps: bit 0 CLRMODE, [2:1] BOOTSEL, bit 3 TESTEN; R492. -/
  straps : Nat
deriving DecidableEq, Repr

/-- A foreground or system calibration in progress. -/
structure CalJob where
  /-- 0 CAL_OUTPUT, 1 CAL_INPUT, 2 CAL_BIAS, 3 CAL_SYS_ZERO, 4 CAL_SYS_FULL. -/
  kind : Nat
  mask : Nat
  fail : Nat
  endAt : Nat
  id : Nat
  /-- Expected level in 0.01 dBFS of CAL_SYS_FULL. -/
  level : Int
  freq : Nat
deriving DecidableEq, Repr

/-- Calibration. -/
structure CalGroup where
  /-- Calibrations in progress; R472, R480; reset none. -/
  jobs : List CalJob
  /-- Pending zeros: (input, (carrier, zone, atten), offset found in 0.01 % of full scale); R480; reset none. -/
  zeros : List (Nat × (Nat × Nat × Nat) × Int)
  /-- Corrections set since the tile was powered: (input, zone, gain in 0.01 dB, offset in 0.01 % of full scale); R481, R483; reset
  none. -/
  corr : List (Nat × Nat × Int × Int)
  /-- System-calibration correction on an input: bits 31:0 its gain in 0.01 dB, bits 63:32 its offset in 0.01 % of full scale, two's
  complement; R469, R481, R482; reset 0. -/
  trim : Sparse Nat
  /-- Trim converters by trim key, in LSB from mid-scale, 16-bit two's complement; R468; reset mid-scale. -/
  trims : Sparse Nat
  /-- Tick of a slice trim's last tracking update, plus one; R478; reset 0. -/
  lastTrack : Sparse Nat
deriving DecidableEq, Repr

/-- One copy of a strongroom record (R485): write sequence number, length of the body in bytes, the body as a
little-endian number, CRC-32C. -/
structure NvCopy where
  seq : Nat
  len : Nat
  body : Nat
  crc : Nat
deriving DecidableEq, Repr

/-- A strongroom record: copies A and B (R485). -/
structure NvRec where
  a : NvCopy
  b : NvCopy
deriving DecidableEq, Repr

/-- A record never written: both copies erased, which no CRC matches (R485). -/
def NvRec.erased : NvRec := ⟨⟨0, 0, 0, 0⟩, ⟨0, 0, 0, 0⟩⟩

/-- An image slot of the SPI boot flash: SEQ, image length and CRC-32C of its descriptor, and the image (R493). -/
structure Slot where
  seq : Nat
  len : Nat
  crc : Nat
  image : List Byte
deriving DecidableEq, Repr

/-- A slot with an erased descriptor: every bit one. -/
def Slot.erased : Slot := ⟨2 ^ 32 - 1, 2 ^ 32 - 1, 2 ^ 32 - 1, []⟩

/-- A reset that has been requested in the tick in progress (R487). -/
inductive ResetAsk where
  | cold
  | warm
  | docent (cause : Nat)
  | link
  | function (f : Fn)
deriving DecidableEq, Repr

/-- Strongroom, fuses, flash and boot. -/
structure BtGroup where
  /-- The strongroom's records: key 2^16·region + record, region 0 system calibration (record 3·input + zone − 1),
  1 discriminators (record = channel), 2 security (record 0 the accession policy, 1 to 4 the keys AK0 to AK3), 3 factory trims
  (record = unit), 4 identity (record 0); R484, R485; kept. -/
  nv : Sparse NvRec
  /-- Fuses: key hashes FK0–FK3 with revocation (key = slot, value = hash·2 + revoked, plus one), MIN_SEC_VER, DBG_KEY, LIFECYCLE, DEVICE_UID; R498. -/
  fk : Sparse Nat
  minSecVer : Nat
  dbgKey : Nat × Nat
  lifecycle : Nat
  uid : List Byte
  /-- SPI boot flash slots; R493; kept, erased before the first update. -/
  slotA : Slot
  slotB : Slot
  /-- BOOT_ADDR, BOOT_LEN, BOOT_CODE, BOOT_SRC, BOOT_ALT; R494; reset 0. -/
  addr : Nat
  len : Nat
  code : Nat
  src : Nat
  alt : Bool
  /-- READY; R380; reset 0. -/
  ready : Bool
  /-- A boot is in progress; R496; reset yes. -/
  booting : Bool
  /-- The boot waits for a PCIe image; R494; reset no. -/
  waitGo : Bool
  /-- Cause to be posted with DOCENT_RESTARTED after the boot, 0 for none; R489; reset 0. -/
  cause : Nat
  /-- Docent version; R427; reset 0. -/
  version : Nat
  /-- DEBUG_OPEN; R499; reset 0. -/
  debugOpen : Bool
  /-- Number of the current DEBUG_NONCE drawn; R499; reset 0. -/
  nonce : Nat
  /-- Resets requested in the tick in progress; R487; reset none. -/
  asked : List ResetAsk
  /-- Widest class that has acted in the tick in progress: 4 cold, 3 warm, 2 Docent restart, 1 link and function, 0 none; R487;
  reset 0. -/
  widest : Nat
  /-- Tick at which the Docent last serviced its watchdog; R490; reset 0. -/
  served : Nat
deriving DecidableEq, Repr

/-- A foreign master that has announced itself (R331): its port identity, its data set in the order of an Announce message,
its steps removed, and the ticks of its latest two Announce messages, plus one. -/
structure Foreign where
  port : Nat
  word : Nat
  steps : Nat
  last : Nat
  prev : Nat
deriving DecidableEq, Repr

/-- What a PTP slave or requester has measured (R331): sequence numbers of its messages, and the instants of the exchange in
units of 2^-16 ns. -/
structure PtpRt where
  syncSeq : Nat
  announceSeq : Nat
  dreqSeq : Nat
  /-- A two-step Sync that awaits its Follow_Up: sequence number plus one, and its receipt. -/
  syncRx : Nat × Int
  /-- Latest master-to-slave difference. -/
  diff : Int
  /-- Departure of the last Delay_Req or Pdelay_Req, its receipt at the peer as answered, and the mean path delay. -/
  sentAt : Int
  peerRx : Int
  delay : Int
  /-- Receipt of a two-step Pdelay_Resp. -/
  respRx : Int
deriving DecidableEq, Repr

/-- A frame in the transmit queue, with the survey stream (plus one) and number of blocks it carries (R233). -/
structure TxEntry where
  frame : Outgoing
  stream : Nat
  blocks : Nat
deriving DecidableEq, Repr

/-- Ethernet beside OBJ_ETH. -/
structure EthGroup where
  /-- Transmission is paused until this tick; R400; reset 0. -/
  pauseEnd : Nat
  /-- Next ticks of the Sync, Announce and Delay_Req messages; R330; reset 0. -/
  syncAt : Nat
  announceAt : Nat
  dreqAt : Nat
  /-- Delay requests served in the present second, and its start; R330; reset 0. -/
  served : Nat
  servedAt : Nat
  /-- Foreign masters heard; R331; reset none. -/
  foreign : List Foreign
  /-- PTP measurements; R330, R331; reset 0. -/
  ptp : PtpRt
  /-- Frames dropped by R401; reset 0. -/
  drops : Nat
  /-- Frames dropped for an error; R404; reset 0. -/
  rxErrs : Nat
  /-- Command datagrams dropped for their source; R402; reset 0. -/
  cmdDrops : Nat
  /-- Completions dropped for want of room or link; R403; reset 0. -/
  txDrops : Nat
  /-- Frames that wait for the end of a pause, oldest first; R400; reset none. -/
  txq : List TxEntry
deriving DecidableEq, Repr

/-- What a function's PCIe configuration space holds that a host can write (R377). -/
structure CfgSpace where
  /-- Power state: 0 D0, 3 D3hot; R377; reset 0. -/
  pm : Nat
  /-- Max_Payload_Size code: 128·2^code bytes, 0 to 2; R377; reset 0. -/
  mps : Nat
  /-- Max_Read_Request_Size code: 128·2^code bytes, 0 to 5; R377; reset 2. -/
  mrrs : Nat
  /-- 10-bit tags requested; R377; reset no. -/
  tag10 : Bool
  /-- ECRC generation; R377; reset off. -/
  ecrcGen : Bool
  /-- ECRC checking; R377; reset off. -/
  ecrcCheck : Bool
  /-- AER uncorrectable and correctable error status, W1C; R377; reset 0. -/
  aer : Nat × Nat
  /-- AER uncorrectable and correctable error masks; R377; reset 0. -/
  aerMask : Nat × Nat
deriving DecidableEq, Repr

def CfgSpace.fresh : CfgSpace := ⟨0, 0, 2, false, false, false, (0, 0), (0, 0)⟩

/-- Instructions of the JTAG port (R515). -/
inductive JtagInstr where
  | bypass | idcode | sample | extest | clamp | highz | extestPulse | extestTrain
deriving DecidableEq, Repr

/-- The JTAG port (R515). -/
structure JtagRt where
  /-- The instruction in force; R515; reset IDCODE. -/
  instr : JtagInstr
  /-- The selected data register's shift stage, the bit next to TDO first; R515; reset none. -/
  shift : List Bool
  /-- The boundary cells' update stage, by cell; R515; reset 0. -/
  cells : List Bool
deriving DecidableEq, Repr

/-- Boundary cells: 47 of the low-speed set, 36 of the LVDS balls and 112 of the SerDes balls (R515). -/
def jtagCells : Nat := 195

def JtagRt.fresh : JtagRt := ⟨.idcode, [], List.replicate jtagCells false⟩

/-- The ports beside the command paths: PCIe configuration space and JTAG. -/
structure PortGroup where
  cfg0 : CfgSpace
  cfg1 : CfgSpace
  jtag : JtagRt
deriving DecidableEq, Repr

/-- The state of the device. -/
structure State where
  /-- Raw time in fine slots; 64 bits; 12_time_reference.md R309; reset 0. -/
  raw : Nat
  /-- The model's own: how often raw time has passed 2^64, by which instants on both sides of the wrap keep their order;
  DESIGN CHOICE; reset 0. -/
  wraps : Nat
  /-- The model's own: how far the tick in progress has been offered its events; DESIGN CHOICE; reset 0. -/
  phase : Nat
  /-- The model's own: number of free values drawn; DESIGN CHOICE; reset 0. -/
  free : Nat
  /-- Commands waiting, first in first out; the model's queue; reset empty. -/
  pending : List Instr
  /-- What has left the device, newest first; the model's record; reset empty. -/
  sent : List Outgoing
  /-- Object images by key 65536·class + instance; R425; reset the field maps' reset values. -/
  objs : Sparse Nat
  /-- Live copies of staged fields, at the staged fields' bit positions; R36; reset as staged. -/
  live : Sparse Nat
  /-- Changes of live images of the last 64 ticks, newest first; R50; reset none. -/
  undo : List Undo
  /-- Sticky bits that hardware set in the tick in progress, by object key (and by key 2^24 + n for registers of the
  host link): a W1C write of the same tick does not clear them; R7; reset none. -/
  setNow : Sparse Nat
  drv : DrvGroup
  arc : ArcGroup
  cur : CurGroup
  rd : RdGroup
  vd : VdGroup
  sv : SvGroup
  ap : ApGroup
  vi : ViGroup
  bi : BiGroup
  tm : TmGroup
  cat : CatGroup
  ldg : LdgGroup
  host : HostGroup
  cmd : CmdGroup
  cp : CpGroup
  pw : PwGroup
  cal : CalGroup
  bt : BtGroup
  eth : EthGroup
  port : PortGroup
deriving DecidableEq, Repr

/-- Domains powered in Quiet (R451): every domain but the converter tiles, numbers 9 to 40. -/
def quietOn : Nat := (2 ^ 56 - 1) - (2 ^ 41 - 2 ^ 9)

/-- Time parameters at cold reset (R311). -/
def TimeSet.zero : TimeSet := ⟨0, 0, 0, 0, 0, false, 0, 0, 100, true, 0⟩

def PtpRt.none : PtpRt := ⟨0, 0, 0, (0, 0), 0, 0, 0, 0, 0⟩

/-- Right after the release of cold reset (R487, R488, R451): raw time 0, every object at its reset image, Quiet
domains powered, a boot in progress. -/
def State.reset : State where
  raw := 0
  wraps := 0
  phase := 0
  free := 0
  pending := []
  sent := []
  objs := []
  live := []
  undo := []
  setNow := []
  drv := ⟨[], [], [], [], [], [], []⟩
  arc := ⟨[], [], [], [], [], []⟩
  cur := ⟨[], [], [], [], []⟩
  rd := ⟨[], [], [], [], [], [], []⟩
  vd := ⟨0, [], [], []⟩
  sv := ⟨[], []⟩
  ap := ⟨[]⟩
  vi := ⟨[]⟩
  bi := ⟨[], [], [], [], [], [], [], 0, 0, [], [], [], 0, false, false, []⟩
  tm := ⟨TimeSet.zero, [], DomRt.none, DomRt.none, [], [], [], [], [], 0, 0, (0, 0), [], [], true, false, false, false,
    320, 0, 320, []⟩
  cat := ⟨[], [], [], [], 0, 0, 0, [], [], [], []⟩
  ldg := ⟨[], [], 0, 0, 0, 0, 0, 0, 0, 0, [], 0, 0, [], [], 0, 0⟩
  host := ⟨[], 0, [], FnRegs.fresh 1, FnRegs.fresh 0, [], []⟩
  cmd := ⟨[], 0, [], [], [], [], [], []⟩
  cp := ⟨[], 0, 0⟩
  pw := ⟨quietOn, 2 ^ 56 - 1, 0, 0, 0, [], List.replicate 11 0, 0, List.replicate 48 0, 0, 0, 0, 0, 0, false, 0, 0,
    false, 0⟩
  cal := ⟨[], [], [], [], [], []⟩
  bt := ⟨[], [], 0, (0, 0), 1, List.replicate 16 0, Slot.erased, Slot.erased, 0, 0, 0, 0, false, false, true,
    false, 0, 0, false, 0, [], 0, 0⟩
  eth := ⟨0, 0, 0, 0, 0, 0, [], PtpRt.none, 0, 0, 0, 0, []⟩
  port := ⟨CfgSpace.fresh, CfgSpace.fresh, JtagRt.fresh⟩

end Sys2Proof.Machine
end

