-- ==== Sys2Proof/Machine/Flags.lean ====
section
/-! DEFINITION. Sticky flags, their W1C clears and the ledger's counters. -/

namespace Sys2Proof.Machine

/-- The present tick (R25: tick n begins at raw time 16 n). -/
def State.tick (s : State) : Nat := s.raw / 16

/-- Stored image of an object instance. -/
def State.obj (s : State) (cls inst : Nat) : Nat := sget objDefault s.objs (okey cls inst)

/-- Replaces the stored image of an object instance. -/
def State.setObj (s : State) (cls inst v : Nat) : State :=
  { s with objs := sset objDefault s.objs (okey cls inst) v }

/-- A field of an object instance. -/
def State.getF (s : State) (f : Field) (inst : Nat) : Nat := bits (s.obj f.cls inst) f.lsb f.width

/-- A one-bit field read as a flag. -/
def State.flag (s : State) (f : Field) (inst : Nat) : Bool := decide (s.getF f inst ≠ 0)

/-- Writes a field of an object instance. -/
def State.setF (s : State) (f : Field) (inst v : Nat) : State :=
  s.setObj f.cls inst (setBits (s.obj f.cls inst) f.lsb f.width v)

/-- Live copy of an object's staged fields (R36). -/
def State.liveObj (s : State) (cls inst : Nat) : Nat := sget objDefault s.live (okey cls inst)

/-- Replaces the live copy. -/
def State.setLiveObj (s : State) (cls inst v : Nat) : State :=
  { s with live := sset objDefault s.live (okey cls inst) v }

/-- A field of the live copy. -/
def State.getL (s : State) (f : Field) (inst : Nat) : Nat := bits (s.liveObj f.cls inst) f.lsb f.width

/-- Writes a field of the live copy. -/
def State.setL (s : State) (f : Field) (inst v : Nat) : State :=
  s.setLiveObj f.cls inst (setBits (s.liveObj f.cls inst) f.lsb f.width v)

/-- A signed field. -/
def State.getSF (s : State) (f : Field) (inst : Nat) : Int := toS f.width (s.getF f inst)

/-- Sticky bits that hardware has set in the present tick (R7). -/
def State.nowMask (s : State) (key : Nat) : Nat := sget (fun _ => 0) s.setNow key

/-- Notes that hardware sets sticky bits in the present tick (R7). -/
def State.markNow (s : State) (key mask : Nat) : State :=
  { s with setNow := sset (fun _ => 0) s.setNow key (s.nowMask key ||| mask) }

/-- A hardware event sets a sticky flag (R7). -/
def State.raise (s : State) (f : Field) (inst : Nat) : State :=
  (s.setF f inst 1).markNow (okey f.cls inst) (ones f.lsb f.width)

/-- Sets a sticky flag and, if it was clear, records the first happening in a companion field. -/
def State.raiseWith (s : State) (f : Field) (inst : Nat) (g : Field) (v : Nat) : State :=
  if s.flag f inst then s.raise f inst else (s.setF g inst v).raise f inst

/-- Key of a ledger counter: unit class, instance, entry index (R376). -/
def ckey (cls inst entry : Nat) : Nat := cls * 2 ^ 20 + inst * 32 + entry

/-- A ledger counter. -/
def State.counter (s : State) (cls inst entry : Nat) : Nat := sget (fun _ => 0) s.ldg.cnt (ckey cls inst entry)

/-- Counts `n` happenings (R362). -/
def State.countN (s : State) (cls inst entry n : Nat) : State :=
  { s with ldg := { s.ldg with
      cnt := sset (fun _ => 0) s.ldg.cnt (ckey cls inst entry) (s.counter cls inst entry + n) } }

/-- Counts one happening (R362). -/
def State.count (s : State) (cls inst entry : Nat) : State := s.countN cls inst entry 1

/-- Next sequence number of a record source (R17): the present one, and the state that has counted the record. -/
def State.nextSeq (s : State) (src : Nat) : Nat × State := (s.counter 0x19 src 0, s.count 0x19 src 0)

end Sys2Proof.Machine
end

