-- ==== Sys2Proof/Machine/Ops.lean ====
section
/-! DEFINITION. Named operations over the state: power domains, the history of live images, frame phases and
carriers, system time, and the output log. -/

namespace Sys2Proof.Machine

/-! ### Power domains (R449) -/

def domAON : Nat := 0
def domMGMT0 : Nat := 1
def domMGMT1 : Nat := 2
def domPCIE : Nat := 3
def domETH : Nat := 4
def domCP (p : Nat) : Nat := 5 + p
def domDT (t : Nat) : Nat := 9 + t
def domAT (t : Nat) : Nat := 33 + t
def domCC (k : Nat) : Nat := 41 + k
def domBB (k : Nat) : Nat := 49 + k
def domVIT : Nat := 53
def domARC0 : Nat := 54
def domARC1 : Nat := 55

/-- Whether a domain is powered. -/
def State.powered (s : State) (d : Nat) : Bool := bit s.pw.on d

/-- DAC tile of an output numbered as OBJ_OUTPUT (R9). -/
def dtOfOutput (o : Nat) : Nat := o / 4

/-- Output of a tone slot (R10). -/
def outputOfSlot (sl : Nat) : Nat := if sl < 512 then sl / 8 else 64 + (sl - 512) / 16

/-- Position k of a slot on its output (R10). -/
def kOfSlot (sl : Nat) : Nat := if sl < 512 then sl % 8 else (sl - 512) % 16

/-- Slot i (0–7) of curator c (R11). -/
def slotOf (c i : Nat) : Nat := if c < 64 then 8 * c + i else 512 + 8 * (c - 64) + i

/-- Curator that owns a slot (R11). -/
def ownerOfSlot (sl : Nat) : Nat := if sl < 512 then sl / 8 else 64 + (sl - 512) / 8

/-- Input of a channel (R9) and ADC tile of an input. -/
def inputOfRc (c : Nat) : Nat := c / 16
def atOfInput (i : Nat) : Nat := i / 4

/-- Domain of an object instance (R425); the model's classes from 0x40 hold the frames of the tiles' replicas (R19). -/
def objDom (cls inst : Nat) : Nat :=
  match cls with
  | 0x01 => domDT (dtOfOutput inst)
  | 0x02 => domDT (dtOfOutput (outputOfSlot inst))
  | 0x03 => domARC0
  | 0x04 => domMGMT0
  | 0x05 => domCC (inst / 16)
  | 0x06 => domAT (inst / 4)
  | 0x07 => domAT (inst / 64)
  | 0x08 => domAT (inst / 64)
  | 0x09 => domAT (inst / 4)
  | 0x0A => domVIT
  | 0x0B => domAT inst
  | 0x0C => domVIT
  | 0x0D => domBB (inst / 32)
  | 0x0E => domBB inst
  | 0x11 => domCP inst
  | 0x13 => domETH
  | _ => if 0x40 ≤ cls ∧ cls < 0x60 then 9 + (cls - 0x40) else domAON

/-- Domain of a ledger unit (R376). -/
def unitDom (cls inst : Nat) : Nat :=
  match cls with
  | 0x01 => domDT (dtOfOutput (outputOfSlot inst))
  | 0x02 => domDT (dtOfOutput inst)
  | 0x03 => if inst < 64 then domARC0 else domARC1
  | 0x04 => domMGMT0
  | 0x05 => domCC (inst / 16)
  | 0x06 => domAT (inst / 64)
  | 0x07 => domAT (inst / 4)
  | 0x08 => domMGMT1
  | 0x09 => domVIT
  | 0x0A => domAT inst
  | 0x0B => domVIT
  | 0x0C => domMGMT1
  | 0x0D => domBB inst
  | 0x0E => domBB (inst / 32)
  | 0x15 => domPCIE
  | 0x17 => domCP inst
  | _ => domAON

/-! ### Power and thermal states -/

/-- POWER_STATE (R451): 0 Run, 1 Idle, 2 Quiet, 3 Dormant. -/
def State.powerState (s : State) : Nat := s.getF Fld.thermal.powerState 0

/-- Vitrines and survey streams run in a powered part of the device whose clock is not gated (R451, R452, R465). -/
def State.vitClocked (s : State) : Bool := s.powered domVIT && decide (s.powerState ≤ 1) && !s.pw.tripGated

/-- The clocks of the converter tiles, gated from a TRIP until the tiles power off (R452, R465). -/
def State.tileClocked (s : State) : Bool := !s.pw.tripGated

/-- THERMAL_STATE (R467): 0 NORMAL, 1 GRACE, 2 STOPPED, 3 TRIPPED. -/
def State.thermalState (s : State) : Nat := s.getF Fld.thermal.thermalState 0

/-! ### Free values -/

/-- Draws a fresh index into a free value of Config. -/
def State.draw (s : State) : Nat × State := (s.free, { s with free := s.free + 1 })

/-- A reset is requested in the tick in progress; the widest request acts at its end (R487). -/
def State.askReset (s : State) (r : ResetAsk) : State := { s with bt := { s.bt with asked := s.bt.asked ++ [r] } }

/-! ### History of live images (R50) -/

/-- Raw time without its wrap at 2^64 (R309). -/
def State.now (s : State) : Nat := s.raw + 2 ^ 64 * s.wraps

/-- Raw time goes on to r, counting its wraps (R309). -/
def State.setRaw (s : State) (r : Nat) : State := { s with raw := w64 r, wraps := s.wraps + r / 2 ^ 64 }

/-- Fine slots that the tick in progress covers (R309, R310). -/
def State.span (s : State) : Nat := s.tm.span

/-- Whether the tick in progress has come to a multiple of n ticks that no tick before it had come to. -/
def State.crosses (s : State) (n : Nat) : Bool := decide (roundUp s.tm.lookFrom (16 * n) < s.tm.lookTo)

/-- The instant nearest to the present one that raw instant `r` names, without the wrap (R309). -/
def State.lift (s : State) (r : Nat) : Nat :=
  let d := (s.raw + 2 ^ 64 - r % 2 ^ 64) % 2 ^ 64
  if 2 ^ 63 ≤ d then s.now + (2 ^ 64 - d) else if d ≤ s.now then s.now - d else r

/-- The oldest of the changes of `key` after tick `t`, in a list that is newest first: the image before it was in
force at `t`. -/
def undoAt (key t cur : Nat) : List Undo → Nat
  | [] => cur
  | u :: l => if u.key = key ∧ t < u.tick then undoAt key t u.old l else undoAt key t cur l

/-- Live image of an object in force at raw instant `r`: a change at tick t acts on every evaluation whose
reference instant is at or after 16 t, also across a wrap of raw time (R49). -/
def State.liveAt (s : State) (cls inst r : Nat) : Nat :=
  undoAt (okey cls inst) (s.lift r / 16) (s.liveObj cls inst) s.undo

/-- A domain was powered at raw instant `r`: the changes of the last ticks stand in `undo` under the model's class 0x60. -/
def State.poweredAt (s : State) (d r : Nat) : Bool :=
  decide (undoAt (okey 0x60 d) (s.lift r / 16) (if s.powered d then 1 else 0) s.undo = 1)

/-- Remembers, for the evaluations whose reference instants lie before, whether a domain was powered, and the live images that it
loses with the domain. -/
def State.rememberPower (s : State) (d : Nat) (lost : List (Nat × Nat)) : State :=
  { s with undo := ⟨okey 0x60 d, s.now / 16, if s.powered d then 1 else 0, false⟩ ::
      (lost.map (fun e => ⟨e.1, s.now / 16, e.2, false⟩) ++ s.undo) }

/-- Replaces a live image at the present tick and remembers the old one. -/
def State.changeLive (s : State) (cls inst v : Nat) (isSet : Bool) : State :=
  let old := s.liveObj cls inst
  { s.setLiveObj cls inst v with undo := ⟨okey cls inst, s.now / 16, old, isSet⟩ :: s.undo }

/-! ### Frames (02_frames.md) -/

def p48 : Nat := 2 ^ 48

/-- Live frequency named by the live selector of a frame's live image (R44). -/
def frameFreq (img : Nat) : Nat := if bit img 192 then bits img 64 48 else bits img 0 48

/-- Live offset O of a frame's live image (R44): held at the OFFSET position. -/
def frameOff (img : Nat) : Nat := bits img 160 32

/-! The frame table's replicas (R19): `live` holds the master's frames, and a tile's replica holds the same but where the
master lost its power while the tile kept its own. Such a frame of tile t (DT t, or AT t − 24) stands in `live` under the
model's class 0x40 + t, with bit 512 as the mark that it is held. -/

/-- The frame image that a replica holds under the model's class for it, none where the replica is the master's. -/
def heldFrame (v : Nat) : Option Nat := if v < 2 ^ 512 then none else some (v % 2 ^ 512)

/-- The image of a frame in a tile's replica at raw instant r (R19). -/
def State.frameAt (s : State) (tile f r : Nat) : Nat :=
  (heldFrame (s.liveAt (0x40 + tile) f r)).getD (s.liveAt 0x04 f r)

/-- Domain of a tile of the 32 that hold a replica. -/
def domTile (t : Nat) : Nat := 9 + t

/-- Phase of a frame at raw instant t, in a tile's replica (R19, R48, R65). -/
def State.framePhase (s : State) (tile f t : Nat) : Nat :=
  if f = 4095 then 0
  else let img := s.frameAt tile f t
       (frameFreq img * (t % p48) + frameOff img * 2 ^ 16) % p48

/-- Frequency of a frame in force at raw instant r in a tile's replica. -/
def State.freqAt (s : State) (tile f r : Nat) : Nat := if f = 4095 then 0 else frameFreq (s.frameAt tile f r)

/-- Carrier phase of a carrier word at t (R53). -/
def carrierPhase (c t : Nat) : Nat := (c * t) % p48

/-- Angle of a rotator: 20 bits of a turn (02_frames.md, rotator_angle). -/
def rotatorAngle (p : Nat) : Nat := ((p + 2 ^ 27) >>> 28) % 2 ^ 20

/-- rnd16 of the frame operations (R54). -/
def rnd16 (x : Nat) : Nat := (x + 2 ^ 15) >>> 16

/-- Signed difference of two 48-bit frequencies (R85, R170). -/
def freqDiff (f c : Nat) : Int := toS 48 ((f + p48 - c) % p48)

/-! ### System time (R311 to R313, R323)

Instants of parameter sets, and the instants at which a set is evaluated, are instants of raw time without its wraps. -/

/-- Continuity offset of a parameter set at instant r (R323). -/
def contAt (p : TimeSet) (r : Nat) : Int :=
  let dec : Int := ((r : Int) - p.contAt) * p.slew * 2 ^ 12 / 10 ^ 9
  let a : Int := p.cont0.natAbs
  let m : Int := if a - dec > 0 then a - dec else 0
  if p.cont0 < 0 then -m else m

/-- Time of a domain at raw instant r (R311). -/
def domTime (rate off : Int) (r : Nat) : Int := (r : Int) * 2 ^ 12 + (r : Int) * rate / 2 ^ 36 + off

/-- System time S(r) of a parameter set at instant r (R311). -/
def sysTime (p : TimeSet) (r : Nat) : Int :=
  (if p.act then domTime p.rateB p.offB (w64 r) else domTime p.rateA p.offA (w64 r)) + contAt p r

/-- The parameter set in force at r (R313): the newest set that began at or before r; an instant older than the
oldest kept change uses the oldest kept set. -/
def setAt (cur : TimeSet) (r : Nat) : List TimeSet → TimeSet
  | [] => cur
  | p :: l => if cur.from_ ≤ r then cur else setAt p r l

/-- The parameter set in force at a raw instant (R313). -/
def State.setAtRaw (s : State) (r : Nat) : TimeSet := setAt s.tm.now (s.lift r) s.tm.hist

/-- System time at a raw instant (R311). -/
def State.sysAt (s : State) (r : Nat) : Int := sysTime (s.setAtRaw r) (s.lift r)

/-- The three presented fields SYS_SEC, SYS_NS, SYS_FRAC (R312). -/
def sysFields (v : Int) : Nat × Nat × Nat :=
  if v < 0 then (0, 0, 0)
  else let n := v.toNat
       (w64 (n / (10 ^ 9 * 2 ^ 16)), n / 2 ^ 16 % 10 ^ 9, n % 2 ^ 16)

/-- SYS_STATE (R319): 0 FREE, 1 TRACKING, 2 HOLDOVER. -/
def State.sysState (s : State) : Nat :=
  let b := s.tm.now.act
  let d := if b then s.tm.domB else s.tm.domA
  let st := if b then s.getF Fld.time.domBState 0 else s.getF Fld.time.domAState 0
  if !d.everLocked then 0 else if st = 2 then 1 else 2

/-! ### Provenance tag (R13 to R16) -/

/-- The 32 bytes of a provenance tag. `flags` holds every bit but DOMAIN_B, which the instant decides. -/
def State.tag (s : State) (cls inst flags raw seq : Nat) : List Byte :=
  let t := sysFields (s.sysAt raw)
  leBytes 4 (cls * 2 ^ 24 + inst) ++ leBytes 4 (flags ||| (if (s.setAtRaw raw).act then 16 else 0)) ++ leBytes 8 raw ++
    leBytes 8 t.1 ++ leBytes 4 t.2.1 ++ leBytes 2 t.2.2 ++ leBytes 2 seq

/-! ### LOST (R16, R17)

Record sources are numbered as in ledger class 0x19: 0 the verdict-record ring, 1 to 64 survey streams, 65 to 72 vitrines, 73
to 80 appraisers, 81 the ledger, 82 to 97 capture units. -/

/-- The next record of source `src` carries LOST. -/
def State.markLost (s : State) (src : Nat) : State := { s with ldg := { s.ldg with lost := s.ldg.lost ||| (1 <<< src) } }

/-- Whether the next record of source `src` carries LOST. -/
def State.isLost (s : State) (src : Nat) : Bool := bit s.ldg.lost src

/-- The next record of each capture unit of a mask carries LOST. -/
def State.capturesLost (s : State) (units : Nat) : State :=
  (setPositions units 16).foldl (fun t u => t.markLost (82 + u)) s

/-- A record of source `src` has carried its mark. -/
def State.clearLost (s : State) (src : Nat) : State := { s with ldg := { s.ldg with lost := clearMask s.ldg.lost (1 <<< src) } }

/-- The LOST bit of the next record of a source, as a flag of its tag (R16). -/
def State.lostFlag (s : State) (src : Nat) : Nat := if s.isLost src then 8 else 0

/-! ### Output log -/

/-- Records what leaves the device. -/
def State.emit (s : State) (o : Outgoing) : State := { s with sent := o :: s.sent }

end Sys2Proof.Machine
end

