-- ==== Sys2Proof/Machine/Catalogue.lean ====
section
/-! DEFINITION. The event catalogue (13_event_catalogue.md): producers, the matrix, groups, LUT cells, GPIO and cue
outputs. An event travels 2.0 to 3.5 ns, a free value within that range (R341), and is taken at its arrival tick. -/

namespace Sys2Proof.Machine

/-- Power domain of a producer (R338). -/
def producerDom (p : Nat) : Nat :=
  if p < 128 then domCC (p / 16)
  else if p < 160 then domAT ((p - 128) / 4)
  else if p < 176 then domVIT
  else if 184 ≤ p ∧ p < 200 then domMGMT1
  else domAON

/-- Power domain of a task input's consumer (R339, R345). -/
def consumerDom (t : Nat) : Nat :=
  if t < 128 then domCC (t / 16)
  else if t < 136 then domVIT
  else if t < 144 then domAT (t - 136)
  else if t < 148 then domBB (t - 144)
  else if 180 ≤ t ∧ t < 188 then domMGMT1
  else if 188 ≤ t ∧ t < 220 then domPCIE
  else domAON

/-- Live group of a row (R346) and live row of the matrix (R337). -/
def State.rowGroup (s : State) (p : Nat) : Nat := bits (s.liveObj 0x10 0) (1024 + 4 * p) 4
def State.matrixRow (s : State) (p : Nat) : Nat := bits (s.liveObj 0x10 0) (8192 + 256 * p) 256

/-- An event busy at its consumer (R339). -/
def State.busyDrop (s : State) (t : Nat) : State := (s.raise Fld.catalogue.busyDrop 0).count 0x12 t 1

/-- An event its consumer acts on. -/
def State.delivered (s : State) (t : Nat) : State := s.count 0x12 t 0

/-- An event that finds its consumer's domain off (R345). -/
def State.absentDrop (s : State) (t : Nat) : State := (s.raise Fld.catalogue.absentDrop 0).count 0x12 t 3

/-- Tick at which an event that reaches task input t at raw instant r is taken: the second tick start strictly after
r, and the first one for capture units and group inputs, which take it as it comes (R342). -/
def arrivalTick (t r : Nat) : Nat := if (148 ≤ t ∧ t < 164) ∨ (220 ≤ t ∧ t < 252) then r / 16 + 1 else r / 16 + 2

/-- Whether two reach instants merge: within 2 ns of each other (R343). -/
def within2ns (a b : Nat) : Bool := decide (a ≤ b + 32 ∧ b ≤ a + 32)

/-- An event in flight to task input t that one reaching it at r merges with (R343). -/
def Flight.merges (t r : Nat) (f : Flight) : Bool := decide (f.evt = t) && within2ns f.reach r

/-- An event that reaches task input t at r merges into the first event in flight that it merges with: it counts as one event
merged away (R343). -/
def mergeInto (t r : Nat) : List Flight → List Flight
  | [] => []
  | f :: l => if f.merges t r then { f with merged := f.merged + 1 } :: l else f :: mergeInto t r l

/-- Sends one copy of an event to a task input: reach instant r, stamp instant st. One that merges with an event in flight is
noted there, and counts with its arrival (R343). -/
def State.reachInput (s : State) (t r st : Nat) : State :=
  let l := s.cat.flight
  let l1 := if l.any (Flight.merges t r) then mergeInto t r l else l ++ [⟨t, r, arrivalTick t r, st, 0⟩]
  { s with cat := { s.cat with flight := l1 } }

/-- An event in flight has arrived by the present tick (R342). -/
def State.arrived (s : State) (f : Flight) : Bool := decide (f.arrival ≤ s.now / 16)

/-- The events that arrive in the tick count those that merged with them (R343). -/
def State.countMerged (s : State) : State :=
  (s.cat.flight.filter (fun f => s.arrived f && decide (f.merged ≠ 0))).foldl
    (fun t f => (t.raise Fld.catalogue.coincident 0).countN 0x12 f.evt 2 f.merged) s

/-- Forks an event of raw instant r to every task input of a row mask. `ball` is the ball instant of a GPIO event,
which capture units stamp in place of the reach instant (R328). -/
def State.forkEvent (s : State) (row r : Nat) (ball : Option Nat) : State :=
  (setPositions row 254).foldl
    (fun s t =>
      let d := s.draw
      let reach := r + 32 + Config.transit d.1 % 25
      d.2.reachInput t reach (match ball with | some b => b | none => reach)) s

/-- An event of row p at raw instant r crosses its group's gate less than 1.0 ns from a change of the gate, which a group
event makes within 1.0 ns of reaching its input: whether it passes is undefined (R347). -/
def State.gateUnsure (s : State) (p r : Nat) : Bool :=
  let g := s.rowGroup p
  let en := bit (s.getF Fld.catalogue.groupLive 0) g
  let near := fun (x : Nat) => decide (x < r + 16 ∧ r < x + 32)
  s.cat.flight.any (fun f => decide (f.evt = if en then 236 + g else 220 + g) && near f.reach) ||
    s.cat.groupEv.any (fun e => decide (e.1 = g ∧ e.2.2 % 2 = 1) && near e.2.1)

/-- Whether an event of row p at raw instant r passes its group's gate (R346, R347). -/
def State.gate (s : State) (p r : Nat) : Bool × State :=
  if s.gateUnsure p r then (Config.choice s.draw.1, s.draw.2)
  else (bit (s.getF Fld.catalogue.groupLive 0) (s.rowGroup p), s)

/-- Raw instant, plus one, of a producer's last fired event, without the wrap of raw time; 0 when there is none. -/
def State.lastFired (s : State) (p : Nat) : Nat := sget (fun _ => 0) s.cat.last p

/-- Instant x lies less than 8 ticks after the producer's last fired event (R340). -/
def State.tooSoon (s : State) (p x : Nat) : Bool := decide (s.lastFired p ≠ 0 ∧ x < s.lastFired p - 1 + 128)

/-- A producer's event at raw instant r (R337, R340, R345 to R347). -/
def State.fireAt (s : State) (p r : Nat) (ball : Option Nat) : State :=
  if !s.powered (producerDom p) then s
  else
    let x := s.lift r
    if s.tooSoon p x then (s.raise Fld.catalogue.loopDrop 0).count 0x11 p 1
    else
      let s1 := { s with cat := { s.cat with last := sset (fun _ => 0) s.cat.last p (x + 1) } }.count 0x11 p 0
      let d := s1.gate p x
      if !d.1 then d.2.count 0x11 p 2 else d.2.forkEvent (s1.matrixRow p) x ball

/-- A timed producer's event at the present tick. -/
def State.fire (s : State) (p : Nat) : State := s.fireAt p s.raw none

/-! ### LUT cells (R349, R350) -/

/-- Live word of a LUT cell. -/
def State.lutWord (s : State) (j : Nat) : Nat := bits (s.liveObj 0x10 0) (2048 + 64 * j) 64

def State.lutRt (s : State) (j : Nat) : LutRt := sget (fun _ => LutRt.none) s.cat.lut j

def State.setLut (s : State) (j : Nat) (r : LutRt) : State :=
  { s with cat := { s.cat with lut := sset (fun _ => LutRt.none) s.cat.lut j r } }

/-- Level of a GPIO ball: what the device drives on an output, else the outside level (R353). -/
def State.gpioByte (s : State) (g : Nat) : Nat := bits (s.obj 0x10 0) (4736 + 8 * g) 8
def State.gpioLevel (s : State) (g : Nat) : Bool :=
  if bit (s.gpioByte g) 0 then bit s.cat.gpioOut g else bit s.cat.gpioIn g

/-- Raw instant r lies in a span that is held as its first instant plus one, and its end. -/
def levelSpan (sp : Nat × Nat) (r : Nat) : Bool := decide (sp.1 ≠ 0 ∧ sp.1 ≤ r + 1 ∧ r < sp.2)

/-- Output level of a cell at instant r of the tick in progress: the last change that has come by r (R349). -/
def LutRt.levelAt (c : LutRt) (r : Nat) : Bool :=
  ((c.queue.filter (fun e => decide (e.1 ≤ r))).getLast?.map Prod.snd).getD c.out

/-- Level or pulse that a LUT input reads from a producer at instant r of the tick in progress, raw time without its wrap
(R338). A pulse lasts 2.0 ns ± 0.25 ns: 28 to 36 fine slots. -/
def State.levelAt (s : State) (p r : Nat) : Bool :=
  if 176 ≤ p ∧ p < 180 then levelSpan (sget (fun _ => (0, 0)) s.tm.tpSpan (p - 176)) r
  else if p = 180 then levelSpan s.tm.ppsSpan r
  else if 200 ≤ p ∧ p < 216 then bit s.cat.gpioSeen (p - 200)
  else if p = 216 then s.flag Fld.thermal.warnActive 0
  else if p = 217 then decide (s.thermalState ≠ 0)
  else if p = 218 then decide (s.pw.sagged ≠ 0)
  else if p = 219 then s.tm.unlocked
  else if p = 220 then decide (s.getF Fld.time.domAState 0 = 3)
  else if p = 221 then decide (s.getF Fld.time.domBState 0 = 3)
  else if p = 222 then (List.range 4).any (fun q => decide (s.getF Fld.courier.linkState q ≠ 3))
  else if p = 223 then (List.range 8).any (fun m => (sget (fun _ => Mbox.empty) s.host.mbs m).d2hFull)
  else if 224 ≤ p then (s.lutRt (p - 224)).levelAt r
  else levelSpan (s.lastFired p, s.lastFired p - 1 + 28 + Config.pulseWidth p (s.lastFired p) % 9) r

/-- Combinational output of a cell word at instant r (R349). -/
def State.lutComb (s : State) (w r : Nat) : Bool :=
  let i := fun k => if s.levelAt (bits w (8 * k) 8) r then 1 else 0
  bit (bits w 32 16) (i 0 + 2 * i 1 + 4 * i 2 + 8 * i 3)

/-- A cell is registered unless FF_EN and FILTER are both 0 (R350). -/
def lutRegistered (w : Nat) : Bool := bit w 61 || decide (bits w 56 4 ≠ 0)

/-- The rises of a cell's output, oldest first, that fire its producer: 8 ticks or more after the one that fired last, whose
instant plus one is `last` (R340). -/
def firingRises (last : Nat) : List (Nat × Bool) → List Nat
  | [] => []
  | e :: l =>
    if e.2 ∧ (last = 0 ∨ last - 1 + 128 ≤ e.1) then e.1 :: firingRises (e.1 + 1) l else firingRises last l

/-- Producer p has an event at instant r of the tick in progress, of a cell's output one that is still on its way (R350). -/
def State.eventAt (s : State) (p r : Nat) : Bool :=
  if 224 ≤ p then (firingRises (s.lastFired p) (s.lutRt (p - 224)).queue).contains r else decide (s.lastFired p = r + 1)

/-- A cell's filter and flip-flop at instant r, with its combinational output there (R350). Housekeeping edges fall at raw
times that are multiples of 64 (R25). -/
def State.lutStage (s : State) (w r : Nat) (comb : Bool) (c : LutRt) : LutRt :=
  let hk := decide (r % 64 = 0)
  let f := bits w 56 4
  let c1 : LutRt :=
    if f = 0 then { c with filt := comb, count := 0 }
    else if !hk then c
    else if comb = c.filt then { c with count := 0 }
    else if f ≤ c.count + 1 then { c with filt := comb, count := 0 }
    else { c with count := c.count + 1 }
  let clk := if bit w 60 then s.eventAt (bits w 48 8) r else hk
  if bit w 61 && clk then { c1 with ff := c1.filt } else c1

/-- Final output of a cell before its output delay (R349, R350). -/
def lutFinal (w : Nat) (comb : Bool) (c : LutRt) : Bool :=
  if bit w 61 then c.ff else if bits w 56 4 ≠ 0 then c.filt else comb

/-- A cell at instant r of the tick in progress. Its output changes 1.0 to 2.0 ns later, that of a registered cell 0.5 to 1.0
ns later (R341). -/
def State.lutSlot (s : State) (r j : Nat) : State :=
  let w := s.lutWord j
  let comb := s.lutComb w r
  let c := s.lutStage w r comb (s.lutRt j)
  let v := lutFinal w comb c
  if v = c.last then s.setLut j c
  else
    let d := s.draw
    let at_ := r + (if lutRegistered w then 8 + Config.delay d.1 % 9 else 16 + Config.delay d.1 % 17)
    let after := (c.queue.getLast?.map (fun e => e.1 + 1)).getD 0
    d.2.setLut j { c with last := v, queue := c.queue ++ [(max at_ after, v)] }

/-- Cells that can do anything: configured, or with a state of their own. -/
def State.lutCells (s : State) : List Nat :=
  (List.range 32).filter (fun j => decide (s.lutWord j ≠ 0 ∨ s.lutRt j ≠ LutRt.none))

/-- The cells over the fine slots of the tick in progress (R341, R349, R350). -/
def State.lutScan (s : State) (n : Nat) : State :=
  match s.lutCells with
  | [] => s
  | cells => (List.range n).foldl (fun t k => cells.foldl (fun u j => u.lutSlot (s.now + k) j) t) s

/-- The output of a cell changes, as decided before instant e0, and each rise fires the cell's producer at its instant (R349). -/
def State.lutChangeBy (s : State) (e0 j : Nat) : State :=
  let c := s.lutRt j
  let come := c.queue.filter (fun e => decide (e.1 < e0))
  let s1 := s.setLut j { c with out := c.levelAt (e0 - 1), queue := c.queue.filter (fun e => !decide (e.1 < e0)) }
  come.foldl (fun t e => if e.2 then t.fireAt (224 + j) e.1 none else t) s1

/-- LUT_CELL_OUTPUT is due at the beginning of a tick: an output change lies before it. -/
def State.lutDue (s : State) (j : Nat) : Bool := (s.lutRt j).queue.any (fun e => decide (e.1 < s.now))

/-- LUT_CELL_OUTPUT: the output changes that lie before the present tick (R349). -/
def State.lutChange (s : State) (j : Nat) : State := s.lutChangeBy s.now j

/-- The end of a tick: the cells over its fine slots, and the output changes that lie within it (R349). -/
def State.lutTick (s : State) : State :=
  let t := s.lutScan s.span
  t.lutCells.foldl (fun u j => u.lutChangeBy (s.now + s.span) j) t

/-! ### Groups (R346 to R348) -/

/-- Sets or clears a group's live enable. -/
def State.setGroup (s : State) (g : Nat) (en : Bool) : State :=
  let m := s.getF Fld.catalogue.groupLive 0
  s.setF Fld.catalogue.groupLive 0 (if en then m ||| (1 <<< g) else clearMask m (1 <<< g))

/-- A group event: `en` enables. An enable and a disable of one group within 2 ns leave it disabled and clash (R347). -/
def State.groupEvent (s : State) (g reach : Nat) (en : Bool) : State :=
  let clash := s.cat.groupEv.any (fun e => decide (e.1 = g ∧ (e.2.2 / 2 = 1) ≠ en) && within2ns e.2.1 reach)
  let gate := en && !clash
  let changes := decide (bit (s.getF Fld.catalogue.groupLive 0) g ≠ gate)
  let note := (if en then 2 else 0) + (if changes then 1 else 0)
  let s1 := ({ s with cat := { s.cat with groupEv := (g, reach, note) :: s.cat.groupEv } }.count 0x13 g
    (if en then 0 else 1)).delivered (if en then 220 + g else 236 + g)
  if clash then ((s1.setGroup g false).raise Fld.catalogue.groupClash 0).count 0x13 g 2
  else s1.setGroup g gate

/-! ### GPIO and cue outputs (R352, R353) -/

/-- An entry of `due` comes from the edge of GPIO pin g that `old` presents: that level, or a producer event with it. -/
def fromEdge (g : Nat) (old e : Nat × Nat × Nat) : Bool :=
  decide (e.2.1 = 512 + g ∧ e.2.2 = old.2.2 ∨ e.2.1 = 200 + g ∧ e.2.2 = old.2.2 / 2)

/-- An edge at a GPIO ball, at fine slot `fine` of the present tick: the sampler presents the new level 8 to 12 ticks later,
and the producer fires then when the edge is a configured one. A level held for less than 10 ns may go unseen (R353). -/
def State.gpioEdge (s : State) (g : Nat) (level : Bool) (fine : Nat) : State :=
  let ball := s.now + fine
  let old := (s.cat.due.filter (fun e => decide (e.2.1 = 512 + g))).getLast?
  let d := s.draw
  if (old.any (fun e => decide (ball < e.2.2 / 2 + 160))) && Config.choice d.1 then
    { d.2 with cat := { d.2.cat with due := d.2.cat.due.filter (fun e => !fromEdge g (old.getD (0, 0, 0)) e) } }
  else
    let t := s.now / 16 + (if fine = 0 then 8 + Config.delay d.1 % 5 else 9 + Config.delay d.1 % 4)
    let at_ := max t ((old.map Prod.fst).getD 0)
    let c := bits (s.gpioByte g) 4 2
    let ev := if (level ∧ bit c 0) ∨ (!level ∧ bit c 1) then [(at_, 200 + g, ball)] else []
    { d.2 with cat := { d.2.cat with due := d.2.cat.due ++ ((at_, 512 + g, 2 * ball + (if level then 1 else 0)) :: ev) } }

/-- The outside drives a GPIO ball to a level. -/
def State.gpioInput (s : State) (g : Nat) (level : Bool) (fine : Nat) : State :=
  let was := s.gpioLevel g
  let s1 := { s with cat := { s.cat with
    gpioIn := if level then s.cat.gpioIn ||| (1 <<< g) else clearMask s.cat.gpioIn (1 <<< g) } }
  if s1.gpioLevel g = was then s1 else s1.gpioEdge g level fine

/-- The device drives a GPIO output to a level. -/
def State.gpioDrive (s : State) (g : Nat) (level : Bool) : State :=
  let was := s.gpioLevel g
  let s1 := { s with cat := { s.cat with
    gpioOut := if level then s.cat.gpioOut ||| (1 <<< g) else clearMask s.cat.gpioOut (1 <<< g) } }
  if s1.gpioLevel g = was then s1 else s1.gpioEdge g level 0

/-- Pulse width of a GPIO byte in ticks (R360). -/
def gpioWidth (pw : Nat) : Nat := match pw with | 0 => 8 | 1 => 32 | 2 => 128 | _ => 1024

/-- A change of GPIO output g that reaches the ball later: kind 0 inverts the pin, 1 drives it high. It waits in `due`
under a producer number above 255 (R353). -/
def State.gpioLater (s : State) (at_ g kind : Nat) : State :=
  { s with cat := { s.cat with due := s.cat.due ++ [(at_, 256 + g, kind)] } }

/-- EVT(164 + g): drives the pin at the ball 2 to 5 ticks later, a free value within that range (R353). -/
def State.evtGpio (s : State) (g : Nat) : State :=
  let b := s.gpioByte g
  let d := s.draw
  let at_ := s.now / 16 + 2 + Config.delay d.1 % 4
  if !bit b 0 then s.busyDrop (164 + g)
  else if bit b 3 then (d.2.gpioLater at_ g 0).delivered (164 + g)
  else if sget (fun _ => 0) s.cat.gpioEnd g ≠ 0 then s.busyDrop (164 + g)
  else
    let s1 := (d.2.gpioLater at_ g 1).delivered (164 + g)
    { s1 with cat := { s1.cat with gpioEnd := sset (fun _ => 0) s1.cat.gpioEnd g (at_ + gpioWidth (bits b 1 2)) } }

/-- What of `due` has come by the present tick: GPIO outputs change, pin levels reach the fabric, and GPIO producers fire
(R353). -/
def State.gpioDue (s : State) : State :=
  (s.cat.due.filter (fun e => decide (e.1 ≤ s.now / 16))).foldl
    (fun t e =>
      if e.2.1 < 256 then t.fireAt e.2.1 t.now (some e.2.2)
      else if e.2.1 < 512 then t.gpioDrive (e.2.1 - 256) (if e.2.2 = 1 then true else !bit t.cat.gpioOut (e.2.1 - 256))
      else { t with cat := { t.cat with gpioSeen :=
        if e.2.2 % 2 = 1 then t.cat.gpioSeen ||| (1 <<< (e.2.1 - 512)) else clearMask t.cat.gpioSeen (1 <<< (e.2.1 - 512)) } })
    { s with cat := { s.cat with due := s.cat.due.filter (fun e => !decide (e.1 ≤ s.now / 16)) } }

/-- GPIO_PULSE_END: an output pulse reaches the end of its width (R353). -/
def State.gpioPulseEnd (s : State) (g : Nat) : State :=
  let e := sget (fun _ => 0) s.cat.gpioEnd g
  if e ≠ 0 ∧ e ≤ s.now / 16 then
    ({ s with cat := { s.cat with gpioEnd := sset (fun _ => 0) s.cat.gpioEnd g 0 } }).gpioDrive g false
  else s

/-- First character boundary at least 4 ticks after the present tick, in raw time (R352). -/
def State.cueBoundary (s : State) : Nat := roundUp (16 * (s.tick + 4)) 640

/-- The characters of a cue word, control or data: K28.1, then the word, its low byte first (R270, R352). -/
def cueChars (w : Nat) : List (Bool × Nat) := [(true, 0x3C), (false, w % 256), (false, w / 256 % 256)]

/-- EVT(180 + n): sends a cue word unless one is queued or in progress (R352) or the cue port is gated (R452). -/
def State.evtCue (s : State) (n : Nat) : State :=
  if sget (fun _ => 0) s.cat.cueEnd n ≠ 0 ∨ s.pw.tripGated then s.busyDrop (180 + n)
  else
    let r := s.cueBoundary
    let w := bits (s.obj 0x10 0) (4608 + 16 * n) 16
    let s1 := (s.emit (.cue n (cueChars w) r)).delivered (180 + n)
    { s1 with cat := { s1.cat with
        cueEnd := sset (fun _ => 0) s1.cat.cueEnd n (r / 16 + 120)
        cueWord := sset (fun _ => 0) s1.cat.cueWord n w } }

/-- The character, control or data, that cue output n sends at raw instant r: one of its word, else the comma K28.5 (R352). -/
def State.cueChar (s : State) (n r : Nat) : Bool × Nat :=
  let e := sget (fun _ => 0) s.cat.cueEnd n
  let first := 16 * (e - 120)
  if e = 0 ∨ r < first then (true, 0xBC)
  else (cueChars (sget (fun _ => 0) s.cat.cueWord n)).getD ((r - first) / 640) (true, 0xBC)

/-- CUE_OUTPUT_WORD_END: the word has finished its 120 ticks (R352). -/
def State.cueWordEnd (s : State) (n : Nat) : State :=
  let e := sget (fun _ => 0) s.cat.cueEnd n
  if e ≠ 0 ∧ e ≤ s.tick then { s with cat := { s.cat with cueEnd := sset (fun _ => 0) s.cat.cueEnd n 0 } }
  else s

/-- Fires the cue matchers of an input on a word (R351). -/
def State.matchCue (s : State) (n w : Nat) : State :=
  [2 * n, 2 * n + 1].foldl
    (fun s m =>
      let word := bits (s.liveObj 0x10 0) (4096 + 32 * m) 32
      if w &&& bits word 16 16 = bits word 0 16 &&& bits word 16 16 then s.fire (184 + m) else s) s

/-! ### The loop check of CAT_COMMIT (R355, R356) -/

/-- Producers that a block leads to from a task input (R355). -/
def throughPaths (t : Nat) : List Nat :=
  if t < 128 then [t]
  else if t < 136 then [t + 32, t + 40]
  else if 164 ≤ t ∧ t < 180 then [t + 36]
  else []

/-- Successors of producer p in a catalogue image: with `un` only through unregistered edges. -/
def succs (img : Nat) (un : Bool) (p : Nat) : List Nat :=
  let cells := (List.range 32).filter (fun j =>
    let w := bits img (2048 + 64 * j) 64
    let named := (List.range 4).any (fun k => decide (bits w (8 * k) 8 = p))
    let clk := bit w 60 && decide (bits w 48 8 = p)
    (named || clk) && !(un && lutRegistered w))
  let blocks := if un then [] else
    (setPositions (bits img (8192 + 256 * p) 256) 180).flatMap throughPaths
  (cells.map (fun j => 224 + j) ++ blocks).eraseDups

/-- Elementary cycles whose lowest producer is `root`, as lists of producers: paths from root through producers
above it, back to root. `fuel` bounds the path length. -/
def cyclesFrom (next : Nat → List Nat) (root : Nat) : Nat → Nat → List Nat → List (List Nat)
  | 0, _, _ => []
  | fuel + 1, p, path =>
    (next p).flatMap (fun q =>
      if q = root then [path.reverse]
      else if q < root ∨ path.contains q then []
      else cyclesFrom next root fuel q (q :: path))

/-- Every elementary cycle of a catalogue image, by ascending lowest producer. -/
def allCycles (img : Nat) : List (List Nat) :=
  (List.range 256).flatMap (fun r => cyclesFrom (succs img false) r 257 r [r])

/-- A cycle each of whose steps has an unregistered edge is refused (R355). -/
def cycleRefused (img : Nat) (c : List Nat) : Bool :=
  match c with
  | [] => false
  | a :: _ => (c.zip (c.drop 1 ++ [a])).all (fun e => (succs img true e.1).contains e.2)

/-- Rows whose staged content differs from the live content (R356). -/
def rowsChanged (staged live : Nat) : Nat :=
  ((List.range 256).filter (fun p =>
    decide (bits staged (8192 + 256 * p) 256 ≠ bits live (8192 + 256 * p) 256 ∨
      bits staged (1024 + 4 * p) 4 ≠ bits live (1024 + 4 * p) 4))).length

end Sys2Proof.Machine
end

