-- ==== Sys2Proof/Decode.lean ====
section
/-! DEFINITION. The command packet (R406 to R409) and the opcode catalogue (R430): how the bytes of a packet spell a
command, and back. The rows of spec/opcode_table.json give no bits, so `decodeTableWord` reads no word. -/

namespace Sys2Proof

/-- The table gives no row bits: no word spells a command. -/
def decodeTableWord (_nbits _w : Nat) : Option Instr := none

/-! ### Inline parameters -/

/-- A parameter placed at bit `lsb` of the 32 inline bytes. -/
def place {w : Nat} (v : BitVec w) (lsb : Nat) : BitVec 256 := v.setWidth 256 <<< lsb

/-- A one-bit parameter placed at bit `lsb`. -/
def placeBit (b : Bool) (lsb : Nat) : BitVec 256 := if b then 1#256 <<< lsb else 0

/-- The bits `[lsb + w - 1 : lsb]` of the inline bytes as a mask. -/
def span (w lsb : Nat) : BitVec 256 := (BitVec.allOnes w).setWidth 256 <<< lsb

/-- Opcode of a command (R430); an object write that the table lists on its own is an OBJ_WRITE (R424); 0, which is
never a command (R406), for a row that is no host command. -/
def Instr.opcode : Instr → Nat
  | .sysNop _ => 0x0100
  | .sysIdentify _ => 0x0101
  | .objRead _ _ _ _ _ => 0x0102
  | .objWrite _ _ _ _ _ _ => 0x0103
  | .sysReset _ _ => 0x0104
  | .sysNotify _ _ => 0x0105
  | .sysCancel _ _ => 0x0106
  | .ringAssign _ _ _ => 0x0110
  | .pwrState _ _ => 0x0201
  | .pwrDomain _ _ _ => 0x0202
  | .timeRead _ => 0x0301
  | .timeSetEpoch _ _ => 0x0302
  | .timeSwitch _ _ _ _ => 0x0303
  | .timeCaptureRead _ _ => 0x0304
  | .archiveLoad _ _ _ _ => 0x0401
  | .archiveRead _ _ _ _ => 0x0402
  | .kernelLoad _ _ _ => 0x0403
  | .kernelRead _ _ _ => 0x0404
  | .outputEnable _ _ => 0x0405
  | .outputDisable _ _ => 0x0406
  | .outputCommit _ _ => 0x0407
  | .curAccession _ => 0x0501
  | .curReadback _ _ _ _ => 0x0502
  | .curStart _ _ _ => 0x0503
  | .curStop _ _ _ _ => 0x0504
  | .curBarrier _ _ _ => 0x0505
  | .frameOp _ _ _ _ => 0x0601
  | .frameCommit _ _ _ => 0x0602
  | .readoutCommit _ _ => 0x0701
  | .discRebase _ _ => 0x0702
  | .discSeedStore _ => 0x0703
  | .discSeedRestore _ => 0x0704
  | .biasWrite _ _ _ _ _ => 0x0801
  | .biasStrobe _ _ => 0x0802
  | .biasClear _ _ => 0x0803
  | .biasCommit _ _ => 0x0804
  | .catCommit _ _ => 0x0901
  | .catGroup _ _ => 0x0902
  | .vitArm _ _ _ => 0x0A01
  | .vitTrigger _ _ => 0x0A02
  | .vitAbort _ _ => 0x0A03
  | .calOutput _ _ => 0x0B01
  | .calInput _ _ => 0x0B02
  | .calBias _ _ => 0x0B03
  | .calSysZero _ _ => 0x0B04
  | .calSysFull _ _ _ _ => 0x0B05
  | .calSysStore _ _ => 0x0B06
  | .resume _ => 0x0C01
  | .ldgSnap _ _ _ => 0x0D01
  | .ldgRead _ _ _ _ => 0x0D02
  | .ldgRelease _ => 0x0D03
  | .ldgStatus _ => 0x0D04
  | .surveyStart _ _ _ => 0x0E01
  | .surveyStop _ _ _ => 0x0E02
  | .cpLink _ _ _ => 0x0F01
  | .cpCommit _ _ => 0x0F02
  | .secPolicy _ _ => 0x1001
  | .secKeyLoad _ _ => 0x1002
  | .secFwUpdate _ => 0x1003
  | .secDebugUnlock _ => 0x1004
  | .appStart _ _ _ _ => 0x1101
  | .appStop _ _ _ => 0x1102
  | .appRead _ _ => 0x1103
  | .inputEn _ _ _ => 0x0103
  | .fsc _ _ _ => 0x0103
  | .bankEn _ _ _ => 0x0103
  | .tpEn _ _ _ => 0x0103
  | .slewEn _ _ _ => 0x0103
  | .domEn _ _ _ => 0x0103
  | .ethMode _ _ _ => 0x0103
  | .inputCode _ _ _ => 0x0103
  | _ => 0

/-- Header of a command. -/
def Instr.hdr : Instr → Option Hdr
  | .sysNop h => some h
  | .sysIdentify h => some h
  | .objRead h _ _ _ _ => some h
  | .objWrite h _ _ _ _ _ => some h
  | .sysReset h _ => some h
  | .sysNotify h _ => some h
  | .sysCancel h _ => some h
  | .ringAssign h _ _ => some h
  | .pwrState h _ => some h
  | .pwrDomain h _ _ => some h
  | .timeRead h => some h
  | .timeSetEpoch h _ => some h
  | .timeSwitch h _ _ _ => some h
  | .timeCaptureRead h _ => some h
  | .archiveLoad h _ _ _ => some h
  | .archiveRead h _ _ _ => some h
  | .kernelLoad h _ _ => some h
  | .kernelRead h _ _ => some h
  | .outputEnable h _ => some h
  | .outputDisable h _ => some h
  | .outputCommit h _ => some h
  | .curAccession h => some h
  | .curReadback h _ _ _ => some h
  | .curStart h _ _ => some h
  | .curStop h _ _ _ => some h
  | .curBarrier h _ _ => some h
  | .frameOp h _ _ _ => some h
  | .frameCommit h _ _ => some h
  | .readoutCommit h _ => some h
  | .discRebase h _ => some h
  | .discSeedStore h => some h
  | .discSeedRestore h => some h
  | .biasWrite h _ _ _ _ => some h
  | .biasStrobe h _ => some h
  | .biasClear h _ => some h
  | .biasCommit h _ => some h
  | .catCommit h _ => some h
  | .catGroup h _ => some h
  | .vitArm h _ _ => some h
  | .vitTrigger h _ => some h
  | .vitAbort h _ => some h
  | .calOutput h _ => some h
  | .calInput h _ => some h
  | .calBias h _ => some h
  | .calSysZero h _ => some h
  | .calSysFull h _ _ _ => some h
  | .calSysStore h _ => some h
  | .resume h => some h
  | .ldgSnap h _ _ => some h
  | .ldgRead h _ _ _ => some h
  | .ldgRelease h => some h
  | .ldgStatus h => some h
  | .surveyStart h _ _ => some h
  | .surveyStop h _ _ => some h
  | .cpLink h _ _ => some h
  | .cpCommit h _ => some h
  | .secPolicy h _ => some h
  | .secKeyLoad h _ => some h
  | .secFwUpdate h => some h
  | .secDebugUnlock h => some h
  | .appStart h _ _ _ => some h
  | .appStop h _ _ => some h
  | .appRead h _ => some h
  | .inputEn h _ _ => some h
  | .fsc h _ _ => some h
  | .bankEn h _ _ => some h
  | .tpEn h _ _ => some h
  | .slewEn h _ _ => some h
  | .domEn h _ _ => some h
  | .ethMode h _ _ => some h
  | .inputCode h _ _ => some h
  | _ => none

/-- The object writes that the table lists on their own. -/
def Instr.writeRow : Instr → Bool
  | .inputEn _ _ _ => true
  | .fsc _ _ _ => true
  | .bankEn _ _ _ => true
  | .tpEn _ _ _ => true
  | .slewEn _ _ _ => true
  | .domEn _ _ _ => true
  | .ethMode _ _ _ => true
  | .inputCode _ _ _ => true
  | _ => false

/-- Bits of the inline bytes that an opcode defines (R430 and the rules it cites). -/
def paramMask : Nat → BitVec 256
  | 0x0100 => 0
  | 0x0101 => 0
  | 0x0102 => span 8 0 ||| span 16 16 ||| span 32 32 ||| span 32 64
  | 0x0103 => span 8 0 ||| span 16 16 ||| span 32 32 ||| span 32 64 ||| span 128 128
  | 0x0104 => span 8 0
  | 0x0105 => span 8 0
  | 0x0106 => span 16 0
  | 0x0110 => span 8 0 ||| span 8 8
  | 0x0201 => span 8 0
  | 0x0202 => span 64 0 ||| span 64 64
  | 0x0301 => 0
  | 0x0302 => span 64 64
  | 0x0303 => span 8 0 ||| span 1 8 ||| span 64 64
  | 0x0304 => span 16 0
  | 0x0401 => span 8 0 ||| span 32 32 ||| span 32 64
  | 0x0402 => span 8 0 ||| span 32 32 ||| span 32 64
  | 0x0403 => span 32 32 ||| span 32 64
  | 0x0404 => span 32 32 ||| span 32 64
  | 0x0405 => span 96 0
  | 0x0406 => span 96 0
  | 0x0407 => span 64 64
  | 0x0501 => 0
  | 0x0502 => span 16 0 ||| span 16 16 ||| span 16 32
  | 0x0503 => span 128 0 ||| span 64 128
  | 0x0504 => span 128 0 ||| span 64 128 ||| span 1 192
  | 0x0505 => span 8 0 ||| span 128 128
  | 0x0601 => span 16 0 ||| span 8 16 ||| span 16 32
  | 0x0602 => span 64 64 ||| span 1 128
  | 0x0701 => span 64 64
  | 0x0702 => span 64 0
  | 0x0703 => 0
  | 0x0704 => 0
  | 0x0801 => span 8 0 ||| span 8 8 ||| span 8 16 ||| span 1 24
  | 0x0802 => span 128 0
  | 0x0803 => span 8 0
  | 0x0804 => span 64 64
  | 0x0901 => span 64 64
  | 0x0902 => span 16 0
  | 0x0A01 => span 8 0 ||| span 64 64
  | 0x0A02 => span 8 0
  | 0x0A03 => span 8 0
  | 0x0B01 => span 96 0
  | 0x0B02 => span 32 0
  | 0x0B03 => span 8 0
  | 0x0B04 => span 8 0
  | 0x0B05 => span 8 0 ||| span 16 16 ||| span 48 64
  | 0x0B06 => span 32 0
  | 0x0C01 => 0
  | 0x0D01 => span 64 64 ||| span 1 128
  | 0x0D02 => span 8 0 ||| span 16 16 ||| span 16 32
  | 0x0D03 => 0
  | 0x0D04 => 0
  | 0x0E01 => span 64 0 ||| span 64 64
  | 0x0E02 => span 64 0 ||| span 64 64
  | 0x0F01 => span 8 0 ||| span 8 8
  | 0x0F02 => span 64 64
  | 0x1001 => span 1 0
  | 0x1002 => span 8 0
  | 0x1003 => 0
  | 0x1004 => 0
  | 0x1101 => span 8 0 ||| span 64 64 ||| span 64 128
  | 0x1102 => span 8 0 ||| span 64 64
  | 0x1103 => span 8 0
  | _ => 0

/-- The typed parameters of a command at their places in the inline bytes. -/
def Instr.params : Instr → BitVec 256
  | .sysNop _ => 0
  | .sysIdentify _ => 0
  | .objRead _ cls inst offset len => place cls 0 ||| place inst 16 ||| place offset 32 ||| place len 64
  | .objWrite _ cls inst offset len data => place cls 0 ||| place inst 16 ||| place offset 32 ||| place len 64 |||
      place data 128
  | .sysReset _ kind => place kind 0
  | .sysNotify _ route => place route 0
  | .sysCancel _ tag => place tag 0
  | .ringAssign _ ring owner => place ring 0 ||| place owner 8
  | .pwrState _ target => place target 0
  | .pwrDomain _ domains on => place domains 0 ||| place on 64
  | .timeRead _ => 0
  | .timeSetEpoch _ secs => place secs 64
  | .timeSwitch _ dom step tick => place dom 0 ||| placeBit step 8 ||| place tick 64
  | .timeCaptureRead _ units => place units 0
  | .archiveLoad _ bank start count => place bank 0 ||| place start 32 ||| place count 64
  | .archiveRead _ bank start count => place bank 0 ||| place start 32 ||| place count 64
  | .kernelLoad _ start count => place start 32 ||| place count 64
  | .kernelRead _ start count => place start 32 ||| place count 64
  | .outputEnable _ mask => place mask 0
  | .outputDisable _ mask => place mask 0
  | .outputCommit _ tick => place tick 64
  | .curAccession _ => 0
  | .curReadback _ cur addr count => place cur 0 ||| place addr 16 ||| place count 32
  | .curStart _ mask tick => place mask 0 ||| place tick 128
  | .curStop _ mask tick atShot => place mask 0 ||| place tick 128 ||| placeBit atShot 192
  | .curBarrier _ b mask => place b 0 ||| place mask 128
  | .frameOp _ frame fop farg => place frame 0 ||| place fop 16 ||| place farg 32
  | .frameCommit _ tick keepPhase => place tick 64 ||| placeBit keepPhase 128
  | .readoutCommit _ tick => place tick 64
  | .discRebase _ tick => place tick 0
  | .discSeedStore _ => 0
  | .discSeedRestore _ => 0
  | .biasWrite _ bank first count strobeAfter => place bank 0 ||| place first 8 ||| place count 16 ||| placeBit
      strobeAfter 24
  | .biasStrobe _ masks => place masks 0
  | .biasClear _ banks => place banks 0
  | .biasCommit _ tick => place tick 64
  | .catCommit _ tick => place tick 64
  | .catGroup _ mask => place mask 0
  | .vitArm _ mask tick => place mask 0 ||| place tick 64
  | .vitTrigger _ mask => place mask 0
  | .vitAbort _ mask => place mask 0
  | .calOutput _ mask => place mask 0
  | .calInput _ mask => place mask 0
  | .calBias _ banks => place banks 0
  | .calSysZero _ input => place input 0
  | .calSysFull _ input ampl freq => place input 0 ||| place ampl 16 ||| place freq 64
  | .calSysStore _ mask => place mask 0
  | .resume _ => 0
  | .ldgSnap _ tick peers => place tick 64 ||| placeBit peers 128
  | .ldgRead _ cls first count => place cls 0 ||| place first 16 ||| place count 32
  | .ldgRelease _ => 0
  | .ldgStatus _ => 0
  | .surveyStart _ mask tick => place mask 0 ||| place tick 64
  | .surveyStop _ mask tick => place mask 0 ||| place tick 64
  | .cpLink _ ports up => place ports 0 ||| place up 8
  | .cpCommit _ tick => place tick 64
  | .secPolicy _ policy => placeBit policy 0
  | .secKeyLoad _ slot => place slot 0
  | .secFwUpdate _ => 0
  | .secDebugUnlock _ => 0
  | .appStart _ app start stop => place app 0 ||| place start 64 ||| place stop 128
  | .appStop _ app stop => place app 0 ||| place stop 64
  | .appRead _ app => place app 0
  | _ => 0

/-- The inline bytes of a command: its parameters and the bits its opcode does not define. -/
def Instr.inline (i : Instr) (h : Hdr) : BitVec 256 := i.params ||| (h.rsv &&& ~~~ paramMask i.opcode)

/-! ### CRC-32C (R409) -/

/-- One bit of the reflected CRC-32C: the polynomial 0x1EDC6F41 reflected is 0x82F63B78. -/
def crcBit (c : BitVec 32) : BitVec 32 := if c.getLsbD 0 then (c >>> 1) ^^^ 0x82F63B78#32 else c >>> 1

/-- One byte of the CRC. -/
def crcByte (c : BitVec 32) (b : Byte) : BitVec 32 :=
  crcBit (crcBit (crcBit (crcBit (crcBit (crcBit (crcBit (crcBit (c ^^^ b.setWidth 32))))))))

/-- CRC-32C of bytes (R409). -/
def crc32c (l : List Byte) : BitVec 32 := ~~~ l.foldl crcByte (BitVec.allOnes 32)

/-- Byte k of a packet. -/
def pktByte (p : BitVec 512) (k : Nat) : Byte := p.extractLsb' (8 * k) 8

/-- The 60 bytes of a packet that its CRC covers (R409). -/
def crcBytes (p : BitVec 512) : List Byte :=
  (List.range 28).map (pktByte p) ++ (List.range 32).map (fun k => pktByte p (32 + k))

/-- Whether a packet's CRC matches (R409). -/
def packetCrcOk (p : BitVec 512) : Bool := decide (crc32c (crcBytes p) = p.extractLsb' 224 32)

/-! ### Packets -/

/-- What reaches the device beside the packet: the path, the extended parameters and the sender of a datagram. -/
structure Carried where
  path : Path
  ext : List Byte
  extRefused : Bool
  peer : BitVec 128
  peerPort : BitVec 16
  mac : BitVec 48
deriving DecidableEq, Repr

/-- The header of a packet (R406), with the inline bits that its opcode does not define. -/
def packetHdr (c : Carried) (p : BitVec 512) : Hdr where
  path := c.path
  tag := p.extractLsb' 16 16
  flags := p.extractLsb' 32 16
  plen := p.extractLsb' 48 16
  at_ := p.extractLsb' 64 64
  extptr := p.extractLsb' 128 64
  extlen := p.extractLsb' 192 32
  rsv := p.extractLsb' 256 256 &&& ~~~ paramMask (p.extractLsb' 0 16).toNat
  ext := c.ext
  extRefused := c.extRefused
  peer := c.peer
  peerPort := c.peerPort
  mac := c.mac

/-- The command that an opcode and inline bytes spell (R430); none where the opcode is not in the catalogue. -/
def decodeInline (op : Nat) (h : Hdr) (b : BitVec 256) : Option Instr :=
  match op with
  | 0x0100 => some (.sysNop h)
  | 0x0101 => some (.sysIdentify h)
  | 0x0102 => some (.objRead h (b.extractLsb' 0 8) (b.extractLsb' 16 16) (b.extractLsb' 32 32) (b.extractLsb' 64 32))
  | 0x0103 => some (.objWrite h (b.extractLsb' 0 8) (b.extractLsb' 16 16) (b.extractLsb' 32 32) (b.extractLsb' 64
      32) (b.extractLsb' 128 128))
  | 0x0104 => some (.sysReset h (b.extractLsb' 0 8))
  | 0x0105 => some (.sysNotify h (b.extractLsb' 0 8))
  | 0x0106 => some (.sysCancel h (b.extractLsb' 0 16))
  | 0x0110 => some (.ringAssign h (b.extractLsb' 0 8) (b.extractLsb' 8 8))
  | 0x0201 => some (.pwrState h (b.extractLsb' 0 8))
  | 0x0202 => some (.pwrDomain h (b.extractLsb' 0 64) (b.extractLsb' 64 64))
  | 0x0301 => some (.timeRead h)
  | 0x0302 => some (.timeSetEpoch h (b.extractLsb' 64 64))
  | 0x0303 => some (.timeSwitch h (b.extractLsb' 0 8) (b.getLsbD 8) (b.extractLsb' 64 64))
  | 0x0304 => some (.timeCaptureRead h (b.extractLsb' 0 16))
  | 0x0401 => some (.archiveLoad h (b.extractLsb' 0 8) (b.extractLsb' 32 32) (b.extractLsb' 64 32))
  | 0x0402 => some (.archiveRead h (b.extractLsb' 0 8) (b.extractLsb' 32 32) (b.extractLsb' 64 32))
  | 0x0403 => some (.kernelLoad h (b.extractLsb' 32 32) (b.extractLsb' 64 32))
  | 0x0404 => some (.kernelRead h (b.extractLsb' 32 32) (b.extractLsb' 64 32))
  | 0x0405 => some (.outputEnable h (b.extractLsb' 0 96))
  | 0x0406 => some (.outputDisable h (b.extractLsb' 0 96))
  | 0x0407 => some (.outputCommit h (b.extractLsb' 64 64))
  | 0x0501 => some (.curAccession h)
  | 0x0502 => some (.curReadback h (b.extractLsb' 0 16) (b.extractLsb' 16 16) (b.extractLsb' 32 16))
  | 0x0503 => some (.curStart h (b.extractLsb' 0 128) (b.extractLsb' 128 64))
  | 0x0504 => some (.curStop h (b.extractLsb' 0 128) (b.extractLsb' 128 64) (b.getLsbD 192))
  | 0x0505 => some (.curBarrier h (b.extractLsb' 0 8) (b.extractLsb' 128 128))
  | 0x0601 => some (.frameOp h (b.extractLsb' 0 16) (b.extractLsb' 16 8) (b.extractLsb' 32 16))
  | 0x0602 => some (.frameCommit h (b.extractLsb' 64 64) (b.getLsbD 128))
  | 0x0701 => some (.readoutCommit h (b.extractLsb' 64 64))
  | 0x0702 => some (.discRebase h (b.extractLsb' 0 64))
  | 0x0703 => some (.discSeedStore h)
  | 0x0704 => some (.discSeedRestore h)
  | 0x0801 => some (.biasWrite h (b.extractLsb' 0 8) (b.extractLsb' 8 8) (b.extractLsb' 16 8) (b.getLsbD 24))
  | 0x0802 => some (.biasStrobe h (b.extractLsb' 0 128))
  | 0x0803 => some (.biasClear h (b.extractLsb' 0 8))
  | 0x0804 => some (.biasCommit h (b.extractLsb' 64 64))
  | 0x0901 => some (.catCommit h (b.extractLsb' 64 64))
  | 0x0902 => some (.catGroup h (b.extractLsb' 0 16))
  | 0x0A01 => some (.vitArm h (b.extractLsb' 0 8) (b.extractLsb' 64 64))
  | 0x0A02 => some (.vitTrigger h (b.extractLsb' 0 8))
  | 0x0A03 => some (.vitAbort h (b.extractLsb' 0 8))
  | 0x0B01 => some (.calOutput h (b.extractLsb' 0 96))
  | 0x0B02 => some (.calInput h (b.extractLsb' 0 32))
  | 0x0B03 => some (.calBias h (b.extractLsb' 0 8))
  | 0x0B04 => some (.calSysZero h (b.extractLsb' 0 8))
  | 0x0B05 => some (.calSysFull h (b.extractLsb' 0 8) (b.extractLsb' 16 16) (b.extractLsb' 64 48))
  | 0x0B06 => some (.calSysStore h (b.extractLsb' 0 32))
  | 0x0C01 => some (.resume h)
  | 0x0D01 => some (.ldgSnap h (b.extractLsb' 64 64) (b.getLsbD 128))
  | 0x0D02 => some (.ldgRead h (b.extractLsb' 0 8) (b.extractLsb' 16 16) (b.extractLsb' 32 16))
  | 0x0D03 => some (.ldgRelease h)
  | 0x0D04 => some (.ldgStatus h)
  | 0x0E01 => some (.surveyStart h (b.extractLsb' 0 64) (b.extractLsb' 64 64))
  | 0x0E02 => some (.surveyStop h (b.extractLsb' 0 64) (b.extractLsb' 64 64))
  | 0x0F01 => some (.cpLink h (b.extractLsb' 0 8) (b.extractLsb' 8 8))
  | 0x0F02 => some (.cpCommit h (b.extractLsb' 64 64))
  | 0x1001 => some (.secPolicy h (b.getLsbD 0))
  | 0x1002 => some (.secKeyLoad h (b.extractLsb' 0 8))
  | 0x1003 => some (.secFwUpdate h)
  | 0x1004 => some (.secDebugUnlock h)
  | 0x1101 => some (.appStart h (b.extractLsb' 0 8) (b.extractLsb' 64 64) (b.extractLsb' 128 64))
  | 0x1102 => some (.appStop h (b.extractLsb' 0 8) (b.extractLsb' 64 64))
  | 0x1103 => some (.appRead h (b.extractLsb' 0 8))
  | _ => none

/-- The command that a packet spells; none where its opcode is not in the catalogue (R414 check 2). -/
def decodePacket (c : Carried) (p : BitVec 512) : Option Instr :=
  decodeInline (p.extractLsb' 0 16).toNat (packetHdr c p) (p.extractLsb' 256 256)

/-- The packet of a command with a given CRC field. -/
def packetWith (i : Instr) (h : Hdr) (crc : BitVec 32) : BitVec 512 :=
  (BitVec.ofNat 16 i.opcode).setWidth 512 ||| h.tag.setWidth 512 <<< 16 ||| h.flags.setWidth 512 <<< 32
    ||| h.plen.setWidth 512 <<< 48 ||| h.at_.setWidth 512 <<< 64 ||| h.extptr.setWidth 512 <<< 128
    ||| h.extlen.setWidth 512 <<< 192 ||| crc.setWidth 512 <<< 224 ||| (i.inline h).setWidth 512 <<< 256

/-- The packet of a host command (R406, R409); none for a row that no opcode of its own names. -/
def encodePacket (i : Instr) : Option (BitVec 512) :=
  match i.hdr, i.writeRow with
  | some h, false => some (packetWith i h (crc32c (crcBytes (packetWith i h 0))))
  | _, _ => none

/-- What of a header travels beside the packet. -/
def Hdr.carried (h : Hdr) : Carried := ⟨h.path, h.ext, h.extRefused, h.peer, h.peerPort, h.mac⟩

/-! ### The catalogue's columns (R430) -/

/-- The opcode may be scheduled with AT_TIME (column AT). -/
def schedulable (op : Nat) : Bool :=
  match op with
  | 0x0100 | 0x0102 | 0x0103 | 0x0301 | 0x0405 | 0x0406 | 0x0601 | 0x0801 | 0x0802 | 0x0803 | 0x0902 | 0x0A02 |
      0x0A03 => true
  | _ => false

/-- The opcode is a secure one (R429). -/
def secureOpcode (op : Nat) : Bool := decide (op = 0x0104 ∨ op / 256 = 0x10)

/-- The power states that accept the opcode, bit 0 Run, 1 Idle, 2 Quiet (column Power). -/
def powerMask (op : Nat) : Nat :=
  match op with
  | 0x0503 => 1
  | 0x0401 | 0x0402 | 0x0403 | 0x0404 | 0x0405 | 0x0406 | 0x0407 | 0x0501 | 0x0502 | 0x0504 | 0x0701 | 0x0702 |
      0x0703 | 0x0704 | 0x0A01 | 0x0A02 | 0x0A03 | 0x0B01 | 0x0B02 | 0x0B04 | 0x0B05 | 0x0B06 | 0x0E01 | 0x0E02 |
      0x1101 | 0x1102 | 0x1103 => 3
  | _ => 7

/-- The opcode takes extended parameters (R408 and the rules of its chapter). -/
def takesExt (op : Nat) : Bool :=
  match op with
  | 0x0103 | 0x0401 | 0x0403 | 0x0501 | 0x0702 | 0x0703 | 0x0704 | 0x0801 | 0x1002 | 0x1003 | 0x1004 => true
  | _ => false

end Sys2Proof
end

