-- ==== Sys2Proof/Machine/HostLink.lean ====
section
/-! DEFINITION. The host link (15_host_link.md): interrupt causes and MSI-X, rings, mailboxes, BAR0 registers,
notices. -/

namespace Sys2Proof.Machine

/-! ### Functions and interrupts (R380 to R384) -/

def State.fnRegs (s : State) : Fn → FnRegs
  | .pf0 => s.host.pf0
  | .pf1 => s.host.pf1

def State.setFn (s : State) (f : Fn) (r : FnRegs) : State :=
  match f with
  | .pf0 => { s with host := { s.host with pf0 := r } }
  | .pf1 => { s with host := { s.host with pf1 := r } }

def fnNum : Fn → Nat
  | .pf0 => 0
  | .pf1 => 1

/-- Keys of `setNow` for the W1C registers of the host link (R7). -/
def nowCat (f : Fn) : Nat := 2 ^ 24 + fnNum f
def nowRing : Nat := 2 ^ 24 + 2
def nowMb (f : Fn) : Nat := 2 ^ 24 + 3 + fnNum f
def nowBox (m : Nat) : Nat := 2 ^ 24 + 10 + m
def nowRingSt (n : Nat) : Nat := 2 ^ 24 + 32 + n

/-- An MSI-X table entry nobody has written: its mask bit, bit 0 of Vector Control, is 1 (R381). -/
def msixReset : Nat := 2 ^ 96

def FnRegs.entry (r : FnRegs) (v : Nat) : Nat := sget (fun _ => msixReset) r.msix v

/-- A mapped cause of vector v sets: one message a tick, or the PBA bit while the vector is masked (R382). -/
def State.raiseVector (s : State) (f : Fn) (v : Nat) : State :=
  let r := s.fnRegs f
  if !s.powered domPCIE ∨ bit r.sentNow v then s
  else if bit (r.entry v) 96 then s.setFn f { r with pba := r.pba ||| (1 <<< v) }
  else (s.setFn f { r with sentNow := r.sentNow ||| (1 <<< v) }).emit (.msix f v)

/-- The mask bit of vector v clears: one message if the PBA bit is set, and the PBA bit clears (R382). -/
def State.unmaskVector (s : State) (f : Fn) (v : Nat) : State :=
  let r := s.fnRegs f
  let s1 := s.setFn f { r with msix := sset (fun _ => msixReset) r.msix v (setBits (r.entry v) 96 1 0) }
  let r1 := s1.fnRegs f
  if bit r1.pba v then
    (s1.setFn f { r1 with pba := clearMask r1.pba (1 <<< v), sentNow := r1.sentNow ||| (1 <<< v) }).emit (.msix f v)
  else s1

/-- Catalogue vector j becomes pending in a function (R383). -/
def State.setCatPending (s : State) (f : Fn) (j : Nat) : State :=
  let r := s.fnRegs f
  ((s.setFn f { r with catPending := r.catPending ||| (1 <<< j) }).markNow (nowCat f) (1 <<< j)).raiseVector f j

/-- Function of a mailbox and its local number (R381). -/
def mbFn (m : Nat) : Fn := if m < 4 then .pf0 else .pf1

def State.mbox (s : State) (m : Nat) : Mbox := sget (fun _ => Mbox.empty) s.host.mbs m

def State.setMbox (s : State) (m : Nat) (b : Mbox) : State :=
  { s with host := { s.host with mbs := sset (fun _ => Mbox.empty) s.host.mbs m b } }

/-- A mailbox cause: kind 0 POST, 1 ACK, 2 TMO, 3 NOTE, under its enable in MB_IRQ_EN (R381, R382). -/
def State.mbCause (s : State) (m kind : Nat) : State :=
  if !bit (s.mbox m).irqEn kind then s
  else
    let f := mbFn m
    let r := s.fnRegs f
    let b := 4 * kind + m % 4
    let s1 := (s.setFn f { r with mbCause := r.mbCause ||| (1 <<< b) }).markNow (nowMb f) (1 <<< b)
    if bit r.mbCause b then s1 else s1.raiseVector f (bits r.mbVec (8 * (m % 4)) 5)

/-! ### Rings (R385 to R391) -/

/-- Size of an entry in bytes (R385). -/
def entrySize (n : Nat) : Nat := if n < 3 then 64 else if n < 6 then 32 else 512

def State.ring (s : State) (n : Nat) : Ring := sget ringReset s.host.rings n

def State.setRing (s : State) (n : Nat) (r : Ring) : State :=
  { s with host := { s.host with rings := sset ringReset s.host.rings n r } }

/-- Requester of a ring: its owner (R385). -/
def Ring.fn (r : Ring) : Fn := if r.owner = 2 then .pf1 else .pf0

def Ring.full (r : Ring) : Bool := decide ((r.prod + 1) % r.length = r.cons)
def Ring.isEmpty (r : Ring) : Bool := decide (r.prod = r.cons)

/-- Whether a function owns a ring. -/
def Ring.ownedBy (r : Ring) (f : Fn) : Bool := decide (r.owner = fnNum f + 1)

/-- Whether a device-produced ring takes an entry: powered, assigned, enabled and not full (R387, R388, R391). -/
def State.ringRoom (s : State) (n : Nat) : Bool :=
  let r := s.ring n
  s.powered domPCIE && decide (r.owner ≠ 0) && r.en && !r.full

/-- Sets the cause bit of a ring in the function that owns it (R381, R382). -/
def State.ringCauseSet (s : State) (n : Nat) : State :=
  let r := s.ring n
  let was := bit s.host.ringCause n
  let s1 := { s with host := { s.host with ringCause := s.host.ringCause ||| (1 <<< n) } }.markNow nowRing (1 <<< n)
  if was then s1 else s1.raiseVector r.fn r.vector

/-- Evaluates a ring's IRQ rule on its count (R386). -/
def State.ringIrqCount (s : State) (n : Nat) : State :=
  let r := s.ring n
  if r.irqEn ∧ r.irqCountM1 + 1 ≤ r.counted then (s.setRing n { r with counted := 0 }).ringCauseSet n else s

/-- Counts one entry of a ring and evaluates its cause (R386). -/
def State.ringCount (s : State) (n : Nat) : State :=
  let r := s.ring n
  (s.setRing n { r with counted := r.counted + 1, firstAt := if r.counted = 0 then s.tick else r.firstAt }).ringIrqCount n

/-- RING_IRQ_TIME is due: IRQ_TIME µs after the first uncounted entry (R386). -/
def State.ringIrqDue (s : State) (n : Nat) : Bool :=
  let r := s.ring n
  r.irqEn && decide (r.irqTime ≠ 0 ∧ r.counted ≠ 0 ∧ r.firstAt + 1000 * r.irqTime ≤ s.tick)

/-- RING_IRQ_TIME (R386). -/
def State.ringIrqTime (s : State) (n : Nat) : State :=
  if s.ringIrqDue n then (s.setRing n { s.ring n with counted := 0 }).ringCauseSet n else s

/-- Write-back of the device's index when WB_EN is 1 (R387). -/
def State.ringWriteBack (s : State) (n idx : Nat) : State :=
  let r := s.ring n
  if r.wbEn then s.emit (.dma r.fn r.wb (leBytes 4 idx)) else s

/-- Counts discarded entries (R389). -/
def State.ringLost (s : State) (n k : Nat) : State :=
  if k = 0 then s
  else (({ s with host := { s.host with rings := sset ringReset s.host.rings n { s.ring n with lost := true } } }
    ).markNow (nowRingSt n) 64).countN 0x15 n 2 k

/-- The staged length takes effect at a wrap of the producer to entry 0 (R42): the ring, and how many entries and
which tags it discards. -/
def Ring.applyStaged (r : Ring) (new : Nat) : Ring × Nat × List (Nat × Nat) :=
  let old := r.length
  let lost := if new < old then old - max r.cons new else 0
  let gone := if new < old then r.tags.filter (fun t => decide (new ≤ t.1)) else []
  ({ r with
      length := new, staged := none
      cons := if new ≤ r.cons ∧ new < old then 0 else r.cons
      oldLen := if old < new ∧ r.cons ≠ 0 then some old else none
      tags := if new < old then r.tags.filter (fun t => decide (t.1 < new)) else r.tags }, lost, gone)

/-- The device writes an entry of a ring that has room: the entry, PROD, the write-back, the cause, in that order
(R387); at a wrap a staged length applies (R42). `tag` is what R389 needs of the entry should it be discarded.
Answers the tags of the entries that a length change discarded. -/
def State.ringProduce (s : State) (n : Nat) (entry : List Byte) (tag : Nat) : State × List Nat :=
  let r := s.ring n
  let s1 := (s.emit (.dma r.fn (r.base + r.prod * entrySize n) entry)).count 0x15 n 0
  let tags := if 6 ≤ n then r.tags ++ [(r.prod, tag)] else r.tags
  let wraps := decide (r.length ≤ r.prod + 1)
  let r1 := { r with prod := if wraps then 0 else r.prod + 1, tags := tags }
  let res : Ring × Nat × List (Nat × Nat) × Bool :=
    match wraps, r.staged with
    | true, some l => let a := r1.applyStaged l; (a.1, a.2.1, a.2.2, true)
    | _, _ => (r1, 0, [], false)
  let s2 := s1.setRing n res.1
  let lost := if n = 6 then (res.2.2.1.map Prod.snd).foldl (· + ·) 0 else res.2.1
  let s3 := (if res.2.2.2 then s2.count 0x15 n 3 else s2).ringLost n lost
  (((s3.ringWriteBack n res.1.prod).ringCount n), res.2.2.1.map Prod.snd)

/-! ### Held completions and notices (R390, R422) -/

/-- Number of entries held for a ring. Completions among them stay within R390's 256: a path fetches nothing while its ring
holds any, and has at most 64 commands open (R413). -/
def State.heldFor (s : State) (n : Nat) : Nat := (s.host.held.filter (fun e => decide (e.ring = n))).length

/-- Writes an entry to a completion ring, or holds it (R390). -/
def State.postEntry (s : State) (n : Nat) (notice : Bool) (f : Nat) (bytes : List Byte) : State :=
  if s.heldFor n = 0 ∧ s.ringRoom n then (s.ringProduce n bytes 0).1
  else { s with host := { s.host with held := s.host.held ++ [⟨n, notice, f, bytes⟩] } }

/-- Takes the oldest held entry of a ring out of the list. -/
def takeHeld (n : Nat) : List HeldEntry → Option (HeldEntry × List HeldEntry)
  | [] => none
  | e :: l =>
    if e.ring = n then some (e, l)
    else match takeHeld n l with
      | some (x, l') => some (x, e :: l')
      | none => none

/-- HELD_COMPLETION_WRITE: the oldest held entry of completion ring k is written once there is room (R390). -/
def State.heldWrite (s : State) (k : Nat) : State :=
  match takeHeld (3 + k) s.host.held with
  | none => s
  | some (e, rest) =>
    if s.ringRoom (3 + k) then
      (({ s with host := { s.host with held := rest } }).ringProduce (3 + k) e.bytes 0).1
    else s

/-- A 32-byte completion or notice (R410). -/
def completionBytes (tag op status cinfo r0 r1 r2 r3 raw : Nat) : List Byte :=
  leBytes 2 tag ++ leBytes 2 op ++ leBytes 2 status ++ leBytes 2 cinfo ++ leBytes 4 r0 ++ leBytes 4 r1 ++
    leBytes 4 r2 ++ leBytes 4 r3 ++ leBytes 8 raw

/-- Capture units whose records a message carries: a completion of TIME_CAPTURE_READ with its data (R329). -/
def unitsIn (msg : List Byte) : Nat :=
  if leNat (sub msg 2 2) = 0x0304 ∧ 32 < msg.length then leNat (sub msg 12 4) else 0

/-- The Docent drops messages that wait for an empty mailbox: records that they carry are lost (R17). -/
def State.dropMessages (s : State) (gone : Nat × List Byte → Bool) : State :=
  (s.host.mbq.filter gone).foldl (fun t e => t.capturesLost (unitsIn e.2))
    { s with host := { s.host with mbq := s.host.mbq.filter (fun e => !gone e) } }

/-- Posts a notice on the route of one function (R422, R423). -/
def State.noticeTo (s : State) (f : Fn) (code r1 r2 r3 : Nat) : State :=
  let g := s.fnRegs f
  let bytes := completionBytes 0xFFFF 0 0 (if bit g.noticeLost g.route then 9 else 1) code r1 r2 r3 (16 * s.tick)
  let marked := fun (m : Nat) => s.setFn f { g with noticeLost := m }
  if g.route = 0 then s
  else if g.route < 0x10 then
    let n := 2 + g.route
    if 256 ≤ s.heldFor n then (marked (g.noticeLost ||| (1 <<< g.route))).countN 0x15 n 2 1
    else (marked (clearMask g.noticeLost (1 <<< g.route))).postEntry n true (fnNum f) bytes
  else
    let s1 := marked (clearMask g.noticeLost (1 <<< g.route))
    { s1 with host := { s1.host with mbq := s1.host.mbq ++ [(g.route - 0x10, bytes)] } }

/-- Posts a notice: it goes to every function whose route is not none (R423). -/
def State.notice (s : State) (code r1 r2 r3 : Nat) : State :=
  (s.noticeTo .pf0 code r1 r2 r3).noticeTo .pf1 code r1 r2 r3

/-! ### Mailboxes (R392 to R396) -/

/-- H2D_TIMEOUT is due at the tick after the timeout's last tick (R394). -/
def State.h2dTimeoutDue (s : State) (m : Nat) : Bool :=
  let b := s.mbox m
  b.h2dFull && decide (b.h2dDue ≠ 0 ∧ b.h2dDue ≤ s.tick)

/-- H2D_TIMEOUT: the message stays posted (R394). -/
def State.h2dExpire (s : State) (m : Nat) : State :=
  if s.h2dTimeoutDue m then
    (((s.setMbox m { s.mbox m with h2dTimeout := true, h2dDue := 0 }).markNow (nowBox m) 2).count 0x16 m 2).mbCause m 2
  else s

def State.d2hTimeoutDue (s : State) (m : Nat) : Bool :=
  let b := s.mbox m
  b.d2hFull && decide (b.d2hDue ≠ 0 ∧ b.d2hDue ≤ s.tick)

/-- D2H_TIMEOUT: the Docent's timeout on its message (R392, R394). -/
def State.d2hExpire (s : State) (m : Nat) : State :=
  if s.d2hTimeoutDue m then (s.setMbox m { s.mbox m with d2hTimeout := true, d2hDue := 0 }).count 0x16 m 2 else s

/-- Host doorbell of an H2D slot with a written length (R393). -/
def State.h2dDoorbell (s : State) (m len : Nat) : State :=
  let b := s.mbox m
  if b.h2dFull ∨ len = 0 ∨ 256 < len then s
  else
    let s1 := s.setMbox m { b with
      h2dLen := len, h2dPosted := len, h2dFull := true, h2dBell := true
      h2dDue := if b.tmoUs = 0 then 0 else s.tick + 1000 * b.tmoUs }
    s1.count 0x16 m 0

/-- The Docent takes the H2D message: FULL clears and the host's ACK sets (R393). A timeout that the tick of the take has
brought is recorded first (R394). The Docent's DOORBELL flag clears with the take (DESIGN CHOICE: R393 does not say when). -/
def State.h2dTaken (s : State) (m : Nat) : State :=
  let s1 := s.h2dExpire m
  ((s1.setMbox m { s1.mbox m with h2dFull := false, ack := true, h2dRreset := false, h2dDue := 0, h2dBell := false }).markNow
    (nowBox m) 16).mbCause m 1

/-- The host takes the D2H message: FULL clears and the Docent's ACK sets (R393); a timeout that the tick of the take has
brought is recorded first, and TIMEOUT stays (R394). -/
def State.d2hTaken (s : State) (m : Nat) : State :=
  if (s.mbox m).d2hFull then
    let s1 := s.d2hExpire m
    s1.setMbox m { s1.mbox m with d2hFull := false, d2hAck := true, d2hRreset := false, d2hDue := 0 }
  else s

/-- Withdraws a posted H2D message (R397). A timeout that the tick of the withdrawal has brought is recorded first (R394). -/
def State.h2dWithdraw (s : State) (m : Nat) : State :=
  if (s.mbox m).h2dFull then
    let s1 := s.h2dExpire m
    (((s1.setMbox m { s1.mbox m with h2dFull := false, h2dWithdrawn := true, h2dRreset := false, h2dDue := 0 }).markNow
      (nowBox m) 4).count 0x16 m 3).mbCause m 3
  else s

/-- Withdraws a posted D2H message (R397). A timeout that the tick of the withdrawal has brought is recorded first (R394). -/
def State.d2hWithdraw (s : State) (m : Nat) : State :=
  if (s.mbox m).d2hFull then
    let s1 := s.d2hExpire m
    (((s1.setMbox m { s1.mbox m with d2hFull := false, d2hWithdrawn := true, d2hRreset := false, d2hDue := 0 }).markNow
      (nowBox m) 1024).count 0x16 m 3).mbCause m 3
  else s

/-- The receiver of a posted message was reset: RRESET is set until the slot empties (R397). -/
def State.h2dMarkReset (s : State) (m : Nat) : State :=
  let b := s.mbox m
  if b.h2dFull ∧ !b.h2dRreset then ((s.setMbox m { b with h2dRreset := true }).count 0x16 m 4).mbCause m 3 else s

def State.d2hMarkReset (s : State) (m : Nat) : State :=
  let b := s.mbox m
  if b.d2hFull ∧ !b.d2hRreset then ((s.setMbox m { b with d2hRreset := true }).count 0x16 m 4).mbCause m 3 else s

/-- Removes the first queued D2H message of a mailbox that equals `msg`. -/
def dropQueued (m : Nat) (msg : List Byte) : List (Nat × List Byte) → List (Nat × List Byte)
  | [] => []
  | e :: l => if e.1 = m ∧ e.2 = msg then l else e :: dropQueued m msg l

/-! ### Register writes -/

/-- Ring length write (R41, R42). -/
def validLength (v : Nat) : Bool := (List.range 13).any (fun k => decide (v = 2 ^ (k + 4)))

def State.ringWriteLength (s : State) (n v : Nat) : State :=
  let r := s.ring n
  if !validLength v then (s.setRing n { r with lenErr := true }).markNow (nowRingSt n) 128
  else if r.en then s.setRing n { r with staged := some v }
  else (s.setRing n { r with length := v, prod := 0, cons := 0, oldLen := none, tags := [] }).count 0x15 n 3

/-- An ignored index write (R387). -/
def State.ringPtrErr (s : State) (n : Nat) : State :=
  (s.setRing n { s.ring n with ptrErr := true }).markNow (nowRingSt n) 256

/-- PROD write of a command ring (R387, R389). `v` is bits [15:0] of the write; the others are reserved (R4). -/
def State.ringWriteProd (s : State) (n v : Nat) : State :=
  let r := s.ring n
  if 3 ≤ n ∨ !r.en then s
  else match r.staged with
    | some l =>
      if v < r.prod then
        if l ≤ v then s.ringPtrErr n
        else
          let a := r.applyStaged l
          (((s.countN 0x15 n 0 (r.length - r.prod + v)).setRing n { a.1 with prod := v }).count 0x15 n 3).ringLost n a.2.1
      else if r.length ≤ v then s.ringPtrErr n
      else (s.countN 0x15 n 0 (v - r.prod)).setRing n { r with prod := v }
    | none =>
      if r.length ≤ v then s.ringPtrErr n
      else (s.countN 0x15 n 0 (if v < r.prod then r.length - r.prod + v else v - r.prod)).setRing n { r with prod := v }

/-- CONS write of a device-produced ring, bits [15:0] (R387): entries are freed. -/
def State.ringWriteCons (s : State) (n v : Nat) : State :=
  let r := s.ring n
  if n < 3 ∨ !r.en then s
  else if r.length ≤ v then s.ringPtrErr n
  else
    let len := match r.oldLen with | some l => l | none => r.length
    let wraps := decide (v < r.cons)
    let freed := fun i => if wraps then decide (r.cons ≤ i ∨ i < v) else decide (r.cons ≤ i ∧ i < v)
    (s.countN 0x15 n 1 (if wraps then len - r.cons + v else v - r.cons)).setRing n
      { r with cons := v, oldLen := if wraps then none else r.oldLen, tags := r.tags.filter (fun t => !freed t.1) }

/-- Write of the ring control register: VECTOR, WB_EN, IRQ_EN, EN (R386, R388). Clearing EN discards a staged length. -/
def State.ringWriteCtl (s : State) (n v : Nat) : State :=
  let r := s.ring n
  let en := bit v 0
  s.setRing n { r with vector := bits v 8 5, wbEn := bit v 2, irqEn := bit v 1, en := en
                       staged := if en then r.staged else none }

/-- A write to the register at offset `off` of ring n's set (R386). -/
def State.ringWrite (s : State) (f : Fn) (n off v : Nat) : State :=
  let r := s.ring n
  if !r.ownedBy f then s
  else match off with
    | 0x00 => s.setRing n { r with base := setBits r.base 0 32 (bits v 12 20 * 2 ^ 12) }
    | 0x04 => s.setRing n { r with base := setBits r.base 32 32 v }
    | 0x08 => s.ringWriteLength n v
    | 0x0C => s.ringWriteCtl n v
    | 0x10 => s.ringWriteProd n (v % 2 ^ 16)
    | 0x14 => s.ringWriteCons n (v % 2 ^ 16)
    | 0x18 =>
      let clr := clearMask v (s.nowMask (nowRingSt n))
      s.setRing n { r with ptrErr := r.ptrErr && !bit clr 8, lenErr := r.lenErr && !bit clr 7, lost := r.lost && !bit clr 6 }
    | 0x20 => s.setRing n { r with wb := setBits r.wb 0 32 (bits v 2 30 * 4) }
    | 0x24 => s.setRing n { r with wb := setBits r.wb 32 32 v }
    | 0x28 => s.setRing n { r with irqTime := bits v 16 16, irqCountM1 := bits v 0 16 }
    | _ => s

/-- A write to the register at offset `off` of mailbox m (R392). -/
def State.mbWrite (s : State) (m off v : Nat) : State :=
  let b := s.mbox m
  if off < 0x100 then
    if b.h2dFull then s else s.setMbox m { b with h2d := setBits b.h2d (8 * off) 32 v }
  else match off with
    | 0x200 => if bit v 16 then s.h2dDoorbell m (bits v 0 9) else s.setMbox m { b with h2dLen := bits v 0 9 }
    | 0x204 =>
      let clr := clearMask v (s.nowMask (nowBox m))
      s.setMbox m { b with ack := b.ack && !bit clr 4, h2dWithdrawn := b.h2dWithdrawn && !bit clr 2
                           h2dTimeout := b.h2dTimeout && !bit clr 1 }
    | 0x208 => s.setMbox m { b with tmoUs := bits v 0 24 }
    | 0x20C => if bit v 0 then s.d2hTaken m else s
    | 0x210 =>
      let clr := clearMask (v * 2 ^ 8) (s.nowMask (nowBox m))
      s.setMbox m { b with d2hDoorbell := b.d2hDoorbell && !bit clr 12, d2hWithdrawn := b.d2hWithdrawn && !bit clr 10 }
    | 0x214 => s.setMbox m { b with irqEn := bits v 0 4 }
    | _ => s

/-- A W1C write of a cause register: bits that hardware set in the tick of the clear stay set, and their vector
sends a message (R7, R382). `now` masks those bits, `vec` maps a bit to its vector. -/
def State.resend (s : State) (f : Fn) (mask n : Nat) (vec : Nat → Nat) : State :=
  (setPositions mask n).foldl (fun t j => t.raiseVector f (vec j)) s

/-- W1C write of CAT_PENDING. An event of the same tick that found its bit pending is taken after the clear (R383). -/
def State.catClear (s : State) (f : Fn) (v : Nat) : State :=
  let r := s.fnRegs f
  let now := s.nowMask (nowCat f)
  let hit := v &&& r.catBusy
  let s1 := s.setFn f { r with catPending := clearMask r.catPending (clearMask v (now ||| hit)), catBusy := clearMask r.catBusy hit }
  let s2 := (setPositions hit 32).foldl (fun t j => (t.count 0x12 (188 + j) 0).markNow (nowCat f) (1 <<< j)) s1
  s2.resend f (v &&& r.catPending &&& (now ||| hit)) 32 (fun j => j)

/-- W1C write of the ring causes of a function, `v` placed at bit 0 of ring 0 (R381): only rings it owns. -/
def State.ringCauseClear (s : State) (f : Fn) (v : Nat) : State :=
  let own := maskOf ((List.range 80).filter (fun n => (s.ring n).ownedBy f))
  let now := s.nowMask nowRing
  let v := v &&& own
  let was := s.host.ringCause
  ({ s with host := { s.host with ringCause := clearMask was (clearMask v now) } }).resend f (v &&& was &&& now) 80
    (fun n => (s.ring n).vector)

/-- W1C write of the mailbox causes (R381). -/
def State.mbCauseClear (s : State) (f : Fn) (v : Nat) : State :=
  let r := s.fnRegs f
  let now := s.nowMask (nowMb f)
  (s.setFn f { r with mbCause := clearMask r.mbCause (clearMask v now) }).resend f (v &&& r.mbCause &&& now) 16
    (fun b => bits r.mbVec (8 * (b % 4)) 5)

/-- A write of one dword of the MSI-X table; of Vector Control only the mask bit is written (R4). Clearing the mask bit acts
as R382 says. -/
def State.msixWrite (s : State) (f : Fn) (off v : Nat) : State :=
  let n := off / 16
  let r := s.fnRegs f
  let e := r.entry n
  let e1 := if off % 16 = 12 then setBits e 96 1 v else setBits e (8 * (off % 16)) 32 v
  let s1 := s.setFn f { r with msix := sset (fun _ => msixReset) r.msix n e1 }
  if bit e 96 ∧ !bit e1 96 then s1.unmaskVector f n else s1

/-- A 32-bit write to BAR0 of a function (R379 to R399). Undefined addresses ignore it. -/
def State.barWrite (s : State) (f : Fn) (off v : Nat) : State :=
  if !s.powered domPCIE ∨ off % 4 ≠ 0 then s
  else if off = 0x00C then s.setFn f { s.fnRegs f with scratch := v }
  else if 0x1000 ≤ off ∧ off < 0x1200 then s.msixWrite f (off - 0x1000) v
  else if off = 0x1900 then s.catClear f v
  else if off = 0x1904 then s.ringCauseClear f v
  else if off = 0x1908 then s.ringCauseClear f (v * 2 ^ 32)
  else if off = 0x190C then s.ringCauseClear f (bits v 0 16 * 2 ^ 64)
  else if off = 0x1910 then s.mbCauseClear f v
  else if off = 0x1914 then s.setFn f { s.fnRegs f with mbVec := v &&& 0x1F1F1F1F }
  else if 0x8000 ≤ off ∧ off < 0x8000 + 0x40 * 80 then s.ringWrite f ((off - 0x8000) / 0x40) ((off - 0x8000) % 0x40) v
  else if 0xC000 ≤ off ∧ off < 0xD000 then
    s.mbWrite (4 * fnNum f + (off - 0xC000) / 0x400) ((off - 0xC000) % 0x400) v
  else s

/-! ### Register reads -/

def b2n (b : Bool) : Nat := if b then 1 else 0

/-- A read of ring n's register set (R386). -/
def State.ringRead (s : State) (f : Fn) (n off : Nat) : Nat :=
  let r := s.ring n
  if !r.ownedBy f then 0
  else match off with
    | 0x00 => bits r.base 0 32
    | 0x04 => bits r.base 32 32
    | 0x08 => r.length
    | 0x0C => r.vector * 2 ^ 8 + 4 * b2n r.wbEn + 2 * b2n r.irqEn + b2n r.en
    | 0x10 => r.prod
    | 0x14 => r.cons
    | 0x18 => 256 * b2n r.ptrErr + 128 * b2n r.lenErr + 64 * b2n r.lost + 32 * b2n r.staged.isSome +
        16 * b2n r.full + 8 * b2n r.isEmpty + 2 * r.owner
    | 0x1C => r.staged.getD 0
    | 0x20 => bits r.wb 0 32
    | 0x24 => bits r.wb 32 32
    | 0x28 => r.irqTime * 2 ^ 16 + r.irqCountM1
    | _ => 0

/-- Offset in its mailbox of the last 32-bit word of the D2H message (R393). -/
def Mbox.lastWord (b : Mbox) : Nat := 0x100 + 4 * ((b.d2hLen + 3) / 4 - 1)

/-- What a 32-bit read of mailbox m's register does beside answering: one of the posted message's last word takes it (R393). -/
def State.mbReadTakes (s : State) (m off : Nat) : State :=
  if (s.mbox m).d2hFull ∧ off = (s.mbox m).lastWord then s.d2hTaken m else s

/-- A read of mailbox m (R392); a read of the last word of a posted D2H message also takes it (`mbReadTakes`). -/
def State.mbRead (s : State) (m off : Nat) : Nat :=
  let b := s.mbox m
  if off < 0x100 then bits b.h2d (8 * off) 32
  else if off < 0x200 then bits b.d2h (8 * (off - 0x100)) 32
  else match off with
    | 0x200 => b.h2dLen
    | 0x204 => 16 * b2n b.ack + 8 * b2n b.h2dRreset + 4 * b2n b.h2dWithdrawn + 2 * b2n b.h2dTimeout + b2n b.h2dFull
    | 0x208 => b.tmoUs
    | 0x210 => b.d2hLen * 2 ^ 12 + 16 * b2n b.d2hDoorbell + 8 * b2n b.d2hRreset + 4 * b2n b.d2hWithdrawn +
        2 * b2n b.d2hTimeout + b2n b.d2hFull
    | 0x214 => b.irqEn
    | _ => 0

/-- The value that a 32-bit read of BAR0 returns (R379 to R392), with PD_PCIE on. -/
def State.barRead (s : State) (f : Fn) (off : Nat) : Nat :=
  let r := s.fnRegs f
  let own := maskOf ((List.range 80).filter (fun n => (s.ring n).ownedBy f))
  if off % 4 ≠ 0 then 0
  else if off = 0x000 then 0x95127A1C
  else if off = 0x004 then 0x11
  else if off = 0x008 then
    256 * fnNum f + 32 * s.powerState + 16 * b2n s.pw.hold + 8 * b2n (!s.tm.unlocked) + b2n s.bt.ready
  else if off = 0x00C then r.scratch
  else if 0x1000 ≤ off ∧ off < 0x1200 then bits (r.entry ((off - 0x1000) / 16)) (8 * (off % 16)) 32
  else if off = 0x1800 then r.pba
  else if off = 0x1900 then r.catPending
  else if off = 0x1904 then bits (s.host.ringCause &&& own) 0 32
  else if off = 0x1908 then bits (s.host.ringCause &&& own) 32 32
  else if off = 0x190C then bits (s.host.ringCause &&& own) 64 16
  else if off = 0x1910 then r.mbCause
  else if off = 0x1914 then r.mbVec
  else if off = 0x2000 then bits r.latch.1 0 32
  else if off = 0x2004 then bits r.latch.1 32 32
  else if off = 0x2008 then bits r.latch.2.1 0 32
  else if off = 0x200C then bits r.latch.2.1 32 32
  else if off = 0x2010 then r.latch.2.2.1
  else if off = 0x2014 then r.latch.2.2.2
  else if 0x8000 ≤ off ∧ off < 0x8000 + 0x40 * 80 then s.ringRead f ((off - 0x8000) / 0x40) ((off - 0x8000) % 0x40)
  else if 0xC000 ≤ off ∧ off < 0xD000 then s.mbRead (4 * fnNum f + (off - 0xC000) / 0x400) ((off - 0xC000) % 0x400)
  else 0

/-- RAW_LO: latches raw time and system time of the present tick (R384). -/
def State.latchTime (s : State) (f : Fn) : State :=
  let p := s.setAtRaw (16 * s.tick)
  let t := sysFields (s.sysAt (16 * s.tick))
  s.setFn f { s.fnRegs f with
    latch := (16 * s.tick, t.1, t.2.1, s.sysState * 2 ^ 17 + (if p.act then 2 ^ 16 else 0) + t.2.2) }

/-! ### The meanings of the host link's rows -/

/-- LENGTH (R41, R42). -/
def execRingLength (f : Fn) (n : Fin 80) (v : BitVec 32) (s : State) : Host.Outcome State Fault Refusal :=
  .next (s.barWrite f (0x8008 + 0x40 * n.val) v.toNat)

/-- PROD (R387, R389). -/
def execRingProd (f : Fn) (n : Fin 80) (v : BitVec 32) (s : State) : Host.Outcome State Fault Refusal :=
  .next (s.barWrite f (0x8010 + 0x40 * n.val) v.toNat)

/-- CONS (R387). -/
def execRingCons (f : Fn) (n : Fin 80) (v : BitVec 32) (s : State) : Host.Outcome State Fault Refusal :=
  .next (s.barWrite f (0x8014 + 0x40 * n.val) v.toNat)

/-- EN (R388). -/
def execRingEn (f : Fn) (n : Fin 80) (v : BitVec 32) (s : State) : Host.Outcome State Fault Refusal :=
  .next (s.barWrite f (0x800C + 0x40 * n.val) v.toNat)

/-- DOORBELL (R393): the write of the register that holds H2D_LEN, with DOORBELL 1. -/
def execDoorbell (m : Fin 8) (v : BitVec 32) (s : State) : Host.Outcome State Fault Refusal :=
  .next (s.barWrite (mbFn m.val) (0xC200 + 0x400 * (m.val % 4)) (v.toNat ||| 0x10000))

/-- TAKE (R393). -/
def execTake (m : Fin 8) (s : State) : Host.Outcome State Fault Refusal :=
  .next (s.barWrite (mbFn m.val) (0xC20C + 0x400 * (m.val % 4)) 1)

/-- What a 32-bit read of BAR0 does beside answering: RAW_LO latches the time (R384), the last word of a posted message takes it
(R393). -/
def State.barReadActs (s : State) (f : Fn) (off : Nat) : State :=
  if !s.powered domPCIE then s
  else if off = 0x2000 then s.latchTime f
  else if 0xC000 ≤ off ∧ off < 0xD000 then s.mbReadTakes (4 * fnNum f + (off - 0xC000) / 0x400) ((off - 0xC000) % 0x400)
  else s

/-- D2H_LAST_WORD_READ (R393): the owner reads the last 32-bit word of the mailbox's message. -/
def execD2hLastWordRead (m : Fin 8) (s : State) : Host.Outcome State Fault Refusal :=
  .next (s.barReadActs (mbFn m.val) (0xC000 + 0x400 * (m.val % 4) + (s.mbox m.val).lastWord))

/-- RAW_LO (R384). -/
def execRawLo (f : Fn) (s : State) : Host.Outcome State Fault Refusal := .next (s.barReadActs f 0x2000)

/-- MSIX_MASK_CLEAR (R382): the write that clears the mask bit of vector v. -/
def execMsixMaskClear (f : Fn) (v : Fin 32) (s : State) : Host.Outcome State Fault Refusal :=
  .next (if s.powered domPCIE then s.unmaskVector f v.val else s)

/-- H2D_TIMEOUT (R394). -/
def execH2dTimeout (m : Fin 8) (s : State) : Host.Outcome State Fault Refusal := .next (s.h2dExpire m.val)

/-- D2H_TIMEOUT (R392). -/
def execD2hTimeout (m : Fin 8) (s : State) : Host.Outcome State Fault Refusal := .next (s.d2hExpire m.val)

/-- HELD_COMPLETION_WRITE (R390). -/
def execHeldCompletionWrite (k : Fin 3) (s : State) : Host.Outcome State Fault Refusal := .next (s.heldWrite k.val)

/-- RING_IRQ_TIME (R386). -/
def execRingIrqTime (n : Fin 80) (s : State) : Host.Outcome State Fault Refusal := .next (s.ringIrqTime n.val)

/-- HOST_INTERRUPT (R383): an event at EVT(188 + j) makes catalogue vector j pending in the function INT_PF names;
while it is pending, the event is busy, unless the host clears it in the same tick (`catBusy`). -/
def execHostInterrupt (j : Fin 32) (s : State) : Host.Outcome State Fault Refusal :=
  let f : Fn := if bit (s.getF Fld.catalogue.intPf 0) j.val then .pf1 else .pf0
  let r := s.fnRegs f
  .next (if !s.powered domPCIE then (s.raise Fld.catalogue.absentDrop 0).count 0x12 (188 + j.val) 3
         else if bit r.catPending j.val then s.setFn f { r with catBusy := r.catBusy ||| (1 <<< j.val) }
         else (s.setCatPending f j.val).count 0x12 (188 + j.val) 0)

/-- End of a tick: events that found their vector pending are dropped as busy (R339, R383), and vectors may send again. -/
def State.hostTickEnd (s : State) : State :=
  [Fn.pf0, Fn.pf1].foldl
    (fun t f =>
      let r := t.fnRegs f
      let t1 := (setPositions r.catBusy 32).foldl
        (fun u j => (u.raise Fld.catalogue.busyDrop 0).count 0x12 (188 + j) 1) t
      t1.setFn f { t1.fnRegs f with sentNow := 0, catBusy := 0 }) s

end Sys2Proof.Machine
end

