-- ==== Sys2Proof/Machine/Operands.lean ====
section
/-! DEFINITION. The operand forms that commands share: tick parameters (R37), ranges of words of a memory (R72), byte
ranges of an object (R424), and masks of units. -/

namespace Sys2Proof.Machine

/-- The tick of a parameter under R37: 0 means acceptance + 1,000; none when it is too early. -/
def State.tickParam (s : State) (t : Nat) : Option Nat :=
  if t = 0 then some (s.tick + 1000) else if s.tick + 1000 ≤ t then some t else none

/-- Checks of the archive and kernel commands before their memory is touched (R72). -/
def memBad (size start count extlen : Nat) (load : Bool) : Bool :=
  decide (count = 0) || decide (size < start + count) ||
    (if load then decide (extlen ≠ 4 * count) else decide (extlen < 4 * count))

/-- The range of an object access is in order (R424). -/
def rangeOk (cls off len : Nat) : Bool :=
  decide (off % 4 = 0 ∧ len % 4 = 0 ∧ 4 ≤ len ∧ len ≤ 4096 ∧ off + len ≤ objSize cls)

/-- Channels of a 512-bit mask. -/
def channelMask (ext : List Byte) : List Nat := setPositions (leNat ext) 512

end Sys2Proof.Machine
end

