-- ==== Sys2Proof/Machine/Commands.lean ====
section
/-! DEFINITION. How a command runs (16_command_reference.md): the common checks, chaining, scheduling, completion.
A command's own checks and effect are its `Own` function; this file says everything around it, once. -/

namespace Sys2Proof.Machine

def Reply.ok : Reply := ⟨.ok, 0, 0, 0, 0, [], false⟩
def Reply.fail (st : Status) : Reply := ⟨st, 0, 0, 0, 0, [], false⟩
def Reply.ok1 (a : Nat) : Reply := ⟨.ok, a, 0, 0, 0, [], false⟩
def Reply.ok2 (a b : Nat) : Reply := ⟨.ok, a, b, 0, 0, [], false⟩
def Reply.ok4 (a b c d : Nat) : Reply := ⟨.ok, a, b, c, d, [], false⟩
/-- Two results that hold a 64-bit value, low word first. -/
def Reply.ok64 (v : Nat) : Reply := ⟨.ok, v % 2 ^ 32, v / 2 ^ 32 % 2 ^ 32, 0, 0, [], false⟩
def Reply.wait : Reply := ⟨.ok, 0, 0, 0, 0, [], true⟩

/-- Result words of a 128-bit mask. -/
def Reply.mask (st : Status) (m : Nat) : Reply :=
  ⟨st, bits m 0 32, bits m 32 32, bits m 64 32, bits m 96 32, [], false⟩

/-- A command's own checks and effect; the number is the command's identity, by which a later completion names it. -/
abbrev Own := Nat → State → State × Reply

/-- Refuses with a status and changes nothing. -/
def refuse (s : State) (st : Status) : State × Reply := (s, Reply.fail st)

/-! ### Paths (R398, R413) -/

def pathKey : Path → Nat
  | .ring k => k.val
  | .mb m => 3 + m.val
  | .eth => 11

/-- The secure paths (R398). -/
def pathSecure : Path → Bool
  | .ring k => decide (k.val = 2)
  | .mb m => decide (4 ≤ m.val)
  | .eth => false

/-- The function that owns a path (R385, R423); none for the Ethernet path. -/
def pathFn : Path → Option Fn
  | .ring k => if k.val = 2 then some .pf1 else some .pf0
  | .mb m => some (mbFn m.val)
  | .eth => none

def isRing : Path → Bool
  | .ring _ => true
  | _ => false

/-- Whether the device takes commands from a path at all: the Docent accepts commands (R380), and the path's block
is powered (R421). -/
def State.pathAlive (s : State) (p : Path) : Bool :=
  s.bt.ready && (match p with
    | .ring _ => s.powered domPCIE
    | .mb _ => true
    | .eth => s.powered domETH && s.flag Fld.eth.cmdEn 0)

/-- Commands of a path accepted and not completed (R413). -/
def State.openOn (s : State) (p : Path) : Nat := (s.cmd.open_.filter (fun c => decide (c.h.path = p))).length

/-- Scheduled commands not yet executed (R417). -/
def Cmd.isSched (c : Cmd) : Bool :=
  match c.st with
  | .sched _ => true
  | .deferred _ => true
  | _ => false

def State.schedCount (s : State) : Nat := (s.cmd.open_.filter Cmd.isSched).length

/-! ### Common checks (R414) -/

/-- Index of the first non-zero byte of the inline bytes at or after byte k. -/
def firstByte (b : BitVec 256) : Nat → Nat → Option Nat
  | 0, _ => none
  | n + 1, k => if b.extractLsb' (8 * k) 8 = 0 then firstByte b n (k + 1) else some k

/-- First byte of the reserved field that byte k belongs to, where an opcode's parameters have the bits `m`. -/
def reservedStart (m : BitVec 256) : Nat → Nat
  | 0 => 0
  | k + 1 => if m.extractLsb' (8 * k) 8 = 0 then reservedStart m k else k + 1

/-- Offset in the inline bytes of the reserved parameter field of which byte k is part: a field of whole bytes begins where the
parameters before it end (R4, R411). -/
def reservedField (m : BitVec 256) (k : Nat) : Nat := if m.extractLsb' (8 * k) 8 = 0 then reservedStart m k else k

/-- The first field that R407, R408 and R415 find wrong, as its packet byte offset (R411). A message or datagram is as long as
its packet and EXTLEN bytes (R396, R402). -/
def badField (i : Instr) (h : Hdr) : Option Nat :=
  let b := i.inline h
  let op := i.opcode
  if 32 < h.plen.toNat then some 6
  else match firstByte b (32 - h.plen.toNat) h.plen.toNat with
    | some k => some (32 + k)
    | none =>
      if h.flags.toNat / 16 ≠ 0 then some 4
      else match firstByte (b &&& ~~~ paramMask op) 32 0 with
        | some k => some (32 + reservedField (paramMask op) k)
        | none =>
          if h.extlen.toNat ≠ 0 ∧ h.extptr.toNat % 4 ≠ 0 then some 16
          else if !isRing h.path ∧ h.extptr.toNat ≠ 0 then some 16
          else if takesExt op ∧ h.extRefused ∧ h.extlen.toNat ≠ 0 then some 16
          else if takesExt op ∧ h.ext.length ≠ h.extlen.toNat then some 24
          else if !isRing h.path ∧ h.ext.length ≠ h.extlen.toNat then some 24
          else if h.atTime ∧ !schedulable op then some 4
          else if h.atTime ∧ h.at_.toNat % 16 ≠ 0 then some 8
          else none

/-- Path and secure marking (R398, R429). -/
def securityOk (i : Instr) (h : Hdr) : Bool :=
  let sec := pathSecure h.path
  if h.secure && !sec then false
  else if secureOpcode i.opcode then sec && h.secure
  else true

/-- Checks 3 and 4 of R414: the CRC and the opcode are good for a command that is spelled. -/
def commonCheck (i : Instr) (h : Hdr) : Option Reply :=
  if !securityOk i h then some (Reply.fail .security)
  else match badField i h with
    | some k => some { Reply.fail .badParam with r0 := k }
    | none => none

/-! ### Completion (R410 to R413) -/

def setOutcome (id : Nat) (ok : Bool) (c : Cmd) : Cmd :=
  match c.st with
  | .chained p => if p = id then { c with st := .ready ok } else c
  | _ => c

/-- A completion written by a status (R412). -/
def writesCompletion (h : Hdr) (st : Status) (cancelled : Bool) : Bool :=
  match st with
  | .ok => h.want || cancelled
  | .deferred => h.want || cancelled
  | _ => true

def endsWell : Status → Bool
  | .ok => true
  | .deferred => true
  | _ => false

/-- Puts a completion into the tick's outbox (R413). -/
def State.queueCompletion (s : State) (ord op tag : Nat) (p : Path) (peer port mac extptr : Nat) (rep : Reply) (cinfo : Nat) :
    State :=
  { s with cmd := { s.cmd with outbox := s.cmd.outbox ++ [
      { ord := ord, path := p, peer := peer, port := port, mac := mac, extptr := extptr
        units := if op = 0x0304 ∧ rep.data ≠ [] then rep.r1 else 0
        bytes := completionBytes tag op rep.status.code cinfo rep.r0 rep.r1 rep.r2 rep.r3 (16 * s.tick)
        data := rep.data }] } }

/-- Returned data that goes to EXTPTR with no completion (R408, R412). -/
def State.queueData (s : State) (ord : Nat) (p : Path) (extptr units : Nat) (data : List Byte) : State :=
  { s with cmd := { s.cmd with outbox := s.cmd.outbox ++ [⟨ord, p, 0, 0, 0, extptr, units, [], data⟩] } }

/-- What becomes of the completion of a command (R412). One discarded after a function reset counts as LOST in the completion
ring of its path; a mailbox has no such counter (R376, R397). Records in returned data that does not leave are lost (R17). -/
def State.answerCompletion (s : State) (discard : Bool) (ord : Nat) (i : Instr) (h : Hdr) (rep : Reply) (cinfo : Nat) : State :=
  let writes := writesCompletion h rep.status (cinfo = 4)
  let units := if i.opcode = 0x0304 ∧ rep.data ≠ [] then rep.r1 else 0
  if discard then
    (match h.path, writes with | .ring r, true => s.ringLost (3 + r.val) 1 | _, _ => s).capturesLost units
  else if writes then
    s.queueCompletion ord i.opcode h.tag.toNat h.path h.peer.toNat h.peerPort.toNat h.mac.toNat h.extptr.toNat rep cinfo
  else if isRing h.path ∧ rep.data ≠ [] then s.queueData ord h.path h.extptr.toNat units rep.data
  else s.capturesLost units

/-- Completes command `id`: it leaves the open commands, its followers in a chain are released, and its completion is
queued as R412 says. `cinfo` carries CHAIN_SKIP (2) or CANCELLED (4). -/
def State.complete (s : State) (id : Nat) (i : Instr) (h : Hdr) (rep : Reply) (cinfo : Nat) : State :=
  let ok := endsWell rep.status
  let k := pathKey h.path
  let own := s.cmd.open_.find? (fun c => decide (c.id = id))
  let rep := if own.any Cmd.late ∧ rep.status = .ok then { rep with status := .deferred } else rep
  let s1 := { s with cmd := { s.cmd with
    open_ := (s.cmd.open_.filter (fun (c : Cmd) => decide (c.id ≠ id))).map (setOutcome id ok)
    last := if sget (fun _ => 0) s.cmd.lastId k = id ∧ sget (fun _ => 0) s.cmd.last k = 1 then
        sset (fun _ => 0) s.cmd.last k (if ok then 2 else 3) else s.cmd.last } }
  s1.answerCompletion (own.any Cmd.discard) ((own.map Cmd.ord).getD id) i h rep cinfo

/-- Completes an open command by its identity. -/
def State.completeId (s : State) (id : Nat) (rep : Reply) : State :=
  match s.cmd.open_.find? (fun c => decide (c.id = id)) with
  | some c => s.complete id c.instr c.h rep 0
  | none => s

/-- An open command's record. -/
def State.cmdOf (s : State) (id : Nat) : Option Cmd := s.cmd.open_.find? (fun c => decide (c.id = id))

/-- Replaces an open command's working mask and results. -/
def State.setCmd (s : State) (id mask res : Nat) : State :=
  { s with cmd := { s.cmd with
      open_ := s.cmd.open_.map (fun c => if c.id = id then { c with mask := mask, res := res } else c) } }

/-- Puts an open command to work for at most `bound` ticks: the spec gives the bound, the time is a free value. -/
def State.work (s : State) (id bound : Nat) (nv : Bool) (vals : List (Nat × Nat)) (rep : Reply) : State × Reply :=
  let d := s.draw
  ({ d.2 with cmd := { d.2.cmd with
      timed := d.2.cmd.timed ++ [⟨id, s.tick + 1 + Config.delay d.1 % bound, nv, vals, rep⟩] } }, Reply.wait)

/-- A strongroom write executes (R486). -/
def State.nvBusy (s : State) : Bool := s.cmd.timed.any (fun t => t.nv)

/-! ### Execution -/

/-- Room for returned data on a path (R396, R403); no limit of its own on a ring. -/
def State.dataFits (s : State) (h : Hdr) (n : Nat) : Bool :=
  match h.path with
  | .ring _ => true
  | .mb _ => decide (n ≤ 224)
  | .eth =>
    let v4 := decide (h.peer.toNat / 2 ^ 32 = 0xFFFF)
    decide (n + 8 + 32 + (if v4 then 20 else 40) ≤ s.getF Fld.eth.mtu 0)

/-- A command's own checks and effect under the power-state gate (R421): in a state the catalogue does not list, the
answer is ABSENT with its results where the command's own rule gives it, else STATE; a command whose returned data does not fit its
path is refused (R396, R403). -/
def gated (i : Instr) (h : Hdr) (own : Own) (id : Nat) (s : State) : State × Reply :=
  let r := own id s
  if !bit (powerMask i.opcode) s.powerState then
    (s, if r.2.status = .absent then r.2 else Reply.fail .state)
  else if !s.dataFits h r.2.data.length then refuse s .badParam
  else r

/-- Executes a command that is open under identity `id`: the reply completes it unless the completion comes later. -/
def State.execute (s : State) (id : Nat) (i : Instr) (h : Hdr) (own : Own) : State :=
  let r := gated i h own id s
  if r.2.later then r.1 else r.1.complete id i h r.2 0

/-- Opens a command. -/
def State.openCmd (s : State) (id : Nat) (i : Instr) (h : Hdr) (st : CmdState) : State :=
  { s with cmd := { s.cmd with open_ := s.cmd.open_ ++ [⟨id, i, h, s.tick, id, st, 0, 0, false, false⟩] } }

/-- Changes the state of an open command, and its acceptance tick to the present one. -/
def State.restate (s : State) (id : Nat) (st : CmdState) : State :=
  { s with cmd := { s.cmd with
      open_ := s.cmd.open_.map (fun c => if c.id = id then { c with st := st, acc := s.tick } else c) } }

/-- A chained command is accepted with the completion of its predecessor: it takes its place behind the commands accepted
before (R413, R418). -/
def State.acceptNow (s : State) (id : Nat) : State :=
  let n := s.cmd.nextId
  { s with cmd := { s.cmd with
      nextId := n + 1
      open_ := s.cmd.open_.filter (fun c => decide (c.id ≠ id)) ++
        (s.cmd.open_.filter (fun c => decide (c.id = id))).map (fun c => { c with ord := n, acc := s.tick }) } }

/-- A CUR_STOP that halts at the tick at which it executes, rounded up to an even one (R153). -/
def stopsNow (tick : Nat) (i : Instr) : Bool :=
  match i with
  | .curStop _ _ h atShot => if h.toNat = 0 then !atShot else decide (roundUp h.toNat 2 ≤ tick)
  | _ => false

/-- Where in a tick a command without AT_TIME has its effect: a FRAME_OP in step 3 of R33, after the frame operations of
words (R58, R415), so one that comes before that waits for it; a CAT_GROUP at the start of a tick (R348), so one that comes
later waits for the next. A CUR_STOP that halts at once and comes when the words of an even tick have started executes in the
next tick: no word starts at or after the halt tick (R153). What comes after the tick's events have arrived at their inputs executes
in the next tick. Any other executes where it comes (R415). `behind`: a command before it on its path stands placed. -/
def State.ownPlace (s : State) (i : Instr) (behind : Bool) : Option Nat :=
  if 12 ≤ s.phase then some (s.tick + 1)
  else match i with
    | .frameOp _ _ _ _ => if s.phase ≤ 7 then some s.tick else none
    | .catGroup _ _ => if s.phase = 0 then none else some (s.tick + 1)
    | .curStop _ _ _ _ =>
      if stopsNow s.tick i ∧ s.tick % 2 = 0 ∧ (behind ∨ 5 ≤ s.phase) then some (s.tick + 1) else none
    | _ => none

/-- The tick for which a command without AT_TIME of a path stands placed, the latest of them. -/
def State.placedOn (s : State) (p : Path) : Option Nat :=
  s.cmd.open_.foldl
    (fun m c => match c.st with
      | .soon t => if c.h.path = p then some (max t (m.getD 0)) else m
      | _ => m) none

/-- Where a command without AT_TIME executes: at its own place, and not before a command of its path that stands placed (R413). -/
def State.place (s : State) (p : Path) (i : Instr) : Option Nat :=
  let behind := s.placedOn p
  match s.ownPlace i behind.isSome, behind with
  | none, b => b
  | a, none => a
  | some a, some b => some (max a b)

/-- Checks 5 and 6 of R414, for a command with AT_TIME. -/
def State.scheduleCheck (s : State) (h : Hdr) : Option Status :=
  if !h.atTime then none
  else if 256 ≤ s.schedCount then some .busy
  else if h.at_.toNat ≠ 0 ∧ h.at_.toNat / 16 < s.tick + 1000 then some .tooLate
  else none

/-- Starts an open command (checks 5 and 6 of R414, R415 to R417): it is scheduled, or executes at the present tick. -/
def State.startCmd (s : State) (id : Nat) (i : Instr) (h : Hdr) (own : Own) : State :=
  match s.scheduleCheck h with
  | some st => s.complete id i h (Reply.fail st) 0
  | none =>
    if h.atTime then s.restate id (.sched (if h.at_.toNat = 0 then s.tick + 1000 else h.at_.toNat / 16))
    else match s.place h.path i with
      | some t => s.restate id (.soon t)
      | none => (s.restate id .waiting).execute id i h own

/-- A reply that a chain was cut (R418). -/
def State.skipCmd (s : State) (id : Nat) (i : Instr) (h : Hdr) : State := s.complete id i h (Reply.fail .state) 2

/-- Takes the next identity and makes it the last packet of the path. -/
def State.newId (s : State) (p : Path) : Nat × State :=
  let id := s.cmd.nextId
  (id, { s with cmd := { s.cmd with
    nextId := id + 1
    last := sset (fun _ => 0) s.cmd.last (pathKey p) 1
    lastId := sset (fun _ => 0) s.cmd.lastId (pathKey p) id } })

/-- A packet that the common checks refuse is no command that its path accepts: where the path has accepted none since its last
reset, the next is still its first, which is never chained (R414, R418). -/
def State.keepFirst (s : State) (p : Path) (prev : Nat) : State :=
  if prev = 0 then { s with cmd := { s.cmd with last := sset (fun _ => 0) s.cmd.last (pathKey p) 0 } } else s

/-- A command packet reaches the device on its path: the common checks, the chain, and the start (R413, R414, R418).
A device that takes no commands, and a ring or mailbox path at its limit of 64, takes nothing; a datagram at the
limit completes with BUSY. -/
def State.issue (s : State) (i : Instr) (h : Hdr) (own : Own) : State :=
  if !s.pathAlive h.path then s
  else
    let full := decide (64 ≤ s.openOn h.path)
    if full ∧ h.path ≠ .eth then s
    else
      let k := pathKey h.path
      let prev := sget (fun _ => 0) s.cmd.last k
      let prevId := sget (fun _ => 0) s.cmd.lastId k
      let n := s.newId h.path
      let s1 := n.2
      match commonCheck i h with
      | some rep => (s1.complete n.1 i h rep 0).keepFirst h.path prev
      | none =>
        if full then s1.complete n.1 i h (Reply.fail .busy) 0
        else if h.chain ∧ prev = 1 then s1.openCmd n.1 i h (.chained prevId)
        else if h.chain ∧ prev = 3 then s1.skipCmd n.1 i h
        else
          let s2 := (s1.openCmd n.1 i h .waiting).startCmd n.1 i h own
          if (s1.scheduleCheck h).isSome then s2.keepFirst h.path prev else s2

/-- The meaning of a host command's row: the packet arrives (R413). -/
def run (i : Instr) (h : Hdr) (own : Own) (s : State) : Host.Outcome State Fault Refusal := .next (s.issue i h own)

/-! ### Leaving the outbox -/

/-- How a frame to a MAC address leaves: with VLAN_EN it carries an IEEE 802.1Q tag, PCP in [15:13] and VLAN_ID in [11:0]
(R400, R404). -/
def State.ethTx (s : State) (mac : Nat) : EthTx :=
  ⟨mac, if s.flag Fld.eth.vlanEn 0 then some (s.getF Fld.eth.pcp 0 * 2 ^ 13 + s.getF Fld.eth.vlanId 0) else none⟩

/-- A frame leaves; the blocks it carries are delivered (R233, R238). -/
def State.frameSent (s : State) (e : TxEntry) : State :=
  let t := s.emit e.frame
  if e.stream = 0 then t else t.countN 0x09 (e.stream - 1) 1 e.blocks

/-- LOST in the tag of a record (R16). -/
def markTag (b : List Byte) : List Byte := b.set 4 (b.getD 4 0 ||| 8)

/-- Blocks of a survey stream are lost: LOST stands in the first block of its open datagram, or in its next record (R17). -/
def State.streamLost (s : State) (src : Nat) : State :=
  let r := sget (fun _ => SvRun.none) s.sv.run (src - 1)
  match r.dgram with
  | [] => s.markLost src
  | b :: l =>
    { s with sv := { s.sv with run := sset (fun _ => SvRun.none) s.sv.run (src - 1) { r with dgram := markTag b :: l } } }

/-- A frame is dropped. A datagram sets TX_DROP; the blocks of a stream count as lost and its next record carries LOST (R17,
R233), a completion counts as dropped (R403) and the records that it carries are lost. -/
def State.frameDropped (s : State) (e : TxEntry) : State :=
  match e.frame with
  | .datagram _ _ _ _ msg =>
    let t := s.raise Fld.eth.txDrop 0
    if e.stream = 0 then ({ t with eth := { t.eth with txDrops := t.eth.txDrops + 1 } }).capturesLost (unitsIn msg)
    else (t.countN 0x09 (e.stream - 1) 2 e.blocks).streamLost e.stream
  | _ => s

/-- Sends on the Ethernet port. Without a link the frame is dropped (R233, R403). While a PAUSE is honoured it waits in the
transmit queue, or is dropped where that is full: the queue's size is not in the spec, so which of the two is a free value. -/
def State.ethSend (s : State) (e : TxEntry) : State :=
  if !s.powered domETH ∨ !s.flag Fld.eth.linkUp 0 then s.frameDropped e
  else if s.eth.pauseEnd ≤ s.tick ∧ s.eth.txq = [] then s.frameSent e
  else
    let d := s.draw
    if Config.choice d.1 then d.2.frameDropped e
    else { d.2 with eth := { d.2.eth with txq := d.2.eth.txq ++ [e] } }

/-- A pause that has ended lets the queued frames go (R400). -/
def State.pauseOver (s : State) : State :=
  if s.eth.txq ≠ [] ∧ s.eth.pauseEnd ≤ s.tick then
    s.eth.txq.foldl State.frameSent { s with eth := { s.eth with txq := [] } }
  else s

/-- The link is lost: the frames that wait for the end of a pause are dropped (R233, R403). -/
def State.dropQueue (s : State) : State :=
  s.eth.txq.foldl State.frameDropped { s with eth := { s.eth with txq := [], pauseEnd := 0 } }

/-- Writes one completion, or returned data alone, to where its path says (R403, R408, R412). -/
def State.sendOut (s : State) (e : OutEntry) : State :=
  match e.path with
  | .ring k =>
    let f := (s.ring k.val).fn
    let s1 := if e.data = [] then s else s.emit (.dma f e.extptr e.data)
    if e.bytes = [] then s1 else s1.postEntry (3 + k.val) false (fnNum f) e.bytes
  | .mb m => { s with host := { s.host with mbq := s.host.mbq ++ [(m.val, e.bytes ++ e.data)] } }
  | .eth => s.ethSend ⟨.datagram (s.ethTx e.mac) e.peer e.port 49400 (e.bytes ++ e.data), 0, 0⟩

/-- Inserts by the order of acceptance. -/
def insertOut (e : OutEntry) : List OutEntry → List OutEntry
  | [] => [e]
  | x :: l => if e.ord < x.ord then e :: x :: l else x :: insertOut e l

/-- End of a tick: the completions of the tick leave in order of acceptance (R413). -/
def State.flushOut (s : State) : State :=
  (s.cmd.outbox.foldl (fun l e => insertOut e l) []).foldl State.sendOut { s with cmd := { s.cmd with outbox := [] } }

end Sys2Proof.Machine
end

