-- ==== Sys2Proof/Machine/Commits.lean ====
section
/-! DEFINITION. What the commit commands share (R36 to R40, R521): the capture of dirty objects, the checks, and the
pending commit. What a commit does at its tick stands with its class and is joined in Machine/CommitApply.lean. -/

namespace Sys2Proof.Machine

/-- The bits that mark an object's staged copy as written since its last capture. -/
def dirtyMask : Nat → Nat
  | 0x01 => ones Fld.output.dirty.lsb 1
  | 0x02 => ones Fld.slot.dirty.lsb 1
  | 0x04 => ones Fld.frame.dirty.lsb 1
  | 0x06 => ones Fld.input.dirty.lsb 1
  | 0x08 => ones Fld.disc.dirty.lsb 1 ||| ones Fld.disc.seedDirty.lsb 1
  | 0x09 => ones Fld.demix.dirty.lsb 1
  | 0x0E => ones Fld.biasbank.dirty.lsb 1
  | 0x10 => ones Fld.catalogue.dirty.lsb 1
  | 0x11 => ones Fld.courier.dirty.lsb 1
  | _ => 0

/-- Keys of the objects of a class whose DIRTY bit is set. -/
def State.dirtyKeys (s : State) (f : Field) : List Nat :=
  (s.objs.filter (fun e => decide (e.1 / 65536 = f.cls) && bit e.2 f.lsb)).map Prod.fst

/-- Domain of an object key. -/
def keyDom (k : Nat) : Nat := objDom (k / 65536) (k % 65536)

/-- Clears the dirty bits of captured objects (R36). -/
def State.clearDirty (s : State) (keys : List Nat) : State :=
  keys.foldl (fun t k =>
    { t with objs := sset objDefault t.objs k (clearMask (sget objDefault t.objs k) (dirtyMask (k / 65536))) }) s

/-- The captured images of a list of keys (R36). -/
def State.capture (s : State) (keys : List Nat) : List (Nat × Nat) := keys.map (fun k => (k, sget objDefault s.objs k))

/-- Objects that lie in a powered-off domain (R40). -/
def State.anyOff (s : State) (keys : List Nat) : Bool := keys.any (fun k => !s.powered (keyDom k))

/-- Whether 16 commits are pending (R39). -/
def State.commitsFull (s : State) : Bool := decide (16 ≤ s.cmd.commits.length)

/-- Adds a pending commit (R36, R39). -/
def State.addCommit (s : State) (c : Commit) : State := { s with cmd := { s.cmd with commits := s.cmd.commits ++ [c] } }

/-- A commit command after its own checks 1 to 3 (R521): BUSY, TOO_LATE, then the capture. `fill` completes the record
of the pending commit. -/
def commitOwn (s : State) (tick : Nat) (keys : List Nat) (mk : Nat → Commit) : State × Reply :=
  if s.commitsFull then refuse s .busy
  else match s.tickParam tick with
    | none => refuse s .tooLate
    | some tc => ((s.addCommit (mk tc)).clearDirty keys, Reply.wait)

end Sys2Proof.Machine
end

