-- ==== Sys2Proof/Machine/Frames.lean ====
section
/-! DEFINITION. Phase frames (02_frames.md): rotation coefficients, frame operations, conflicts. -/

namespace Sys2Proof.Machine

/-! ### Rotation coefficients (R522)

Cosine and sine are formed as fixed-point series with 96 fractional bits, far beyond the distance of any
coefficient of the table from a rounding boundary; the rounding is that of the exact values. -/

/-- 2π in units of 2^-96. -/
def twoPi96 : Int := 497805226624462170461043889244

/-- Terms of the series of cosine (`odd` 0) or sine (`odd` 1): `t` is the present term, `k` its order. -/
def trigSeries (x2 : Int) : Nat → Nat → Int → Int → Int
  | 0, _, _, acc => acc
  | n + 1, k, t, acc =>
    trigSeries x2 n (k + 2) (-(t * x2 / 2 ^ 96) / ((k + 1) * (k + 2))) (acc + t)

/-- Angle a / 2^48 turn within the first quadrant (a < 2^46), in radians × 2^96. -/
def quadAngle (a : Nat) : Int := twoPi96 * (a : Int) / 2 ^ 48

/-- Cosine of a first-quadrant angle × 2^96. -/
def cosQ (a : Nat) : Int :=
  let x := quadAngle a
  trigSeries (x * x / 2 ^ 96) 16 0 (2 ^ 96) 0

/-- Sine of a first-quadrant angle × 2^96. -/
def sinQ (a : Nat) : Int :=
  let x := quadAngle a
  trigSeries (x * x / 2 ^ 96) 16 1 x 0

/-- Cosine of a / 2^48 turn × 2^96. -/
def cos48 (a : Nat) : Int :=
  match a / 2 ^ 46 % 4 with
  | 0 => cosQ (a % 2 ^ 46)
  | 1 => -sinQ (a % 2 ^ 46)
  | 2 => -cosQ (a % 2 ^ 46)
  | _ => sinQ (a % 2 ^ 46)

/-- Sine of a / 2^48 turn × 2^96. -/
def sin48 (a : Nat) : Int :=
  match a / 2 ^ 46 % 4 with
  | 0 => sinQ (a % 2 ^ 46)
  | 1 => cosQ (a % 2 ^ 46)
  | 2 => -sinQ (a % 2 ^ 46)
  | _ => -cosQ (a % 2 ^ 46)

/-- Cosine and sine of a / 2^20 turn × 2^96. -/
def cos20 (a : Nat) : Int := cos48 (a * 2 ^ 28)
def sin20 (a : Nat) : Int := sin48 (a * 2 ^ 28)

/-- A coefficient from its exact value: rounded half up in units of 2^-17, at most 2^17 − 1 (R522). -/
def coeff (v : Int) : Int := min (rshift v 79) (2 ^ 17 - 1)

/-- The rotation coefficients rc(a) + j·rs(a) (R522). -/
def rotCoeff (a : Nat) : Iq := ⟨coeff (cos20 a), coeff (sin20 a)⟩

/-! ### Frame operations (R54 to R61) -/

/-- Offset that makes a phase zero at t0 (RESETPH, SETF_RESET). -/
def resetOffset (f t0 : Nat) : Nat := (2 ^ 32 - rnd16 (f * t0 % p48) % 2 ^ 32) % 2 ^ 32

/-- Offset that keeps the phase at t0 across a change of frequency (R54, R63). -/
def contOffset (o fOld fNew t0 : Nat) : Nat :=
  (o + rnd16 (((fOld + p48 - fNew) % p48) * t0 % p48)) % 2 ^ 32

/-- Replaces the live offset of a frame image. -/
def withOffset (img o : Nat) : Nat := setBits img 160 32 o

/-- Effect of an operation code on a frame's live image at instant t0 (R54): the new image and whether the
operation is set-type. NONE and the reserved codes change nothing. -/
def frameOpImage (img fop arg t0 : Nat) : Nat × Bool :=
  match fop with
  | 1 => (withOffset img ((frameOff img + arg * 2 ^ 16) % 2 ^ 32), false)
  | 2 => (withOffset img (arg * 2 ^ 16), true)
  | 3 => (withOffset img (resetOffset (frameFreq img) t0), true)
  | 4 =>
    let img' := setBits img 192 1 (arg % 2)
    (withOffset img' (contOffset (frameOff img) (frameFreq img) (frameFreq img') t0), true)
  | 5 =>
    let img' := setBits img 192 1 (arg % 2)
    (withOffset img' (resetOffset (frameFreq img') t0), true)
  | _ => (img, false)

/-- Set-type operations that named a frame at the present tick. -/
def State.setsNow (s : State) (f : Nat) : Nat :=
  (s.undo.filter (fun u => decide (u.key = okey 0x04 f ∧ u.tick = s.now / 16) && u.isSet)).length

/-- Records a conflict once per tick, when the second set-type operation of the tick has acted (R60). -/
def State.noteConflict (s : State) (f : Nat) (isSet : Bool) : State :=
  if isSet ∧ s.setsNow f = 2 then
    (s.raiseWith Fld.frame.frameConflict f Fld.frame.conflictTick s.tick).count 0x04 f 0
  else s

/-- Changes the frame in every replica that holds its own image (R19). -/
def State.inReplicas (s : State) (f : Nat) (g : Nat → Nat) : State :=
  (List.range 32).foldl (fun u t =>
    match heldFrame (u.liveObj (0x40 + t) f) with
    | some img => u.changeLive (0x40 + t) f (2 ^ 512 + g img % 2 ^ 512) false
    | none => u) s

/-- A frame change that waits for its clock: after TRIP the frame clock CKD103 is gated until RESUME, and the change acts at the first
tick that it runs in again (R26, R452; DESIGN CHOICE: the change is held, not lost). -/
def State.holdFrame (s : State) (c : FrameChange) : State := { s with drv := { s.drv with held := s.drv.held ++ [c] } }

/-- Applies one frame operation to a frame other than F4095 at the present tick, in the master and in every replica (R19,
R55, R58, R59). Without PD_MGMT0, which distributes them, no operation acts (DEDUCED from R19 and R28). -/
def State.frameOp (s : State) (f fop arg : Nat) : State :=
  if fop = 0 ∨ 5 < fop ∨ !s.powered domMGMT0 then s
  else if s.pw.tripGated then s.holdFrame (.op f fop arg)
  else
    let t0 := 16 * s.tick
    let r := frameOpImage (s.liveObj 0x04 f) fop arg t0
    ((s.changeLive 0x04 f r.1 r.2).inReplicas f (fun img => (frameOpImage img fop arg t0).1)).noteConflict f r.2

/-- A curator word's frame operation (R65): F4095 refuses it. -/
def State.wordFrameOp (s : State) (f fop arg : Nat) : State :=
  if fop = 0 then s
  else if f = 4095 then (s.raise Fld.frame.opRefused 4095).count 0x04 4095 0
  else s.frameOp f fop arg

/-- Live image of a frame after a commit of a captured image at the present tick (R62, R63). -/
def frameCommitImage (live cap t0 : Nat) (keep : Bool) : Nat :=
  let v := setBits (setBits (setBits live 0 48 (bits cap 0 48)) 64 48 (bits cap 64 48)) 192 1 (bits cap 192 1)
  if keep then withOffset v (contOffset (frameOff live) (frameFreq live) (frameFreq v) t0)
  else withOffset v (bits cap 160 32)

/-- Commits one captured frame at the present tick, in every replica (R19). -/
def State.commitFrame (s : State) (f cap : Nat) (keep : Bool) : State :=
  if s.pw.tripGated then s.holdFrame (.commit f cap keep)
  else
    let t0 := 16 * s.tick
    (s.changeLive 0x04 f (frameCommitImage (s.liveObj 0x04 f) cap t0 keep) false).inReplicas f
      (fun img => frameCommitImage img cap t0 keep)

/-- RESUME ungates the frame clock: the changes that waited act at the present tick, oldest first. -/
def State.framesResume (s : State) : State :=
  s.drv.held.foldl (fun u c => match c with
    | .op f fop arg => u.frameOp f fop arg
    | .commit f cap keep => u.commitFrame f cap keep) { s with drv := { s.drv with held := [] } }

/-- PD_MGMT0 loses the master: the tiles that are powered keep what their replicas hold, and the master will come up at its
reset values (R19). -/
def State.masterLost (s0 : State) : State :=
  let s := { s0 with drv := { s0.drv with held := [] } }
  (s.live.filter (fun e => decide (e.1 / 65536 = 0x04))).foldl (fun u e =>
    let f := e.1 % 65536
    ((List.range 32).foldl (fun v t =>
      if v.powered (domTile t) ∧ heldFrame (v.liveObj (0x40 + t) f) = none then
        v.changeLive (0x40 + t) f (2 ^ 512 + e.2) false
      else v) u).changeLive 0x04 f (resetImage 0x04 f) false) s

end Sys2Proof.Machine
end

