-- ==== Sys2Proof/Machine/Drive.lean ====
section
/-! DEFINITION. Drive and probe synthesis (03_drive_synthesis.md): archive memories, pulses, sums, output states, and
the commands of class 0x04xx. -/

namespace Sys2Proof.Machine

/-! ### Archive words (R70 to R74) -/

/-- The words of a byte string, 32 bits each, little-endian. -/
def words32 : List Byte → List Nat
  | a :: b :: c :: d :: l => (a.toNat + 256 * b.toNat + 65536 * c.toNat + 16777216 * d.toNat) :: words32 l
  | _ => []

/-- Writes consecutive words from a key. -/
def putWords (m : Sparse Nat) : Nat → List Nat → Sparse Nat
  | _, [] => m
  | k, w :: l => putWords (sset (fun _ => 0) m k w) (k + 1) l

def wordAt (m : Sparse Nat) (k : Nat) : Nat := sget (fun _ => 0) m k

/-- Bytes of `n` words read from key `k` by a read command: single-bit errors corrected, uncorrectable words zero (R72). -/
def readWords (m err : Sparse Nat) (k n : Nat) : List Byte :=
  (List.range n).flatMap (fun j => leBytes 4 (if wordAt err (k + j) = 2 then 0 else wordAt m (k + j)))

/-- Number of words in a range that a read returns as zero for an uncorrectable error (R72). -/
def badWords (err : Sparse Nat) (k n : Nat) : Nat :=
  (err.filter (fun e => decide (k ≤ e.1 ∧ e.1 < k + n ∧ e.2 = 2))).length

/-- A word and its ECC condition as a running pulse or window fetches them: a load in a tick from `lo` on leaves the old
or the new word, each with its condition, by a free choice (R73, R74). `val` is the word as it now stands; the loads
are newest first. -/
def fetchRacing (key lo : Nat) (s : State) (val : Nat × Nat) : List LoadRec → (Nat × Nat) × State
  | [] => (val, s)
  | x :: l =>
    if lo ≤ x.tick then
      if x.key ≤ key ∧ key < x.key + x.count then
        let d := s.draw
        fetchRacing key lo d.2 (if Config.choice d.1 then (wordAt x.words key, wordAt x.errs key) else val) l
      else fetchRacing key lo s val l
    else (val, s)

/-- An envelope word of output `o` at a bank address, fetched at the end of the 12 ticks after sample tick t: a single-bit
error is corrected, an uncorrectable word is used as zero, and both are counted (R68, R70, R73, R74). -/
def State.fetchEnvelope (s : State) (o addr t : Nat) : Nat × State :=
  let k := 65536 * o + addr
  let w := fetchRacing k t s (wordAt s.arc.words k, wordAt s.arc.wordErr k) s.arc.loads
  match w.1.2 with
  | 0 => (w.1.1, w.2)
  | 1 => (w.1.1, w.2.count 0x03 o 0)
  | _ => (0, (w.2.raise Fld.output.arcEcc o).count 0x02 o 5)

/-- Domain of an archive bank (R72); bank 96 stands for the kernel archive. -/
def bankDom (b : Nat) : Nat := if b < 64 then domARC0 else domARC1

def crcNat (l : List Byte) : Nat := (crc32c l).toNat

/-- ARCHIVE_LOAD (R72). -/
def cmdArchiveLoad (h : Hdr) (bank start count : Nat) : Own := fun _ s =>
  if 95 < bank ∨ memBad 65536 start count h.extlen.toNat true then refuse s .badParam
  else if !s.powered (bankDom bank) then refuse s .absent
  else
    let k := 65536 * bank + start
    let w := putWords s.arc.words k (words32 h.ext)
    let e := sclear s.arc.wordErr k count
    ({ s with arc := { s.arc with words := w, wordErr := e, loads :=
        ⟨s.tick, k, count, s.arc.words, s.arc.wordErr⟩ :: s.arc.loads } },
      Reply.ok1 (crcNat (readWords w e k count)))

/-- ARCHIVE_READ (R72). -/
def cmdArchiveRead (h : Hdr) (bank start count : Nat) : Own := fun _ s =>
  if 95 < bank ∨ memBad 65536 start count h.extlen.toNat false then refuse s .badParam
  else if !s.powered (bankDom bank) then refuse s .absent
  else
    let k := 65536 * bank + start
    let d := readWords s.arc.words s.arc.wordErr k count
    (s, { Reply.ok2 (crcNat d) (badWords s.arc.wordErr k count) with data := d })

/-- A store of the kernel archive at the keys by which `loads` names its words. -/
def kernelKeys (m : Sparse Nat) : Sparse Nat := m.map (fun x => (2 ^ 24 + x.1, x.2))

/-- KERNEL_LOAD (R72). -/
def cmdKernelLoad (h : Hdr) (start count : Nat) : Own := fun _ s =>
  if memBad 1048576 start count h.extlen.toNat true then refuse s .badParam
  else if !s.powered domARC1 then refuse s .absent
  else
    let w := putWords s.arc.kern start (words32 h.ext)
    let e := sclear s.arc.kernErr start count
    ({ s with arc := { s.arc with kern := w, kernErr := e, loads :=
        ⟨s.tick, 2 ^ 24 + start, count, kernelKeys s.arc.kern, kernelKeys s.arc.kernErr⟩ :: s.arc.loads } },
      Reply.ok1 (crcNat (readWords w e start count)))

/-- KERNEL_READ (R72). -/
def cmdKernelRead (h : Hdr) (start count : Nat) : Own := fun _ s =>
  if memBad 1048576 start count h.extlen.toNat false then refuse s .badParam
  else if !s.powered domARC1 then refuse s .absent
  else
    let d := readWords s.arc.kern s.arc.kernErr start count
    (s, { Reply.ok2 (crcNat d) (badWords s.arc.kernErr start count) with data := d })

/-! ### Descriptors and samples (R75 to R85, R91 to R93) -/

def dAddr (d : Nat) : Nat := bits d 0 16
def dLen (d : Nat) : Nat := bits d 16 16 + 1
def dScale (d : Nat) : Int := toS 16 (bits d 32 16)
def dFrame (d : Nat) : Nat := bits d 48 12
def dKaddr (d : Nat) : Nat := bits d 64 20
def dKlen (d : Nat) : Nat := bits d 84 12 + 1
def dHoldEn (d : Nat) : Bool := bit d 96
def dKlinkEn (d : Nat) : Bool := bit d 97
def dHoldAt (d : Nat) : Nat := bits d 120 16
def dHoldLen (d : Nat) : Nat := if dHoldEn d then bits d 136 24 else 0

/-- The descriptor that a word starting at the present tick plays: the image before the writes of this tick (R75). -/
def State.descNow (s : State) (d : Nat) : Nat :=
  match s.arc.descOld.find? (fun e => decide (e.1 = d)) with
  | some e => e.2
  | none => s.obj 0x03 d

/-- A write to a descriptor at the present tick (R75). -/
def State.descWritten (s : State) (d old : Nat) : State :=
  if s.arc.descOld.any (fun e => decide (e.1 = d)) then s
  else { s with arc := { s.arc with descOld := (d, old) :: s.arc.descOld } }

/-- A descriptor write that R76 refuses. -/
def badDesc (new : Nat) : Bool :=
  decide (65535 < dAddr new + bits new 16 16) || (dHoldEn new && decide (bits new 16 16 < dHoldAt new)) ||
    (dKlinkEn new && decide (0xFFFFF < dKaddr new + 16 * dKlen new - 1))

/-- MODE of an output (R90): 0 NRZ, 1 MIX, 2 BASEBAND. -/
def State.outMode (s : State) (o : Nat) : Nat := s.getF Fld.output.mode o

/-- Path latency L of a mode (R68). -/
def pathLatency (mode : Nat) : Nat := if mode = 1 then 82 else 74

/-- Words of a pulse in its mode: envelope words, or pairs in BASEBAND (R92). -/
def pulseWords (mode d : Nat) : Nat := if mode = 2 then (dLen d + 1) / 2 else dLen d

/-- Held index of a pulse: word HOLD_AT, or pair floor(HOLD_AT / 2) (R78, R92). -/
def holdIndex (mode d : Nat) : Nat := if mode = 2 then dHoldAt d / 2 else dHoldAt d

/-- Length of a pulse in ticks (R78, R92). -/
def pulseLen (mode d : Nat) : Nat := pulseWords mode d + dHoldLen d

/-- Whether sample n lies in the hold (R78). -/
def inHold (mode d n : Nat) : Bool :=
  dHoldEn d && decide (holdIndex mode d < n ∧ n ≤ holdIndex mode d + dHoldLen d)

/-- Envelope (or pair) index of sample n (R78). -/
def envIndex (mode d n : Nat) : Nat :=
  if !dHoldEn d ∨ n ≤ holdIndex mode d then n
  else if n ≤ holdIndex mode d + dHoldLen d then holdIndex mode d
  else n - dHoldLen d

def wordI (w : Nat) : Int := toS 16 (bits w 0 16)
def wordQ (w : Nat) : Int := toS 16 (bits w 16 16)

/-- First tick after a play's last sample tick. -/
def Play.stop (p : Play) (mode : Nat) : Nat :=
  let e := p.t0 + pulseLen mode p.desc
  match p.cut with
  | some c => min c e
  | none => e

/-- Carrier word of an output in force at raw instant r (R53, R85). -/
def State.carrierAt (s : State) (o r : Nat) : Nat := bits (s.liveAt 0x01 o r) 0 48

/-- The band limit of R85. -/
def inBand (f c : Nat) : Bool := decide ((freqDiff f c).natAbs ≤ 0x73333333333)

/-- The product of R81: exact, divided by 2^32, rounded half up once, saturated to 16 bits. -/
def slotProduct (e : Iq) (scale : Int) (rot : Iq) : Iq :=
  let v := cmul e rot
  ⟨sat 16 (rshift (v.i * scale) 32), sat 16 (rshift (v.q * scale) 32)⟩

/-! ### Envelope samples (R70, R73, R78, R80, R92, R93) -/

/-- Sample m of a play's envelope, or of its real stream in BASEBAND: zero outside the samples fetched (R82). -/
def Play.envAt (p : Play) (m : Int) : Iq :=
  if 0 ≤ m ∧ m < p.got then p.env.getD ((p.got : Int) - 1 - m).toNat ⟨0, 0⟩ else ⟨0, 0⟩

/-- The envelope samples that a play's sample n fetches: one, or the four of a pair in BASEBAND, where a hold repeats the
held pair's last real sample and an odd length reads its last second word as zero (R70, R78, R92). A held word is fetched
in every tick of the hold (DEDUCED: R78 has every sample read its word). -/
def State.fetchSample (s : State) (p : Play) (n : Nat) : List Iq × State :=
  let o := outputOfSlot p.slot
  if s.outMode o = 2 then
    let m := envIndex 2 p.desc n
    let a := s.fetchEnvelope o (dAddr p.desc + 2 * m) (p.t0 + n)
    let b := if 2 * m + 1 < dLen p.desc then a.2.fetchEnvelope o (dAddr p.desc + 2 * m + 1) (p.t0 + n) else (0, a.2)
    ((if inHold 2 p.desc n then List.replicate 4 (wordQ b.1)
      else [wordI a.1, wordQ a.1, wordI b.1, wordQ b.1]).map (fun v => ⟨v, 0⟩), b.2)
  else
    let w := s.fetchEnvelope o (dAddr p.desc + envIndex 0 p.desc n) (p.t0 + n)
    ([⟨wordI w.1, wordQ w.1⟩], w.2)

/-- The play with newly fetched samples. -/
def Play.withSamples (p : Play) (l : List Iq) : Play :=
  { p with env := (l.reverse ++ p.env).take 64, got := p.got + l.length }

/-- A stream of 16-bit samples delayed by f/16 of a sample: the 16-phase filter of R80, with coefficients of Config over the
sixteen samples around n, rounded half up and saturated (R81); a delay of 0 passes the stream. -/
def delayed (f : Nat) (x : Int → Iq) (n : Int) : Iq :=
  if f = 0 then x n
  else
    let v := (List.range 16).foldl (fun (a : Iq) (k : Nat) =>
      let e := x (n + 8 - k)
      ⟨a.i + Config.fineTap f k * e.i, a.q + Config.fineTap f k * e.q⟩) ⟨0, 0⟩
    ⟨sat 16 (rshift v.i 30), sat 16 (rshift v.q 30)⟩

/-- One sample of a play in NRZ or MIX mode at sample tick T (R78 to R85): an out-of-band sample contributes zero. -/
def State.slotSample (s : State) (p : Play) (t : Nat) : Iq :=
  let o := outputOfSlot p.slot
  let r := 16 * t + p.fine
  if !inBand (s.freqAt (dtOfOutput o) p.frame r) (s.carrierAt o r) then ⟨0, 0⟩
  else
    let a := rotatorAngle ((s.framePhase (dtOfOutput o) p.frame r + p48 - carrierPhase (s.carrierAt o r) r) % p48)
    slotProduct (delayed p.fine p.envAt ((t : Int) - p.t0)) (dScale p.desc) (rotCoeff a)

/-- A BASEBAND product: × SCALE / 32,768, rounded half up, saturated (R93). -/
def realProduct (v scale : Int) : Int := sat 16 (rshift (v * scale) 15)

/-- The four real samples of a play in BASEBAND mode at sample tick T (R92, R93): FINE delays the stream by FINE fine slots,
which is FINE / 4 whole samples of 250 ps and a rest of FINE mod 4 quarters. -/
def pairSample (p : Play) (t : Nat) : List Int :=
  (List.range 4).map (fun (j : Nat) =>
    realProduct (delayed (4 * (p.fine % 4)) p.envAt (4 * ((t : Int) - p.t0) + j - (p.fine / 4 : Nat))).i (dScale p.desc))

/-! ### Starting a play (R79, R82, R83, R91) -/

/-- Truncates a pulse of the slot that is still playing at the new start tick (R83). -/
def truncatePlays (mode slot t0 : Nat) (l : List Play) : List Play :=
  l.map (fun p => if p.slot = slot ∧ t0 < p.stop mode then { p with cut := some t0 } else p)

/-- A PLAY of descriptor `d` on a powered slot at start tick t0 (R79, R83, R91). -/
def State.startPlay (s : State) (slot d fine t0 : Nat) : State :=
  let o := outputOfSlot slot
  let mode := s.outMode o
  let img := s.descNow d
  let frame := if mode = 2 then 4095 else if dFrame img ≠ 0xFFF then dFrame img else s.getL Fld.slot.frame slot
  let silent := decide (mode = 2 ∧ 4 ≤ kOfSlot slot)
  let trunc := s.drv.plays.any (fun p => decide (p.slot = slot ∧ t0 < p.stop mode))
  let s1 := ((s.setF Fld.slot.lastPlayTick slot t0).setF Fld.slot.lastPdesc slot d).count 0x01 slot 0
  let s2 := if trunc then (s1.raise Fld.slot.trunc slot).count 0x01 slot 1 else s1
  let s3 := if silent then (s2.raise Fld.slot.slotBand slot).count 0x01 slot 2 else s2
  { s3 with drv := { s3.drv with
      plays := truncatePlays mode slot t0 s3.drv.plays ++ [⟨slot, img, t0, fine, frame, none, silent, false, [], 0⟩] } }

/-! ### One sample tick of the outputs (R81, R85, R86, R99) -/

/-- The plays with their places in the list. -/
def placed (l : List Play) : List (Nat × Play) := (List.range l.length).zip l

/-- Whether a play has a sample at sample tick t. DESIGN CHOICE: the output's present MODE governs the length of a pulse in
progress; R90 allows a MODE change in MUTED and does not say which mode a running pulse follows. -/
def State.samples (s : State) (p : Play) (t : Nat) : Bool :=
  decide (p.t0 ≤ t ∧ t < p.stop (s.outMode (outputOfSlot p.slot)))

/-- A sample of a play that the band rule silences: the play's first one sets SLOT_BAND and counts the play (R85). -/
def State.bandMark (s : State) (k : Nat) (p : Play) : State :=
  if p.band then s
  else
    let s1 := s.raise Fld.slot.slotBand p.slot
    { s1 with drv := { s1.drv with plays := s1.drv.plays.set k { p with band := true } } }.count 0x01 p.slot 2

/-- Whether a play's sample at tick t is out of band (R85). BASEBAND has no band rule (R91). -/
def State.outOfBand (s : State) (p : Play) (t : Nat) : Bool :=
  let o := outputOfSlot p.slot
  let r := 16 * t + p.fine
  s.samples p t && decide (s.outMode o ≠ 2) && !inBand (s.freqAt (dtOfOutput o) p.frame r) (s.carrierAt o r)

/-- The band test of the samples of tick t, made when every change that takes effect at t is in force (R85). -/
def State.bandTick (s : State) (t : Nat) : State :=
  (placed s.drv.plays).foldl (fun u kp => if u.outOfBand kp.2 t then u.bandMark kp.1 kp.2 else u) s

/-- × DIG_GAIN / 16,384, rounded half up (R86); saturation is the caller's. -/
def gained (v : Int) (g : Nat) : Int := rshift (v * g) 14

/-- Records one summed sample of an output: SUM_CLIP and its count (R86). -/
def State.sumClip (s : State) (o : Nat) (clips : Bool) : State :=
  if clips then (s.raise Fld.output.sumClip o).count 0x02 o 1 else s

/-! ### Interpolation, carrier and DAC codes (R53, R87 to R89, R93) -/

/-- The sums of an output that the chain remembers. -/
def State.sumRows (s : State) (o : Nat) : List SumRow := sget (fun _ => []) s.drv.sums o

def State.setSumRows (s : State) (o : Nat) (l : List SumRow) : State :=
  { s with drv := { s.drv with sums := sset (fun _ => []) s.drv.sums o l } }

/-- Enters the sum of a sample tick and forgets those of more than 160 ticks ago. -/
def State.setSum (s : State) (o : Nat) (r : SumRow) : State :=
  let l := (s.sumRows o).filter (fun x => decide (s.tick < x.tick + 160))
  s.setSumRows o (if r.z = ⟨0, 0⟩ ∧ r.four.all (fun v => decide (v = 0)) then l else r :: l)

/-- The sum of sample tick t: zero where the chain remembers none. -/
def sumAt (l : List SumRow) (t : Int) : SumRow :=
  (l.find? (fun r => decide ((r.tick : Int) = t))).getD ⟨0, ⟨0, 0⟩, [0, 0, 0, 0]⟩

/-- Real sample m of the 4 GS/s stream of a BASEBAND output. -/
def realAt (l : List SumRow) (m : Int) : Int := (sumAt l (m / 4)).four.getD (m % 4).toNat 0

/-- Coefficient of the samples at distance 2k + 1 from the centre of a half-band filter of n of them on either side, in units
of 2^-30: symmetric, and of gain 1 at DC. -/
def halfCoef (tap : Nat → Int) (n k : Nat) : Int :=
  if k = 0 then 2 ^ 29 - ((List.range (n - 1)).map (fun j => tap (j + 1))).sum else tap k

/-- The odd samples of a half-band filter: those at distance 1, 3, ... from m on both sides. -/
def halfSum (tap : Nat → Int) (n : Nat) (left right : Nat → Iq) : Iq :=
  (List.range n).foldl (fun (a : Iq) (k : Nat) =>
    let c := halfCoef tap n k
    let x := left k
    let y := right k
    ⟨a.i + c * (x.i + y.i), a.q + c * (x.q + y.q)⟩) ⟨0, 0⟩

/-- A half-band stage that doubles the rate: sample m of its output, × 2^30 (R87). -/
def upTwo (tap : Nat → Int) (n : Nat) (f : Int → Iq) (m : Int) : Iq :=
  if m % 2 = 0 then ⟨2 ^ 30 * (f (m / 2)).i, 2 ^ 30 * (f (m / 2)).q⟩
  else halfSum tap n (fun k => f (m / 2 - k)) (fun k => f (m / 2 + 1 + k))

/-- A half-band stage that halves the rate: sample m of its output, × 2^31 (R161). -/
def downTwo (tap : Nat → Int) (n : Nat) (f : Int → Iq) (m : Int) : Iq :=
  let v := halfSum tap n (fun k => f (2 * m - 2 * k - 1)) (fun k => f (2 * m + 2 * k + 1))
  ⟨2 ^ 30 * (f (2 * m)).i + v.i, 2 ^ 30 * (f (2 * m)).q + v.q⟩

/-- The interpolated sample at raw instant r, × 2^120: four half-band stages raise the rate by 16 (R87). DESIGN CHOICE: how
many samples each stage reaches. -/
def interpolated (l : List SumRow) (r : Int) : Iq :=
  upTwo (Config.interpTap 3) 4 (upTwo (Config.interpTap 2) 4 (upTwo (Config.interpTap 1) 8
    (upTwo (Config.interpTap 0) 16 (fun t => (sumAt l t).z)))) r

/-- The real sample of the carrier stage at raw instant r, × 2^216: Re{u · exp(j2π Pc / 2^48)} (R53, R87). BASEBAND has no
carrier stage and interpolates its real stream by 4 (R93). -/
def State.carried (s : State) (o : Nat) (l : List SumRow) (r : Int) : Int :=
  if s.outMode o = 2 then
    2 ^ 186 * (List.range 52).foldl (fun (a : Int) (k : Nat) =>
      a + Config.basebandTap (r % 4).toNat k * realAt l (r / 4 + 25 - k)) 0
  else
    let c := carrierPhase (s.carrierAt o r.toNat) r.toNat
    let u := interpolated l r
    u.i * cos48 c - u.q * sin48 c

/-- 7.5 GHz as a phase step of the 16 GS/s stream, times m. -/
def sincAngle (m : Nat) : Nat := 15 * m * 2 ^ 43 % 2 ^ 48

/-- Coefficient of the samples at distance m from the centre of the inverse-sinc filter, in units of 2^-30 (R89): symmetric, so
that it adds no latency of its own; coefficients 0 and 1 give it the gains 0.676 at DC and 1 at 7.5 GHz. -/
def sincCoef (m : Nat) : Int :=
  let rest := (List.range 14).map (fun j => j + 2)
  let dc := 725849473 - 2 * (rest.map Config.sincTap).sum
  let top := 2 ^ 126 - 2 * (rest.map (fun j => Config.sincTap j * cos48 (sincAngle j))).sum
  let one := (dc * 2 ^ 96 - top) / (2 * (2 ^ 96 - cos48 (sincAngle 1)))
  match m with
  | 0 => dc - 2 * one
  | 1 => one
  | j => Config.sincTap j

/-- The DAC sample at raw instant r in units of the 14-bit code, before saturation: with SINC_COMP in NRZ mode the
inverse-sinc filter follows the carrier stage (R87, R89). -/
def State.dacValue (s : State) (o : Nat) (r : Nat) : Int :=
  let l := s.sumRows o
  if s.outMode o = 0 ∧ s.flag Fld.output.sincComp o then
    rshift ((List.range 31).foldl (fun (a : Int) (k : Nat) =>
      a + sincCoef ((15 : Int) - k).natAbs * s.carried o l ((r : Int) + 15 - k)) 0) 248
  else rshift (s.carried o l r) 218

/-- The 14-bit DAC code at raw instant r (R87). -/
def State.dacCode (s : State) (o r : Nat) : Int := sat 14 (s.dacValue o r)

/-- A summed sample above 0.98 of full scale (R88). -/
def SumRow.loud (r : SumRow) : Bool :=
  decide (r.z.i * r.z.i + r.z.q * r.z.q > 32112 * 32112) || r.four.any (fun v => decide (v.natAbs > 32112))

/-- DAC_CLIP: the samples of sample tick t that saturate, at the end of the carrier stage (R87); none unless a sum within the
chain's reach exceeded 0.98 of full scale (R88). -/
def State.dacClip (s : State) (o t : Nat) : State :=
  if (s.sumRows o).any (fun r => r.loud && decide (t < r.tick + 28 ∧ r.tick < t + 28)) then
    let n := ((List.range 16).filter (fun k => saturates 14 (s.dacValue o (16 * t + k)))).length
    if n = 0 then s else (s.raise Fld.output.dacClip o).countN 0x02 o 2 n
  else s

/-- The sum of an output's slots at sample tick t in NRZ or MIX mode (R81, R86). -/
def State.sumComplex (s : State) (o t : Nat) (ps : List Play) : State :=
  let v := ps.foldl (fun (a : Iq) p => cadd a (s.slotSample p t)) ⟨0, 0⟩
  let g := s.getL Fld.output.digGain o
  let i := gained v.i g
  let q := gained v.q g
  (s.sumClip o (saturates 16 i || saturates 16 q)).setSum o ⟨t, ⟨sat 16 i, sat 16 q⟩, []⟩

/-- The sums of an output's slots at sample tick t in BASEBAND mode: four real instants (R92, R93). -/
def State.sumReal (s : State) (o t : Nat) (ps : List Play) : State :=
  let r := (ps.filter (fun p => !p.band)).foldl (fun a p => List.zipWith (· + ·) a (pairSample p t)) [0, 0, 0, 0]
  let g := s.getL Fld.output.digGain o
  let s1 := r.foldl (fun u v => u.sumClip o (saturates 16 (gained v g))) s
  s1.setSum o ⟨t, ⟨0, 0⟩, r.map (fun v => sat 16 (gained v g))⟩

/-- Whether a play adds to the sum of sample tick t: with a sample, or in BASEBAND with the rest of its delayed stream. -/
def State.adds (s : State) (p : Play) (t : Nat) : Bool :=
  s.samples p t ||
    (decide (s.outMode (outputOfSlot p.slot) = 2 ∧ p.fine ≠ 0) && decide (t = p.stop 2))

/-- The sum of sample tick t, formed 20 ticks later (R68): the samples take the values in force at their reference
instants, the gain is the one in force when the sum is formed. -/
def State.outputSample (s : State) (t o : Nat) : State :=
  let ps := s.drv.plays.filter (fun p => decide (outputOfSlot p.slot = o) && s.adds p t)
  if s.outMode o = 2 then s.sumReal o t ps else s.sumComplex o t ps

/-- Whether a sample of a play is at the ball at tick t while its output does not convert (R99). -/
def State.discarded (s : State) (p : Play) (t : Nat) : Bool :=
  let o := outputOfSlot p.slot
  let l := pathLatency (s.outMode o)
  decide (p.t0 + l ≤ t ∧ t < p.stop (s.outMode o) + l) && decide (s.getF Fld.output.state o ≠ 2)

/-- Marks the plays whose samples were discarded at the ball at tick t (R99). -/
def State.mutedPlays (s : State) (t : Nat) : State :=
  (placed s.drv.plays).foldl
    (fun u kp =>
      if !kp.2.muted && u.discarded kp.2 t then
        (({ u with drv := { u.drv with plays := u.drv.plays.set kp.1 { kp.2 with muted := true } } }).raise
          Fld.slot.mutedPlay kp.2.slot).count 0x02 (outputOfSlot kp.2.slot) 0
      else u) s

/-- Drops the plays whose last sample has passed the ball. -/
def State.dropPlays (s : State) (t : Nat) : State :=
  { s with drv := { s.drv with plays := s.drv.plays.filter (fun p =>
      let m := s.outMode (outputOfSlot p.slot)
      decide (t < p.stop m + pathLatency m)) } }

/-- Outputs that have anything to do at a sample tick. -/
def State.busyOutputs (s : State) : List Nat :=
  ((s.drv.plays.map (fun p => outputOfSlot p.slot)) ++ s.drv.sums.map Prod.fst).eraseDups

/-- Notes the outputs that have a slot PLAYING at tick t (R479). -/
def State.notePlaying (s : State) (t : Nat) : State :=
  (s.drv.plays.filter (fun p => s.samples p t)).foldl
    (fun u p => { u with drv := { u.drv with lastPlaying := sset (fun _ => 0) u.drv.lastPlaying (outputOfSlot p.slot) (t + 1) } }) s

/-- The envelope fetches of the samples of 12 ticks ago (R68, R74). DESIGN CHOICE: a truncated pulse (R83) fetches no word past
its last sample, and its fractional-delay filter takes those words as zero. DESIGN CHOICE: a silent BASEBAND play (R91) fetches
the words of its descriptor and reads PLAYING like any other. -/
def State.driveFetch (s : State) : State :=
  (placed s.drv.plays).foldl (fun u kp =>
    let t := s.tick - 12
    if kp.2.t0 + 12 ≤ s.tick ∧ u.samples kp.2 t then
      let f := u.fetchSample kp.2 (t - kp.2.t0)
      { f.2 with drv := { f.2.drv with plays := f.2.drv.plays.set kp.1 (kp.2.withSamples f.1) } }
    else u) s

/-- The outputs' stages: envelope fetches, the sums of the samples of 20 ticks ago, and the DAC samples of 64 ticks ago,
which the carrier stage delivers (R68, R86, R87). -/
def State.driveSums (s : State) : State :=
  (s.driveFetch.busyOutputs.filter (fun o => s.powered (domDT (dtOfOutput o)))).foldl (fun u o =>
    let v := if s.tick < 20 then u else u.outputSample (s.tick - 20) o
    if s.tick < 64 then v else v.dacClip o (s.tick - 64)) s.driveFetch

/-- The outputs' work at the end of a tick: discarded plays, and plays whose last sample is over. -/
def State.driveTick (s : State) : State :=
  let t := s.tick
  let s2 := if s.tileClocked then (((s.bandTick t).notePlaying t).mutedPlays t).dropPlays t else s
  { s2 with arc := { s2.arc with loads := s2.arc.loads.filter (fun l => decide (t < l.tick + 24)), descOld := [] } }

/-- PLAYING and HOLDING of a slot at the present tick (R82); the hold is samples HOLD_AT + 1 to HOLD_AT + HOLD_LEN, as
the worked example of 03_drive_synthesis.md counts it. -/
def State.slotPlaying (s : State) (slot : Nat) : Bool × Bool :=
  let m := s.outMode (outputOfSlot slot)
  match s.drv.plays.find? (fun p => decide (p.slot = slot) && s.samples p s.tick) with
  | some p => (true, inHold m p.desc (s.tick - p.t0))
  | none => (false, false)

/-! ### Output states (R94 to R102) -/

/-- Whether a carrier word lies in the range of a mode (R90). -/
def carrierOk (mode c : Nat) : Bool :=
  match mode with
  | 0 => decide (p48 ≤ 320 * c ∧ 32 * c ≤ 15 * p48)
  | 1 => decide (17 * p48 ≤ 32 * c ∧ 16 * c ≤ 15 * p48)
  | 2 => true
  | _ => false

/-- Whether an output is under foreground calibration (R473). -/
def State.outputInCal (s : State) (o : Nat) : Bool := s.cal.jobs.any (fun j => decide (j.kind = 0) && bit j.mask o)

/-- OUTPUT_ENABLE on one output at the present tick (R95, R98). -/
def State.enableOutput (s : State) (o : Nat) : State :=
  s.setF Fld.output.state o (if s.flag Fld.output.fscBusy o then 3 else 2)

/-- OUTPUT_ENABLE (R98). -/
def cmdOutputEnable (mask : Nat) : Own := fun _ s =>
  let os := setPositions mask 96
  if os.any (fun o => !s.powered (domDT (dtOfOutput o))) then refuse s .absent
  else if os ≠ [] ∧ s.pw.hold then refuse s .thermal
  else if os.any (fun o => s.tm.unlocked || !carrierOk (s.outMode o) (s.getL Fld.output.carrier o)) then refuse s .state
  else if os.any s.outputInCal then refuse s .busy
  else (os.foldl State.enableOutput s, Reply.ok)

/-- OUTPUT_DISABLE (R99); a fault mute ends only by OUTPUT_ENABLE (R102). -/
def cmdOutputDisable (mask : Nat) : Own := fun _ s =>
  let os := setPositions mask 96
  if os.any (fun o => !s.powered (domDT (dtOfOutput o))) then refuse s .absent
  else (os.foldl (fun u o => if u.getF Fld.output.state o = 4 then u else u.setF Fld.output.state o 1) s, Reply.ok)

/-- Replaces the staged bits of a live image by those of a captured image at the present tick. -/
def State.applyCapture (s : State) (key img : Nat) : State :=
  let cls := key / 65536
  let m := rowMask (fun r => r.staged) (objRows cls (key % 65536))
  s.changeLive cls (key % 65536) (clearMask (s.liveObj cls (key % 65536)) m ||| (img &&& m)) false

/-- OUTPUT_COMMIT (R107). -/
def cmdOutputCommit (tick : Nat) : Own := fun id s =>
  let keys := s.dirtyKeys Fld.output.dirty ++ s.dirtyKeys Fld.slot.dirty
  if s.anyOff keys then refuse s .absent
  else commitOwn s tick keys (fun tc => ⟨tc, id, 2, s.capture keys, false, [], keys.length, 0, 0⟩)

/-- The commit of captured outputs and slots at its tick. -/
def State.applyOutputCommit (s : State) (c : Commit) : State := c.caps.foldl (fun t k => t.applyCapture k.1 k.2) s

/-- A fault mutes every powered output (R101): FAULT_TICK is a tick within 50 of the mute point. -/
def State.faultMute (s : State) (point : Nat) : State :=
  (List.range 96).foldl
    (fun u o =>
      if u.powered (domDT (dtOfOutput o)) then
        let d := u.draw
        (((d.2.setF Fld.output.state o 4).raise Fld.output.faultMute o).setF Fld.output.faultTick o
          (point + Config.delay d.1 % 51)).count 0x02 o 4
      else u) s

/-- A change of FSC at the present tick (R95). -/
def State.fscChanged (s : State) (o : Nat) : State :=
  let s1 := { s.setF Fld.output.fscBusy o 1 with drv := { s.drv with fscEnd := sset (fun _ => 0) s.drv.fscEnd o (s.tick + 5000) } }
  if s.getF Fld.output.state o = 2 then (s1.setF Fld.output.state o 3).count 0x02 o 3 else s1

/-- FSC_MUTE_END is due. -/
def State.fscEndDue (s : State) (o : Nat) : Bool :=
  let e := sget (fun _ => 0) s.drv.fscEnd o
  decide (e ≠ 0 ∧ e ≤ s.tick)

/-- FSC_MUTE_END (R95). -/
def State.fscMuteEnd (s : State) (o : Nat) : State :=
  if s.fscEndDue o then
    let s1 := { s.setF Fld.output.fscBusy o 0 with drv := { s.drv with fscEnd := sset (fun _ => 0) s.drv.fscEnd o 0 } }
    if s1.getF Fld.output.state o = 3 then s1.setF Fld.output.state o 2 else s1
  else s

/-! ### Write rules of OBJ_OUTPUT and OBJ_SLOT (R21, R94, R103, R106, R473) -/

def fieldOf (f : Field) (img : Nat) : Nat := bits img f.lsb f.width
def changed (f : Field) (old new : Nat) : Bool := decide (fieldOf f old ≠ fieldOf f new)

def badOutput (inst new : Nat) : Bool :=
  let mode := fieldOf Fld.output.mode new
  decide (mode = 3) || decide (mode = 2 ∧ 64 ≤ inst) || decide (240 < fieldOf Fld.output.fsc new) ||
    !carrierOk mode (fieldOf Fld.output.carrier new)

def stateOutput (old new : Nat) : Bool :=
  (changed Fld.output.mode old new || changed Fld.output.sincComp old new) && decide (fieldOf Fld.output.state old ≠ 1)

def busyOutput (s : State) (inst old new : Nat) : Bool :=
  (changed Fld.output.fsc old new || changed Fld.output.mode old new || changed Fld.output.sincComp old new) &&
    s.outputInCal inst

/-- A write that would bind a probe slot to a channel that another powered probe slot is bound to (R21). -/
def badSlot (s : State) (inst new : Nat) : Bool :=
  decide (512 ≤ inst) && decide (fieldOf Fld.slot.rdchEn new = 1) &&
    (List.range 512).any (fun j =>
      decide (512 + j ≠ inst) && s.powered (objDom 0x02 (512 + j)) && s.flag Fld.slot.rdchEn (512 + j) &&
        decide (s.getF Fld.slot.rdch (512 + j) = fieldOf Fld.slot.rdch new))

/-- R523: a powered-up probe slot whose reset channel another powered tile's slot holds, staged or live, comes up unbound. -/
def State.slotPowerUp (s : State) (slot : Nat) : State :=
  if slot < 512 then s
  else
    let taken := (List.range 512).any (fun j =>
      let t := 512 + j
      decide (dtOfOutput (outputOfSlot t) ≠ dtOfOutput (outputOfSlot slot)) && s.powered (objDom 0x02 t) &&
        ((s.flag Fld.slot.rdchEn t && decide (s.getF Fld.slot.rdch t = slot - 512)) ||
          (decide (s.getL Fld.slot.rdchEn t = 1) && decide (s.getL Fld.slot.rdch t = slot - 512))))
    let live := setBits (s.liveObj 0x02 slot) Fld.slot.rdchEn.lsb 1 0
    if taken then (s.setF Fld.slot.rdchEn slot 0).changeLive 0x02 slot live false else s

/-! ### Meanings -/

/-- ARCHIVE_LOAD (R72). -/
def execArchiveLoad (h : Hdr) (bank : BitVec 8) (start count : BitVec 32) (s : State) : Host.Outcome State Fault Refusal :=
  run (.archiveLoad h bank start count) h (cmdArchiveLoad h bank.toNat start.toNat count.toNat) s

/-- ARCHIVE_READ (R72). -/
def execArchiveRead (h : Hdr) (bank : BitVec 8) (start count : BitVec 32) (s : State) : Host.Outcome State Fault Refusal :=
  run (.archiveRead h bank start count) h (cmdArchiveRead h bank.toNat start.toNat count.toNat) s

/-- KERNEL_LOAD (R72). -/
def execKernelLoad (h : Hdr) (start count : BitVec 32) (s : State) : Host.Outcome State Fault Refusal :=
  run (.kernelLoad h start count) h (cmdKernelLoad h start.toNat count.toNat) s

/-- KERNEL_READ (R72). -/
def execKernelRead (h : Hdr) (start count : BitVec 32) (s : State) : Host.Outcome State Fault Refusal :=
  run (.kernelRead h start count) h (cmdKernelRead h start.toNat count.toNat) s

/-- OUTPUT_ENABLE (R98). -/
def execOutputEnable (h : Hdr) (mask : BitVec 96) (s : State) : Host.Outcome State Fault Refusal :=
  run (.outputEnable h mask) h (cmdOutputEnable mask.toNat) s

/-- OUTPUT_DISABLE (R99). -/
def execOutputDisable (h : Hdr) (mask : BitVec 96) (s : State) : Host.Outcome State Fault Refusal :=
  run (.outputDisable h mask) h (cmdOutputDisable mask.toNat) s

/-- OUTPUT_COMMIT (R107). -/
def execOutputCommit (h : Hdr) (tick : BitVec 64) (s : State) : Host.Outcome State Fault Refusal :=
  run (.outputCommit h tick) h (cmdOutputCommit tick.toNat) s

/-- FSC_MUTE_END (R95). -/
def execFscMuteEnd (o : Fin 96) (s : State) : Host.Outcome State Fault Refusal := .next (s.fscMuteEnd o.val)

end Sys2Proof.Machine
end

