-- ==== Sys2Proof/Machine/Readout.lean ====
section
/-! DEFINITION. The readout chain (06_readout_chain.md): inputs, windows, integration, points, the demixer. -/

namespace Sys2Proof.Machine

/-! ### Input samples (R161 to R164) -/

/-- Whether a ball tick lies in one of a list of spans of an input. -/
def inSpan (l : List (Nat × Nat × Nat)) (i n : Nat) : Bool :=
  l.any (fun e => decide (e.1 = i ∧ e.2.1 ≤ n ∧ n < e.2.2))

/-- 12-bit code of ADC sample m of input i, at raw time 2m: what was at the ball is the outside world's. A code at a limit is
an over-range sample, and those are the samples that ADC_OVR brings: as many of the first samples of a tick as it brought
in that tick, each at the limit of a free side (R160; DESIGN CHOICE which of the eight). -/
def State.adcCode (s : State) (i m : Nat) : Int :=
  let marked := (s.rd.overs.filter (fun e => decide (e = (i, m / 8)))).length
  let x := Config.adcSample i m
  if m % 8 < marked then (if x < 0 then -2048 else 2047) else max (-2047) (min 2046 x)

/-- Carrier word and zone of an input in force at raw instant r. -/
def State.inputCarrierAt (s : State) (i r : Nat) : Nat := bits (s.liveAt 0x06 i r) 0 48
def State.inputZoneAt (s : State) (i r : Nat) : Nat := bits (s.liveAt 0x06 i r) Fld.input.zone.lsb Fld.input.zone.width

/-- The down-mixed ADC sample m, × 2^96 (R162): the carrier phase is removed at the sample's raw time. In zones 1 and 3 the
alias carrier has the phase Pc, in zone 2 the phase −Pc, and there the result is conjugated. -/
def State.mixed (s : State) (i m : Nat) : Iq :=
  let p := carrierPhase (s.inputCarrierAt i (2 * m)) (2 * m)
  let x := s.adcCode i m
  let zone2 := decide (s.inputZoneAt i (2 * m) = 2)
  let a := if zone2 then (p48 - p) % p48 else p
  let v : Iq := ⟨x * cos48 a, -(x * sin48 a)⟩
  if zone2 then ⟨v.i, -v.q⟩ else v

/-- The down-mixed stream before decimation; nothing stands before raw time 0. -/
def State.mixedAt (s : State) (i : Nat) (m : Int) : Iq := if 0 ≤ m then s.mixed i m.toNat else ⟨0, 0⟩

/-- DDC output sample n of input i: 16-bit I and Q, rounded half up and saturated (R161), a free value in an undefined span
(R164, R481). Three half-band stages decimate by 8 about raw time 16n, with gain 16: a full-scale sine gives magnitude 16,384.
DESIGN CHOICE: the stages reach 7, 13 and 23 of their samples, together the ADC samples of ball ticks n − 16 to n + 15. -/
def State.ddc (s : State) (i n : Nat) : Iq :=
  if inSpan s.rd.undef i n then ⟨sat 16 (Config.ddcUndefined i n).i, sat 16 (Config.ddcUndefined i n).q⟩
  else
    let v := downTwo (Config.ddcTap 2) 12 (downTwo (Config.ddcTap 1) 7 (downTwo (Config.ddcTap 0) 4 (s.mixedAt i))) n
    ⟨sat 16 (rshift v.i 185), sat 16 (rshift v.q 185)⟩

/-- Whether a ball tick lies in a calibration interval of an input (R183). -/
def State.inCalSpan (s : State) (i n : Nat) : Bool := inSpan s.rd.calIvs i n

/-- De-rotation of a sample of input i at ball tick n by frame f (R169). -/
def State.derotate (s : State) (i f n : Nat) : Iq :=
  let r := 16 * n
  let a := rotatorAngle ((carrierPhase (s.inputCarrierAt i r) r + p48 - s.framePhase (24 + atOfInput i) f r) % p48)
  let v := cmul (s.ddc i n) (rotCoeff a)
  ⟨sat 16 (rshift v.i 17), sat 16 (rshift v.q 17)⟩

/-- The band rule of a window sample (R170). -/
def State.chInBand (s : State) (i f n : Nat) : Bool :=
  decide ((freqDiff (s.freqAt (24 + atOfInput i) f (16 * n)) (s.inputCarrierAt i (16 * n))).natAbs ≤ 0x66666666666)

/-- Frame in force of a list of window starts at ball tick n. -/
def frameIn (n : Nat) : List (Nat × Nat) → Option Nat
  | [] => none
  | e :: l => if e.1 ≤ n then some e.2 else frameIn n l

/-- A binding field of a slot in force at raw instant r. -/
def State.slotAt (s : State) (f : Field) (slot r : Nat) : Nat := bits (s.liveAt 0x02 slot r) f.lsb f.width

/-- Frame of a channel at ball tick n (R169): that of the window open or most recent at n, else the binding of its
probe slot live at the sample's reference instant, else F4095. -/
def State.channelFrame (s : State) (rc n : Nat) : Nat :=
  match frameIn n (sget (fun _ => []) s.rd.frames rc) with
  | some f => f
  | none =>
    match (List.range 512).find? (fun j =>
      s.poweredAt (objDom 0x02 (512 + j)) (16 * n) &&
        decide (s.slotAt Fld.slot.rdchEn (512 + j) (16 * n) = 1 ∧ s.slotAt Fld.slot.rdch (512 + j) (16 * n) = rc)) with
    | some j => s.slotAt Fld.slot.frame (512 + j) (16 * n)
    | none => 4095

/-- Channel baseband sample at ball tick n (R169). -/
def State.baseband (s : State) (rc n : Nat) : Iq := s.derotate (inputOfRc rc) (s.channelFrame rc n) n

/-- The window starts that a sample of the last 64 ticks can need. -/
def pruneFrames (t : Nat) : List (Nat × Nat) → List (Nat × Nat)
  | [] => []
  | e :: l => if e.1 + 64 ≤ t then [e] else e :: pruneFrames t l

def State.setFrames (s : State) (rc : Nat) (l : List (Nat × Nat)) : State :=
  { s with rd := { s.rd with frames := sset (fun _ => []) s.rd.frames rc l } }

/-- A window of a channel that starts at `first` with a frame. -/
def State.addFrame (s : State) (rc first f : Nat) : State :=
  s.setFrames rc (pruneFrames s.tick ((first, f) :: sget (fun _ => []) s.rd.frames rc))

/-- Windows that were abandoned before their first sample opened nothing. -/
def State.dropFrames (s : State) (rc : Nat) (starts : List Nat) : State :=
  s.setFrames rc ((sget (fun _ => []) s.rd.frames rc).filter (fun e => !(decide (s.tick < e.1) && starts.contains e.1)))

/-! ### Arming (R84, R171 to R174) -/

/-- STATE of an input (R165): 1 OFF, 2 STARTING, 3 RUNNING, 4 CAL. -/
def State.inputState (s : State) (i : Nat) : Nat := s.getF Fld.input.state i

def State.pendingOn (s : State) (rc : Nat) : List Win := s.rd.wins.filter (fun w => decide (w.rc = rc))

/-- A refused arm (R174). -/
def State.armRefused (s : State) (rc : Nat) : State := (s.raise Fld.rdch.armDrop rc).count 0x06 rc 3

/-- Abandons the windows of a channel that satisfy p (R173). -/
def State.abandon (s : State) (rc : Nat) (p : Win → Bool) : State :=
  let gone := s.rd.wins.filter (fun w => decide (w.rc = rc) && p w)
  if gone = [] then s
  else
    let s1 := { s with rd := { s.rd with wins := s.rd.wins.filter (fun w => !(decide (w.rc = rc) && p w)) } }
    ((s1.dropFrames rc (gone.map Win.s)).raise Fld.rdch.winAbandon rc).countN 0x06 rc 4 gone.length

/-- An arm of channel rc by a play at t0 (R171 to R174). -/
def State.armChannel (s : State) (rc slot desc t0 cur shot : Nat) : State :=
  if !s.powered (domAT (rc / 64)) then s
  else if s.inputState (inputOfRc rc) = 1 ∨ s.inputState (inputOfRc rc) = 2 then s.armRefused rc
  else
    let first := t0 + s.getF Fld.rdch.wstart rc
    let k := dKlen desc
    let s1 := s.abandon rc (fun w => decide (first ≤ w.e))
    if 4 ≤ (s1.pendingOn rc).length then s1.armRefused rc
    else
      let frame := if dFrame desc ≠ 0xFFF then dFrame desc else s1.getL Fld.slot.frame slot
      let w : Win := ⟨rc, slot, t0, first, first + k - 1, dKaddr desc + kOfSlot slot * k, k, frame,
        s1.getF Fld.rdch.accGain rc, s1.getF Fld.rdch.oshift rc, ⟨0, 0⟩, false, false, false, false, false, cur, shot⟩
      let s2 := (s1.setF Fld.rdch.lastArmTick rc t0).count 0x06 rc 0
      { s2.addFrame rc first frame with rd := { (s2.addFrame rc first frame).rd with wins := s2.rd.wins ++ [w] } }

/-- MEAS on a played probe slot (R77, R84, R118): answers the channel of the slot's MEAS record, when it armed one. -/
def State.armMeas (s : State) (slot d t0 cur shot : Nat) : Option Nat × State :=
  let img := s.descNow d
  if s.getL Fld.slot.rdchEn slot = 0 then (none, s)
  else if !dKlinkEn img then (none, s.count 0x01 slot 3)
  else
    let rc := s.getL Fld.slot.rdch slot
    (some rc, s.armChannel rc slot img t0 cur shot)

/-! ### Integration (R176 to R178) -/

/-- One accumulation of one component (R177): the new value and whether the guard bits overflow. -/
def accumulate (acc p : Int) (gain : Nat) (sat? : Bool) : Int × Bool :=
  if sat? then (acc, true)
  else
    let v := acc + p * (2 : Int) ^ gain
    (sat 40 v, saturates 40 v)

/-- A kernel word at a tap, read at the present tick (R172, R74). -/
def State.fetchKernel (s : State) (rc addr : Nat) : Nat × State :=
  let w := fetchRacing (2 ^ 24 + addr) s.tick s (wordAt s.arc.kern addr, wordAt s.arc.kernErr addr) s.arc.loads
  match w.1.2 with
  | 0 => (w.1.1, w.2)
  | 1 => (w.1.1, (w.2.count 0x03 96 0).count 0x06 rc 9)
  | _ => (0, (w.2.raise Fld.rdch.kernEcc rc).count 0x06 rc 10)

/-- Records a guard overflow (R177). -/
def State.noteOvf (s : State) (rc n tap : Nat) : State :=
  if s.flag Fld.rdch.ovf rc then s.raise Fld.rdch.ovf rc
  else ((s.setF Fld.rdch.ovfTick rc n).setF Fld.rdch.ovfTap rc tap).raise Fld.rdch.ovf rc

/-- One tap of a window at ball tick n (R169, R170, R176, R177): the window's new record and the channel's marks. -/
def State.tap (s : State) (w : Win) (n : Nat) : Win × State :=
  let i := inputOfRc w.rc
  if s.inCalSpan i n then ({ w with held := true }, s)
  else
    let k := s.fetchKernel w.rc (w.kbase + (n - w.s))
    let band := k.2.chInBand i w.frame n
    let s1 := if band ∨ w.band then k.2 else (k.2.raise Fld.rdch.chBand w.rc).count 0x06 w.rc 8
    let p := if band then cmul (s1.derotate i w.frame n) ⟨wordI k.1, wordQ k.1⟩ else ⟨0, 0⟩
    let pi := rshift p.i 8
    let pq := rshift p.q 8
    let clips := (if saturates 24 pi then 1 else 0) + (if saturates 24 pq then 1 else 0)
    let s2 := if clips = 0 then s1 else (s1.raise Fld.rdch.prodClip w.rc).countN 0x06 w.rc 7 clips
    let ai := accumulate w.acc.i (sat 24 pi) w.gain w.gsatI
    let aq := accumulate w.acc.q (sat 24 pq) w.gain w.gsatQ
    let s3 := if (ai.2 && !w.gsatI) || (aq.2 && !w.gsatQ) then s2.noteOvf w.rc n (n - w.s) else s2
    ({ w with acc := ⟨ai.1, aq.1⟩, gsatI := ai.2, gsatQ := aq.2, band := w.band || !band }, s3)

/-- The windows' work at the end of a tick: sample n = tick − 35 of every open window is accumulated (R175). -/
def State.readoutTick (s : State) : State :=
  let n := s.tick - 35
  if s.tick < 35 then s
  else
    let r := s.rd.wins.foldl
      (fun (acc : List Win × State) w =>
        if w.s ≤ n ∧ n ≤ w.e ∧ acc.2.powered (domAT (w.rc / 64)) then
          let x := acc.2.tap w n
          (acc.1 ++ [x.1], x.2)
        else (acc.1 ++ [w], acc.2)) ([], s)
    { r.2 with rd := { r.2.rd with
        wins := r.1
        overs := r.2.rd.overs.filter (fun e => decide (s.tick < e.2 + 96))
        undef := r.2.rd.undef.filter (fun e => decide (n < e.2.2 + 4096))
        calIvs := r.2.rd.calIvs.filter (fun e => decide (n < e.2.2 + 200000)) } }

/-- One component at the output shift (R178): the value and whether it saturates without a guard overflow. -/
def shiftOut (acc : Int) (k : Nat) (gsat : Bool) : Int × Bool :=
  let v := rshift acc k
  (sat 32 v, saturates 32 v && !gsat)

/-- POINT_FORMED is due for a channel: its oldest window that has ended. -/
def State.pointDue (s : State) (rc : Nat) : Option Win :=
  s.rd.wins.find? (fun w => decide (w.rc = rc ∧ w.e + 38 ≤ s.tick))

/-- Removes the first window of a channel that ended at e. -/
def dropWin (rc e : Nat) : List Win → List Win
  | [] => []
  | w :: l => if w.rc = rc ∧ w.e = e then l else w :: dropWin rc e l

/-- POINT_FORMED (R178, R179, R183): the point of the oldest ended window goes to its discriminator. -/
def State.formPoint (s : State) (rc : Nat) : State :=
  match s.pointDue rc with
  | none => s
  | some w =>
    let i := inputOfRc rc
    let a := shiftOut w.acc.i w.oshift w.gsatI
    let b := shiftOut w.acc.q w.oshift w.gsatQ
    let outSat := !w.held && (a.2 || b.2)
    let ovf := !w.held && (w.gsatI || w.gsatQ || a.2 || b.2)
    let z : Iq := if w.held then ⟨s.getSF Fld.rdch.lastI rc, s.getSF Fld.rdch.lastQ rc⟩ else ⟨a.1, b.1⟩
    let member := decide (s.getL Fld.demix.demixEn i = 1) && bit (s.getL Fld.demix.member i) (rc % 16)
    let p : Pt := ⟨rc, z, ovf, w.held, w.e + (if member then 46 else 42), w.e, w.s, w.shot, member, s.liveObj 0x09 i,
      w.held, false⟩
    let s1 := { s with rd := { s.rd with wins := dropWin rc w.e s.rd.wins, pts := s.rd.pts ++ [p] } }
    let s2 := (s1.setF Fld.rdch.lastEndTick rc w.e).count 0x06 rc 1
    let s3 := if w.held then (s2.raise Fld.rdch.held rc).count 0x06 rc 2 else s2
    let s4 := if outSat then (s3.raise Fld.rdch.outSat rc).count 0x06 rc 6 else s3
    let s5 := if ovf then s4.count 0x06 rc 5 else s4
    if w.held ∨ member then s5
    else (s5.setF Fld.rdch.lastI rc (ofS 32 a.1)).setF Fld.rdch.lastQ rc (ofS 32 b.1)

/-! ### Demixing (R179 to R181) -/

/-- Coefficient M[r][c] of a demix image (R187). -/
def demixCoef (img r c : Nat) : Iq :=
  let b := 512 + 64 * (16 * r + c)
  ⟨toS 18 (bits img b 18), toS 18 (bits img (b + 32) 18)⟩

/-- Whether two points belong to one demix set (R180). -/
def sameSet (p q : Pt) : Bool :=
  decide (q.member ∧ inputOfRc q.rc = inputOfRc p.rc ∧ q.e = p.e) && !q.stale && !q.demixed

/-- The demixed point of p within the points `l` (R180, R181): value, whether a component saturates, OVF, DEMIX. -/
def demixPoint (l : List Pt) (p : Pt) : Iq × Bool × Bool × Bool :=
  let set := l.filter (sameSet p)
  let coef := fun q : Pt => demixCoef p.demix (p.rc % 16) (q.rc % 16)
  let sum := set.foldl (fun a q => cadd a (cmul (coef q) q.z)) ⟨0, 0⟩
  let i := rshift sum.i 16
  let q := rshift sum.q 16
  let others := set.filter (fun q => decide (q.rc ≠ p.rc ∧ coef q ≠ ⟨0, 0⟩))
  let clip := saturates 32 i || saturates 32 q
  (⟨sat 32 i, sat 32 q⟩, clip, p.ovf || clip || others.any (fun q => q.ovf), decide (others ≠ []))

/-- The demix stage: at e + 42 every member's integrated point becomes its demixed point (R175, R180). A point that this
stage marks OVF counts as an OVF point here, and a point with a saturated component counts once as a demix saturation
(R189; DEDUCED: a saturation is that of a point). -/
def State.demixBegin (s : State) : State :=
  let due := fun p : Pt => p.member && !p.demixed && decide (p.e + 42 ≤ s.tick)
  let pts := s.rd.pts
  let s1 := (pts.filter due).foldl
    (fun u p =>
      let r := demixPoint pts p
      let i := inputOfRc p.rc
      let u0 := (u.setF Fld.rdch.lastI p.rc (ofS 32 r.1.i)).setF Fld.rdch.lastQ p.rc (ofS 32 r.1.q)
      let u1 := if r.2.2.1 && !p.ovf then u0.count 0x06 p.rc 5 else u0
      if r.2.1 then (u1.raiseWith Fld.demix.demixSat i Fld.demix.satTick (p.e + 42)).count 0x07 i 1 else u1) s
  { s1 with rd := { s1.rd with pts := pts.map (fun p =>
      if due p then
        let r := demixPoint pts p
        { p with z := r.1, ovf := r.2.2.1, demixMark := r.2.2.2, demixed := true }
      else p) } }

/-! ### Input states and writes (R164 to R168) -/

def zoneOk (zone c : Nat) : Bool :=
  match zone with
  | 1 => decide (0x1999999999A ≤ c ∧ c ≤ 0x3E6666666667)
  | 2 => decide (0x41999999999A ≤ c ∧ c ≤ 0x7E6666666667)
  | 3 => decide (0x81999999999A ≤ c ∧ c ≤ 0xA00000000000)
  | _ => false

/-- Writes that R168 refuses. -/
def badInput (new : Nat) : Bool := !zoneOk (fieldOf Fld.input.zone new) (fieldOf Fld.input.carrier new)

/-- Writes to OBJ_RDCH that R185 refuses. -/
def badRdch (new : Nat) : Bool := decide (8 < fieldOf Fld.rdch.accGain new ∨ 8 < fieldOf Fld.rdch.oshift new)

/-- Abandons every pending window of an input's channels (R166). -/
def State.abandonInput (s : State) (i : Nat) : State :=
  (List.range 16).foldl (fun u m => u.abandon (16 * i + m) (fun _ => true)) s

/-- INPUT_EN changes (R165, R166). -/
def State.inputEnWritten (s : State) (i : Nat) (en : Bool) : State :=
  if en then
    if s.inputState i = 1 then
      { s.setF Fld.input.state i 2 with rd := { s.rd with startEnd := sset (fun _ => 0) s.rd.startEnd i (s.tick + 2000) } }
    else s
  else
    let s1 := (s.setF Fld.input.state i 1).abandonInput i
    { s1 with rd := { s1.rd with
        startEnd := sset (fun _ => 0) s1.rd.startEnd i 0
        calIvs := s1.rd.calIvs.map (fun e => if e.1 = i ∧ s.tick < e.2.2 then (i, e.2.1, s.tick) else e) } }

def State.startingDue (s : State) (i : Nat) : Bool :=
  let e := sget (fun _ => 0) s.rd.startEnd i
  decide (e ≠ 0 ∧ e ≤ s.tick ∧ s.inputState i = 2)

/-- STARTING_END (R165). -/
def State.startingEnd (s : State) (i : Nat) : State :=
  if s.startingDue i then
    { s.setF Fld.input.state i 3 with rd := { s.rd with startEnd := sset (fun _ => 0) s.rd.startEnd i 0 } }
  else s

/-- A committed input at its tick: undefined spans of DDC samples (R164). -/
def State.applyInput (s : State) (key img : Nat) : State :=
  let i := key % 65536
  let old := s.liveObj 0x06 i
  let s1 := s.applyCapture key img
  let t := s.tick
  let a := if changed Fld.input.carrier old img ∨ changed Fld.input.zone old img then [(i, t - 16, t + 16)] else []
  let b := if changed Fld.input.atten old img then [(i, t, t + 20)] else []
  { s1 with rd := { s1.rd with undef := a ++ b ++ s1.rd.undef } }

/-- PENDING and OPEN of a channel at the present tick (R185). -/
def State.chPending (s : State) (rc : Nat) : Nat := (s.pendingOn rc).length
def State.chOpen (s : State) (rc : Nat) : Bool :=
  (s.pendingOn rc).any (fun w => decide (w.s + 35 ≤ s.tick ∧ s.tick ≤ w.e + 35))

/-! ### Meanings -/

/-- POINT_FORMED (R178). -/
def execPointFormed (c : Fin 512) (s : State) : Host.Outcome State Fault Refusal := .next (s.formPoint c.val)

/-- STARTING_END (R165). -/
def execStartingEnd (i : Fin 32) (s : State) : Host.Outcome State Fault Refusal := .next (s.startingEnd i.val)

/-- An over-range sample is at the ball at this tick (R160). It is recorded in every state in which the ADC is not powered
down, STARTING and CAL among them (DEDUCED: the rule names the sample, not the state). DESIGN CHOICE: the flag reads 1 and the
counter counts from the sample's ball tick on, though the sample leaves the ADC ten ticks later (R175). -/
def State.adcOver (s : State) (i : Nat) : State :=
  if s.powered (domAT (i / 4)) ∧ s.inputState i ≠ 1 then
    let s1 := (s.raiseWith Fld.input.adcOvr i Fld.input.ovrTick s.tick).count 0x07 i 0
    { s1 with rd := { s1.rd with overs := (i, s.tick) :: s1.rd.overs } }
  else s

/-- ADC_OVR (R160). -/
def execAdcOvr (i : Fin 32) (s : State) : Host.Outcome State Fault Refusal := .next (s.adcOver i.val)

end Sys2Proof.Machine
end

