-- ==== Sys2Proof/Machine/Strongroom.lean ====
section
/-! DEFINITION. The strongroom's records (19_calibration.md R484 to R486): two copies each, their headers and
CRC, the content in force, and a write. -/

namespace Sys2Proof.Machine

/-- Keys of the records of a region (R484). -/
def nvCorrection (n : Nat) : Nat := n
def nvDisc (c : Nat) : Nat := 2 ^ 16 + c
def nvPolicy : Nat := 2 ^ 17
def nvKey (n : Nat) : Nat := 2 ^ 17 + 1 + n
def nvFactory (u : Nat) : Nat := 3 * 2 ^ 16 + u
def nvIdentity : Nat := 2 ^ 18

/-- What the CRC of a copy covers: the first 12 bytes of the header and the body (R485). -/
def NvCopy.covered (c : NvCopy) : List Byte := leBytes 4 c.seq ++ leBytes 2 c.len ++ leBytes 6 0 ++ leBytes c.len c.body

/-- A copy is valid when its CRC matches (R485). -/
def NvCopy.valid (c : NvCopy) : Bool := decide ((crc32c c.covered).toNat = c.crc)

/-- The valid copy with the higher sequence number (R485). -/
def NvRec.best (r : NvRec) : Option NvCopy :=
  match r.a.valid, r.b.valid with
  | true, true => some (if r.a.seq < r.b.seq then r.b else r.a)
  | true, false => some r.a
  | false, true => some r.b
  | false, false => none

/-- Copy A is the one that a write programs: an invalid copy, or the one with the lower sequence number (R486). -/
def NvRec.writesA (r : NvRec) : Bool := !r.a.valid || (r.b.valid && decide (r.a.seq < r.b.seq))

/-- Replaces the copy that a write programs. -/
def NvRec.put (r : NvRec) (c : NvCopy) : NvRec := if r.writesA then { r with a := c } else { r with b := c }

/-- The copy of a body under the next sequence number (R486). -/
def NvRec.next (r : NvRec) (len body : Nat) : NvCopy :=
  let c : NvCopy := ⟨(match r.best with | some x => x.seq + 1 | none => 1) % 2 ^ 32, len, body, 0⟩
  { c with crc := (crc32c c.covered).toNat }

/-- The copy spoilt: programmed in part, or with a CRC that does not match. -/
def NvCopy.spoilt (c : NvCopy) : NvCopy := { c with crc := ((crc32c c.covered).toNat + 1) % 2 ^ 32 }

def State.nvRec (s : State) (key : Nat) : NvRec := sget (fun _ => NvRec.erased) s.bt.nv key

def State.setNv (s : State) (key : Nat) (r : NvRec) : State :=
  { s with bt := { s.bt with nv := sset (fun _ => NvRec.erased) s.bt.nv key r } }

/-- The content of a record, none where it does not exist (R485). -/
def State.nvRead (s : State) (key : Nat) : Option Nat := (s.nvRec key).best.map NvCopy.body

/-- Writes a record whose read-back passes (R486). -/
def State.nvWrite (s : State) (key len body : Nat) : State := s.setNv key ((s.nvRec key).put ((s.nvRec key).next len body))

/-- A write whose read-back fails, or that is cut short: the copy it programmed is not valid, the other is untouched
(R486). -/
def State.nvSpoil (s : State) (key len body : Nat) : State :=
  s.setNv key ((s.nvRec key).put ((s.nvRec key).next len body).spoilt)

/-- Subsystem vendor and subsystem IDs, and the MAC address, of the identity record (R2, R404, R484). DESIGN CHOICE: its body is the IDs
in bits 31:0 and the address in bits 79:32; the spec gives no format, nor what they are without a valid record: 0. -/
def State.subsys (s : State) : Nat := (s.nvRead nvIdentity).getD 0 % 2 ^ 32
def State.stationMac (s : State) : Nat := (s.nvRead nvIdentity).getD 0 / 2 ^ 32 % 2 ^ 48

/-- Secure accession policy (R147). -/
def State.policy (s : State) : Bool := decide (s.nvRead nvPolicy = some 1)

/-- Accession key AKn as (X, Y), each a number, (0, 0) where none is loaded (R147, R524). -/
def State.accessionKey (s : State) (n : Nat) : Nat × Nat :=
  match s.nvRead (nvKey n) with
  | some v => (v % 2 ^ 256, v / 2 ^ 256)
  | none => (0, 0)

end Sys2Proof.Machine
end

