-- ==== Sys2Proof/Machine/Verdicts.lean ====
section
/-! DEFINITION. Discriminators, the verdict bus and verdict records (07_verdicts.md). -/

namespace Sys2Proof.Machine

/-! ### Classification (R191 to R200) -/

/-- Live centroid k of a channel, units of 2^-16 point unit (R192). -/
def State.centroid (s : State) (c k : Nat) : Iq :=
  let img := s.obj 0x08 c
  ⟨toS 48 (bits img (608 + 96 * k) 48), toS 48 (bits img (656 + 96 * k) 48)⟩

def State.setCentroid (s : State) (c k : Nat) (v : Iq) : State :=
  s.setObj 0x08 c (setBits (setBits (s.obj 0x08 c) (608 + 96 * k) 48 (ofS 48 v.i)) (656 + 96 * k) 48 (ofS 48 v.q))

/-- Fields of a discriminator's configuration image. -/
def cfgSeed (img k : Nat) : Iq := ⟨toS 32 (bits img (192 + 64 * k) 32), toS 32 (bits img (224 + 64 * k) 32)⟩
def cfgRadius (img k : Nat) : Int := bits img (384 + 32 * k) 32
def cfgMargin (img : Nat) : Int := bits img 480 32
def cfgConf (img : Nat) : Int := bits img 512 32
def cfgDriftLim (img : Nat) : Int := bits img 544 32
def cfgNcent (img : Nat) : Nat := bits img 0 2
def cfgK (img : Nat) : Nat := bits img 8 5

/-- Squared distance of two points. -/
def dist2 (a b : Iq) : Int := (a.i - b.i) * (a.i - b.i) + (a.q - b.q) * (a.q - b.q)

/-- A point in units of 2^-16. -/
def scaled (z : Iq) : Iq := ⟨z.i * 65536, z.q * 65536⟩

/-- The lowest index with the smallest value among a list of (index, value) pairs, given a first candidate. -/
def argmin (best : Nat × Int) : List (Nat × Int) → Nat × Int
  | [] => best
  | e :: l => argmin (if e.2 < best.2 then e else best) l

/-- What R194 and R196 decide of one point: code, ERASE_WHY, nearest centroid, and whether it is confident enough to move
the centroid. -/
structure Judged where
  code : Nat
  why : Nat
  nearest : Nat
  conf : Bool
deriving DecidableEq, Repr

/-- Classification of a point that is not marked OVF over the centroids C0 to C(NCENT − 1) (R194). -/
def judge (cfg : Nat) (cs : List Iq) (z : Iq) : Judged :=
  let zz := scaled z
  let ds := ((List.range (cfgNcent cfg)).zip cs).map (fun e => (e.1, dist2 zz e.2))
  match ds with
  | [] => ⟨3, 1, 0, false⟩
  | d0 :: rest =>
    let n := argmin d0 rest
    let r := cfgRadius cfg n.1 * 65536
    if r * r < n.2 then ⟨3, 1, n.1, false⟩
    else
      match ds.filter (fun e => decide (e.1 ≠ n.1)) with
      | [] => ⟨n.1, 0, n.1, true⟩
      | o :: os =>
        let m := argmin o os
        let g := m.2 - n.2
        let l2 := dist2 (cs.getD m.1 ⟨0, 0⟩) (cs.getD n.1 ⟨0, 0⟩)
        let mg := cfgMargin cfg * 65536
        let cm := cfgConf cfg * 65536
        if (l2 = 0 ∧ 0 < mg) ∨ g * g < 4 * (mg * mg) * l2 then ⟨3, 2, n.1, false⟩
        else ⟨n.1, 0, n.1, decide (cm = 0) || (decide (0 < l2) && decide (4 * (cm * cm) * l2 ≤ g * g))⟩

/-- The proposed centroid (R197). -/
def proposed (c z : Iq) (k : Nat) : Iq :=
  let zz := scaled z
  ⟨c.i + rshift (zz.i - c.i) k, c.q + rshift (zz.q - c.q) k⟩

/-- Whether a proposed centroid drifts too far from its seed (R198). -/
def drifts (cfg n : Nat) (v : Iq) : Bool :=
  let lim := cfgDriftLim cfg * 65536
  decide (lim * lim < dist2 v (scaled (cfgSeed cfg n)))

/-- Applies or refuses a move of centroid n of channel c at production tick p (R197, R198). -/
def State.adapt (s : State) (c n : Nat) (z : Iq) (p : Nat) : State :=
  let cfg := s.liveObj 0x08 c
  let v := proposed (s.centroid c n) z (cfgK cfg)
  if drifts cfg n v then
    ({ s.raiseWith Fld.disc.drift c Fld.disc.driftTick p with vd := { s.vd with drift := s.vd.drift ||| (1 <<< c) } }).count
      0x06 c 21
  else (s.setCentroid c n v).count 0x06 c 20

/-- ADAPT_STATE (R199): 0 ADAPTING, 1 FROZEN, 2 DRIFT_FROZEN. -/
def State.adaptState (s : State) (c : Nat) : Nat :=
  if bit s.vd.drift c then 2 else if s.getL Fld.disc.adaptEn c = 0 then 1 else 0

/-- The discriminator's answer on one point, and its adaptation (R193 to R198). -/
def State.discriminate (s : State) (c : Nat) (z : Iq) (ovf stale : Bool) (p : Nat) : Judged × State :=
  if ovf then (⟨3, 3, 0, false⟩, s)
  else
    let j := judge (s.liveObj 0x08 c) [s.centroid c 0, s.centroid c 1, s.centroid c 2] z
    if j.code ≠ 3 ∧ j.conf ∧ !stale ∧ s.adaptState c = 0 then (j, s.adapt c j.nearest z p) else (j, s)

/-! ### Records (R211 to R213) -/

/-- Code-and-flags field (R205). -/
def codeFlags (v : Verdict) (why nearest : Nat) : Nat :=
  v.code + (if v.ovf then 4 else 0) + (if v.stale then 8 else 0) + (if v.drift then 16 else 0) +
    (if v.demix then 32 else 0) + why * 256 + nearest * 1024

/-- The 16 bytes of a record, and of an empty one: its INDEX is 0xFFFF (R211); DESIGN CHOICE: its other fields are 0. -/
def recordBytes (r : VRec) : List Byte := leBytes 8 (w64 (16 * r.p)) ++ leBytes 2 r.idx ++ leBytes 2 r.cf ++ leBytes 4 r.shot
def emptyRecord : List Byte := leBytes 8 0 ++ leBytes 2 0xFFFF ++ leBytes 2 0 ++ leBytes 4 0

/-- Closes the open record block: it goes to ring 6, or is discarded whole when there is no room (R212, R213). -/
def State.closeRecords (s : State) : State :=
  match s.vd.block with
  | [] => s
  | r :: rest =>
    let l := r :: rest
    let n := l.length
    let flags := (if l.any (fun x => bit x.cf 3) then 1 else 0) + (if l.any (fun x => bit x.cf 2) then 2 else 0) +
      (if l.any (fun x => decide (x.cf % 4 = 3)) then 4 else 0) + s.lostFlag 0
    let seq := s.counter 0x19 0 0 - n
    let s1 := { s with vd := { s.vd with block := [] } }
    if s1.ringRoom 6 then
      let bytes := s1.tag 0x01 0 flags (16 * r.s) (seq % 65536) ++ l.flatMap recordBytes ++
        (List.replicate (30 - n) emptyRecord).flatten
      let out := s1.ringProduce 6 bytes n
      if out.2 = [] then out.1.clearLost 0 else (out.1.clearLost 0).markLost 0
    else (s1.ringLost 6 n).markLost 0

/-- The open block is due by time (R212). -/
def State.recordsDue (s : State) : Bool :=
  match s.vd.block with
  | [] => false
  | r :: _ => decide (r.p + 1000 ≤ s.tick)

/-- RECORD_BLOCK_CLOSE (R212). -/
def State.recordBlockClose (s : State) : State := if s.recordsDue then s.closeRecords else s

/-- Takes a record into the open block, which closes when it holds 30 (R212). -/
def State.addRecord (s : State) (r : VRec) : State :=
  let s0 := s.recordBlockClose
  let s1 := (s0.nextSeq 0).2.count 0x06 r.idx 22
  let s2 := { s1 with vd := { s1.vd with block := s1.vd.block ++ [r] } }
  if 30 ≤ s2.vd.block.length then s2.closeRecords else s2

/-! ### Exports (R210, R433, R437) -/

def State.cpRt (s : State) (p : Nat) : CpRt := sget (fun _ => CpRt.none) s.cp.rt p

def State.setCpRt (s : State) (p : Nat) (r : CpRt) : State :=
  { s with cp := { s.cp with rt := sset (fun _ => CpRt.none) s.cp.rt p r } }

/-- EXPk and IMPk of an OBJ_COURIER image (R441). -/
def expMap (img k : Nat) : Nat := bits img (256 + 16 * k) 16
def impMap (img k : Nat) : Nat := bits img (384 + 16 * k) 16

/-- A verdict slot of a frame (R433). -/
def slotOfVerdict (v : Verdict) : Nat :=
  64 + v.code * 16 + (if v.ovf then 8 else 0) + (if v.stale then 4 else 0) + (if v.drift then 2 else 0) +
    (if v.demix then 1 else 0)

/-- A verdict starts its way out of every UP port whose live export map names its channel (R437). -/
def State.exportVerdict (s : State) (c : Nat) (v : Verdict) : State :=
  [0, 1, 2, 3].foldl
    (fun u p =>
      if u.powered (domCP p) ∧ u.getF Fld.courier.linkState p = 3 then
        (List.range 8).foldl
          (fun w k =>
            if expMap (w.liveObj 0x11 p) k = 0x8000 + c then
              w.setCpRt p { w.cpRt p with exports := (w.cpRt p).exports ++ [(v.prod, k, slotOfVerdict v)] }
            else w) u
      else u) s

/-- Whether some port's live import map holds entry v (R129). -/
def State.importMapped (s : State) (v : Nat) : Bool :=
  [0, 1, 2, 3].any (fun p => (List.range 8).any (fun k => decide (impMap (s.liveObj 0x11 p) k = 0x8000 + (v - 512))))

/-! ### Production (R184, R191, R200, R208) -/

/-- VERDICT_PRODUCED is due for a channel. -/
def State.verdictDue (s : State) (c : Nat) : Option Pt := s.rd.pts.find? (fun p => decide (p.rc = c ∧ p.p ≤ s.tick))

/-- Removes the first point of a channel with production tick p. -/
def dropPt (c p : Nat) : List Pt → List Pt
  | [] => []
  | x :: l => if x.rc = c ∧ x.p = p then l else x :: dropPt c p l

/-- Fires EVP(128 + i) at the first erasure of input i at this tick (R184). -/
def State.erasureEvent (s : State) (c code : Nat) : State :=
  let i := inputOfRc c
  if code = 3 ∧ !s.vd.flight.any (fun f => decide (f.v.prod = s.tick ∧ f.idx < 512 ∧ f.idx / 16 = i ∧ f.v.code = 3)) then
    s.fire (128 + i)
  else s

/-- VERDICT_PRODUCED (R191). -/
def State.produceVerdict (s : State) (c : Nat) : State :=
  match s.verdictDue c with
  | none => s
  | some pt =>
    let p := s.tick
    let s0 := { s with rd := { s.rd with pts := dropPt c pt.p s.rd.pts } }
    let r := s0.discriminate c pt.z pt.ovf pt.stale p
    let v : Verdict := ⟨true, r.1.code, pt.ovf, pt.stale, bit r.2.vd.drift c, pt.demixMark, p, p + 16⟩
    let s1 := ((r.2.setF Fld.disc.lastProdTick c p).setF Fld.disc.lastCode c r.1.code).erasureEvent c r.1.code
    let s2 := { s1 with vd := { s1.vd with flight := s1.vd.flight ++ [(⟨c, v, 0, r.1.why, pt.z, pt.shot, pt.s⟩ : VPend)] } }
    let s3 := s2.exportVerdict c v
    if s3.getL Fld.disc.recordEn c = 1 then
      s3.addRecord ⟨p, c, codeFlags v r.1.why r.1.nearest, pt.shot % 2 ^ 32, pt.s⟩
    else s3

/-! ### Delivery (R206 to R209) -/

def State.ventry (s : State) (i : Nat) : VEntry := sget (fun _ => VEntry.none) s.vd.table i

/-- The order within one delivery (R207): production tick, entry, courier port. -/
def VPend.before (a b : VPend) : Bool :=
  decide (a.v.prod < b.v.prod) ||
    (decide (a.v.prod = b.v.prod) && (decide (a.idx < b.idx) || (decide (a.idx = b.idx) && decide (a.port ≤ b.port))))

def insertPend (e : VPend) : List VPend → List VPend
  | [] => [e]
  | x :: l => if e.before x && !x.before e then e :: x :: l else x :: insertPend e l

/-- The counters that take a local verdict as delivered (R208, R216). -/
def State.countVerdict (s : State) (f : VPend) : State :=
  if !s.powered (domAT (f.idx / 64)) then s
  else
    let s1 := s.count 0x06 f.idx (11 + f.v.code)
    let s2 := if f.why = 0 then s1 else s1.count 0x06 f.idx (14 + f.why)
    let s3 := if f.v.stale then s2.count 0x06 f.idx 18 else s2
    if f.v.drift then s3.count 0x06 f.idx 19 else s3

/-- Writes one verdict into its entry. -/
def State.writeEntry (s : State) (f : VPend) : State :=
  { s with vd := { s.vd with
      table := sset (fun _ => VEntry.none) s.vd.table f.idx ⟨f.v, (s.ventry f.idx).cur⟩ } }

/-- An import that another one of the beat, of the same entry and production tick, stands in place of: the one of the
higher-numbered port, which comes later (R207). -/
def displaced (f : VPend) (l : List VPend) : Bool :=
  decide (512 ≤ f.idx) && l.any (fun g => decide (g.idx = f.idx ∧ g.v.prod = f.v.prod))

/-- The verdicts of a sorted beat that are delivered (R207). -/
def standing : List VPend → List VPend
  | [] => []
  | f :: l => if displaced f l then standing l else f :: standing l

/-- Delivers a sorted beat (R207). -/
def deliverBeat (s : State) : List VPend → State
  | [] => s
  | f :: l =>
    deliverBeat
      (if displaced f l then s.count 0x08 f.idx 1
       else if f.idx < 512 then (s.writeEntry f).countVerdict f
       else (s.writeEntry f).count 0x08 f.idx 0) l

/-- The verdicts due for delivery, in the order of R207. -/
def State.beat (s : State) : List VPend :=
  (s.vd.flight.filter (fun f => decide (f.v.deliv ≤ s.tick))).foldl (fun l f => insertPend f l) []

/-- The table's and the ledger's part of VERDICT_DELIVERY (R206, R209). -/
def State.deliverTable (s : State) : State :=
  let b := s.beat
  let s1 := { s with vd := { s.vd with flight := s.vd.flight.filter (fun f => decide (s.tick < f.v.deliv)) } }
  if s.powered domMGMT1 then deliverBeat s1 b else s1

/-! ### Commits, rebasing, the strongroom records (R201 to R204) -/

/-- Seeds of a channel reach its live centroids, and its drift latch clears (R202). -/
def State.reseed (s : State) (c : Nat) : State :=
  let cfg := s.liveObj 0x08 c
  let s1 := [0, 1, 2].foldl (fun u k => u.setCentroid c k (scaled (cfgSeed cfg k))) s
  { s1 with vd := { s1.vd with drift := clearMask s1.vd.drift (1 <<< c) } }

/-- Keys among `keys` whose captured image has SEED_DIRTY set. -/
def State.seedKeys (s : State) (keys : List Nat) : List Nat :=
  keys.filter (fun k => decide (k / 65536 = 0x08) && s.flag Fld.disc.seedDirty (k % 65536))

/-- READOUT_COMMIT (R188, R201, R521). -/
def cmdReadoutCommit (tick : Nat) : Own := fun id s =>
  let keys := s.dirtyKeys Fld.input.dirty ++ s.dirtyKeys Fld.disc.dirty ++ s.dirtyKeys Fld.demix.dirty
  if s.anyOff keys then refuse s .absent
  else commitOwn s tick keys (fun tc => ⟨tc, id, 3, s.capture keys, false, s.seedKeys keys, keys.length, 0, 0⟩)

/-- A captured discriminator image with the live seeds in place of its own (R202). -/
def keepSeeds (live img : Nat) : Nat := clearMask img (ones 192 192) ||| (live &&& ones 192 192)

/-- A captured discriminator at its tick: without a seed write its capture leaves the live seeds, which a rebase may have
moved since (R202, R203). -/
def State.applyDisc (s : State) (seeds : List Nat) (key img : Nat) : State :=
  s.applyCapture key (if seeds.contains key then img else keepSeeds (s.liveObj 0x08 (key % 65536)) img)

/-- One captured object of a READOUT_COMMIT at its tick. -/
def State.applyReadoutObj (s : State) (seeds : List Nat) (key img : Nat) : State :=
  if key / 65536 = 0x06 then s.applyInput key img
  else if key / 65536 = 0x08 then s.applyDisc seeds key img
  else s.applyCapture key img

/-- The commit of captured inputs, demixers and discriminators at its tick (R188, R202). -/
def State.applyReadoutCommit (s : State) (c : Commit) : State :=
  let s1 := c.caps.foldl (fun t k => t.applyReadoutObj c.seeds k.1 k.2) s
  c.seeds.foldl (fun t k => t.reseed (k % 65536)) s1

/-- Whether a named channel lies in a powered-off tile. -/
def State.channelOff (s : State) (cs : List Nat) : Bool := cs.any (fun c => !s.powered (domAT (c / 64)))

/-- DISC_REBASE (R203, R521). -/
def cmdDiscRebase (h : Hdr) (tick : Nat) : Own := fun id s =>
  let cs := channelMask h.ext
  if h.extlen.toNat ≠ 64 then refuse s .badParam
  else if s.channelOff cs then refuse s .absent
  else commitOwn s tick [] (fun tc => ⟨tc, id, 7, [], false, cs.map (okey 0x08), cs.length, 0, 0⟩)

/-- The seed that R203 gives a centroid. -/
def rebasedSeed (v : Iq) : Nat × Nat := (ofS 32 (rshift v.i 16), ofS 32 (rshift v.q 16))

/-- A rebase of one channel (R203). -/
def State.rebase (s : State) (c : Nat) : State :=
  let put := fun (img : Nat) => [0, 1, 2].foldl
    (fun m k =>
      let sd := rebasedSeed (s.centroid c k)
      setBits (setBits m (192 + 64 * k) 32 sd.1) (224 + 64 * k) 32 sd.2) img
  let s1 := (s.setLiveObj 0x08 c (put (s.liveObj 0x08 c))).setObj 0x08 c (put (s.obj 0x08 c))
  { s1 with vd := { s1.vd with drift := clearMask s1.vd.drift (1 <<< c) } }

def State.applyRebase (s : State) (c : Commit) : State := c.seeds.foldl (fun t k => t.rebase (k % 65536)) s

/-- DISC_SEED_STORE (R204): the records are written by the end of the command. -/
def cmdDiscSeedStore (h : Hdr) : Own := fun id s =>
  let cs := channelMask h.ext
  if h.extlen.toNat ≠ 64 then refuse s .badParam
  else if s.channelOff cs then refuse s .absent
  else if s.flag Fld.thermal.nvInhibit 0 then refuse s .supplyLow
  else if s.nvBusy then refuse s .busy
  else s.work id (2000000 + 100000 * cs.length) true (cs.map (fun c => (c, bits (s.obj 0x08 c) 0 576))) Reply.ok

/-- The records that a DISC_SEED_STORE has written: 72 bytes each (R204, R485). -/
def State.storeSeeds (s : State) (l : List (Nat × Nat)) : State := l.foldl (fun u e => u.nvWrite (nvDisc e.1) 72 e.2) s

/-- The records that a DISC_SEED_STORE has written when a tile of its channels loses power: a free number (R419). -/
def State.storePart (s : State) (w : Timed) : State :=
  let d := s.draw
  d.2.storeSeeds (w.vals.take (Config.delay d.1 % (w.vals.length + 1)))

/-- Copies one stored record into the staged copy (R204). -/
def State.restoreSeed (s : State) (c : Nat) : State :=
  match s.nvRead (nvDisc c) with
  | none => s
  | some r =>
    ((s.setObj 0x08 c (setBits (s.obj 0x08 c) 0 576 (r % 2 ^ 576))).setF Fld.disc.dirty c 1).setF Fld.disc.seedDirty c 1

/-- DISC_SEED_RESTORE (R204). DESIGN CHOICE: the staged copies change at the execution, though R204 bounds the completion alone;
DISC_SEED_STORE takes the staged copies of its own execution. -/
def cmdDiscSeedRestore (h : Hdr) : Own := fun id s =>
  let cs := channelMask h.ext
  if h.extlen.toNat ≠ 64 then refuse s .badParam
  else if s.channelOff cs then refuse s .absent
  else if s.nvBusy then refuse s .busy
  else
    let n := (cs.filter (fun c => (s.nvRead (nvDisc c)).isSome)).length
    (cs.foldl State.restoreSeed s).work id (2000000 + 100000 * cs.length) false [] (Reply.ok2 n (cs.length - n))

/-- Writes to OBJ_DISC that R215 refuses. -/
def badDisc (new : Nat) : Bool :=
  decide (cfgNcent new = 0) || decide (cfgK new < 4 ∨ 16 < cfgK new) || decide (cfgConf new < cfgMargin new) ||
    decide (fieldOf Fld.disc.adaptEn new = 1 ∧ cfgDriftLim new = 0)

/-! ### Meanings -/

/-- READOUT_COMMIT (R188). -/
def execReadoutCommit (h : Hdr) (tick : BitVec 64) (s : State) : Host.Outcome State Fault Refusal :=
  run (.readoutCommit h tick) h (cmdReadoutCommit tick.toNat) s

/-- DISC_REBASE (R203). -/
def execDiscRebase (h : Hdr) (tick : BitVec 64) (s : State) : Host.Outcome State Fault Refusal :=
  run (.discRebase h tick) h (cmdDiscRebase h tick.toNat) s

/-- DISC_SEED_STORE (R204). -/
def execDiscSeedStore (h : Hdr) (s : State) : Host.Outcome State Fault Refusal :=
  run (.discSeedStore h) h (cmdDiscSeedStore h) s

/-- DISC_SEED_RESTORE (R204). -/
def execDiscSeedRestore (h : Hdr) (s : State) : Host.Outcome State Fault Refusal :=
  run (.discSeedRestore h) h (cmdDiscSeedRestore h) s

/-- VERDICT_PRODUCED (R191). -/
def execVerdictProduced (c : Fin 512) (s : State) : Host.Outcome State Fault Refusal := .next (s.produceVerdict c.val)

/-- RECORD_BLOCK_CLOSE (R212). -/
def execRecordBlockClose (s : State) : Host.Outcome State Fault Refusal := .next s.recordBlockClose

end Sys2Proof.Machine
end

