-- ==== Sys2Proof/Machine/Appraiser.lean ====
section
/-! DEFINITION. Appraisers (09_appraiser.md): points, recipes, guard bits, runs and the result record. -/

namespace Sys2Proof.Machine

/-! ### Configuration (R244, R245, R260) -/

def apRecipe (c : Nat) : Nat := fieldOf Fld.appraiser.recipe c
def apMask (c : Nat) : Nat := fieldOf Fld.appraiser.chMask c
def apNbins (c : Nat) : Nat := fieldOf Fld.appraiser.nbinsM1 c + 1
def apNpairs (c : Nat) : Nat := fieldOf Fld.appraiser.npairsM1 c + 1

/-- Pair q of a configuration (R260). -/
def apPair (c q : Nat) : Nat × Nat := (bits c (256 + 12 * q) 6, bits c (262 + 12 * q) 6)

/-- The pairs of a CORRELATE configuration with their numbers. -/
def apPairs (c : Nat) : List (Nat × Nat × Nat) := (List.range (apNpairs c)).map (fun q => (q, apPair c q))

/-- Number of selected channels K. -/
def apK (c : Nat) : Nat := popCount (apMask c) 64

/-- Rank of a selected channel (R245). -/
def apRank (c m : Nat) : Nat := popCount (apMask c) m

/-- Cells a configuration uses (R245). -/
def apCells (c : Nat) : Nat :=
  match apRecipe c with
  | 1 => 1024 * apK c
  | 3 => apNpairs c * apNbins c
  | _ => apK c * apNbins c

/-- Bin of a shot number (R244). -/
def apBin (c shot : Nat) : Nat := (shot % 2 ^ 32 + 2 ^ 32 - fieldOf Fld.appraiser.shotBase c) % 2 ^ 32 % apNbins c

/-- Whether the recipe selects channel index m of the tile (R241). -/
def apSelects (c m : Nat) : Bool :=
  if apRecipe c = 3 then (apPairs c).any (fun e => decide (e.2.1 = m ∨ e.2.2 = m)) else bit (apMask c) m

/-! ### Runs -/

def State.apRun (s : State) (n : Nat) : ApRun := sget (fun _ => ApRun.none) s.ap.run n

def State.setApRun (s : State) (n : Nat) (r : ApRun) : State :=
  { s with ap := { s.ap with run := sset (fun _ => ApRun.none) s.ap.run n r } }

/-- STATE of an appraiser: 0 IDLE, 1 ARMED, 2 RUNNING, 3 DONE, 4 CAL. -/
def State.apState (s : State) (n : Nat) : Nat := s.getF Fld.appraiser.state n

/-- Adds one to a 32-bit run count. -/
def State.bump (s : State) (f : Field) (n : Nat) : State := s.setF f n (s.getF f n + 1)

/-! ### Points (R241 to R243) -/

/-- A delivered verdict as the appraiser's input (R240). -/
def apPoint (f : VPend) (ready : Nat) : ApPt := ⟨f.idx, f.z, f.v.code, f.v.ovf, f.v.stale, f.v.prod, f.shot % 2 ^ 32, f.s, ready⟩

/-- Tick and place within its cycle of one more lane operation of a point delivered at d: 16 fit in one cycle, which is two
ticks (R242). -/
def nextSlot (slot : Nat × Nat) (d : Nat) : Nat × Nat :=
  let c := max (d + 8) slot.1
  if slot.1 / 2 < c / 2 then (c, 1) else if slot.2 < 16 then (c, slot.2 + 1) else (slot.1 / 2 * 2 + 2, 1)

/-- Lane operations of a point: one, and in CORRELATE one for each product it forms with the points before it (R242, R247). -/
def apOps (r : ApRun) (f : VPend) : Nat :=
  let m := f.idx % 64
  let there := fun k => (r.queue ++ r.seen).any (fun y => decide (y.p = f.v.prod ∧ y.rc % 64 = k) && !y.stale && !y.ovf)
  if apRecipe r.cfg ≠ 3 ∨ f.v.stale ∨ f.v.ovf then 1
  else max 1 ((apPairs r.cfg).filter (fun e =>
    decide (e.2.1 = m ∧ e.2.2 = m) || (decide (e.2.1 = m) && there e.2.2) || (decide (e.2.2 = m) && there e.2.1))).length

/-- A delivered local verdict reaches its appraiser (R241, R242). -/
def State.apDeliver (s : State) (f : VPend) : State :=
  let n := f.idx / 64
  let r := s.apRun n
  if !s.powered (domAT n) ∨ s.apState n ≠ 2 ∨ !apSelects r.cfg (f.idx % 64) then s
  else if f.v.prod < s.getF Fld.appraiser.startTick n ∨ r.bound.any (fun b => decide (b ≤ f.v.prod)) then s
  else if 4096 ≤ r.queue.length then
    (((s.bump Fld.appraiser.dropped n).raise Fld.appraiser.drop n).count 0x0A n 3).setApRun n { r with dropped := true }
  else
    let sl := (List.range (apOps r f)).foldl (fun a _ => nextSlot a s.tick) r.slot
    s.setApRun n { r with queue := r.queue ++ [apPoint f sl.1], slot := sl }

/-- The tables', the ledger's and the appraisers' part of VERDICT_DELIVERY (R206 to R208). -/
def State.deliverVerdicts (s : State) : State :=
  let b := if s.powered domMGMT1 then s.beat else []
  b.foldl (fun u f => if f.idx < 512 then u.apDeliver f else u) s.deliverTable

/-- Partner conditions of CORRELATE: both points of the tick, neither STALE nor OVF (R247). -/
def apPartner (r : ApRun) (x : ApPt) (m : Nat) : Bool :=
  (r.queue ++ r.seen).any (fun y => decide (y.p = x.p ∧ y.rc % 64 = m) && !y.stale && !y.ovf)

/-- Whether a CORRELATE point has a partner in some pair (R243, R247). -/
def apPaired (r : ApRun) (x : ApPt) : Bool :=
  let m := x.rc % 64
  (apPairs r.cfg).any (fun e =>
    (decide (e.2.1 = m) && (decide (e.2.2 = m) || apPartner r x e.2.2)) ||
      (decide (e.2.2 = m) && apPartner r x e.2.1))

/-- Whether a taken point is excluded (R243). -/
def apExcluded (r : ApRun) (x : ApPt) : Bool :=
  let rec_ := apRecipe r.cfg
  let filt := fieldOf Fld.appraiser.stateFilt r.cfg
  x.stale || (x.ovf && decide (rec_ ≠ 4)) ||
    (decide (rec_ < 3) && decide (4 ≤ filt ∧ x.code ≠ filt % 4)) || (decide (rec_ = 3) && !apPaired r x)

/-! ### Cells (R246 to R251) -/

/-- One component of a sum (R251): new value, saturation mark, and whether it overflows now. -/
def addGuard (v x : Int) (sat? : Bool) : Int × Bool × Bool :=
  if sat? then (v, true, false) else (sat 48 (v + x), saturates 48 (v + x), saturates 48 (v + x))

/-- Adds a value into a cell (R245, R251): the cell and whether a component overflowed. -/
def Cell.add (c : Cell) (v : Iq) : Cell × Bool :=
  let a := addGuard c.i v.i c.satI
  let b := addGuard c.q v.q c.satQ
  ({ c with i := a.1, q := b.1, n := c.n + 1, satI := a.2.1, satQ := b.2.1 }, a.2.2 || b.2.2)

/-- Records a guard overflow of the run (R251). -/
def State.apOverflow (s : State) (n shot before cell : Nat) : State :=
  let s1 := if s.flag Fld.appraiser.ovf n then s
    else ((s.setF Fld.appraiser.ovfShot n shot).setF Fld.appraiser.ovfPoint n before).setF Fld.appraiser.ovfCell n cell
  (s1.raise Fld.appraiser.ovf n).count 0x0A n 4

/-- Adds a value into a cell of appraiser n. -/
def State.apAdd (s : State) (n cell shot before : Nat) (v : Iq) : State :=
  let r := s.apRun n
  let a := (sget (fun _ => Cell.zero) r.cells cell).add v
  let s1 := s.setApRun n { r with cells := sset (fun _ => Cell.zero) r.cells cell a.1, ovf := r.ovf || a.2 }
  if a.2 then s1.apOverflow n shot before cell else s1

/-- A CORRELATE product (R247): value and number of saturated components. -/
def apProduct (a b : Iq) (k : Nat) : Iq × Nat :=
  let i := rshift (a.i * b.i + a.q * b.q) k
  let q := rshift (a.q * b.i - a.i * b.q) k
  (⟨sat 40 i, sat 40 q⟩, (if saturates 40 i then 1 else 0) + (if saturates 40 q then 1 else 0))

/-- Adds the product of a pair of points to its cell. -/
def State.apCorrelate (s : State) (n q before : Nat) (a b : ApPt) : State :=
  let c := (s.apRun n).cfg
  let p := apProduct a.z b.z (fieldOf Fld.appraiser.prodShift c)
  let s1 := if p.2 = 0 then s
    else ((s.raise Fld.appraiser.prodSat n).countN 0x0A n 5 p.2).setApRun n { s.apRun n with prodSat := true }
  s1.apAdd n (q * apNbins c + apBin c a.shot) a.shot before p.1

/-- The points of a pair that are both present once x is taken: x is the later of the two. -/
def apOther (r : ApRun) (x : ApPt) (m : Nat) : Option ApPt :=
  r.seen.find? (fun y => decide (y.p = x.p ∧ y.rc % 64 = m) && !y.stale && !y.ovf)

/-- The recipe's operation on an accepted point (R245 to R249); `before` is the number accepted before it. -/
def State.apOperate (s : State) (n before : Nat) (x : ApPt) : State :=
  let r := s.apRun n
  let c := r.cfg
  let m := x.rc % 64
  let cell := apRank c m * apNbins c + apBin c x.shot
  match apRecipe c with
  | 1 =>
    let k := fieldOf Fld.appraiser.hShift c
    let bx := (x.z.i - toS 32 (fieldOf Fld.appraiser.hOriginI c)) / (2 : Int) ^ k
    let by_ := (x.z.q - toS 32 (fieldOf Fld.appraiser.hOriginQ c)) / (2 : Int) ^ k
    let rank := apRank c m
    if 0 ≤ bx ∧ bx < 64 ∧ 0 ≤ by_ ∧ by_ < 64 then
      let key := rank * 4096 + 64 * by_.toNat + bx.toNat
      let w := sget (fun _ => Cell.zero) r.cells key
      s.setApRun n { r with cells := sset (fun _ => Cell.zero) r.cells key { w with n := w.n + 1 } }
    else s.setApRun n { r with outside := sset (fun _ => 0) r.outside rank (sget (fun _ => 0) r.outside rank + 1) }
  | 3 =>
    (apPairs c).foldl
      (fun u e =>
        if e.2.1 = m ∧ e.2.2 = m then u.apCorrelate n e.1 before x x
        else if e.2.1 = m then (match apOther r x e.2.2 with | some y => u.apCorrelate n e.1 before x y | .none => u)
        else if e.2.2 = m then (match apOther r x e.2.1 with | some y => u.apCorrelate n e.1 before y x | .none => u)
        else u) s
  | 4 =>
    let w := sget (fun _ => Cell.zero) r.cells cell
    let w1 : Cell := match x.code with
      | 0 => { w with i := w.i + 1 }
      | 1 => { w with q := w.q + 1 }
      | 2 => { w with n := w.n + 1 }
      | _ => { w with m := w.m + 1 }
    s.setApRun n { r with cells := sset (fun _ => Cell.zero) r.cells cell w1 }
  | _ => s.apAdd n cell x.shot before x.z

/-- Ticks of SWEEP's extreme search (R246). -/
def apSearch (c : Nat) : Nat := if apRecipe c = 2 then 2 * ((apK c * apNbins c + 15) / 16) else 0

/-- The run reaches its limit with the point just accepted (R256). -/
def State.apLimit (s : State) (n : Nat) (x : ApPt) : State :=
  let r := s.apRun n
  let acc := s.getF Fld.appraiser.accepted n
  let lim := fieldOf Fld.appraiser.pointLimit r.cfg
  if lim ≠ 0 ∧ acc = lim ∨ acc = 2 ^ 32 - 1 then
    (s.setF Fld.appraiser.stopTick n (x.p + 1)).setApRun n { r with
      bound := some (x.p + 1), reason := if lim ≠ 0 ∧ acc = lim then 1 else 4, queue := []
      doneAt := some (s.tick + apSearch r.cfg) }
  else s

/-- APP_POINT is due: the oldest queued point is in its cells by this tick (R242). -/
def State.apPointDue (s : State) (n : Nat) : Bool :=
  match (s.apRun n).queue with
  | x :: _ => decide (s.apState n = 2 ∧ x.ready ≤ s.tick)
  | [] => false

/-- APP_POINT (R242, R243). -/
def State.apTake (s : State) (n : Nat) : State :=
  if !s.apPointDue n then s
  else match (s.apRun n).queue with
    | [] => s
    | x :: rest =>
      let r := s.apRun n
      let r1 := { r with queue := rest, seen := r.seen.filter (fun y => decide (y.p = x.p)) }
      let out := apExcluded r1 x
      let keep := { r1 with seen := r1.seen ++ [x] }
      if out then
        ((s.bump Fld.appraiser.excluded n).count 0x0A n 2).setApRun n { keep with staleEx := keep.staleEx || x.stale }
      else
        let before := s.getF Fld.appraiser.accepted n
        let s1 := (s.setApRun n { keep with
          first := if keep.first.isSome then keep.first else some x.s
          erased := keep.erased || decide (x.code = 3) }).apOperate n before x
        ((s1.bump Fld.appraiser.accepted n).count 0x0A n 1).apLimit n x

/-! ### Starting and ending (R255 to R258) -/

/-- APP_START and APP_STOP commands that wait for appraiser n complete as its run is DONE (R256, R257). -/
def State.apDoneSeen (s : State) (n : Nat) (rep : Reply) : State :=
  s.cmd.open_.foldl
    (fun u cmd =>
      match cmd.instr, cmd.st with
      | .appStart _ a _ _, .waiting => if a.toNat = n then u.completeId cmd.id rep else u
      | .appStop _ a _, .waiting => if a.toNat = n then u.completeId cmd.id Reply.ok else u
      | _, _ => u) s

/-- The run is DONE at the present tick. -/
def State.apFinish (s : State) (n : Nat) : State :=
  let r := s.apRun n
  let b := match r.bound with | some b => b | .none => s.tick
  let s1 := (s.setF Fld.appraiser.state n 3).setF Fld.appraiser.stopTick n b
  s1.apDoneSeen n (Reply.ok4 (s1.getF Fld.appraiser.accepted n) (s1.getF Fld.appraiser.excluded n)
    (s1.getF Fld.appraiser.dropped n) r.reason)

/-- Cells and counts cleared, ready for a run (R255). -/
def State.apClear (s : State) (n stop : Nat) : State :=
  let s1 := ((s.setF Fld.appraiser.accepted n 0).setF Fld.appraiser.excluded n 0).setF Fld.appraiser.dropped n 0
  (s1.setF Fld.appraiser.stopTick n stop).setApRun n
    { ApRun.none with cfg := s.obj 0x0B n, bound := if stop = 0 then .none else some stop, reason := 2 }

/-- Parameters and recipe of APP_START that give BAD_PARAM (R255). -/
def badAppStart (app c : Nat) : Bool :=
  let k := apK c
  let rcp := apRecipe c
  decide (7 < app) || decide (4 < rcp) || decide (16384 < apCells c) || decide ((rcp = 1 ∨ rcp = 2) ∧ 16 < k) ||
    decide (rcp ≠ 3 ∧ apMask c = 0)

/-- APP_START (R255): it completes when the run is DONE. With the tile off, its object is absent, so of the first row of checks
only the appraiser's number can fail (DEDUCED), and the second row answers (R255, R421). -/
def cmdAppStart (app start stop : Nat) : Own := fun _ s =>
  let c := s.obj 0x0B app
  let trig := decide (fieldOf Fld.appraiser.trigEn c = 1)
  if 7 < app then refuse s .badParam
  else if !s.powered (domAT app) then refuse s .absent
  else if badAppStart app c then refuse s .badParam
  else if s.apState app = 4 then refuse s .busy
  else if s.apState app ≠ 0 ∧ s.apState app ≠ 3 then refuse s .state
  else if trig then
    ((s.apClear app stop).setF Fld.appraiser.state app 1, Reply.wait)
  else match s.tickParam start with
    | none => refuse s .tooLate
    | some t => (((s.apClear app stop).setF Fld.appraiser.state app 1).setF Fld.appraiser.startTick app t, Reply.wait)

/-- The run starts at the present tick (R255): with a stop bound at or before it, it is DONE with no points (R257). -/
def State.apBegin (s : State) (n : Nat) : State :=
  let s1 := s.setF Fld.appraiser.startTick n s.tick
  if (s.apRun n).bound.any (fun b => decide (b ≤ s.tick)) then s1.apFinish n
  else (s1.setF Fld.appraiser.state n 2).count 0x0A n 0

def apTrig (s : State) (n : Nat) : Bool := decide (fieldOf Fld.appraiser.trigEn (s.apRun n).cfg = 1)

/-- APP_RUN_START is due. -/
def State.apStartDue (s : State) (n : Nat) : Bool :=
  decide (s.apState n = 1 ∧ s.getF Fld.appraiser.startTick n ≤ s.tick) && !apTrig s n

/-- APP_RUN_START (R255). -/
def State.apRunStart (s : State) (n : Nat) : State := if s.apStartDue n then s.apBegin n else s

/-- An event at EVT(136 + n) is to be taken at the end of this tick. -/
def State.apEvent (s : State) (n : Nat) : Bool := s.cat.flight.any (fun f => decide (f.evt = 136 + n) && s.arrived f)

/-- APP_RUN_END is due: an ARMED run whose bound has come, unless an event of the tick starts it, which ends it at once (R258);
a run whose bound lies 15 ticks back, when the last point before it has been delivered, with every point taken; or a search
that ends now (R246, R256, R257). -/
def State.apEndDue (s : State) (n : Nat) : Bool :=
  let r := s.apRun n
  let st := s.apState n
  (decide (st = 1) && r.bound.any (fun b => decide (b ≤ s.tick)) && !(apTrig s n && s.apEvent n)) ||
    (decide (st = 2) && (match r.doneAt with
      | some t => decide (t ≤ s.tick)
      | .none => r.bound.any (fun b => decide (b + 15 ≤ s.tick)) && decide (r.queue = [])))

/-- APP_RUN_END (R256): the run is DONE, or its extreme search begins. -/
def State.apRunEnd (s : State) (n : Nat) : State :=
  if !s.apEndDue n then s
  else
    let r := s.apRun n
    if s.apState n = 2 ∧ r.doneAt = .none ∧ apSearch r.cfg ≠ 0 then
      s.setApRun n { r with doneAt := some (s.tick + apSearch r.cfg) }
    else s.apFinish n

/-- APP_STOP (R257). One whose tick is that of the run's start ends the run at once, with no points (R258). -/
def cmdAppStop (app stop : Nat) : Own := fun _ s =>
  if 7 < app then refuse s .badParam
  else if !s.powered (domAT app) then refuse s .absent
  else if s.apState app ≠ 1 ∧ s.apState app ≠ 2 then (s, Reply.ok)
  else
    let t := max stop s.tick
    let r := s.apRun app
    if r.bound.any (fun b => decide (b ≤ t)) then (s, Reply.wait)
    else
      let s1 := (s.setF Fld.appraiser.stopTick app t).setApRun app { r with bound := some t, reason := 3 }
      if s.apState app = 2 ∧ s.getF Fld.appraiser.startTick app = t then (s1.apFinish app, Reply.wait) else (s1, Reply.wait)

/-! ### Moving results (R246, R252 to R254) -/

/-- Number of bits of a magnitude. -/
def bitLen (m : Nat) : Nat := if m = 0 then 0 else Nat.log2 m + 1

/-- Block exponent of a run (R253). -/
def apExp (r : ApRun) : Nat :=
  if apRecipe r.cfg = 1 ∨ apRecipe r.cfg = 4 then 0
  else bitLen (r.cells.foldl (fun m e => max m (max e.2.i.natAbs e.2.q.natAbs)) 0) - 30

def apCell (r : ApRun) (k : Nat) : Cell := sget (fun _ => Cell.zero) r.cells k

/-- One 16-byte body entry (R254). -/
def apEntry (r : ApRun) (k : Nat) : List Byte :=
  let c := apCell r k
  if apRecipe r.cfg = 4 then leBytes 4 (ofS 32 c.i) ++ leBytes 4 (ofS 32 c.q) ++ leBytes 4 c.n ++ leBytes 4 c.m
  else
    let e := apExp r
    leBytes 4 (ofS 32 (c.i / (2 : Int) ^ e)) ++ leBytes 4 (ofS 32 (c.q / (2 : Int) ^ e)) ++ leBytes 4 c.n ++
      leBytes 4 (if c.satI || c.satQ then 1 else 0)

/-- One histogram entry of 16,400 bytes (R254). -/
def apHistEntry (r : ApRun) (rank : Nat) : List Byte :=
  (List.range 4096).flatMap (fun k => leBytes 4 (apCell r (rank * 4096 + k)).n) ++
    leBytes 16 (sget (fun _ => 0) r.outside rank)

def mag2 (c : Cell) : Int := c.i * c.i + c.q * c.q

/-- The extreme bin of a rank (R246): the lowest bin among equals. -/
def apExtreme (r : ApRun) (rank : Nat) : Nat :=
  let n := apNbins r.cfg
  let mx := decide (fieldOf Fld.appraiser.extreme r.cfg = 1)
  (List.range n).foldl
    (fun b k =>
      let vb := mag2 (apCell r (rank * n + b))
      let vk := mag2 (apCell r (rank * n + k))
      if (mx && decide (vb < vk)) || (!mx && decide (vk < vb)) then k else b) 0

/-- One entry of the table of extremes (R254). -/
def apExtremeEntry (r : ApRun) (rank : Nat) : List Byte :=
  let b := apExtreme r rank
  let c := apCell r (rank * apNbins r.cfg + b)
  let i := c.i / (2 : Int) ^ apExp r
  let q := c.q / (2 : Int) ^ apExp r
  leBytes 2 b ++ leBytes 6 0 ++ leBytes 8 (i * i + q * q).toNat

/-- Entries of the body (R254). -/
def apEntries (c : Nat) : Nat := if apRecipe c = 1 then apK c else apCells c

/-- Length of the result record (R254). -/
def apLength (c : Nat) : Nat :=
  96 + (if apRecipe c = 1 then 16400 * apK c else 16 * apCells c) + (if apRecipe c = 2 then 16 * apK c else 0)

/-- The result record (R254). -/
def State.apRecord (s : State) (n seq : Nat) : List Byte :=
  let r := s.apRun n
  let c := r.cfg
  let start := s.getF Fld.appraiser.startTick n
  let flags := (if r.staleEx then 1 else 0) + (if r.ovf || r.prodSat then 2 else 0) + (if r.erased then 4 else 0)
  let raw := 16 * (match r.first with | some t => t | .none => start)
  let hf := (if r.ovf then 1 else 0) + (if r.prodSat then 2 else 0) + (if r.dropped then 4 else 0) +
    8 * fieldOf Fld.appraiser.extreme c
  let header :=
    leBytes 1 (apRecipe c) ++ leBytes 1 (apExp r) ++ leBytes 1 r.reason ++ leBytes 1 hf ++ leBytes 4 (apEntries c) ++
    leBytes 2 (apNbins c) ++ leBytes 2 0 ++ leBytes 4 (s.getF Fld.appraiser.accepted n) ++
    leBytes 4 (s.getF Fld.appraiser.excluded n) ++ leBytes 4 (s.getF Fld.appraiser.dropped n) ++
    leBytes 4 (if r.ovf then s.getF Fld.appraiser.ovfShot n else 0) ++
    leBytes 4 (if r.ovf then s.getF Fld.appraiser.ovfPoint n else 0) ++ leBytes 8 start ++
    leBytes 8 (s.getF Fld.appraiser.stopTick n) ++ leBytes 8 (if apRecipe c = 3 then 0 else apMask c) ++
    leBytes 2 (if r.ovf then s.getF Fld.appraiser.ovfCell n else 0) ++ leBytes 6 0
  let body := if apRecipe c = 1 then (List.range (apK c)).flatMap (apHistEntry r)
    else (List.range (apCells c)).flatMap (apEntry r)
  let ext := if apRecipe c = 2 then (List.range (apK c)).flatMap (apExtremeEntry r) else []
  s.tag 0x04 n flags raw (seq % 65536) ++ header ++ body ++ ext

/-- APP_READ (R252). -/
def cmdAppRead (h : Hdr) (app : Nat) : Own := fun _ s =>
  if 7 < app then refuse s .badParam
  else if !s.powered (domAT app) then refuse s .absent
  else if s.apState app ≠ 3 then refuse s .state
  else
    let len := apLength (s.apRun app).cfg
    if h.extlen.toNat < len then refuse s .badParam
    else
      let q := s.nextSeq (73 + app)
      (q.2.count 0x0A app 6, { Reply.ok1 len with data := q.2.apRecord app q.1 })

/-- Writes to OBJ_APPRAISER that R261 refuses. -/
def badAppraiser (new : Nat) : Bool :=
  decide (4 < apRecipe new) || decide (1 ≤ fieldOf Fld.appraiser.stateFilt new ∧ fieldOf Fld.appraiser.stateFilt new ≤ 3) ||
    decide (32 < fieldOf Fld.appraiser.prodShift new) || decide (26 < fieldOf Fld.appraiser.hShift new)

def stateAppraiser (old : Nat) : Bool :=
  let st := fieldOf Fld.appraiser.state old
  decide (st = 1 ∨ st = 2 ∨ st = 4)

/-- An accepted OBJ_WRITE in DONE discards the results (R261). -/
def State.appraiserWritten (s : State) (n : Nat) : State :=
  if s.apState n = 3 then (s.setF Fld.appraiser.state n 0).setApRun n ApRun.none else s

/-- An event at EVT(136 + n) (R255, R345). -/
def State.evtAppraiser (s : State) (n : Nat) : State :=
  if !s.powered (domAT n) then s.absentDrop (136 + n)
  else if s.apState n = 1 ∧ apTrig s n then (s.apBegin n).delivered (136 + n)
  else s.busyDrop (136 + n)

/-! ### Meanings -/

/-- APP_START (R255). -/
def execAppStart (h : Hdr) (app : BitVec 8) (start stop : BitVec 64) (s : State) : Host.Outcome State Fault Refusal :=
  run (.appStart h app start stop) h (cmdAppStart app.toNat start.toNat stop.toNat) s

/-- APP_STOP (R257). -/
def execAppStop (h : Hdr) (app : BitVec 8) (stop : BitVec 64) (s : State) : Host.Outcome State Fault Refusal :=
  run (.appStop h app stop) h (cmdAppStop app.toNat stop.toNat) s

/-- APP_READ (R252). -/
def execAppRead (h : Hdr) (app : BitVec 8) (s : State) : Host.Outcome State Fault Refusal :=
  run (.appRead h app) h (cmdAppRead h app.toNat) s

/-- APP_RUN_START (R255). -/
def execAppRunStart (n : Fin 8) (s : State) : Host.Outcome State Fault Refusal := .next (s.apRunStart n.val)

/-- APP_POINT (R242). -/
def execAppPoint (n : Fin 8) (s : State) : Host.Outcome State Fault Refusal := .next (s.apTake n.val)

/-- APP_RUN_END (R256). -/
def execAppRunEnd (n : Fin 8) (s : State) : Host.Outcome State Fault Refusal := .next (s.apRunEnd n.val)

/-- EVT_APPRAISER_START (R255). -/
def execEvtAppraiserStart (n : Fin 8) (s : State) : Host.Outcome State Fault Refusal := .next (s.evtAppraiser n.val)

end Sys2Proof.Machine
end

