-- ==== Sys2Proof/Machine/Avs.lean ====
section
/-! DEFINITION. Adaptive core voltage (18_power_thermal.md, R455 to R457). Voltages are in units of 0.1 mV. -/

namespace Sys2Proof.Machine

/-- The step window W of a step of `mv` millivolts (R456): SLEW is AVS_SLEW × 0.5 mV/µs. -/
def avsWindow (slew mv : Nat) : Nat := 1500 + (2000 * mv + slew - 1) / slew

/-- The largest step in millivolts, at most 5, whose window fits the declared gap (R456). -/
def avsStep (slew gap diff : Nat) : Nat :=
  ([5, 4, 3, 2, 1].find? (fun mv => decide (10 * mv ≤ diff ∧ avsWindow slew mv ≤ gap))).getD 0

/-- Writes a core voltage to the regulator at the present tick (R455, R456). -/
def State.avsWrite (s : State) (v : Nat) : State :=
  ((s.setF Fld.thermal.vcoreSet 0 v).setF Fld.thermal.avsLastTick 0 s.tick).emit (.avs v)

/-- The t0 of a SHOT word of curator c: in Run the pacing curator's step (R456). A step that brings the voltage within 15 mV of a
higher target ends the wait of R457. -/
def State.avsShot (s : State) (c : Nat) : State :=
  let t := s.getF Fld.thermal.vcoreTarget 0
  let v := s.getF Fld.thermal.vcoreSet 0
  let slew := s.getF Fld.thermal.avsSlew 0
  let gap := s.getF Fld.thermal.avsGap 0
  if s.powerState ≠ 0 ∨ !s.flag Fld.thermal.avsEn 0 ∨ s.getF Fld.thermal.avsPace 0 ≠ c ∨ gap = 0 then s
  else
    let mv := avsStep slew gap ((t : Int) - v).natAbs
    if mv = 0 then s
    else
      let s1 := s.avsWrite (if v < t then v + 10 * mv else v - 10 * mv)
      let left := if v + 10 * mv + 150 < t then s1.pw.avsSince else 0
      { s1 with pw := { s1.pw with avsWin := max s.pw.avsWin (s.tick + avsWindow slew mv - 1), avsSince := left } }

/-- AVS_TARGET is due: every 1 ms (R455). -/
def State.avsDue (s : State) : Bool := s.crosses 1000000

/-- The target the monitors give, within AVS_VMIN to AVS_VMAX and 0.65 V to 0.85 V (R455). -/
def State.clampVcore (s : State) (v : Nat) : Nat :=
  max (max 6500 (s.getF Fld.thermal.avsVmin 0)) (min (min 8500 (s.getF Fld.thermal.avsVmax 0)) v)

/-- A voltage at the 1 mV resolution of the regulator (R455). DESIGN CHOICE: rounded half up. -/
def toMillivolt (v : Nat) : Nat := 10 * ((v + 5) / 10)

/-- AVS_TARGET: the target, its write in Idle, and the watch of R457 in Run. -/
def State.avsTarget (s : State) : State :=
  let d := s.draw
  let t := s.clampVcore (Config.vcoreTarget d.1)
  let s1 := d.2.setF Fld.thermal.vcoreTarget 0 t
  if s1.powerState = 1 ∧ s1.flag Fld.thermal.avsEn 0 then s1.avsWrite (toMillivolt t)
  else if s1.powerState = 0 ∧ s1.getF Fld.thermal.vcoreSet 0 + 150 < t then
    if s1.pw.avsSince = 0 then { s1 with pw := { s1.pw with avsSince := s.tick + 1 } }
    else if s1.pw.avsSince - 1 + 100000000 ≤ s.tick then s1.raise Fld.thermal.avsBehind 0
    else s1
  else { s1 with pw := { s1.pw with avsSince := 0 } }

/-- End of a tick within a step window: a slot that plays or a window that is pending breaks the user's declaration
(R457). -/
def State.avsTickEnd (s : State) (active : Bool) : State :=
  if s.pw.avsWin ≠ 0 ∧ s.tick ≤ s.pw.avsWin then
    if active then s.raise Fld.thermal.avsOverlap 0 else s
  else if s.pw.avsWin ≠ 0 then { s with pw := { s.pw with avsWin := 0 } }
  else s

/-- AVS_TARGET (R455). -/
def execAvsTarget (s : State) : Host.Outcome State Fault Refusal := .next (if s.avsDue then s.avsTarget else s)

end Sys2Proof.Machine
end

