-- ==== Sys2Proof/Machine/Bias.lean ====
section
/-! DEFINITION. Bias outputs (11_bias_outputs.md): input and DAC registers, strobes, deglitcher and slew limiter,
clamps, bank states, range changes, clears, and the commands of class 0x08xx. -/

namespace Sys2Proof.Machine

/-! ### Banks and codes (R286, R301) -/

def bankOf (b : Nat) : Nat := b / 32

/-- STATE of a bank (R297): 1 OFF, 2 WAIT_STROBE, 3 ACTIVE, 4 RANGING, 5 CAL, 6 LOCKED. -/
def State.bankState (s : State) (k : Nat) : Nat := s.getF Fld.biasbank.state k

/-- Zero-volt code of a span (R286). -/
def zeroCode (span : Nat) : Nat := if span < 2 then 0 else 0x80000

def State.liveSpan (s : State) (k : Nat) : Nat := s.getF Fld.biasbank.liveSpan k

/-- Clear code of a bank (R301). -/
def State.clearCode (s : State) (k : Nat) : Nat :=
  if bit s.pw.straps 0 ∧ s.flag Fld.biasbank.safeValid k then s.getF Fld.biasbank.safeCode k else zeroCode (s.liveSpan k)

/-- First tick after t that is a multiple of 8 (R290). -/
def updateEdge (t : Nat) : Nat := (t / 8 + 1) * 8

/-- Outputs of a bank. -/
def bankOutputs (k : Nat) : List Nat := (List.range 32).map (fun j => 32 * k + j)

/-- The setting of the slew limiter that governs a bank (R294). -/
def State.slewOn (s : State) (k : Nat) : Bool := bit s.bi.slewGov k

/-- Closes or opens the clamp of every output of a bank (R295). -/
def State.setClamp (s : State) (k : Nat) (closed : Bool) : State :=
  (bankOutputs k).foldl (fun u b => u.setF Fld.bias.clamped b (if closed then 1 else 0)) s

/-- Sets the input register, DAC register and EFF_CODE of every output of a bank. -/
def State.presetBank (s : State) (k input eff : Nat) : State :=
  (bankOutputs k).foldl
    (fun u b => ((u.setF Fld.bias.inputCode b input).setF Fld.bias.dacCode b input).setF Fld.bias.effCode b eff) s

/-- Ends every hold and ramp of a bank. -/
def State.stillBank (s : State) (k : Nat) : State :=
  let s1 := (bankOutputs k).foldl (fun u b => (u.setF Fld.bias.slewing b 0).setF Fld.bias.deglitch b 0) s
  let out := fun (e : Nat × Nat) => decide (bankOf e.1 ≠ k)
  { s1 with bi := { s1.bi with holdEnd := s1.bi.holdEnd.filter out
                               holdLeft := s1.bi.holdLeft.filter out
                               frozen := clearMask s1.bi.frozen ((2 ^ 32 - 1) <<< (32 * k)) } }

/-! ### Input registers (R288, R290) -/

/-- Writes an input register at the present tick; the content before the tick's writes is kept for a strobe of the
tick. -/
def State.writeInput (s : State) (b code : Nat) : State :=
  let p := sget (fun _ => (0, 0)) s.bi.prev b
  let s1 := if p.2 = s.tick + 1 then s
    else { s with bi := { s.bi with prev := sset (fun _ => (0, 0)) s.bi.prev b (s.getF Fld.bias.inputCode b, s.tick + 1) } }
  s1.setF Fld.bias.inputCode b code

/-- Input register as a strobe of the present tick copies it (R290). -/
def State.strobeCode (s : State) (b : Nat) : Nat :=
  let p := sget (fun _ => (0, 0)) s.bi.prev b
  if p.2 = s.tick + 1 then p.1 else s.getF Fld.bias.inputCode b

/-- Whether input-register writes are refused (R288, R302). -/
def State.inputBlocked (s : State) (k : Nat) : Bool := decide (s.bankState k = 1) || s.bi.clrLow

/-! ### Strobes (R289) -/

def State.strobeWord (s : State) (k : Nat) : Nat := sget (fun _ => 0) s.bi.strobe k

def State.orStrobe (s : State) (k m : Nat) : State :=
  { s with bi := { s.bi with strobe := sset (fun _ => 0) s.bi.strobe k (s.strobeWord k ||| m) } }

/-- A strobe from a source under SRC_EN reaches bank k at the present tick: kind 0 pin, 1 curator, 2 event. -/
def State.addStrobe (s : State) (k kind : Nat) : State :=
  if !s.powered (domBB k) then s
  else
    let ev := if kind = 2 then 2 ^ 33 else 0
    if bit (s.getF Fld.biasbank.srcEn k) kind then s.orStrobe k (s.getF Fld.biasbank.loadMask k ||| 2 ^ 32 ||| ev)
    else s.orStrobe k (2 ^ 34 ||| ev)

/-- A strobe with its own mask (BIAS_STROBE, STROBE_AFTER). -/
def State.addOwnStrobe (s : State) (k mask : Nat) : State :=
  if !s.powered (domBB k) then s else s.orStrobe k (mask ||| 2 ^ 32)

/-- A pending BIAS_COMMIT changes the span of bank k (R299). -/
def State.spanPending (s : State) (k : Nat) : Bool :=
  s.cmd.commits.any (fun c => decide (c.kind = 4) &&
    c.caps.any (fun e => decide (e.1 = okey 0x0E k ∧ fieldOf Fld.biasbank.span e.2 ≠ s.liveSpan k)))

/-- A clear acts on the bank at the present tick. -/
def State.clearNow (s : State) (k : Nat) : Bool :=
  s.bi.upd.any (fun e => decide (e.bank = k ∧ e.t = s.tick) && e.clear)

/-- Whether bank k ignores a strobe at the present tick (R289, R298 to R303). -/
def State.ignoresStrobe (s : State) (k : Nat) : Bool :=
  let st := s.bankState k
  let closed := decide (st = 2 ∨ st = 4)
  decide (st = 1) || decide (st = 6) || s.bi.clrLow || s.clearNow k || s.spanPending k || (closed && s.pw.hold) ||
    (decide (st = 4) && decide (s.tick < sget (fun _ => 0) s.bi.rangeRel k))

/-- Queues a change of DAC registers. -/
def State.addUpd (s : State) (e : BiUpd) : State := { s with bi := { s.bi with upd := s.bi.upd ++ [e] } }

/-- A strobe that the bank applies: the releasing strobe, or the copy of the input registers (R290, R291). -/
def State.applyStrobe (s : State) (k mask : Nat) : State :=
  let u := updateEdge s.tick
  let st := s.bankState k
  let s1 := s.count 0x0D k 0
  if (st = 2 ∨ st = 4) ∧ !bit s.bi.releasing k then
    { s1.addUpd ⟨k, s.tick, u, false, [], true⟩ with bi := { (s1.addUpd ⟨k, s.tick, u, false, [], true⟩).bi with
        releasing := s.bi.releasing ||| (1 <<< k) } }
  else
    s1.addUpd ⟨k, s.tick, u, false, (setPositions mask 32).map (fun j => (32 * k + j, s.strobeCode (32 * k + j))), false⟩

/-- The event of a strobe was delivered, or busy (R339). -/
def State.strobeEvent (s : State) (k w : Nat) (taken : Bool) : State :=
  if !bit w 33 then s else if taken then s.delivered (144 + k) else s.busyDrop (144 + k)

/-- The strobe that the end of CAL applies, and the strobes of its tick, none where no strobe was deferred (R304). -/
def State.setDeferred (s : State) (k w : Nat) : State :=
  { s with bi := { s.bi with deferred := sset (fun _ => 0) s.bi.deferred k w } }

/-- A strobe that the bank ignores (R289). -/
def State.dropStrobe (s : State) (k w : Nat) : State :=
  ((s.raise Fld.biasbank.strobeDrop k).count 0x0D k 1).strobeEvent k w false

/-- A strobe that the bank defers (R304). -/
def State.deferStrobe (s : State) (k w : Nat) : State :=
  ((s.raise Fld.biasbank.deferred k).count 0x0D k 2).strobeEvent k w true

/-- What the bank makes of a strobe word that reached it (R289, R304): `d` is what was deferred, none but at the end of CAL. -/
def State.strobeOutcome (s : State) (k w d : Nat) (calEnds : Bool) : Bool × State :=
  if w = 0 ∧ !bit d 32 then (false, s)
  else if s.ignoresStrobe k then (false, s.dropStrobe k w)
  else if bit w 32 then
    if s.bankState k = 5 then
      (false, (s.setDeferred k (sget (fun _ => 0) s.bi.deferred k ||| bits w 0 33)).deferStrobe k w)
    else if calEnds then (true, (s.deferStrobe k w).applyStrobe k (bits (d ||| w) 0 32))
    else (true, (s.applyStrobe k (bits w 0 32)).strobeEvent k w true)
  else
    let s1 := if w = 0 then s else s.dropStrobe k w
    (false, if bit d 32 then s1.applyStrobe k (bits d 0 32) else s1)

/-- The bank decides at the end of the tick on the strobe that reached it: answers whether it was applied. In the tick in which
CAL ended it decides on the deferred strobe too, which with the strobes of the tick is one strobe (R289, R304). -/
def State.decideStrobe (s : State) (k : Nat) : Bool × State :=
  let calEnds := decide (sget (fun _ => 0) s.bi.calEnd k = s.tick + 1)
  let d := if calEnds then sget (fun _ => 0) s.bi.deferred k else 0
  (if calEnds then s.setDeferred k 0 else s).strobeOutcome k (s.strobeWord k) d calEnds

/-- Completes the BIAS_STROBE commands of the tick: each names the banks it strobed that applied the strobe (R305). -/
def State.strobeReplies (s : State) (applied : Nat) : State :=
  s.bi.waiting.foldl
    (fun u id => match u.cmdOf id with
      | some c => u.completeId id (Reply.ok1 (applied &&& c.mask))
      | none => u) { s with bi := { s.bi with waiting := [] } }

/-- End of a tick: every bank decides on its strobe (R289). -/
def State.strobeTick (s : State) : State :=
  let r := [0, 1, 2, 3].foldl
    (fun (acc : Nat × State) k =>
      if acc.2.powered (domBB k) then
        let d := acc.2.decideStrobe k
        (if d.1 then acc.1 ||| (1 <<< k) else acc.1, d.2)
      else acc) (0, s)
  ({ r.2 with bi := { r.2.bi with strobe := [], prev := [], calEnd := [] } }).strobeReplies r.1

/-! ### DAC registers, deglitcher, slew limiter (R290 to R294) -/

/-- One step of the slew limiter from `eff` toward `dac` (R293). -/
def slewStep (eff dac step : Nat) : Nat :=
  if eff < dac then (if dac - eff < step then dac else eff + step)
  else if eff - dac < step then dac else eff - step

/-- Engages or extends a deglitcher hold (R292). -/
def State.hold (s : State) (b u : Nat) : State :=
  let s1 := if s.flag Fld.bias.deglitch b then s else (s.setF Fld.bias.deglitch b 1).count 0x0E b 1
  { s1 with bi := { s1.bi with holdEnd := sset (fun _ => 0) s1.bi.holdEnd b (u + 1500)
                               holdLeft := sset (fun _ => 0) s1.bi.holdLeft b 0 } }

/-- A new code in a DAC register at update edge u (R290, R292, R293). Behind a closed clamp only the register changes; in CAL
the output is held, and SLEWING shows that it has yet to move (R293, R304). -/
def State.loadDac (s : State) (b code u : Nat) : State :=
  let k := bankOf b
  let st := s.bankState k
  let old := s.getF Fld.bias.dacCode b
  let s1 := ((s.setF Fld.bias.dacCode b code).setF Fld.bias.lastLoadTick b u).count 0x0E b 0
  if st = 5 then s1.setF Fld.bias.slewing b (if s1.getF Fld.bias.effCode b = code then 0 else 1)
  else if st ≠ 3 ∧ st ≠ 6 then s1
  else
    let s2 := { s1 with bi := { s1.bi with frozen := clearMask s1.bi.frozen (1 <<< b) } }
    if s2.slewOn k then s2.setF Fld.bias.slewing b (if s2.getF Fld.bias.effCode b = code then 0 else 1)
    else
      let s3 := (s2.setF Fld.bias.effCode b code).setF Fld.bias.slewing b 0
      if old / 65536 ≠ code / 65536 then s3.hold b u else s3

/-- The clamps open at the releasing strobe's edge, and the outputs drive their DAC registers (R291). -/
def State.releaseBank (s : State) (k : Nat) : State :=
  let s0 := { s with bi := { s.bi with releasing := clearMask s.bi.releasing (1 <<< k) } }
  if s.pw.hold then s0
  else
    let s1 := (s0.setF Fld.biasbank.state k 3).setClamp k false
    (bankOutputs k).foldl (fun u b => u.setF Fld.bias.effCode b (u.getF Fld.bias.dacCode b)) s1

/-- A clear at its update edge (R302). -/
def State.clearEdge (s : State) (k u : Nat) : State :=
  let code := s.clearCode k
  let s1 := (bankOutputs k).foldl (fun v b => (v.setF Fld.bias.inputCode b code).loadDac b code u) s
  ((s1.raise Fld.biasbank.cleared k).setF Fld.biasbank.clearTick k u).count 0x0D k 3

/-- One change at its update edge: a strobe whose bank has left the states that drive is lost. -/
def State.updEdge (s : State) (e : BiUpd) : State :=
  if e.clear then s.clearEdge e.bank e.u
  else if e.release then s.releaseBank e.bank
  else
    let st := s.bankState e.bank
    if st = 1 ∨ st = 6 then s else e.codes.foldl (fun v c => v.loadDac c.1 c.2 e.u) s

/-- One bank-clock edge of an output that is yet to reach its DAC code: a step of the slew limiter; with the limiter off, only
an output whose code changed in CAL, and was locked then, has still to move (R293, R303, R304). -/
def State.slewOutput (s : State) (b : Nat) : State :=
  let k := bankOf b
  let st := s.bankState k
  if !s.flag Fld.bias.slewing b ∨ (st ≠ 3 ∧ st ≠ 6) ∨ bit s.bi.frozen b then s
  else
    let dac := s.getF Fld.bias.dacCode b
    let e := if s.slewOn k then slewStep (s.getF Fld.bias.effCode b) dac (2 ^ s.getF Fld.biasbank.slewExp k) else dac
    (s.setF Fld.bias.effCode b e).setF Fld.bias.slewing b (if e = dac then 0 else 1)

/-- Whether a change of bank k is due. -/
def State.updDue (s : State) (k : Nat) : Bool := s.bi.upd.any (fun e => decide (e.bank = k ∧ e.u ≤ s.tick))

/-- BIAS_UPDATE_EDGE (R290): the changes due, in order, and the edge's step of the ramps. -/
def State.biasUpdateEdge (s : State) (k : Nat) : State :=
  if !s.updDue k then s
  else
    let due := fun (e : BiUpd) => decide (e.bank = k ∧ e.u ≤ s.tick)
    let s1 := { s with bi := { s.bi with upd := s.bi.upd.filter (fun e => !due e) } }
    if !s.powered (domBB k) then s1
    else (bankOutputs k).foldl State.slewOutput ((s.bi.upd.filter due).foldl State.updEdge s1)

/-- Begin-of-tick work of a bank-clock edge: the ramps of every bank without a change at this edge step. -/
def State.slewBegin (s : State) : State :=
  if !s.crosses 8 then s
  else [0, 1, 2, 3].foldl
    (fun u k => if u.powered (domBB k) ∧ !u.updDue k then (bankOutputs k).foldl State.slewOutput u else u) s

/-- DEGLITCH_END is due (R292). -/
def State.deglitchDue (s : State) (b : Nat) : Bool :=
  let e := sget (fun _ => 0) s.bi.holdEnd b
  decide (e ≠ 0 ∧ e ≤ s.tick)

/-- DEGLITCH_END (R292). -/
def State.deglitchEnd (s : State) (b : Nat) : State :=
  if s.deglitchDue b then
    { s.setF Fld.bias.deglitch b 0 with bi := { s.bi with holdEnd := sset (fun _ => 0) s.bi.holdEnd b 0 } }
  else s

/-- SLEW_EN_APPLY is due: a bank-clock edge at which every output of the bank is steady (R294). -/
def State.slewApplyDue (s : State) (k : Nat) : Bool :=
  s.crosses 8 && s.powered (domBB k) && decide (s.flag Fld.biasbank.slewEn k ≠ s.slewOn k) &&
    (bankOutputs k).all (fun b => !s.flag Fld.bias.slewing b && !s.flag Fld.bias.deglitch b)

/-- SLEW_EN_APPLY (R294). -/
def State.slewEnApply (s : State) (k : Nat) : State :=
  let m := if s.flag Fld.biasbank.slewEn k then s.bi.slewGov ||| (1 <<< k) else clearMask s.bi.slewGov (1 <<< k)
  if s.slewApplyDue k then { s with bi := { s.bi with slewGov := m } } else s

/-! ### The main DAC (R287) -/

/-- Place of cycle c among the 256 of a dither period, in the order in which they take the higher level: a free order. -/
def ditherRank (b p c : Nat) : Nat :=
  ((List.range 256).filter (fun x => decide (Config.dither b p x < Config.dither b p c) ||
    (decide (Config.dither b p x = Config.dither b p c) && decide (x < c)))).length

/-- Level of the main DAC under a code in bank-clock cycle n: m + 1 in as many of a period's 256 cycles as the fine code says,
else m (R287). -/
def mainLevel (b code n : Nat) : Nat :=
  code / 256 + (if ditherRank b (n / 256) (n % 256) < code % 256 then 1 else 0)

/-- Level of the main DAC of output b in the present bank-clock cycle (R287). -/
def State.biasLevel (s : State) (b : Nat) : Nat := mainLevel b (s.getF Fld.bias.effCode b) (s.tick / 8)

/-! ### Bank states (R296 to R303) -/

/-- Drops what waits for a bank. -/
def State.dropBankWork (s : State) (k : Nat) : State :=
  { s with bi := { s.bi with upd := s.bi.upd.filter (fun e => decide (e.bank ≠ k) || e.clear)
                             releasing := clearMask s.bi.releasing (1 <<< k)
                             deferred := sset (fun _ => 0) s.bi.deferred k 0
                             rangeRel := sset (fun _ => 0) s.bi.rangeRel k 0 } }

/-- Drops a job by its command's identity. -/
def State.dropJob (s : State) (id : Nat) : State :=
  { s with cal := { s.cal with jobs := s.cal.jobs.filter (fun j => decide (j.id ≠ id)) } }

/-- Marks unit u of the jobs of a kind as failed (R477). -/
def State.failUnit (s : State) (kind u : Nat) : State :=
  { s with cal := { s.cal with jobs := s.cal.jobs.map (fun j =>
      if j.kind = kind ∧ bit j.mask u then { j with fail := j.fail ||| (1 <<< u) } else j) } }

/-- Jobs whose every item has ended early complete (R477). -/
def State.endEmptyJobs (s : State) : State :=
  (s.cal.jobs.filter (fun j => decide (j.kind ≤ 2 ∧ j.mask ≠ 0 ∧ clearMask j.mask j.fail = 0))).foldl
    (fun t j => (t.dropJob j.id).completeId j.id (Reply.mask .calFail 0)) s

/-- Bank k leaves a CAL_BIAS in progress: its item fails, and a command without an item left completes (R477). -/
def State.calBiasFail (s : State) (k : Nat) : State := (s.failUnit 2 k).endEmptyJobs

/-- A bank enters OFF and closes its clamps (R297). -/
def State.bankOff (s : State) (k : Nat) : State :=
  let s1 := if s.bankState k = 5 then s.failUnit 2 k else s
  let s2 := (((s1.setF Fld.biasbank.state k 1).setClamp k true).stillBank k).dropBankWork k
  if s.bankState k = 5 then s2.endEmptyJobs else s2

/-- A bank enters WAIT_STROBE (R298). -/
def State.enterWait (s : State) (k : Nat) : State :=
  ((s.presetBank k (s.clearCode k) (zeroCode (s.liveSpan k))).setF Fld.biasbank.state k 2).stillBank k

/-- Ordering error 5 keeps the banks OFF (R444). -/
def State.banksHeld (s : State) : Bool := s.pw.orderHolds.any (fun h => decide (h.1 = 5))

/-- BANK_EN has been written (R297, R298). -/
def State.bankEnWritten (s : State) (k : Nat) (en : Bool) : State :=
  if !en then (if s.bankState k = 1 then s else s.bankOff k)
  else if s.bankState k = 1 ∧ s.bi.supplyGood ∧ !s.banksHeld then s.enterWait k
  else s

/-- VBP and VBN become good (R296, R298). -/
def State.supplyBecomesGood (s : State) : State :=
  [0, 1, 2, 3].foldl
    (fun u k =>
      if !u.powered (domBB k) then u
      else
        let v := u.setF Fld.biasbank.supplyGood k 1
        if v.bankState k = 1 ∧ v.flag Fld.biasbank.bankEn k ∧ !v.banksHeld then v.enterWait k else v)
    { s with bi := { s.bi with supplyGood := true } }

/-- VBP or VBN stops being good (R296). -/
def State.supplyLost (s : State) : State :=
  [0, 1, 2, 3].foldl
    (fun u k =>
      if !u.powered (domBB k) then u
      else
        let v := u.setF Fld.biasbank.supplyGood k 0
        if v.bankState k = 1 then v
        else (((v.bankOff k).setF Fld.biasbank.bankEn k 0).raise Fld.biasbank.supplyLoss k).count 0x0D k 5)
    { s with bi := { s.bi with supplyGood := false } }

/-- A clear of bank k at the present tick (R302). -/
def State.clearBank (s : State) (k : Nat) : State :=
  if s.powered (domBB k) then s.addUpd ⟨k, s.tick, updateEdge s.tick, true, [], false⟩ else s

def State.clearBanks (s : State) : State := [0, 1, 2, 3].foldl State.clearBank s

/-- CLR_B low takes effect (R302). -/
def State.clrTaken (s : State) : State :=
  if s.bi.clrLow then s
  else
    let s1 := { s with bi := { s.bi with clrLow := true } }.clearBanks
    [0, 1, 2, 3].foldl (fun u k => if u.powered (domBB k) then u.setF Fld.biasbank.clrActive k 1 else u) s1

/-- CLR_B returns high (R302). -/
def State.clrReleased (s : State) : State :=
  [0, 1, 2, 3].foldl (fun u k => if u.powered (domBB k) then u.setF Fld.biasbank.clrActive k 0 else u)
    { s with bi := { s.bi with clrLow := false } }

/-- An ACTIVE bank enters LOCKED: ramps and holds freeze (R303). A hold whose time is over has ended, and one that was frozen before
still waits for its edge, keeps the ticks it had. -/
def State.lockBank (s : State) (k : Nat) : State :=
  if !s.powered (domBB k) ∨ s.bankState k ≠ 3 then s
  else
    let s1 := s.setF Fld.biasbank.state k 6
    let from_ := max s.tick (sget (fun _ => 0) s.bi.resumeAt k)
    (bankOutputs k).foldl
      (fun v b =>
        let u := v.deglitchEnd b
        let e := sget (fun _ => 0) u.bi.holdEnd b
        { u with bi := { u.bi with
            frozen := u.bi.frozen ||| (1 <<< b)
            holdEnd := sset (fun _ => 0) u.bi.holdEnd b 0
            holdLeft := if e = 0 then u.bi.holdLeft else sset (fun _ => 0) u.bi.holdLeft b (e - from_) } }) s1

def State.lockBanks (s : State) : State := [0, 1, 2, 3].foldl State.lockBank s

/-- RESUME returns a LOCKED bank to ACTIVE: frozen motion goes on from the next bank-clock edge (R303). -/
def State.unlockBank (s : State) (k : Nat) : State :=
  if !s.powered (domBB k) ∨ s.bankState k ≠ 6 then s
  else
    let s0 := s.setF Fld.biasbank.state k 3
    let s1 := { s0 with bi := { s0.bi with resumeAt := sset (fun _ => 0) s0.bi.resumeAt k (updateEdge s.tick) } }
    (bankOutputs k).foldl
      (fun u b =>
        let l := sget (fun _ => 0) u.bi.holdLeft b
        { u with bi := { u.bi with
            frozen := clearMask u.bi.frozen (1 <<< b)
            holdEnd := if l = 0 then u.bi.holdEnd else sset (fun _ => 0) u.bi.holdEnd b (updateEdge s.tick + l)
            holdLeft := sset (fun _ => 0) u.bi.holdLeft b 0 } }) s1

def State.unlockBanks (s : State) : State := [0, 1, 2, 3].foldl State.unlockBank s

/-- A bank leaves CAL for ACTIVE: an output whose register a clear changed moves now; the deferred strobe is applied at
the end of the tick (R304). -/
def State.bankCalEnd (s : State) (k : Nat) : State :=
  if s.bankState k ≠ 5 then s
  else
    let s1 := s.setF Fld.biasbank.state k 3
    let s2 := { s1 with bi := { s1.bi with calEnd := sset (fun _ => 0) s1.bi.calEnd k (s.tick + 1) } }
    (bankOutputs k).foldl
      (fun u b =>
        let d := u.getF Fld.bias.dacCode b
        if u.getF Fld.bias.effCode b = d then u
        else if u.slewOn k then u.setF Fld.bias.slewing b 1
        else (u.setF Fld.bias.effCode b d).setF Fld.bias.slewing b 0) s2

/-! ### Range changes (R299, R300) -/

/-- A span change of bank k at its commit tick. -/
def State.changeSpan (s : State) (k span : Nat) : State :=
  let st := s.bankState k
  let z := zeroCode span
  let s1 := (((s.setF Fld.biasbank.liveSpan k span).presetBank k z z).stillBank k).dropBankWork k
  let s2 := ((s1.setF Fld.biasbank.safeValid k 0).setF Fld.biasbank.rangeTick k s.tick).count 0x0D k 4
  if st = 1 ∨ st = 2 then s2
  else
    let s3 := (s2.setF Fld.biasbank.state k 4).setClamp k true
    let s4 := if st = 5 then s3.calBiasFail k else s3
    { s4 with bi := { s4.bi with rangeRel := sset (fun _ => 0) s4.bi.rangeRel k (s.tick + 20000) } }

/-- The commit of captured spans at its tick. -/
def State.applyBiasCommit (s : State) (c : Commit) : State :=
  c.caps.foldl
    (fun t e =>
      let k := e.1 % 65536
      let sp := fieldOf Fld.biasbank.span e.2
      let t1 := t.applyCapture e.1 e.2
      if sp = t1.liveSpan k then t1 else t1.changeSpan k sp) s

/-- Whether a captured bank with a new span refuses the commit (R299). -/
def State.spanRefused (s : State) (k : Nat) : Bool :=
  let st := s.bankState k
  let z := zeroCode (s.liveSpan k)
  decide (s.getF Fld.biasbank.span k ≠ s.liveSpan k) &&
    (decide (st ≠ 1 ∧ st ≠ 3) ||
      (decide (st = 3) && (bankOutputs k).any (fun b =>
        decide (s.getF Fld.bias.dacCode b ≠ z ∨ s.getF Fld.bias.effCode b ≠ z))))

/-! ### Commands (R305) -/

/-- BIAS_WRITE. DESIGN CHOICE: Result 0, of 32 bits, holds the low bits of the strobe tick (R305, R411). -/
def cmdBiasWrite (h : Hdr) (bank first count : Nat) (after : Bool) : Own := fun _ s =>
  let ws := words32 h.ext
  if 3 < bank ∨ 31 < first ∨ count = 0 ∨ 32 < count ∨ 32 < first + count ∨ h.extlen.toNat ≠ 4 * count ∨
      ws.any (fun w => decide (2 ^ 20 ≤ w)) then refuse s .badParam
  else if !s.powered (domBB bank) then refuse s .absent
  else if s.inputBlocked bank then refuse s .state
  else
    let s1 := ((List.range count).zip ws).foldl (fun u e => u.writeInput (32 * bank + first + e.1) e.2) s
    if after then
      ({ s1 with bi := { s1.bi with after := s1.bi.after ++ [(s.tick + 1, bank, ones first count)] } }, Reply.ok1 ((s.tick + 1) % 2 ^ 32))
    else (s1, Reply.ok1 0)

/-- BIAS_STROBE: it completes at the end of the tick. -/
def cmdBiasStrobe (masks : Nat) : Own := fun id s =>
  let ks := [0, 1, 2, 3].filter (fun k => decide (bits masks (32 * k) 32 ≠ 0))
  if ks.any (fun k => !s.powered (domBB k)) then refuse s .absent
  else
    let s1 := ks.foldl (fun u k => u.addOwnStrobe k (bits masks (32 * k) 32)) s
    let s2 := s1.setCmd id (maskOf ks) 0
    ({ s2 with bi := { s2.bi with waiting := s2.bi.waiting ++ [id] } }, Reply.wait)

/-- BIAS_CLEAR. -/
def cmdBiasClear (banks : Nat) : Own := fun _ s =>
  let ks := setPositions banks 4
  if 16 ≤ banks then refuse s .badParam
  else if ks.any (fun k => !s.powered (domBB k)) then refuse s .absent
  else (ks.foldl State.clearBank s, Reply.ok)

/-- BIAS_COMMIT (R299, R521). -/
def cmdBiasCommit (tick : Nat) : Own := fun id s =>
  let keys := s.dirtyKeys Fld.biasbank.dirty
  if s.anyOff keys then refuse s .absent
  else if keys.any (fun k => s.spanRefused (k % 65536)) then refuse s .state
  else commitOwn s tick keys (fun tc => ⟨tc, id, 4, s.capture keys, false, [], keys.length, 0, 0⟩)

/-- Strobes of BIAS_WRITE that fall on the present tick (R305). -/
def State.strobesAfter (s : State) : State :=
  let now := fun (e : Nat × Nat × Nat) => decide (e.1 ≤ s.tick)
  (s.bi.after.filter now).foldl (fun u e => u.addOwnStrobe e.2.1 e.2.2)
    { s with bi := { s.bi with after := s.bi.after.filter (fun e => !now e) } }

/-- Writes to OBJ_BIASBANK that R307 refuses with STATE: BANK_EN written 1 in CAL or LOCKED. `mask` is the range. -/
def stateBiasbank (old new mask : Nat) : Bool :=
  let st := fieldOf Fld.biasbank.state old
  bit mask Fld.biasbank.bankEn.lsb && decide (fieldOf Fld.biasbank.bankEn new = 1) && decide (st = 5 ∨ st = 6)

/-- What a write to OBJ_BIASBANK does beside its fields: `mask` is the range (R297, R298, R301). -/
def State.biasbankWritten (s : State) (k mask : Nat) : State :=
  let s1 := if mask &&& ones Fld.biasbank.safeCode.lsb Fld.biasbank.safeCode.width ≠ 0 then
      s.setF Fld.biasbank.safeValid k 1 else s
  if bit mask Fld.biasbank.bankEn.lsb then s1.bankEnWritten k (s1.flag Fld.biasbank.bankEn k) else s1

/-- The domain of bank k powers off: its objects are gone, and what waited for it. -/
def State.bankPowerOff (s : State) (k : Nat) : State :=
  let s1 := ((if s.bankState k = 5 then s.calBiasFail k else s).stillBank k).dropBankWork k
  { s1 with bi := { s1.bi with upd := s1.bi.upd.filter (fun e => decide (e.bank ≠ k))
                               strobe := sset (fun _ => 0) s1.bi.strobe k 0
                               slewGov := clearMask s1.bi.slewGov (1 <<< k)
                               calEnd := sset (fun _ => 0) s1.bi.calEnd k 0
                               after := s1.bi.after.filter (fun e => decide (e.2.1 ≠ k)) } }

/-- The domain of bank k powers up: the present supply condition and CLR_B show in its object (R296, R302). -/
def State.bankPowerUp (s : State) (k : Nat) : State :=
  (s.setF Fld.biasbank.supplyGood k (if s.bi.supplyGood then 1 else 0)).setF Fld.biasbank.clrActive k
    (if s.bi.clrLow then 1 else 0)

/-! ### Meanings -/

/-- BIAS_WRITE (R305). -/
def execBiasWrite (h : Hdr) (bank first count : BitVec 8) (after : Bool) (s : State) : Host.Outcome State Fault Refusal :=
  run (.biasWrite h bank first count after) h (cmdBiasWrite h bank.toNat first.toNat count.toNat after) s

/-- BIAS_STROBE (R305). -/
def execBiasStrobe (h : Hdr) (masks : BitVec 128) (s : State) : Host.Outcome State Fault Refusal :=
  run (.biasStrobe h masks) h (cmdBiasStrobe masks.toNat) s

/-- BIAS_CLEAR (R302). -/
def execBiasClear (h : Hdr) (banks : BitVec 8) (s : State) : Host.Outcome State Fault Refusal :=
  run (.biasClear h banks) h (cmdBiasClear banks.toNat) s

/-- BIAS_COMMIT (R299). -/
def execBiasCommit (h : Hdr) (tick : BitVec 64) (s : State) : Host.Outcome State Fault Refusal :=
  run (.biasCommit h tick) h (cmdBiasCommit tick.toNat) s

/-- BIAS_UPDATE_EDGE (R290). -/
def execBiasUpdateEdge (k : Fin 4) (s : State) : Host.Outcome State Fault Refusal := .next (s.biasUpdateEdge k.val)

/-- DEGLITCH_END (R292). -/
def execDeglitchEnd (b : Fin 128) (s : State) : Host.Outcome State Fault Refusal := .next (s.deglitchEnd b.val)

/-- SLEW_EN_APPLY (R294). -/
def execSlewEnApply (k : Fin 4) (s : State) : Host.Outcome State Fault Refusal := .next (s.slewEnApply k.val)

/-- LDAC_B (R289). -/
def execLdacB (k : Fin 4) (s : State) : Host.Outcome State Fault Refusal := .next (s.addStrobe k.val 0)

/-- CLR_B (R302). -/
def execClrB (s : State) : Host.Outcome State Fault Refusal := .next s.clrTaken

/-- CLR_B_RELEASE (R302). -/
def execClrBRelease (s : State) : Host.Outcome State Fault Refusal := .next s.clrReleased

/-- SUPPLY_GOOD (R298). -/
def execSupplyGood (s : State) : Host.Outcome State Fault Refusal := .next s.supplyBecomesGood

/-- SUPPLY_LOSS (R296). -/
def execSupplyLoss (s : State) : Host.Outcome State Fault Refusal := .next s.supplyLost

/-- EVT_BIAS_STROBE (R289, R345). -/
def execEvtBiasStrobe (k : Fin 4) (s : State) : Host.Outcome State Fault Refusal :=
  .next (if s.powered (domBB k.val) then s.addStrobe k.val 2 else s.absentDrop (144 + k.val))

/-- OVERLOAD (R306): a buffer that is on reaches its current limit. -/
def execOverload (b : Fin 128) (s : State) : Host.Outcome State Fault Refusal :=
  .next (if s.powered (domBB (b.val / 32)) ∧ s.bankState (b.val / 32) ≠ 1 then
      (s.raise Fld.bias.overload b.val).count 0x0E b.val 2
    else s)

end Sys2Proof.Machine
end

