-- ==== Sys2Proof/Machine/Crypto.lean ====
section
/-! DEFINITION. SHA-256 (FIPS 180-4), ECDSA signature verification on P-256 (FIPS 186-5), which R142 and the boot
rules name, and the courier frame's CRC-16. -/

namespace Sys2Proof.Machine

/-! ### SHA-256 (R142)

Its constants are the first 32 bits of the fractional parts of roots of the first primes: square roots of eight for the
initial value, cube roots of sixty-four for the rounds. -/

/-- The primes up to the sixty-fourth, 311. -/
def smallPrimes : List Nat :=
  (List.range 312).filter (fun n => decide (2 ≤ n) && (List.range 18).all (fun d => decide (d < 2 ∨ n ≤ d ∨ n % d ≠ 0)))

/-- The first 32 bits of the fractional part of the k-th root of p, p < 512. -/
def rootFraction (k p : Nat) : BitVec 32 :=
  BitVec.ofNat 32 ((List.range 37).foldr (fun b r => if (r + 2 ^ b) ^ k ≤ p * 2 ^ (32 * k) then r + 2 ^ b else r) 0)

/-- The working words: four that take the sum of a round, and four that take its first part, each newest first. -/
structure ShaWords where
  high : List (BitVec 32)
  low : List (BitVec 32)
deriving DecidableEq, Repr

/-- Three rotations of a word to the right, added without carry. -/
def rotations (x : BitVec 32) (i j k : Nat) : BitVec 32 := x.rotateRight i ^^^ x.rotateRight j ^^^ x.rotateRight k

/-- One round: `k` its constant plus its word of the message schedule. -/
def ShaWords.round (s : ShaWords) (k : BitVec 32) : ShaWords :=
  let p := fun n => s.high.getD n 0
  let q := fun n => s.low.getD n 0
  let choice := q 2 ^^^ (q 0 &&& (q 1 ^^^ q 2))
  let majority := (p 0 &&& (p 1 ||| p 2)) ||| (p 1 &&& p 2)
  let t := k + choice + rotations (q 0) 6 11 25 + q 3
  ⟨(t + majority + rotations (p 0) 2 13 22) :: s.high.take 3, (t + p 3) :: s.low.take 3⟩

/-- The rounds of one block: `win` holds the next sixteen words of the message schedule, oldest first. -/
def ShaWords.rounds : List Nat → List (BitVec 32) → ShaWords → ShaWords
  | [], _, s => s
  | p :: ps, win, s =>
    let m := fun n => win.getD n 0
    let x := m 1
    let y := m 14
    let next := m 0 + m 9 + (x.rotateRight 7 ^^^ x.rotateRight 18 ^^^ (x >>> 3)) +
      (y.rotateRight 17 ^^^ y.rotateRight 19 ^^^ (y >>> 10))
    rounds ps (win.drop 1 ++ [next]) (s.round (rootFraction 3 p + m 0))

/-- The initial value. -/
def shaStart : ShaWords :=
  let l := (smallPrimes.take 8).map (rootFraction 2)
  ⟨l.take 4, l.drop 4⟩

/-- Takes one block of sixteen words into a chaining value. -/
def ShaWords.absorb (s : ShaWords) (block : List (BitVec 32)) : ShaWords :=
  let r := rounds smallPrimes block s
  ⟨List.zipWith (· + ·) s.high r.high, List.zipWith (· + ·) s.low r.low⟩

/-- A message filled up to whole blocks of 64 bytes: a one bit, zeros, and its length in bits. -/
def shaFilled (l : List Byte) : List Byte :=
  l ++ 0x80#8 :: List.replicate (63 - (l.length + 8) % 64) 0#8 ++ beBytes 8 (8 * l.length)

/-- SHA-256 of a byte string: 32 bytes in output order. -/
def sha256 (l : List Byte) : List Byte :=
  let m := shaFilled l
  let word := fun n => BitVec.ofNat 32 (beNat (sub m (4 * n) 4))
  let s := (List.range (m.length / 64)).foldl
    (fun s b => s.absorb ((List.range 16).map (fun n => word (16 * b + n)))) shaStart
  (s.high ++ s.low).flatMap (fun x => beBytes 4 x.toNat)

/-! ### P-256 -/

def pP : Nat := 2 ^ 256 - 2 ^ 224 + 2 ^ 192 + 2 ^ 96 - 1
def pN : Nat := 0xffffffff00000000ffffffffffffffffbce6faada7179e84f3b9cac2fc632551
def pB : Nat := 0x5ac635d8aa3a93e7b3ebbd55769886bc651d06b0cc53b0f63bce3c3e27d2604b
def pGx : Nat := 0x6b17d1f2e12c4247f8bce6e563a440f277037d812deb33a0f4a13945d898c296
def pGy : Nat := 0x4fe342e2fe1a7f9b8ee7eb4a7c0f9e162bce33576b315ececbb6406837bf51f5

/-- b^e mod m over the low `k` bits of e. -/
def powMod (m : Nat) : Nat → Nat → Nat → Nat → Nat
  | 0, _, _, acc => acc
  | k + 1, b, e, acc => powMod m k (b * b % m) (e / 2) (if e % 2 = 1 then acc * b % m else acc)

/-- Inverse modulo a 256-bit prime. -/
def invMod (m a : Nat) : Nat := powMod m 256 (a % m) (m - 2) 1

def subMod (m a b : Nat) : Nat := (a + m - b % m) % m

/-- A point in Jacobian coordinates; z = 0 is the point at infinity. -/
structure Jac where
  x : Nat
  y : Nat
  z : Nat
deriving DecidableEq, Repr

def Jac.double (p : Jac) : Jac :=
  if p.z = 0 ∨ p.y = 0 then ⟨1, 1, 0⟩
  else
    let zz := p.z * p.z % pP
    let yy := p.y * p.y % pP
    let s := 4 * p.x * yy % pP
    let m := 3 * (subMod pP p.x zz) * (p.x + zz) % pP
    let x := subMod pP (m * m) (2 * s)
    ⟨x, subMod pP (m * subMod pP s x) (8 * yy * yy), 2 * p.y * p.z % pP⟩

def Jac.add (p q : Jac) : Jac :=
  if p.z = 0 then q
  else if q.z = 0 then p
  else
    let z1 := p.z * p.z % pP
    let z2 := q.z * q.z % pP
    let u1 := p.x * z2 % pP
    let u2 := q.x * z1 % pP
    let s1 := p.y * z2 * q.z % pP
    let s2 := q.y * z1 * p.z % pP
    if u1 = u2 then (if s1 = s2 then p.double else ⟨1, 1, 0⟩)
    else
      let h := subMod pP u2 u1
      let r := subMod pP s2 s1
      let hh := h * h % pP
      let hhh := h * hh % pP
      let v := u1 * hh % pP
      let x := subMod pP (r * r) (hhh + 2 * v)
      ⟨x, subMod pP (r * subMod pP v x) (s1 * hhh), h * p.z * q.z % pP⟩

/-- Scalar multiple over the low `k` bits, by doubling and adding. -/
def Jac.mul : Nat → Nat → Jac → Jac → Jac
  | 0, _, _, acc => acc
  | k + 1, n, p, acc => Jac.mul k (n / 2) p.double (if n % 2 = 1 then acc.add p else acc)

/-- Whether (x, y) is a point of P-256 with reduced coordinates. -/
def onP256 (x y : Nat) : Bool :=
  decide (x < pP ∧ y < pP ∧ y * y % pP = (x * x * x + (pP - 3) * x + pB) % pP)

/-- ECDSA verification with a message hash, a signature (r, s) and a public key (FIPS 186-5). -/
def ecdsaVerify (hash r s qx qy : Nat) : Bool :=
  if r = 0 ∨ pN ≤ r ∨ s = 0 ∨ pN ≤ s ∨ !onP256 qx qy then false
  else
    let w := invMod pN s
    let u1 := hash * w % pN
    let u2 := r * w % pN
    let p := (Jac.mul 256 u1 ⟨pGx, pGy, 1⟩ ⟨1, 1, 0⟩).add (Jac.mul 256 u2 ⟨qx, qy, 1⟩ ⟨1, 1, 0⟩)
    if p.z = 0 then false
    else
      let zi := invMod pP p.z
      decide ((p.x * zi * zi % pP) % pN = r)

end Sys2Proof.Machine
end

