-- ==== Sys2Proof/Machine/Curators.lean ====
section
/-! DEFINITION. Curators (04_curator_execution.md): the microword, its checks and actions, conditions and freshness,
waits, barriers, halts and faults. -/

namespace Sys2Proof.Machine

/-! ### The microword (R112) -/

def wNext (w : Nat) : Nat := bits w 0 12
def wAlt (w : Nat) : Nat := bits w 12 12
def wCond (w : Nat) : Nat := bits w 24 8
def wCsel (w : Nat) : Nat := bits w 32 12
def wHold (w : Nat) : Nat := bits w 44 24
def wMeas (w : Nat) : Bool := bit w 68
def wPlay (w : Nat) : Nat := bits w 69 8
def wPdesc (w : Nat) : Nat := bits w 77 14
def wFine (w : Nat) : Nat := bits w 91 4
def wFop (w : Nat) : Nat := bits w 95 3
def wFidx (w : Nat) : Nat := bits w 98 12
def wFarg (w : Nat) : Nat := bits w 110 16
def wCntSel (w : Nat) : Nat := bits w 126 2
def wCntOp (w : Nat) : Nat := bits w 128 2
def wStrobe (w : Nat) : Nat := bits w 130 4
def wEmit (w : Nat) : Bool := bit w 134
def wSync (w : Nat) : Nat := bits w 135 4
def wShot (w : Nat) : Bool := bit w 139

/-- Condition codes of the table (R124); every other value is reserved. -/
def condKnown (c : Nat) : Bool :=
  c ∈ [0x00, 0x01, 0x02, 0x04, 0x05, 0x08, 0x09, 0x10, 0x11, 0x12, 0x13, 0x14, 0x18, 0x19, 0x1A, 0x1B, 0x1C,
       0x20, 0x21, 0x22, 0x23, 0x24, 0x28, 0x29, 0x2A, 0x2B, 0x2C, 0x30]

/-- Conditions of kind wait (R124). -/
def isWait (c : Nat) : Bool := decide (0x20 ≤ c ∧ c ≤ 0x30)

/-- An illegal word (R113). -/
def illegalWord (w : Nat) : Bool :=
  decide (bits w 140 20 ≠ 0) || decide (5 < wFop w) || !condKnown (wCond w) ||
    (decide (wSync w ≠ 0) && (decide (wCond w ≠ 0) || decide (wHold w = 0)))

/-- Start of the last cycle of a word (R111) and the tick at which it ends by itself. -/
def lastCycle (t0 w : Nat) : Nat := t0 + 2 * wHold w
def wordEnd (t0 w : Nat) : Nat := t0 + 2 * (wHold w + 1)

/-! ### Curator records -/

def State.curRt (s : State) (c : Nat) : CurRt := sget (fun _ => CurRt.idle) s.cur.rt c

def State.setCurRt (s : State) (c : Nat) (r : CurRt) : State :=
  { s with cur := { s.cur with rt := sset (fun _ => CurRt.idle) s.cur.rt c r } }

/-- STATE of a curator (R134): 0 INVALID, 1 LOADED, 2 ARMED, 3 RUNNING, 4 HALTED, 5 FAULTED. -/
def State.curState (s : State) (c : Nat) : Nat := s.getF Fld.curator.state c

/-- A curator that executes or waits to. -/
def State.curActive (s : State) (c : Nat) : Bool := s.curState c = 2 || s.curState c = 3

/-- Word of a control store (R110). -/
def State.storeWord (s : State) (c a : Nat) : Nat := sget (fun _ => 0) s.cur.store (4096 * c + a)
def State.storeErrAt (s : State) (c a : Nat) : Nat := sget (fun _ => 0) s.cur.storeErr (4096 * c + a)

/-- Word count of the image in a store. -/
def State.wordCount (s : State) (c : Nat) : Nat := if s.flag Fld.curator.storeValid c then s.getF Fld.curator.wordsM1 c + 1 else 0

def cntField (k : Nat) : Field := ⟨0x05, 144 + 16 * k, 16⟩
def mkField (k : Nat) : Field := ⟨0x05, 768 + 64 * k, 64⟩

/-! ### Leaving RUNNING or ARMED -/

/-- A CUR_STOP that waited for curator c drops it; the command whose request halted it (`byId`, its identity plus one)
notes that, at a SHOT word only where it asked for that (R137: a thermal STOP asks for it too). It completes when no
curator is left (R154). -/
def State.stopSeen (s : State) (c : Nat) (byId : Nat) (shot : Bool) : State :=
  s.cmd.open_.foldl
    (fun u cmd =>
      match cmd.instr, cmd.st with
      | .curStop _ _ _ atShot, .waiting =>
        if !bit cmd.mask c then u
        else
          let m := clearMask cmd.mask (1 <<< c)
          let r := if byId = cmd.id + 1 ∧ (atShot ∨ !shot) then cmd.res ||| (1 <<< c) else cmd.res
          let u1 := u.setCmd cmd.id m r
          if m = 0 then u1.completeId cmd.id (Reply.ok4 (bits r 0 32) (bits r 32 32) (bits r 64 32) (bits r 96 32)) else u1
      | _, _ => u) s

/-- A curator that has left RUNNING or ARMED. -/
def CurRt.left (r : CurRt) : CurRt :=
  { r with inWord := false, nextAt := none, haltAt := none, stopAt := none, atShot := false, thermalShot := false, stopId := 0 }

/-- A curator halts at the present tick with a reason: 1 PROGRAM, 2 COMMAND, 3 SHOT_STOP, 4 SYSTEM (R136, R137). `th` is the
halt tick it records. -/
def State.haltCurator (s : State) (c reason th : Nat) : State :=
  let r := s.curRt c
  let byId := if reason = 2 ∨ reason = 3 then r.stopId else 0
  let s1 := ((((s.setF Fld.curator.state c 4).setF Fld.curator.haltTick c th).setF Fld.curator.haltReason c reason).setF
    Fld.curator.waiting c 0).setF Fld.curator.syncWait c 0
  let s2 := s1.setCurRt c r.left
  (s2.count 0x05 c 9).stopSeen c byId (decide (reason = 3))

/-- Drops every sample of a curator's slots with a sample tick at or after the present tick (R138). -/
def State.cutSlots (s : State) (c : Nat) : State :=
  { s with drv := { s.drv with plays := s.drv.plays.map (fun p =>
      if ownerOfSlot p.slot = c then
        { p with cut := some (match p.cut with | some x => min x s.tick | none => s.tick) }
      else p) } }

/-- A curator faults at the present tick (R138): 1 ILLEGAL_FIELD, 2 ADDRESS, 3 STORE_ECC, 4 NOT_MEMBER. -/
def State.faultCurator (s : State) (c code pc : Nat) : State :=
  let r := s.curRt c
  let s1 := ((((((s.setF Fld.curator.state c 5).setF Fld.curator.haltTick c s.tick).setF Fld.curator.haltReason c 5).setF
    Fld.curator.faultCode c code).setF Fld.curator.faultPc c pc).setF Fld.curator.waiting c 0).setF Fld.curator.syncWait c 0
  let s2 := s1.setCurRt c r.left
  (((s2.cutSlots c).count 0x05 c 8).notice 0x01 c (code + pc * 2 ^ 16) (s.tick % 2 ^ 32)).stopSeen c 0 false

/-! ### Conditions (R123 to R129) -/

/-- Verdict-table entry as a cycle that begins at tick tk sees it: only deliveries before tk (R123). -/
def State.verdictAt (s : State) (v tk : Nat) : Verdict :=
  let e := sget (fun _ => VEntry.none) s.vd.table v
  if e.cur.valid && decide (e.cur.deliv < tk) then e.cur else e.prev

/-- Latest MEAS record that names a channel (R129). -/
def latestMeas (l : List MeasRec) (rc : Nat) : Option Nat :=
  (l.filter (fun m => decide (m.rc = rc))).foldl
    (fun a m => match a with | some t => some (max t m.t0) | none => some m.t0) none

/-- Reference tick of a verdict condition (R129): the low three bits of the code are 0 for _OWN, 1 to 4 for MK0 to MK3. -/
def State.verdictRef (s : State) (c cond v : Nat) : Nat :=
  match cond % 8 with
  | 0 =>
    match (if v < 512 then latestMeas (s.curRt c).meas v else none) with
    | some t => t
    | none => s.getF (mkField 0) c
  | k => s.getF (mkField (k - 1)) c

/-- Whether a verdict is fresh for a curator's condition in the cycle at tk (R129). -/
def State.fresh (s : State) (c cond v tk : Nat) : Bool :=
  let e := s.verdictAt v tk
  e.valid && decide (s.verdictRef c cond v < e.prod) && (decide (v < 512) || s.importMapped v)

/-- How a verdict reads for a test (R128). -/
def Verdict.reads (e : Verdict) : Nat := if e.stale then 3 else e.code

/-- A test read a STALE verdict as erasure: the flag, and one count a word (R128). -/
def State.staleRead (s : State) (c : Nat) : State :=
  let r := s.curRt c
  let s1 := s.raise Fld.curator.staleRead c
  if r.staleSeen then s1 else (s1.setCurRt c { r with staleSeen := true }).count 0x05 c 6

/-- Whether the flag is seen set by the cycle at tk (R123, R127). -/
def State.flagSeen (s : State) (c tk : Nat) : Bool := s.flag Fld.curator.evtFlag c && decide ((s.curRt c).flagTick < tk)

/-- Evaluates a word's condition in the cycle that begins at tk (R124 to R129). -/
def State.evalCond (s : State) (c w tk : Nat) : Bool × State :=
  let cond := wCond w
  let v := bits (wCsel w) 0 10
  let st := bits (wCsel w) 10 2
  if cond = 0x01 then (true, s)
  else if cond = 0x04 then (decide (s.getF (cntField (wCsel w % 4)) c ≠ 0), s)
  else if cond = 0x05 then (decide (s.getF (cntField (wCsel w % 4)) c = 0), s)
  else if cond = 0x08 ∨ cond = 0x30 then
    if s.flagSeen c tk then (true, (s.setF Fld.curator.evtFlag c 0).count 0x05 c 4) else (false, s)
  else if cond = 0x09 then (!s.flagSeen c tk, s)
  else if (0x10 ≤ cond ∧ cond ≤ 0x14) ∨ (0x20 ≤ cond ∧ cond ≤ 0x24) then
    if s.fresh c cond v tk then
      let e := s.verdictAt v tk
      (decide (e.reads = st), if e.stale then s.staleRead c else s)
    else (false, s)
  else if (0x18 ≤ cond ∧ cond ≤ 0x1C) ∨ (0x28 ≤ cond ∧ cond ≤ 0x2C) then (s.fresh c cond v tk, s)
  else (false, s)

/-- Names the next word and its start tick. -/
def State.goTo (s : State) (c addr t : Nat) : State :=
  s.setCurRt c { s.curRt c with nextAt := some t, nextPc := addr }

/-- Decides the word in progress on the cycle that begins at tk, when that cycle decides it (R125, R126, R137). -/
def State.decideCycle (s : State) (c tk : Nat) : State :=
  let r := s.curRt c
  let w := r.word
  if !r.inWord ∨ wSync w ≠ 0 ∨ r.nextAt.isSome ∨ r.haltAt.any (fun h => decide (h.1 ≤ tk)) ∨
      r.stopAt.any (fun t => decide (t ≤ tk)) then s
  else if isWait (wCond w) then
    if tk ≤ lastCycle r.t0 w then
      let e := s.evalCond c w tk
      if e.1 then e.2.goTo c (wAlt w) (tk + 2) else e.2
    else s
  else if tk = lastCycle r.t0 w then
    if wCond w = 0x02 then
      s.setCurRt c { r with haltAt := match r.haltAt with
        | some h => if h.1 ≤ tk + 2 then some h else some (tk + 2, 1)
        | none => some (tk + 2, 1) }
    else
      let e := s.evalCond c w tk
      e.2.goTo c (if e.1 then wAlt w else wNext w) (tk + 2)
  else s

/-- Every curator in a word takes the decision of the cycle that begins at this even tick, once the halts of the tick are made
(R136). Cycle 0 is decided when the word starts. -/
def State.curatorsBegin (s : State) : State :=
  if s.tick % 2 ≠ 0 then s
  else s.cur.rt.foldl (fun u e => if (u.curRt e.1).t0 < u.tick then u.decideCycle e.1 u.tick else u) s

/-! ### Barriers (R131 to R133) -/

def State.barrierMask (s : State) (b : Nat) : Nat := sget (fun _ => 0) s.cur.barMask b
def State.barrierRel (s : State) (b : Nat) : Nat := sget (fun _ => 0) s.cur.barRel b

/-- Whether every member of a barrier is in a barrier word of it with its limit E at least A + 4 (R131). -/
def State.barrierComplete (s : State) (b a : Nat) : Bool :=
  (setPositions (s.barrierMask b) 128).all (fun m =>
    let r := s.curRt m
    decide (s.getF Fld.curator.syncWait m = b) && r.inWord && decide (a + 4 ≤ wordEnd r.t0 r.word))

/-- A member arrives at a barrier at the present tick (R131). -/
def State.barrierArrive (s : State) (c b : Nat) : State :=
  let s1 := s.setF Fld.curator.syncWait c b
  if s1.barrierRel b = 0 ∧ s1.barrierComplete b s1.tick then
    { s1 with cur := { s1.cur with barRel := sset (fun _ => 0) s1.cur.barRel b (s1.tick + 4) } }
  else s1

/-- A barrier member's limit E has come and no release falls on it (R131, R132). -/
def State.barrierOver (s : State) (c : Nat) : Bool :=
  let r := s.curRt c
  let b := s.getF Fld.curator.syncWait c
  r.inWord && decide (b ≠ 0 ∧ wordEnd r.t0 r.word ≤ s.tick) && decide (s.barrierRel b = 0 ∨ s.tick < s.barrierRel b)

/-- A wait word's HOLD has ended without its condition (R126). -/
def State.waitOver (s : State) (c : Nat) : Bool :=
  let r := s.curRt c
  r.inWord && isWait (wCond r.word) && r.nextAt.isNone && decide (wordEnd r.t0 r.word ≤ s.tick)

/-- Address of the word that starts at this tick unless the curator halts: the one named before, NEXT at a barrier's release or
after a wait that ends without its condition, ALT after a barrier that times out (R125, R126, R131, R132). -/
def State.wordToStart (s : State) (c : Nat) : Option Nat :=
  let r := s.curRt c
  let rel := s.barrierRel (s.getF Fld.curator.syncWait c)
  if r.nextAt.any (fun t => decide (t ≤ s.tick)) then some r.nextPc
  else if s.barrierOver c then some (wAlt r.word)
  else if s.getF Fld.curator.syncWait c ≠ 0 ∧ rel ≠ 0 ∧ rel ≤ s.tick then some (wNext r.word)
  else if s.waitOver c then some (wNext r.word)
  else none

/-- Whether a word is a legal SHOT word (R137): it takes a stop-at-shot request. -/
def State.shotWordAt (s : State) (c a : Nat) : Bool :=
  let w := s.storeWord c a
  decide (a < s.wordCount c) && decide (s.storeErrAt c a ≠ 2) && !illegalWord w && wShot w

/-- A legal SHOT word starts at this tick unless the curator halts. -/
def State.shotStarts (s : State) (c : Nat) : Bool := (s.wordToStart c).any (fun a => s.shotWordAt c a)

/-- The halt that has come for a curator, with its tick and reason: the earlier one, a CUR_STOP's where both fall on one tick (DESIGN
CHOICE). A SHOT word that starts at this tick takes the CUR_STOP's own stop-at-shot request in place of its halt (R137, R153). -/
def State.haltCome (s : State) (c : Nat) : Option (Nat × Nat) :=
  let r := s.curRt c
  let own := r.haltAt.filter (fun h => decide (h.1 ≤ s.tick))
  let stop := r.stopAt.filter (fun t => decide (t ≤ s.tick) && !(r.atShot && s.shotStarts c))
  match own, stop with
  | some h, some t => if t ≤ h.1 then some (t, 2) else some h
  | some h, none => some h
  | none, some t => some (t, 2)
  | none, none => none

/-- CURATOR_HALT is due (R136). -/
def State.haltDue (s : State) (c : Nat) : Bool := s.curActive c && (s.haltCome c).isSome

/-- BARRIER_RELEASE: at the release tick every member that does not halt goes to its NEXT word (R131, R136). -/
def State.barrierRelease (s : State) (b : Nat) : State :=
  let rel := s.barrierRel b
  if rel = 0 ∨ s.tick < rel then s
  else
    let s1 := { s with cur := { s.cur with barRel := sset (fun _ => 0) s.cur.barRel b 0 } }
    (setPositions (s.barrierMask b) 128).foldl
      (fun u m =>
        if u.getF Fld.curator.syncWait m = b ∧ b ≠ 0 ∧ !s.haltDue m then
          ((u.setF Fld.curator.syncWait m 0).goTo m (wNext (u.curRt m).word) rel)
        else u) s1

/-- BARRIER_TIMEOUT is due: the limit has come, and the curator does not halt (R132, R136). -/
def State.barrierTimeoutDue (s : State) (c : Nat) : Bool := s.barrierOver c && !s.haltDue c

/-- BARRIER_TIMEOUT (R132). -/
def State.barrierTimeout (s : State) (c : Nat) : State :=
  if s.barrierTimeoutDue c then
    let r := s.curRt c
    (((s.setF Fld.curator.syncWait c 0).raise Fld.curator.barrierTimeout c).count 0x05 c 3).goTo c (wAlt r.word)
      (wordEnd r.t0 r.word)
  else s

/-- WAIT_TIMEOUT is due: a wait word's HOLD has ended without its condition, and the curator does not halt (R126, R136). -/
def State.waitTimeoutDue (s : State) (c : Nat) : Bool := s.waitOver c && !s.haltDue c

/-- WAIT_TIMEOUT (R126). -/
def State.waitExpire (s : State) (c : Nat) : State :=
  if s.waitTimeoutDue c then
    let r := s.curRt c
    ((s.raise Fld.curator.waitTimeout c).count 0x05 c 2).goTo c (wNext r.word) (wordEnd r.t0 r.word)
  else s

/-! ### Actions at the start tick (R116 to R122) -/

/-- CNT_OP (R122). -/
def State.counterOp (s : State) (c w : Nat) : State :=
  let k := wCntSel w
  match wCntOp w with
  | 1 => s.setF (cntField k) c (wFarg w)
  | 2 =>
    let v := s.getF (cntField k) c
    if v = 0 then s.raise Fld.curator.cntUnder c else s.setF (cntField k) c (v - 1)
  | 3 => s.setF (mkField k) c s.tick
  | _ => s

/-- Adds or renews a slot's MEAS record (R118). -/
def putMeas (l : List MeasRec) (m : MeasRec) : List MeasRec := m :: l.filter (fun x => decide (x.slot ≠ m.slot))

/-- PLAY and MEAS on one slot (R84, R100, R117, R118). -/
def State.playSlot (s : State) (c w slot : Nat) : State :=
  let t0 := s.tick
  if !s.powered (domDT (dtOfOutput (outputOfSlot slot))) then
    (s.raise Fld.curator.unpoweredPlay c).count 0x05 c 10
  else
    let s1 := s.startPlay slot (wPdesc w) (wFine w) t0
    if !wMeas w ∨ slot < 512 then s1
    else
      let a := s1.armMeas slot (wPdesc w) t0 c (s1.getF Fld.curator.shotNum c)
      match a.1 with
      | some rc =>
        let r := a.2.curRt c
        a.2.setCurRt c { r with meas := putMeas r.meas ⟨slot, rc, t0⟩ }
      | none => a.2

/-- The actions of a legal word at its start tick, in the order of R116. -/
def State.wordActions (s : State) (c w : Nat) : State :=
  let s1 := if wShot w then
      ((s.setF Fld.curator.shotNum c (w64 (s.getF Fld.curator.shotNum c + 1))).count 0x05 c 1).avsShot c else s
  let s2 := (s1.counterOp c w).wordFrameOp (wFidx w) (wFop w) (wFarg w)
  let s3 := (setPositions (wPlay w) 8).foldl (fun u i => u.playSlot c w (slotOf c i)) s2
  let s4 := (setPositions (wStrobe w) 4).foldl (fun u k => u.addStrobe k 1) s3
  if wEmit w then (s4.count 0x05 c 5).fire c else s4

/-! ### Starting a word -/

/-- WORD_START is due: a curator is RUNNING and its next word starts at or before this tick. -/
def State.wordDue (s : State) (c : Nat) : Bool :=
  decide (s.curState c = 3) && (s.curRt c).nextAt.any (fun t => decide (t ≤ s.tick))

/-- WORD_START (R111 to R116): the checks of R113 to R115 and R133, then the actions, then the decision of cycle 0. No word
starts at or after a halt tick (R136). -/
def State.wordStart (s : State) (c : Nat) : State :=
  if !s.wordDue c || s.haltDue c then s
  else
    let r := s.curRt c
    let a := r.nextPc
    if s.wordCount c ≤ a then s.faultCurator c 2 (s.getF Fld.curator.pc c)
    else
      let w := s.storeWord c a
      let err := s.storeErrAt c a
      if err = 2 then ((s.setF Fld.curator.pc c a).count 0x05 c 0).faultCurator c 3 a
      else
        let s1 := if err = 1 then (s.raise Fld.curator.storeEccCorr c).count 0x05 c 7 else s
        let s2 := (s1.setF Fld.curator.pc c a).count 0x05 c 0
        if illegalWord w then s2.faultCurator c 1 a
        else if (r.atShot || r.thermalShot) && wShot w then s1.haltCurator c 3 s.tick
        else if wSync w ≠ 0 ∧ !bit (s2.barrierMask (wSync w)) c then s2.faultCurator c 4 a
        else
          let s3 := s2.setCurRt c { r with inWord := true, t0 := s.tick, word := w, nextAt := none, staleSeen := false }
          let s4 := s3.setF Fld.curator.waiting c (if wSync w ≠ 0 ∨ isWait (wCond w) then 1 else 0)
          let s5 := s4.wordActions c w
          if wSync w ≠ 0 then s5.barrierArrive c (wSync w) else s5.decideCycle c s.tick

/-- CURATOR_START is due. -/
def State.curStartDue (s : State) (c : Nat) : Bool :=
  decide (s.curState c = 2 ∧ s.getF Fld.curator.startTick c ≤ s.tick)

/-- CURATOR_START (R135, R150): the curator becomes RUNNING and its ENTRY word starts at this tick. -/
def State.curatorStart (s : State) (c : Nat) : State :=
  if s.curStartDue c then (s.setF Fld.curator.state c 3).goTo c (s.getF Fld.curator.entry c) s.tick else s

/-- CURATOR_HALT (R136). -/
def State.curatorHalt (s : State) (c : Nat) : State :=
  match s.haltDue c, s.haltCome c with
  | true, some h => s.haltCurator c h.2 h.1
  | _, _ => s

/-- The first even tick at which a halt that is asked for now keeps every word of its tick from starting (R136): this one
while its words have not started. -/
def State.haltTick (s : State) : Nat := if s.tick % 2 = 0 ∧ 4 < s.phase then s.tick + 2 else roundUp s.tick 2

/-- Halts a curator with reason SYSTEM (R137): at the present tick where it can be the halt tick, else at the next even one. R136
makes the halt tick even, R137 and R462 name the detection tick: DESIGN CHOICE that a detection in an odd tick, or of a RUNNING
curator after the words of an even tick have started, halts at the next even tick. -/
def State.haltBySystem (s : State) (c : Nat) : State :=
  let th := if s.curState c = 2 then roundUp s.tick 2 else s.haltTick
  if th = s.tick then s.haltCurator c 4 th
  else
    let r := s.curRt c
    s.setCurRt c { r with haltAt := match r.haltAt with
      | some h => if h.1 ≤ th then some h else some (th, 4)
      | none => some (th, 4) }

/-- Halts every RUNNING curator, and the ARMED ones, with reason SYSTEM (R27, R137, R463, R465). -/
def State.haltSystem (s : State) (armedToo runningToo : Bool) : State :=
  (List.range 128).foldl
    (fun u c =>
      if (armedToo && u.curState c = 2) || (runningToo && u.curState c = 3) then u.haltBySystem c else u) s

/-- A stop-at-shot request of a thermal STOP to every RUNNING curator (R137, R462). No CUR_STOP takes it back. -/
def State.stopAtShotAll (s : State) : State :=
  (List.range 128).foldl
    (fun u c => if u.curState c = 3 then u.setCurRt c { u.curRt c with thermalShot := true } else u) s

def clusterOf (c : Nat) : Nat := c / 16

/-- The clocks of the curator clusters run: in Run, and not while TRIP gates them (R452). -/
def State.curClocked (s : State) : Bool := decide (s.powerState = 0) && !s.pw.tripGated

/-- EVT(c): the event sets the flag, or is dropped as busy while it is set (R127) or the cluster's clock is gated (R452; DESIGN
CHOICE: a consumer without a clock cannot act, which R339 calls busy). -/
def State.evtFlag (s : State) (c : Nat) : State :=
  if !s.powered (domCC (clusterOf c)) then s.absentDrop c
  else if s.flag Fld.curator.evtFlag c ∨ !s.curClocked then s.busyDrop c
  else ((s.setF Fld.curator.evtFlag c 1).setCurRt c { s.curRt c with flagTick := s.tick }).delivered c

/-! ### Commands of class 0x05xx (05_curator_programs.md) -/

/-- CUR_START on one curator at acceptance (R135). -/
def State.armCurator (s : State) (c t : Nat) : State :=
  let s1 := (((s.setF Fld.curator.state c 2).setF Fld.curator.startTick c t).setF Fld.curator.pc c
    (s.getF Fld.curator.entry c)).setF Fld.curator.shotNum c 0
  let s2 := ((s1.setF Fld.curator.evtFlag c 0).setF Fld.curator.faultCode c 0).setCurRt c
    { CurRt.idle with verifyFailed := false }
  [0, 1, 2, 3].foldl (fun u k => (u.setF (cntField k) c 0).setF (mkField k) c t) s2

/-- CUR_START (R150, R151). -/
def cmdCurStart (mask tick : Nat) : Own := fun _ s =>
  let cs := setPositions mask 128
  let t := if tick = 0 then roundUp (s.tick + 1000) 2 else tick
  let failing := fun (p : Nat → Bool) => maskOf (cs.filter p)
  let off := failing (fun c => !s.powered (domCC (clusterOf c)))
  let sig := failing (fun c => decide (s.curState c = 0) && (s.curRt c).verifyFailed)
  let st := failing (fun c => !(s.curState c = 1 || s.curState c = 4 || s.curState c = 5))
  if mask = 0 ∨ tick % 2 = 1 then refuse s .badParam
  else if off ≠ 0 then (s, Reply.mask .absent off)
  else if s.pw.hold then (s, Reply.mask .thermal mask)
  else if s.tm.unlocked then (s, Reply.mask .state mask)
  else if sig ≠ 0 then (s, Reply.mask .signature sig)
  else if st ≠ 0 then (s, Reply.mask .state st)
  else if t < s.tick + 1000 then (s, Reply.mask .tooLate mask)
  else (cs.foldl (fun u c => u.armCurator c t) s, Reply.ok64 t)

/-- CUR_STOP (R153, R154). It replaces the pending request of an earlier one, no halt of another cause (R137). DESIGN CHOICE: an ARMED
curator halts at the execution tick itself, odd or even, for R153 says at once and no word of it is in progress (R136). With AT_SHOT
and a tick that has passed, the curator halts at once with reason COMMAND unless a SHOT word starts at the halt tick: DESIGN CHOICE,
R153 gives that rule without AT_SHOT only. -/
def cmdCurStop (mask tick : Nat) (atShot : Bool) : Own := fun id s =>
  let act := (setPositions mask 128).filter (fun c => s.powered (domCC (clusterOf c)) && s.curActive c)
  if act = [] then (s, Reply.mask .ok 0)
  else
    let h := max (roundUp tick 2) s.haltTick
    let s1 := s.setCmd id (maskOf act) 0
    (act.foldl
      (fun u c =>
        let r := u.curRt c
        if u.curState c = 2 then (u.setCurRt c { r with stopId := id + 1 }).haltCurator c 2 s.tick
        else u.setCurRt c { r with
          stopId := id + 1, atShot := atShot, stopAt := if atShot ∧ tick = 0 then none else some h }) s1,
      Reply.wait)

/-- CUR_BARRIER (R155). -/
def cmdCurBarrier (b mask : Nat) : Own := fun _ s =>
  if b = 0 ∨ 15 < b then refuse s .badParam
  else if (setPositions (mask ||| s.barrierMask b) 128).any (fun c => s.powered (domCC (clusterOf c)) && s.curActive c) then
    refuse s .state
  else ({ s with cur := { s.cur with barMask := sset (fun _ => 0) s.cur.barMask b mask } }, Reply.ok)

/-- CUR_READBACK (R149). -/
def cmdCurReadback (h : Hdr) (cur addr count : Nat) : Own := fun _ s =>
  if 127 < cur ∨ count = 0 ∨ 4096 < count ∨ 4096 < addr + count ∨ h.extlen.toNat < 20 * count then refuse s .badParam
  else if !s.powered (domCC (clusterOf cur)) then refuse s .absent
  else
    let d := (List.range count).flatMap (fun j =>
      leBytes 20 (if s.storeErrAt cur (addr + j) = 2 then 0 else s.storeWord cur (addr + j)))
    let bad := ((List.range count).filter (fun j => decide (s.storeErrAt cur (addr + j) = 2))).length
    (s, { Reply.ok4 (crcNat d) bad (s.curState cur) (s.getF Fld.curator.wordsM1 cur) with data := d })

/-- Fields of an image header (R141). -/
def imgLe (img : List Byte) (off n : Nat) : Nat := leNat (sub img off n)

/-- The format checks of an image (first row of R143). -/
def imageOk (img : List Byte) (extlen : Nat) : Bool :=
  let words := imgLe img 24 2
  let flags := imgLe img 6 2
  decide (128 ≤ extlen ∧ extlen = 128 + 20 * words ∧ img.length = extlen) &&
    decide (imgLe img 0 4 = 0x5A464331 ∧ imgLe img 4 2 = 1) && decide (1 ≤ words ∧ words ≤ 4096) &&
    decide (imgLe img 26 2 < words) && decide (imgLe img 28 1 ≤ 3) && decide (imgLe img 29 3 = 0 ∧ flags < 2) &&
    (decide (flags % 2 = 1) || decide (imgLe img 64 64 = 0)) && decide (imgLe img 8 16 ≠ 0)

/-- Removes every word of a store, or of its ECC record. -/
def wipeStore (m : Sparse Nat) (c : Nat) : Sparse Nat := sclear m (4096 * c) 4096

/-- Writes an image's words into one store (R144 step 2). -/
def State.writeStore (s : State) (c : Nat) (words : List Nat) : State :=
  let blank := wipeStore s.cur.store c
  let st := ((List.range words.length).zip words).foldl (fun m e => sset (fun _ => 0) m (4096 * c + e.1) e.2) blank
  { s with cur := { s.cur with store := st, storeErr := wipeStore s.cur.storeErr c } }

/-- The words of an image. -/
def imageWords (img : List Byte) : List Nat := (List.range (imgLe img 24 2)).map (fun a => imgLe img (128 + 20 * a) 20)

/-- The words of a store read back as bytes (R144 step 3). -/
def State.storeBytes (s : State) (c n : Nat) : List Byte := (List.range n).flatMap (fun a => leBytes 20 (s.storeWord c a))

/-- Whether the read-back of one store passes the digest and the signature (R144 steps 3 and 4). The key is the one the slot
holds at the end of the accession: DESIGN CHOICE, R524 speaks of later accessions only. -/
def State.storePasses (s : State) (c : Nat) (img : List Byte) : Bool :=
  let d := sha256 (sub img 0 32 ++ s.storeBytes c (imgLe img 24 2))
  let signed := decide (imgLe img 6 2 % 2 = 1)
  let key := s.accessionKey (imgLe img 28 1)
  decide (d = sub img 32 32) &&
    (!signed || ecdsaVerify (beNat d) (beNat (sub img 64 32)) (beNat (sub img 96 32)) key.1 key.2)

/-- Steps 1 and 2 of R144 on one curator: INVALID, and the words in its store. -/
def State.beginAccession (s : State) (c : Nat) (img : List Byte) : State :=
  let s1 := ((s.setF Fld.curator.state c 0).setF Fld.curator.storeValid c 0).setF Fld.curator.wordsM1 c 0
  (s1.writeStore c (imageWords img)).setCurRt c CurRt.idle

/-- Step 5 of R144 on one curator. -/
def State.endAccession (s : State) (c : Nat) (img : List Byte) : State :=
  if s.storePasses c img then
    ((((s.setF Fld.curator.state c 1).setF Fld.curator.storeValid c 1).setF Fld.curator.wordsM1 c (imgLe img 24 2 - 1)).setF
      Fld.curator.entry c (imgLe img 26 2)).setF Fld.curator.pc c (imgLe img 26 2)
  else s.setCurRt c { CurRt.idle with verifyFailed := true }

/-- A CUR_ACCESSION is executing (R143). -/
def State.accessionBusy (s : State) : Bool :=
  s.cmd.timed.any (fun t => match s.cmdOf t.id with
    | some c => (match c.instr with | .curAccession _ => true | _ => false)
    | none => false)

/-- Bound of R146 in ticks. -/
def accessionBound (img : List Byte) : Nat :=
  3000000 + 50 * imgLe img 24 2 * ((List.range 8).filter (fun k => decide (bits (imgLe img 8 16) (16 * k) 16 ≠ 0))).length

/-- CUR_ACCESSION (R143 to R147): the words are written at once, verification ends with the command. -/
def cmdCurAccession (h : Hdr) : Own := fun id s =>
  let img := h.ext
  let cs := setPositions (imgLe img 8 16) 128
  let signed := decide (imgLe img 6 2 % 2 = 1)
  if !imageOk img h.extlen.toNat then refuse s .badParam
  else if cs.any (fun c => !s.powered (domCC (clusterOf c))) then refuse s .absent
  else if cs.any s.curActive then refuse s .state
  else if s.policy && !signed then refuse s .signature
  else if signed && decide (s.accessionKey (imgLe img 28 1) = (0, 0)) then refuse s .signature
  else if s.accessionBusy then refuse s .busy
  else (cs.foldl (fun u c => u.beginAccession c img) s).work id (accessionBound img) false [] Reply.ok

/-- The end of an accession (R144, R145): `lost` names the curators whose cluster lost power meanwhile. -/
def State.finishAccession (s : State) (id lost : Nat) (img : List Byte) : State :=
  let cs := (setPositions (imgLe img 8 16) 128).filter (fun c => !bit lost c)
  let s1 := cs.foldl (fun u c => u.endAccession c img) s
  let ok := maskOf (cs.filter (fun c => decide (s1.curState c = 1)))
  s1.completeId id (Reply.mask
    (if imgLe img 8 16 &&& lost ≠ 0 then .absent else if ok = imgLe img 8 16 then .ok else .signature) ok)

/-- A cluster loses power: CUR_STOPs that still wait for one of its curators complete with ABSENT (R154), an accession
in progress remembers the loss (R145), and the cluster's curators are gone. -/
def State.clusterOff (s : State) (k : Nat) : State :=
  let m := (2 ^ 16 - 1) <<< (16 * k)
  let s1 := s.cmd.open_.foldl
    (fun u cmd =>
      match cmd.instr, cmd.st with
      | .curStop _ _ _ _, .waiting =>
        if cmd.mask &&& m ≠ 0 then u.completeId cmd.id (Reply.mask .absent cmd.res) else u
      | .curAccession _, .waiting => u.setCmd cmd.id (cmd.mask ||| m) cmd.res
      | _, _ => u) s
  (List.range 16).foldl
    (fun u j =>
      let c := 16 * k + j
      { u with cur := { u.cur with store := wipeStore u.cur.store c, storeErr := wipeStore u.cur.storeErr c
                                   rt := sdel u.cur.rt c } }) s1

/-! ### Meanings -/

/-- CUR_ACCESSION (R144). -/
def execCurAccession (h : Hdr) (s : State) : Host.Outcome State Fault Refusal := run (.curAccession h) h (cmdCurAccession h) s

/-- CUR_READBACK (R149). -/
def execCurReadback (h : Hdr) (cur addr count : BitVec 16) (s : State) : Host.Outcome State Fault Refusal :=
  run (.curReadback h cur addr count) h (cmdCurReadback h cur.toNat addr.toNat count.toNat) s

/-- CUR_START (R150). -/
def execCurStart (h : Hdr) (mask : BitVec 128) (tick : BitVec 64) (s : State) : Host.Outcome State Fault Refusal :=
  run (.curStart h mask tick) h (cmdCurStart mask.toNat tick.toNat) s

/-- CUR_STOP (R153). -/
def execCurStop (h : Hdr) (mask : BitVec 128) (tick : BitVec 64) (atShot : Bool) (s : State) :
    Host.Outcome State Fault Refusal :=
  run (.curStop h mask tick atShot) h (cmdCurStop mask.toNat tick.toNat atShot) s

/-- CUR_BARRIER (R155). -/
def execCurBarrier (h : Hdr) (b : BitVec 8) (mask : BitVec 128) (s : State) : Host.Outcome State Fault Refusal :=
  run (.curBarrier h b mask) h (cmdCurBarrier b.toNat mask.toNat) s

/-- CURATOR_START (R150). -/
def execCuratorStart (c : Fin 128) (s : State) : Host.Outcome State Fault Refusal := .next (s.curatorStart c.val)

/-- WORD_START (R116). -/
def execWordStart (c : Fin 128) (s : State) : Host.Outcome State Fault Refusal := .next (s.wordStart c.val)

/-- WAIT_TIMEOUT (R126). -/
def execWaitTimeout (c : Fin 128) (s : State) : Host.Outcome State Fault Refusal := .next (s.waitExpire c.val)

/-- BARRIER_RELEASE (R131). -/
def execBarrierRelease (b : Fin 16) (s : State) : Host.Outcome State Fault Refusal := .next (s.barrierRelease b.val)

/-- BARRIER_TIMEOUT (R132). -/
def execBarrierTimeout (c : Fin 128) (s : State) : Host.Outcome State Fault Refusal := .next (s.barrierTimeout c.val)

/-- CURATOR_HALT (R136). -/
def execCuratorHalt (c : Fin 128) (s : State) : Host.Outcome State Fault Refusal := .next (s.curatorHalt c.val)

/-- EVT_CURATOR_FLAG (R127). -/
def execEvtCuratorFlag (c : Fin 128) (s : State) : Host.Outcome State Fault Refusal := .next (s.evtFlag c.val)

end Sys2Proof.Machine
end

