-- ==== Sys2Proof/Machine/Calibration.lean ====
section
/-! DEFINITION. Calibration and trimming (19_calibration.md). No command shows a trim (R470), and what the references measure is not
in the spec: whether an item passes and what its trims become are free values. The trims, the factory records they come from and
the state that a calibration moves its units through are modelled. -/

namespace Sys2Proof.Machine

/-! ### Trim converters (R468, R469, R471) -/

/-- Trim keys of an output: its current sources and its offset (R468). DESIGN CHOICE: the sources' trim DACs count as one trim. -/
def outputTrims (o : Nat) : List Nat := [2 * o, 2 * o + 1]

/-- Trim keys of an input's slices: gain, offset and skew of each of 16 (R468). -/
def sliceTrims (i : Nat) : List Nat := (List.range 48).map (fun k => 0x1000 + 64 * i + k)

/-- Trim keys of an input: its slices, and the front-end gain of each zone. -/
def inputTrims (i : Nat) : List Nat := sliceTrims i ++ [48, 49, 50].map (fun k => 0x1000 + 64 * i + k)

/-- Trim keys of a bias output: offset and gain. -/
def biasTrims (b : Nat) : List Nat := [0x2000 + 2 * b, 0x2001 + 2 * b]

/-- Temperature trims of the root PLL, the bandgap and the DAC and ADC current references (R460, R468). -/
def tempTrims : List Nat := [0x3000, 0x3001, 0x3002, 0x3003]

def State.trimOf (s : State) (k : Nat) : Nat := sget (fun _ => 0) s.cal.trims k

/-- Sets trims, the j-th of a list to f j, 16 bits. -/
def State.setTrims (s : State) (keys : List Nat) (f : Nat → Nat) : State :=
  { s with cal := { s.cal with trims :=
      ((List.range keys.length).zip keys).foldl (fun m e => sset (fun _ => 0) m e.2 (f e.1 % 2 ^ 16)) s.cal.trims } }

/-- Loads the factory trims of a unit: mid-scale without a valid record (R469). DESIGN CHOICE: the body of a factory record holds the
unit's trims in the order of their keys, 16 bits each; the spec gives no format. -/
def State.loadFactory (s : State) (u : Nat) (keys : List Nat) : State :=
  let body := (s.nvRead (nvFactory u)).getD 0
  s.setTrims keys (fun j => bits body (16 * j) 16)

/-- The factory trims of the units of a domain, loaded at its power-up (R469). -/
def State.loadFactories (s : State) (d : Nat) : State :=
  if 9 ≤ d ∧ d < 33 then [0, 1, 2, 3].foldl (fun u j => let o := 4 * (d - 9) + j; u.loadFactory o (outputTrims o)) s
  else if 33 ≤ d ∧ d < 41 then [0, 1, 2, 3].foldl (fun u j => let i := 4 * (d - 33) + j; u.loadFactory (96 + i) (inputTrims i)) s
  else if 49 ≤ d ∧ d < 53 then
    (List.range 32).foldl (fun u j => let b := 32 * (d - 49) + j; u.loadFactory (128 + b) (biasTrims b)) s
  else s

/-- A domain loses power, and its units' trims with it (R471). -/
def State.trimsLost (s : State) (d : Nat) : State :=
  let clear := fun (lo n : Nat) => { s with cal := { s.cal with
    trims := sclear s.cal.trims lo n, lastTrack := sclear s.cal.lastTrack lo n } }
  if 9 ≤ d ∧ d < 33 then clear (8 * (d - 9)) 8
  else if 33 ≤ d ∧ d < 41 then clear (0x1000 + 256 * (d - 33)) 256
  else if 49 ≤ d ∧ d < 53 then clear (0x2000 + 64 * (d - 49)) 64
  else s

/-! ### Jobs -/

/-- Input of a system measurement, and domain of unit u of a job. -/
def jobDom (kind u : Nat) : Nat :=
  match kind with
  | 0 => domDT (dtOfOutput u)
  | 2 => domBB u
  | _ => domAT (atOfInput u)

/-- Units of a job. -/
def CalJob.units (j : CalJob) : List Nat := setPositions j.mask 96

/-- Draws which of a list of items pass. -/
def State.drawPasses (s : State) (us : List Nat) : Nat × State :=
  us.foldl
    (fun (a : Nat × State) u =>
      let d := a.2.draw
      (if Config.calPasses d.1 then a.1 ||| (1 <<< u) else a.1, d.2)) (0, s)

/-- An input is under CAL_INPUT or a system measurement; an item that ended early is under it no longer (R472, R477, R480). -/
def State.inputInJob (s : State) (kinds : List Nat) (i : Nat) : Bool :=
  s.cal.jobs.any (fun j => kinds.contains j.kind && bit j.mask i && !bit j.fail i)

/-- A domain loses power: commands with a unit in it complete with ABSENT, and their other units go on (R419, R477). -/
def State.calDomainLost (s : State) (d : Nat) : State :=
  s.cal.jobs.foldl
    (fun t j =>
      let gone := j.units.filter (fun u => decide (jobDom j.kind u = d))
      if gone = [] then t
      else
        let t1 := t.completeId j.id (Reply.mask .absent 0)
        let fail := j.fail ||| maskOf gone
        if 3 ≤ j.kind ∨ clearMask j.mask fail = 0 then t1.dropJob j.id
        else { t1 with cal := { t1.cal with jobs := t1.cal.jobs.map (fun k => if k.id = j.id then { k with fail := fail } else k) } }) s

/-! ### Foreground calibration (R472 to R477) -/

/-- Adds a job that ends at a tick. -/
def State.addJob (s : State) (kind mask endAt id : Nat) (level : Int) (freq : Nat) : State :=
  { s with cal := { s.cal with jobs := s.cal.jobs ++ [⟨kind, mask, 0, endAt, id, level, freq⟩] } }

/-- CAL_OUTPUT. -/
def cmdCalOutput (mask : Nat) : Own := fun id s =>
  let os := setPositions mask 96
  if os.any (fun o => !s.powered (domDT (dtOfOutput o))) then refuse s .absent
  else if os.any (fun o => s.outputInCal o || s.flag Fld.output.fscBusy o) then refuse s .busy
  else if os.any (fun o => decide (s.getF Fld.output.state o = 2 ∨ s.getF Fld.output.state o = 3)) then refuse s .state
  else
    let d := s.draw
    (d.2.addJob 0 mask (s.tick + 1 + Config.delay d.1 % 5000000) id 0 0, Reply.wait)

/-- Discards the pending zeros of an input (R482). -/
def State.dropZero (s : State) (i : Nat) : State :=
  { s with cal := { s.cal with zeros := s.cal.zeros.filter (fun z => decide (z.1 ≠ i)) } }

/-- An input enters CAL at the present tick c: ball ticks c to c + 149,999 are calibration interval (R474). -/
def State.enterInputCal (s : State) (i : Nat) : State :=
  let s1 := (s.setF Fld.input.state i 4).dropZero i
  { s1 with rd := { s1.rd with calIvs := (i, s.tick, s.tick + 150000) :: s1.rd.calIvs } }

/-- CAL_INPUT. -/
def cmdCalInput (mask : Nat) : Own := fun id s =>
  let is := setPositions mask 32
  if is.any (fun i => !s.powered (domAT (atOfInput i))) then refuse s .absent
  else if is.any (fun i => decide (s.inputState i ≠ 3) || s.inputInJob [1, 3, 4] i) then refuse s .busy
  else ((is.foldl State.enterInputCal s).addJob 1 mask (s.tick + 150000) id 0 0, Reply.wait)

/-- CAL_BIAS. -/
def cmdCalBias (banks : Nat) : Own := fun id s =>
  let ks := setPositions banks 4
  if 16 ≤ banks then refuse s .badParam
  else if ks.any (fun k => !s.powered (domBB k)) then refuse s .absent
  else if ks.any (fun k => decide (s.bankState k ≠ 3)) then refuse s .state
  else ((ks.foldl (fun t k => t.setF Fld.biasbank.state k 5) s).addJob 2 banks (s.tick + 1000000) id 0 0, Reply.wait)

/-- The first job of a kind that has reached its end. -/
def State.jobDue (s : State) (kinds : List Nat) : Option CalJob :=
  s.cal.jobs.find? (fun j => kinds.contains j.kind && decide (j.endAt ≤ s.tick))

/-- Trims that an item of a foreground calibration sets (R468). -/
def itemTrims (kind u : Nat) : List Nat :=
  match kind with
  | 0 => outputTrims u
  | 1 => inputTrims u
  | _ => (List.range 32).flatMap (fun j => biasTrims (32 * u + j))

/-- A passed item takes new trims, which are free values (R471). -/
def State.passItem (s : State) (kind u : Nat) : State :=
  let d := s.draw
  d.2.setTrims (itemTrims kind u) (Config.trimValue d.1)

/-- Completes a foreground job: the mask of the items that passed, CAL_FAIL unless it is the whole mask; a failed item keeps its
trims (R470). -/
def State.completeJob (s : State) (j : CalJob) : State :=
  let p := s.drawPasses (setPositions (clearMask j.mask j.fail) 96)
  (((setPositions p.1 96).foldl (fun u k => u.passItem j.kind k) p.2).dropJob j.id).completeId j.id (Reply.mask (if p.1 = j.mask then .ok else .calFail) p.1)

/-- CAL_OUTPUT_END (R472). -/
def State.calOutputEnd (s : State) : State :=
  match s.jobDue [0] with
  | some j => s.completeJob j
  | none => s

/-- CAL_INPUT_END: each input still in CAL returns to RUNNING (R474). -/
def State.calInputEnd (s : State) : State :=
  match s.jobDue [1] with
  | some j =>
    let s1 := (setPositions (clearMask j.mask j.fail) 32).foldl
      (fun t i => if t.inputState i = 4 then t.setF Fld.input.state i 3 else t) s
    s1.completeJob j
  | none => s

/-- CAL_BIAS_END: each bank still in CAL returns to ACTIVE (R304, R475). -/
def State.calBiasEnd (s : State) : State :=
  match s.jobDue [2] with
  | some j => ((setPositions (clearMask j.mask j.fail) 4).foldl State.bankCalEnd s).completeJob j
  | none => s

/-- A bank in CAL enters LOCKED with its held value: its item fails, and its deferred strobes are gone (R303, R477). -/
def State.lockCalBank (s : State) (k : Nat) : State :=
  if !s.powered (domBB k) ∨ s.bankState k ≠ 5 then s
  else
    let s1 := (s.failUnit 2 k).setF Fld.biasbank.state k 3
    ({ s1 with bi := { s1.bi with deferred := sset (fun _ => 0) s1.bi.deferred k 0 } }).lockBank k

/-- Thermal STOP's mute point and TRIP: ACTIVE banks and banks in CAL enter LOCKED (R463, R465, R477). -/
def State.lockAllBanks (s : State) : State := ([0, 1, 2, 3].foldl State.lockCalBank s.lockBanks).endEmptyJobs

/-- INPUT_EN was cleared (R477). -/
def State.calInputLost (s : State) (i : Nat) : State := (s.failUnit 1 i).endEmptyJobs

/-! ### System calibration (R480 to R483) -/

/-- Live carrier, zone and attenuation of an input. -/
def State.inputSet (s : State) (i : Nat) : Nat × Nat × Nat :=
  (s.getL Fld.input.carrier i, s.getL Fld.input.zone i, s.getL Fld.input.atten i)

/-- The refusals of R480; a CAL_INPUT that was executed first in the tick makes the input busy (the same-tick cases). -/
def State.sysRefused (s : State) (i : Nat) : Option Status :=
  let n := atOfInput i
  if !s.powered (domAT n) then some .absent
  else if s.cal.jobs.any (fun j => decide (j.kind = 1 ∧ j.endAt = s.tick + 150000) && bit j.mask i && !bit j.fail i) then
    some .busy
  else if s.inputState i ≠ 3 then some .state
  else if s.apState n = 1 ∨ s.apState n = 2 ∨ s.apState n = 4 ∨ s.inputInJob [1] i then some .busy
  else none

/-- The appraiser enters CAL, and the measurement ends within 1,050,000 ticks (R480). -/
def State.startSystem (s : State) (kind i id : Nat) (level : Int) (freq : Nat) : State :=
  let n := atOfInput i
  let d := ((s.setF Fld.appraiser.state n 4).setApRun n ApRun.none).draw
  d.2.addJob kind (1 <<< i) (s.tick + 1000000 + Config.delay d.1 % 50001) id level freq

/-- CAL_SYS_ZERO. -/
def cmdCalSysZero (i : Nat) : Own := fun id s =>
  if 31 < i then refuse s .badParam
  else match s.sysRefused i with
    | some st => refuse s st
    | none => (s.startSystem 3 i id 0 0, Reply.wait)

/-- The pending zero of an input. -/
def State.zeroOf (s : State) (i : Nat) : Option (Nat × (Nat × Nat × Nat) × Int) := s.cal.zeros.find? (fun z => decide (z.1 = i))

/-- An input has a pending zero for its live carrier, zone and attenuation (R481). -/
def State.zeroFor (s : State) (i : Nat) : Bool := (s.zeroOf i).any (fun z => decide (z.2.1 = s.inputSet i))

/-- Expected level of CAL_SYS_FULL in 0.01 dBFS (R481): full scale is 0.97 dBm + ATTEN. -/
def State.expectedLevel (s : State) (i ampl : Nat) : Int := toS 16 ampl - (97 + 100 * (s.inputSet i).2.2)

/-- Whether the tone lies more than 400 MHz, 2^48 / 40, from the live carrier (R481). -/
def State.toneFar (s : State) (i freq : Nat) : Bool := decide (2 ^ 48 < 40 * ((freq : Int) - (s.inputSet i).1).natAbs)

/-- CAL_SYS_FULL. DESIGN CHOICE: with the tile off the first check takes the values that its objects hold at power-up. -/
def cmdCalSysFull (i ampl freq : Nat) : Own := fun id s =>
  let l := s.expectedLevel i ampl
  if 31 < i then refuse s .badParam
  else if l < -2000 ∨ -100 < l ∨ s.toneFar i freq then refuse s .badParam
  else match s.sysRefused i with
    | some st => refuse s st
    | none =>
      if s.zeroFor i then (s.startSystem 4 i id l freq, Reply.wait) else refuse s .state

/-- A system-calibration correction as it is kept: gain in bits 31:0, offset in bits 63:32. -/
def corrWord (gain off : Int) : Nat := ofS 32 gain + 2 ^ 32 * ofS 32 off

/-- What CAL_SYS_FULL sets (R481): the gain trim of the live zone moves by the difference found, the offset trim by the offset that
the zero found, each the other way, with the DDC samples undefined up to 20 ticks later. -/
def State.setCorrection (s : State) (i : Nat) (diff off : Int) : State :=
  let z := (s.inputSet i).2.1
  let w := sget (fun _ => 0) s.cal.trim i
  let g := toS 32 (bits w 0 32) - diff
  let o := toS 32 (bits w 32 32) - off
  { s with
    cal := { s.cal with corr := (i, z, g, o) :: s.cal.corr.filter (fun e => !decide (e.1 = i ∧ e.2.1 = z))
                        trim := sset (fun _ => 0) s.cal.trim i (corrWord g o) }
    rd := { s.rd with undef := (i, s.tick, s.tick + 21) :: s.rd.undef } }

/-- Loads the correction of an input's live zone: the one set since power-up, else the stored one (R469, R482). -/
def State.loadTrim (s : State) (i : Nat) : State :=
  let z := (s.inputSet i).2.1
  let v := match s.cal.corr.find? (fun e => decide (e.1 = i ∧ e.2.1 = z)) with
    | some e => corrWord e.2.2.1 e.2.2.2
    | none => (s.nvRead (nvCorrection (3 * i + z - 1))).getD 0 % 2 ^ 64
  { s with cal := { s.cal with trim := sset (fun _ => 0) s.cal.trim i v } }

/-- The end of CAL_SYS_ZERO: a pass opens a pending zero with the offset found, a free value within 1 % of full scale; the noise is
free as well (R480). -/
def State.zeroEnd (s : State) (i id : Nat) (run : Bool) : State :=
  let d := s.draw
  let off := Config.calOffset d.1
  let s1 := d.2.dropZero i
  if run ∧ Config.calPasses d.1 ∧ off.natAbs ≤ 100 then
    ({ s1 with cal := { s1.cal with zeros := (i, s1.inputSet i, off) :: s1.cal.zeros } }).completeId id Reply.ok
  else d.2.completeId id (Reply.fail .calFail)

/-- The end of CAL_SYS_FULL: the pending zero is consumed either way (R481). -/
def State.fullEnd (s : State) (i id : Nat) (run : Bool) : State :=
  let d := s.draw
  let diff := Config.calDifference d.1
  let off := ((s.zeroOf i).map (fun z => z.2.2)).getD 0
  let s1 := d.2.dropZero i
  if run ∧ diff.natAbs ≤ 300 then (s1.setCorrection i diff off).completeId id Reply.ok
  else s1.completeId id (Reply.fail .calFail)

/-- SYS_MEASUREMENT_END (R480, R481): the appraiser returns to IDLE. -/
def State.sysMeasurementEnd (s : State) : State :=
  match s.jobDue [3, 4] with
  | none => s
  | some j =>
    let i := (setPositions j.mask 32).headD 0
    let s1 := (s.setF Fld.appraiser.state (atOfInput i) 0).dropJob j.id
    let run := decide (s.inputState i = 3)
    if j.kind = 3 then s1.zeroEnd i j.id run else s1.fullEnd i j.id run

/-- Records that CAL_SYS_STORE writes for an input: one per zone corrected since power-up (R483, R484). -/
def State.corrRecords (s : State) (i : Nat) : List (Nat × Nat) :=
  (s.cal.corr.filter (fun e => decide (e.1 = i))).map (fun e => (3 * i + e.2.1 - 1, corrWord e.2.2.1 e.2.2.2))

/-- CAL_SYS_STORE (R483). -/
def cmdCalSysStore (mask : Nat) : Own := fun id s =>
  let is := (setPositions mask 32).filter (fun i => s.corrRecords i ≠ [])
  let recs := is.flatMap s.corrRecords
  if s.flag Fld.thermal.nvInhibit 0 then refuse s .supplyLow
  else if s.nvBusy then refuse s .busy
  else s.work id (2000000 + 200000 * recs.length) true recs (Reply.ok1 (maskOf is))

/-- The records that a CAL_SYS_STORE has written, bodies of 16 bytes (R484 to R486). DESIGN CHOICE: the body is the gain and the
offset as numbers; the spec gives no format. -/
def State.storeCorrections (s : State) (l : List (Nat × Nat)) : State :=
  l.foldl (fun t e => t.nvWrite (nvCorrection e.1) 16 e.2) s

/-- A tile loses power: its corrections and zeros are gone (R471, R482). -/
def State.calTileOff (s : State) (t : Nat) : State :=
  { s with cal := { s.cal with
      zeros := s.cal.zeros.filter (fun z => decide (atOfInput z.1 ≠ t))
      corr := s.cal.corr.filter (fun z => decide (atOfInput z.1 ≠ t))
      trim := sclear s.cal.trim (4 * t) 4 } }

/-! ### Background work (R478, R479) -/

/-- One slice trim is tracked: it moves by at most one LSB, a free value, at most once per 1,000,000 ticks (R478). -/
def State.trackTrim (s : State) (k : Nat) : State :=
  let last := sget (fun _ => 0) s.cal.lastTrack k
  if last ≠ 0 ∧ s.tick < last - 1 + 1000000 then s
  else
    let d := s.draw
    let step := Config.delay d.1 % 3
    if step = 0 then d.2
    else
      let v := (s.trimOf k + (if step = 1 then 1 else 2 ^ 16 - 1)) % 2 ^ 16
      { d.2 with cal := { d.2.cal with
          trims := sset (fun _ => 0) d.2.cal.trims k v
          lastTrack := sset (fun _ => 0) d.2.cal.lastTrack k (s.tick + 1) } }

/-- INTERLEAVE_TRACKING of a RUNNING input: its slice trims are tracked, and held while the input signal lies outside −30 dBFS to
−1 dBFS (R478). DESIGN CHOICE: whether it lies outside is a free value, for the rule does not say over what span a level is taken. -/
def State.interleave (s : State) (i : Nat) : State :=
  if s.powered (domAT (atOfInput i)) ∧ s.inputState i = 3 then
    let d := s.draw
    if Config.choice d.1 then (sliceTrims i).foldl State.trackTrim d.2 else d.2
  else s

/-- SOURCE_ROTATION: an exchange in a gap of 101 ticks of an ACTIVE output, at most one per 1,000,000 ticks (R479). -/
def State.rotateSource (s : State) (o : Nat) : State :=
  let last := sget (fun _ => 0) s.drv.lastRot o
  let played := sget (fun _ => 0) s.drv.lastPlaying o
  if s.powered (domDT (dtOfOutput o)) ∧ s.getF Fld.output.state o = 2 ∧ (last = 0 ∨ last - 1 + 1000000 ≤ s.tick) ∧
      (played = 0 ∨ played - 1 + 101 ≤ s.tick) ∧
      !s.drv.plays.any (fun p => decide (outputOfSlot p.slot = o) && s.samples p s.tick) then
    { s with drv := { s.drv with
        lastRot := sset (fun _ => 0) s.drv.lastRot o (s.tick + 1)
        rotations := sset (fun _ => 0) s.drv.rotations o (sget (fun _ => 0) s.drv.rotations o + 1) } }
  else s

/-! ### Meanings -/

/-- CAL_OUTPUT (R472). -/
def execCalOutput (h : Hdr) (mask : BitVec 96) (s : State) : Host.Outcome State Fault Refusal :=
  run (.calOutput h mask) h (cmdCalOutput mask.toNat) s

/-- CAL_INPUT (R474). -/
def execCalInput (h : Hdr) (mask : BitVec 32) (s : State) : Host.Outcome State Fault Refusal :=
  run (.calInput h mask) h (cmdCalInput mask.toNat) s

/-- CAL_BIAS (R475). -/
def execCalBias (h : Hdr) (banks : BitVec 8) (s : State) : Host.Outcome State Fault Refusal :=
  run (.calBias h banks) h (cmdCalBias banks.toNat) s

/-- CAL_SYS_ZERO (R480). -/
def execCalSysZero (h : Hdr) (input : BitVec 8) (s : State) : Host.Outcome State Fault Refusal :=
  run (.calSysZero h input) h (cmdCalSysZero input.toNat) s

/-- CAL_SYS_FULL (R481). -/
def execCalSysFull (h : Hdr) (input : BitVec 8) (ampl : BitVec 16) (freq : BitVec 48) (s : State) :
    Host.Outcome State Fault Refusal :=
  run (.calSysFull h input ampl freq) h (cmdCalSysFull input.toNat ampl.toNat freq.toNat) s

/-- CAL_SYS_STORE (R483). -/
def execCalSysStore (h : Hdr) (mask : BitVec 32) (s : State) : Host.Outcome State Fault Refusal :=
  run (.calSysStore h mask) h (cmdCalSysStore mask.toNat) s

/-- INTERLEAVE_TRACKING (R478). -/
def execInterleaveTracking (i : Fin 32) (s : State) : Host.Outcome State Fault Refusal := .next (s.interleave i.val)

/-- SOURCE_ROTATION (R479). -/
def execSourceRotation (o : Fin 96) (s : State) : Host.Outcome State Fault Refusal := .next (s.rotateSource o.val)

/-- CAL_OUTPUT_END (R472). -/
def execCalOutputEnd (s : State) : Host.Outcome State Fault Refusal := .next s.calOutputEnd

/-- CAL_INPUT_END (R474). -/
def execCalInputEnd (s : State) : Host.Outcome State Fault Refusal := .next s.calInputEnd

/-- CAL_BIAS_END (R475). -/
def execCalBiasEnd (s : State) : Host.Outcome State Fault Refusal := .next s.calBiasEnd

/-- SYS_MEASUREMENT_END (R480). -/
def execSysMeasurementEnd (s : State) : Host.Outcome State Fault Refusal := .next s.sysMeasurementEnd

end Sys2Proof.Machine
end

