-- ==== Sys2Proof/Machine/CatalogueCommands.lean ====
section
/-! DEFINITION. The commands and events of the event catalogue (13_event_catalogue.md) over the operations of
Machine/Catalogue.lean. -/

namespace Sys2Proof.Machine

/-- The lowest producer on any cycle of a list (R356). -/
def lowestOf (cs : List (List Nat)) : Nat :=
  (cs.flatMap id).foldl (fun m p => min m p) 0xFFFFFFFF

/-- What CAT_COMMIT answers about a captured configuration: refused cycles, all cycles, results (R355, R356). -/
def catReply (img live : Nat) (extlen : Nat) : Reply :=
  let cs := allCycles img
  let bad := cs.filter (cycleRefused img)
  let good := cs.filter (fun c => !cycleRefused img c)
  let low := if bad = [] then lowestOf cs else lowestOf bad
  { Reply.ok4 (min cs.length 0xFFFFFFFF) low (rowsChanged img live) 0 with
    status := if bad = [] then .ok else .catalogueLoop
    data := ((bad ++ good).take (extlen / 32)).flatMap (fun c => leBytes 32 (maskOf c)) }

/-- Whether a CAT_COMMIT is pending, as COMMIT_PENDING shows (R358). -/
def State.showCatPending (s : State) : State :=
  s.setF Fld.catalogue.commitPending 0 (if s.cmd.commits.any (fun c => decide (c.kind = 5)) then 1 else 0)

/-- CAT_COMMIT (R354 to R356, R521): the whole staged configuration is captured. A list of cycles that its path cannot return is
refused at acceptance (R396, R403). -/
def cmdCatCommit (h : Hdr) (tick : Nat) : Own := fun id s =>
  let key := okey 0x10 0
  let img := s.obj 0x10 0
  let rep := catReply img (s.liveObj 0x10 0) h.extlen.toNat
  if s.commitsFull then refuse s .busy
  else if (s.tickParam tick).isNone then refuse s .tooLate
  else if rep.status ≠ .ok then (s.count 0x14 0 1, rep)
  else if !s.dataFits h rep.data.length then refuse s .badParam
  else
    let r := commitOwn s tick [key] (fun tc => ⟨tc, id, 5, s.capture [key], false, [], rep.r0, rep.r1, rep.r2⟩)
    (r.1.showCatPending, r.2)

/-- A commit that changes a cell clears its filter and flip-flop, and the output that this yields fires no event (R350). -/
def State.lutCommitted (s : State) (old j : Nat) : State :=
  if bits old (2048 + 64 * j) 64 = s.lutWord j then s
  else
    let w := s.lutWord j
    let v := lutFinal w (s.lutComb w s.now) LutRt.none
    s.setLut j { LutRt.none with out := v, last := v }

/-- The commit of a captured catalogue at its tick: the state and what the command answers. -/
def State.applyCatCommit (s : State) (c : Commit) : State :=
  match c.caps with
  | [] => s
  | (key, img) :: _ =>
    let old := s.liveObj 0x10 0
    let s1 := s.applyCapture key img
    let s2 := (List.range 32).foldl (fun t j => t.lutCommitted old j) s1
    (((s2.setF Fld.catalogue.commitTick 0 s.tick).setF Fld.catalogue.liveCycles 0 c.res0).count 0x14 0 0).showCatPending

/-- What CAT_COMMIT answers when it has applied: the results of its acceptance and the list of its cycles (R356). -/
def catDone (c : Commit) (extlen : Nat) : Reply :=
  match c.caps with
  | [] => Reply.ok
  | (_, img) :: _ => { catReply img 0 extlen with r0 := c.res0, r1 := c.res1, r2 := c.res2 }

/-- CAT_GROUP (R348). -/
def cmdCatGroup (mask : Nat) : Own := fun _ s => (s.setF Fld.catalogue.groupLive 0 mask, Reply.ok1 mask)

/-- Reach instant of an event that arrives at task input t in this tick; the tick's start when none is on its way. -/
def State.reachOf (s : State) (t : Nat) : Nat :=
  match s.cat.flight.find? (fun f => decide (f.evt = t) && s.arrived f) with
  | some f => f.reach
  | none => s.now

/-- Writes to OBJ_CATALOGUE may change the level at a GPIO ball: an edge (R353). `was` is the state before the write. -/
def State.gpioWritten (s was : State) : State :=
  (List.range 16).foldl
    (fun t g => if t.gpioLevel g = was.gpioLevel g then t else t.gpioEdge g (t.gpioLevel g) 0) s

/-! ### Meanings -/

/-- CAT_COMMIT (R355). -/
def execCatCommit (h : Hdr) (tick : BitVec 64) (s : State) : Host.Outcome State Fault Refusal :=
  run (.catCommit h tick) h (cmdCatCommit h tick.toNat) s

/-- CAT_GROUP (R348). -/
def execCatGroup (h : Hdr) (mask : BitVec 16) (s : State) : Host.Outcome State Fault Refusal :=
  run (.catGroup h mask) h (cmdCatGroup mask.toNat) s

/-- GPIO_EDGE (R353): the outside drives the ball to a level at a fine slot of the present tick. -/
def execGpioEdge (g : Fin 16) (edge : PinEdge) (s : State) : Host.Outcome State Fault Refusal :=
  .next (s.gpioInput g.val edge.level edge.fine.toNat)

/-- GPIO_PULSE_END (R353). -/
def execGpioPulseEnd (g : Fin 16) (s : State) : Host.Outcome State Fault Refusal := .next (s.gpioPulseEnd g.val)

/-- LUT_CELL_OUTPUT (R349). -/
def execLutCellOutput (j : Fin 32) (s : State) : Host.Outcome State Fault Refusal := .next (s.lutChange j.val)

/-- EVT_GPIO_OUTPUT (R353). -/
def execEvtGpioOutput (g : Fin 16) (s : State) : Host.Outcome State Fault Refusal := .next (s.evtGpio g.val)

/-- EVT_CUE_OUTPUT (R352, R345). -/
def execEvtCueOutput (n : Fin 8) (s : State) : Host.Outcome State Fault Refusal :=
  .next (if s.powered domMGMT1 then s.evtCue n.val else s.absentDrop (180 + n.val))

/-- CUE_OUTPUT_WORD_END (R352). -/
def execCueOutputWordEnd (n : Fin 8) (s : State) : Host.Outcome State Fault Refusal := .next (s.cueWordEnd n.val)

/-- GROUP_ENABLE (R347). -/
def execGroupEnable (g : Fin 16) (s : State) : Host.Outcome State Fault Refusal :=
  .next (s.groupEvent g.val (s.reachOf (220 + g.val)) true)

/-- GROUP_DISABLE (R347). -/
def execGroupDisable (g : Fin 16) (s : State) : Host.Outcome State Fault Refusal :=
  .next (s.groupEvent g.val (s.reachOf (236 + g.val)) false)

end Sys2Proof.Machine
end

