-- ==== Sys2Proof/Machine/Ledger.lean ====
section
/-! DEFINITION. The ledger (14_ledger.md): mirrors, snapshots, the record of LDG_READ. Counting itself stands in
Machine/Flags.lean, and every module counts where its rule says. -/

namespace Sys2Proof.Machine

/-! ### Mirrors (R364) -/

/-- LEDGER_MIRROR is due: at least once every 1,000 ticks. -/
def State.mirrorDue (s : State) : Bool := decide (s.ldg.mirrorAt + 1000 ≤ s.tick)

/-- Domain of a counter's unit. -/
def keyUnitDom (k : Nat) : Nat := unitDom (k / 2 ^ 20) (k % 2 ^ 20 / 32)

/-- Counters of one list, with those of the units that satisfy `other` taken from another (R364). -/
def takeUnits (other : Nat → Bool) (l m : Sparse Nat) : Sparse Nat :=
  (m.filter (fun e => other (keyUnitDom e.1))).foldl (fun a e => sset (fun _ => 0) a e.1 e.2)
    (l.filter (fun e => !other (keyUnitDom e.1)))

/-- What the units supply: their counters, and a unit whose domain is off its mirrored values (R364, R365). -/
def State.supplied (s : State) : Sparse Nat := takeUnits (fun d => !s.powered d) s.ldg.cnt s.ldg.mirror

/-- PD_AON mirrors the counters of every domain that is on (R364). -/
def State.mirrorNow (s : State) : State := { s with ldg := { s.ldg with mirror := s.supplied, mirrorAt := s.tick } }

/-- LEDGER_MIRROR. -/
def State.ledgerMirror (s : State) : State := if s.mirrorDue then s.mirrorNow else s

/-- A domain powers up: its counters resume from their mirrored values (R364). -/
def State.ledgerResume (s : State) (d : Nat) : State :=
  { s with ldg := { s.ldg with cnt := takeUnits (fun x => decide (x = d)) s.ldg.cnt s.ldg.mirror } }

/-- A domain lost power without a command: its units are LOSSY (R364). -/
def State.ledgerLoss (s : State) (d : Nat) : State := { s with ldg := { s.ldg with lossy := s.ldg.lossy ||| (1 <<< d) } }

/-! ### Snapshots (R365 to R371) -/

/-- Schedules a snapshot for tick T. -/
def State.scheduleSnapshot (s : State) (t origin originNum sentTo : Nat) : State :=
  { s with ldg := { s.ldg with st := 1, tick := t, origin := origin, originNum := originNum, sentTo := sentTo } }

/-- LEDGER_SNAPSHOT is due. -/
def State.snapshotDue (s : State) : Bool := decide (s.ldg.st = 1 ∧ s.ldg.tick ≤ s.tick)

/-- LEDGER_SNAPSHOT: counters and environment readings reach the shadows (R365, R366, R368). -/
def State.ledgerSnapshot (s : State) : State :=
  if !s.snapshotDue then s
  else
    let n := w64 (s.ldg.num + 1)
    { s with ldg := { s.ldg with
        st := 2, num := n
        originNum := if s.ldg.origin = 0 then n else s.ldg.originNum
        waiting := s.ldg.waiting.map (fun (e : Nat × Nat × Nat × Nat) => if e.2.2.2 = 0 then (e.1, e.2.1, e.2.2.1, n) else e)
        shadow := s.supplied, shadowOn := s.pw.on, shadowLossy := s.ldg.lossy
        shadowEnv := s.pw.temps.map (fun t => toS 16 t) ++ s.pw.readings ++ [(s.pw.scanRaw : Int)] } }.count 0x18 0 0

/-- EVT253 arrives: the ledger decides on it at the end of the tick, after every command and request of the tick (R339,
R374). -/
def State.evtLedger (s : State) : State := { s with ldg := { s.ldg with events := s.ldg.events + 1 } }

/-- HELD becomes FREE (R374). -/
def State.ledgerRelease (s : State) : State := { s with ldg := { s.ldg with st := 0, shadow := [], shadowEnv := [] } }

/-- LDG_SNAP commands complete at T + 8 with the number of their own snapshot (R372). -/
def State.ledgerWaits (s : State) : State :=
  let due := fun (e : Nat × Nat × Nat × Nat) => decide (e.1 ≤ s.tick)
  (s.ldg.waiting.filter due).foldl
    (fun t e => t.completeId e.2.1 (Reply.ok4 (bits e.2.2.2 0 32) (bits e.2.2.2 32 32) e.2.2.1 0))
    { s with ldg := { s.ldg with waiting := s.ldg.waiting.filter (fun e => !due e) } }

/-- One EVT253 event of the tick: a local snapshot for arrival + 1,000 when the ledger is FREE, else it is busy (R369). -/
def State.ledgerEvent (s : State) : State :=
  if s.ldg.st = 0 then (s.scheduleSnapshot (s.tick + 1000) 0 0 0).delivered 253 else s.busyDrop 253

/-- End of a tick: the EVT253 events of the tick are decided (R339, R369, R374). -/
def State.ledgerTickEnd (s : State) : State :=
  (List.range s.ldg.events).foldl (fun t _ => t.ledgerEvent) { s with ldg := { s.ldg with events := 0 } }

/-- A request of a peer that arrived on port p (R370, R371). -/
def State.peerSnapshot (s : State) (p t originNum : Nat) : State :=
  if s.ldg.st = 0 ∧ s.tick + 1 ≤ t then s.scheduleSnapshot t (p + 1) originNum 0 else s.count 0x18 0 2

/-- A warm reset takes the ledger to FREE (R367). -/
def State.ledgerReset (s : State) : State :=
  { s with ldg := { s.ldg with st := 0, shadow := [], shadowEnv := [], waiting := [], events := 0 } }

/-! ### Records (R373, R375, R376) -/

/-- Number of entries of a unit class (R376). -/
def unitEntries : Nat → Nat
  | 0x01 => 4 | 0x02 => 6 | 0x03 => 1 | 0x04 => 1 | 0x05 => 11 | 0x06 => 23 | 0x07 => 2 | 0x08 => 2 | 0x09 => 5
  | 0x0A => 7 | 0x0B => 8 | 0x0C => 1 | 0x0D => 6 | 0x0E => 3 | 0x0F => 25 | 0x10 => 2 | 0x11 => 3 | 0x12 => 4
  | 0x13 => 3 | 0x14 => 2 | 0x15 => 4 | 0x16 => 5 | 0x17 => 6 | 0x18 => 3 | 0x19 => 1 | 0x20 => 60 | _ => 0

/-- First instance of a unit class, and how many it has (R376). -/
def unitInstances : Nat → Nat × Nat
  | 0x01 => (0, 1024) | 0x02 => (0, 96) | 0x03 => (0, 97) | 0x04 => (0, 4096) | 0x05 => (0, 128) | 0x06 => (0, 512)
  | 0x07 => (0, 32) | 0x08 => (512, 512) | 0x09 => (0, 64) | 0x0A => (0, 8) | 0x0B => (0, 8) | 0x0C => (0, 8)
  | 0x0D => (0, 4) | 0x0E => (0, 128) | 0x0F => (0, 1) | 0x10 => (0, 16) | 0x11 => (0, 256) | 0x12 => (0, 256)
  | 0x13 => (0, 16) | 0x14 => (0, 1) | 0x15 => (0, 80) | 0x16 => (0, 8) | 0x17 => (0, 4) | 0x18 => (0, 1)
  | 0x19 => (0, 98) | 0x20 => (0, 1) | _ => (0, 0)

/-- One entry of a unit in the shadows. -/
def State.shadowEntry (s : State) (cls inst e : Nat) : Nat :=
  if cls = 0x20 then ofS 64 (s.ldg.shadowEnv.getD e 0)
  else sget (fun _ => 0) s.ldg.shadow (ckey cls inst e)

/-- STATUS of a unit block: bit 0 ABSENT, bit 1 LOSSY (R375). Instance 7 of class 0x15 is reserved. -/
def State.unitStatus (s : State) (cls inst : Nat) : Nat :=
  if cls = 0x15 ∧ inst = 7 then 0
  else
    let d := unitDom cls inst
    (if bit s.ldg.shadowOn d then 0 else 1) + (if bit s.ldg.shadowLossy d then 2 else 0)

/-- A unit block (R375). -/
def State.unitBlock (s : State) (cls inst : Nat) : List Byte :=
  let n := unitEntries cls
  leBytes 2 inst ++ leBytes 1 cls ++ leBytes 1 (s.unitStatus cls inst) ++ leBytes 2 n ++ leBytes 2 0 ++
    (List.range n).flatMap (fun e =>
      leBytes 8 (if cls = 0x15 ∧ inst = 7 then 0 else s.shadowEntry cls inst e))

/-- The record of one class and a range of its instances (R375). -/
def State.ledgerRecord (s : State) (cls first count seq : Nat) : List Byte :=
  s.tag 5 0 32 (16 * s.ldg.tick) (seq % 65536) ++
    (leBytes 8 s.ldg.num ++ leBytes 8 s.ldg.originNum ++ leBytes 1 s.ldg.origin ++ leBytes 1 cls ++ leBytes 2 first ++
      leBytes 2 count ++ leBytes 10 0) ++
    (List.range count).flatMap (fun k => s.unitBlock cls (first + k))

/-- Record length (R375). -/
def recordLength (cls count : Nat) : Nat := 64 + count * (8 + 8 * unitEntries cls)

end Sys2Proof.Machine
end

