-- ==== Sys2Proof/Machine/Time.lean ====
section
/-! DEFINITION. The time reference (12_time_reference.md): the two domains and their loops, the epoch, switching,
PPS and time-pulse outputs, timestamp capture, and OBJ_TIME. -/

namespace Sys2Proof.Machine

/-- One second in system units (R312). -/
def sysSecond : Int := 10 ^ 9 * 2 ^ 16

/-- Quotient rounded half up; the divisor is positive. -/
def roundDiv (x y : Int) : Int := (2 * x + y) / (2 * y)

/-- The first fine slot of a span that satisfies a condition. -/
def firstSlot (lo n : Nat) (p : Nat → Bool) : Option Nat := ((List.range n).map (fun k => lo + k)).find? p

/-- The first fine slot, of those that the tick in progress looks at, that satisfies a condition. -/
def State.lookSlot (s : State) (p : Nat → Bool) : Option Nat := firstSlot s.tm.lookFrom (s.tm.lookTo - s.tm.lookFrom) p

/-! ### Domains -/

def State.dom (s : State) (b : Bool) : DomRt := if b then s.tm.domB else s.tm.domA
def State.setDom (s : State) (b : Bool) (d : DomRt) : State :=
  if b then { s with tm := { s.tm with domB := d } } else { s with tm := { s.tm with domA := d } }

def domField (b : Bool) : Field := if b then Fld.time.domBState else Fld.time.domAState

/-- DOM_x_STATE (R315): 0 DISABLED, 1 ACQUIRING, 2 LOCKED, 3 LOST. -/
def State.domState (s : State) (b : Bool) : Nat := s.getF (domField b) 0
def State.setDomState (s : State) (b : Bool) (v : Nat) : State := s.setF (domField b) 0 v

def rateOf (p : TimeSet) (b : Bool) : Int := if b then p.rateB else p.rateA
def offOf (p : TimeSet) (b : Bool) : Int := if b then p.offB else p.offA
def withDom (p : TimeSet) (b : Bool) (rate off : Int) : TimeSet :=
  if b then { p with rateB := rate, offB := off } else { p with rateA := rate, offA := off }

/-- T of a domain at a signed instant of raw time (R311). -/
def domAt (p : TimeSet) (b : Bool) (r : Int) : Int := r * 2 ^ 12 + r * rateOf p b / 2 ^ 36 + offOf p b

/-- A parameter change was made or scheduled: a PARAM message is due (R438). -/
def State.paramsChanged (s : State) : State := { s with cp := { s.cp with paramAt := s.tick } }

/-- A TIME_ROLE of FOLLOWER leaves the pulse inputs and loops unused (R333). -/
def State.follower (s : State) : Bool := decide (s.getF Fld.time.timeRole 0 = 1)

/-- The first of a list of sets, newest first, back over a number of kept changes (R313). -/
def keptSets : Nat → List TimeSet → List TimeSet
  | _, [] => []
  | n, p :: l => if n = 0 then [] else p :: keptSets (if p.kept then n - 1 else n) l

/-- New time parameters from instant r on. A follower takes its parameters from the reference alone, so that its system time
equals the reference's, and changes none itself (R333). `kept`: R313 counts the change among the last 64. -/
def State.changeSet (s : State) (kept : Bool) (r : Nat) (f : TimeSet → TimeSet) : State :=
  if s.follower then s
  else
    { s with tm := { s.tm with now := { f s.tm.now with from_ := r, kept := kept }
                               hist := keptSets (if kept then 63 else 64) (s.tm.now :: s.tm.hist) } }.paramsChanged

/-- A parameter change that R313 keeps: a loop update, lock, switch or epoch step, at instant r. -/
def State.changeTime (s : State) (r : Nat) (f : TimeSet → TimeSet) : State := s.changeSet true r f

/-- The instant of a change in the present tick: its first slot, or that of an epoch step of the same tick, which comes
first (12_time_reference.md, same-tick cases). -/
def State.changeInstant (s : State) : Nat := max s.now s.tm.now.from_

/-! ### Switching (R321 to R323) -/

/-- Switches to domain `b` at the present tick. -/
def State.switchTo (s : State) (b step : Bool) : State :=
  let r := s.changeInstant
  let p := s.tm.now
  let c0 := if step then 0 else domAt p p.act (w64 r) + contAt p r - domAt p b (w64 r)
  let s1 := s.changeTime r (fun q => { q with act := b, cont0 := c0, contAt := r })
  let s2 := ((s1.raise Fld.time.domSwitched 0).setF Fld.time.switchRaw 0 (w64 r)).count 0x0F 0 10
  let s3 := if step then s2.raise Fld.time.timeStepped 0 else s2
  s3.fireAt 183 r none

/-- The automatic switch away from domain `b` (R321). -/
def State.autoSwitch (s : State) (b : Bool) : State :=
  if s.tm.now.act = b ∧ s.flag Fld.time.autoSwitch 0 ∧ s.domState (!b) = 2 then s.switchTo (!b) false else s

/-- DOMAIN_SWITCH is due: a TIME_SWITCH reaches its tick (R322). -/
def State.switchDue (s : State) : Bool := s.tm.switches.any (fun w => decide (w.1 ≤ s.tick))

/-- DOMAIN_SWITCH: the first TIME_SWITCH that is due (R322). -/
def State.domainSwitch (s : State) : State :=
  match s.tm.switches.find? (fun w => decide (w.1 ≤ s.tick)) with
  | none => s
  | some w =>
    let s1 := { s with tm := { s.tm with switches := s.tm.switches.filter (fun v => decide (v.2.2.2 ≠ w.2.2.2)) } }
    if s1.domState w.2.1 ≠ 2 then s1.completeId w.2.2.2 (Reply.fail .state)
    else if s1.tm.now.act = w.2.1 then s1.completeId w.2.2.2 Reply.ok
    else (s1.switchTo w.2.1 w.2.2.1).completeId w.2.2.2 (Reply.ok64 s.tick)

/-! ### Pulses (R314 to R318) -/

def State.ppsDelay (s : State) (b : Bool) : Int := s.getSF (if b then Fld.time.ppsDelayB else Fld.time.ppsDelayA) 0

/-- The raw instant r_E at which a domain's time reaches its next whole second (R317). -/
def State.expectedEdge (s : State) (b : Bool) : Int :=
  let p := s.tm.now
  let a : Int := ((s.dom b).expect * sysSecond - offOf p b) * 2 ^ 36
  0 - (0 - a) / (2 ^ 48 + rateOf p b)

/-- Half the acceptance window in fine slots (R317). -/
def State.pulseWin (s : State) : Int := 16 * s.getF Fld.time.pulseWin 0

/-- An edge of an ACQUIRING domain: the fourth of four in a row, each interval within 200 µs of 1 s, decides the lock
(R316). -/
def State.acquire (s : State) (b : Bool) (r : Int) : State :=
  let d := s.dom b
  if d.lockAt.isSome then s
  else
    let es := (r :: d.edges).take 4
    let good := (es.zip (es.drop 1)).all (fun e =>
      decide (16 * 10 ^ 9 - 3200000 ≤ e.1 - e.2 ∧ e.1 - e.2 ≤ 16 * 10 ^ 9 + 3200000))
    match es with
    | [r4, _, _, r1] =>
      if good then
        let k := r4 - r1
        (s.setDom b { d with
          edges := es, lockAt := some ((r4 / 16 + 1000).toNat, roundDiv (2 ^ 48 * (48 * 10 ^ 9 - k)) k, r4) }).paramsChanged
      else s.setDom b { d with edges := es }
    | _ => s.setDom b { d with edges := es }

/-- An accepted edge: the loop of R318. -/
def State.onPulse (s : State) (b : Bool) (r : Int) : State :=
  let d := s.dom b
  let t := domAt s.tm.now b r
  let tc := s.getF Fld.time.loopTc 0
  let e := t - sysSecond * roundDiv t sysSecond
  let k := roundDiv (r - d.rprev) (16 * 10 ^ 9)
  let fm := roundDiv (2 ^ 48 * (k * (16 * 10 ^ 9) - (r - d.rprev))) (r - d.rprev)
  let rf := d.rf + roundDiv (fm - d.rf) (2 ^ tc)
  let lim : Int := (s.getF Fld.time.slewPpb 0 * 2 ^ 48 / 10 ^ 9 : Nat)
  let pc := max (-lim) (min lim (roundDiv (-(e * 2 ^ 32)) (2 ^ tc * 10 ^ 9)))
  let s1 := s.setDom b { d with rf := rf, rprev := r, misses := 0, expect := roundDiv t sysSecond + 1
                                updates := d.updates ++ [(s.tick + 1000, rf + pc)] }
  let s1 := s1.paramsChanged
  (s1.setF (if b then Fld.time.phaseErrB else Fld.time.phaseErrA) 0 (ofS 32 (sat 32 e))).setF
    (if b then Fld.time.lastPulseB else Fld.time.lastPulseA) 0 (ofS 64 r)

/-- PPS_EDGE: a rising edge at fine slot `q` of raw time (R314 to R317). -/
def State.ppsEdge (s : State) (b : Bool) (q : Nat) : State :=
  let r : Int := q - s.ppsDelay b
  let st := s.domState b
  let base := if b then 5 else 0
  if s.follower ∨ st = 0 then s
  else if st = 3 then (s.setDomState b 1).setDom b { s.dom b with edges := [r], misses := 0, lockAt := none }
  else if st = 1 then s.acquire b r
  else if (r - s.expectedEdge b).natAbs ≤ s.pulseWin.toNat then
    ((s.onPulse b r).count 0x0F 0 base).fireAt (if b then 182 else 181) q none
  else (s.raise Fld.time.pulseReject 0).count 0x0F 0 (base + 1)

/-- The tick at which a window that passes empty is a miss: the tick after its last one (R317). -/
def State.missTick (s : State) (b : Bool) : Int := (s.expectedEdge b + s.pulseWin + s.ppsDelay b) / 16 + 1

def State.missDue (s : State) (b : Bool) : Bool :=
  decide (s.domState b = 2) && !s.follower && decide (s.missTick b ≤ s.tick)

/-- PULSE_MISS; the second in a row takes the domain to LOST (R317, R321). -/
def State.pulseMiss (s : State) (b : Bool) : State :=
  if !s.missDue b then s
  else
    let d := s.dom b
    let base := if b then 5 else 0
    let s1 := (s.setDom b { d with misses := d.misses + 1, expect := d.expect + 1 }).count 0x0F 0 (base + 2)
    if d.misses + 1 < 2 then s1
    else
      let s2 := ((s1.setDomState b 3).setDom b { s1.dom b with edges := [], misses := 0, updates := [] }).count 0x0F 0 (base + 3)
      let s3 := (s2.raise (if b then Fld.time.bLost else Fld.time.aLost) 0).fire (if b then 221 else 220)
      (s3.notice 0x0A (if b then 1 else 0) 0 0).autoSwitch b

def State.lockDue (s : State) (b : Bool) : Bool :=
  match (s.dom b).lockAt with
  | some l => decide (s.domState b = 1 ∧ l.1 ≤ s.tick) && !s.follower
  | none => false

/-- DOMAIN_LOCK (R316, R321): the second that N names is numbered as an epoch step between r4 and the lock has left it (DEDUCED:
both domains number their seconds alike, R320). An active domain that has locked before keeps system time continuous through CONT;
otherwise system time steps. A lock of the other domain ends a HOLDOVER when AUTO_SWITCH allows. -/
def State.domainLock (s : State) (b : Bool) : State :=
  match (s.dom b).lockAt with
  | none => s
  | some l =>
    if !s.lockDue b then s
    else
      let rate := l.2.1
      let r4 := l.2.2
      let n := roundDiv (s.sysAt r4.toNat) sysSecond + (s.tm.now.steps - (s.setAtRaw r4.toNat).steps)
      let off := n * sysSecond - (r4 * 2 ^ 12 + r4 * rate / 2 ^ 36)
      let d := s.dom b
      let u := s.changeInstant
      let p := s.tm.now
      let step := domAt (withDom p b rate off) b (w64 u) - domAt p b (w64 u)
      let isAct := decide (p.act = b)
      let c0 : Int := if d.everLocked then contAt p u - step else 0
      let s1 := s.changeTime u (fun q =>
        let q1 := withDom q b rate off
        if isAct then { q1 with cont0 := c0, contAt := u } else q1)
      let s2 := ((s1.setDomState b 2).setDom b
        { d with edges := [], rf := rate, rprev := r4, everLocked := true, misses := 0, lockAt := none, updates := []
                 expect := n + 1 }).count 0x0F 0 (if b then 9 else 4)
      let s3 := if isAct ∧ !d.everLocked then s2.raise Fld.time.timeStepped 0 else s2
      if !isAct ∧ s3.domState p.act = 3 then s3.autoSwitch (!b) else s3

def State.updateDue (s : State) (b : Bool) : Bool := (s.dom b).updates.any (fun u => decide (u.1 ≤ s.tick))

/-- LOOP_UPDATE (R318): a LOCKED domain takes the rate that its accepted edge gave. -/
def State.loopUpdate (s : State) (b : Bool) : State :=
  match (s.dom b).updates with
  | [] => s
  | w :: rest =>
    if s.tick < w.1 then s
    else
      let s1 := s.setDom b { s.dom b with updates := rest }
      if s.domState b ≠ 2 then s1
      else
        let u : Int := s.raw
        s1.changeTime s.now (fun q =>
          withDom q b w.2 (offOf q b + u * rateOf q b / 2 ^ 36 - u * w.2 / 2 ^ 36))

/-! ### The epoch (R320) -/

/-- The fine slot of the tick in progress at which system time reaches a whole second, not before slot `lo`. -/
def State.secondSlot (s : State) (lo : Nat) : Option Nat :=
  s.lookSlot (fun r =>
    let p := s.setAtRaw r
    decide (lo ≤ r ∧ 0 < r ∧ sysTime p (r - 1) / sysSecond < sysTime p r / sysSecond))

/-- EPOCH_STEP is due in this tick, and its slot. -/
def State.epochSlot (s : State) : Option ((Nat × Nat × Nat) × Nat) :=
  match s.tm.epoch with
  | [] => none
  | e :: _ => match s.secondSlot (s.lift (16 * e.1)) with
    | some r => some (e, r)
    | none => none

/-- EPOCH_STEP: the whole second reads E; both domains move alike (R320). -/
def State.epochStep (s : State) : State :=
  match s.epochSlot with
  | none => s
  | some (e, r) =>
    let n := sysTime (s.setAtRaw r) r / sysSecond
    let d : Int := e.2.1 - n
    let s1 := s.changeTime r (fun q => { q with
      offA := q.offA + d * sysSecond, offB := q.offB + d * sysSecond, steps := q.steps + d })
    let s2 := { s1 with tm := { s1.tm with
      epoch := s1.tm.epoch.drop 1
      domA := { s1.tm.domA with expect := s1.tm.domA.expect + d }
      domB := { s1.tm.domB with expect := s1.tm.domB.expect + d } } }
    (((s2.setF Fld.time.epochSet 0 1).raise Fld.time.timeStepped 0).count 0x0F 0 11).completeId e.2.2 (Reply.ok64 (w64 r / 16))

/-! ### REFOUT (R324) -/

/-- Level of REFOUT at a raw instant of the tick in progress: 100 MHz, which rises where raw time is a multiple of 160. DESIGN
CHOICE: it falls half a period later. -/
def State.refoutAt (s : State) (r : Nat) : Bool :=
  s.flag Fld.time.refoutEn 0 && !s.tm.unlocked && decide (r % 160 < 80)

/-! ### PPS_OUT (R325) -/

/-- Whole second of PPS_OUT's source at an instant under a parameter set. Raw time's seconds are counted on through a wrap. -/
def State.ppsSecond (s : State) (p : TimeSet) (r : Nat) : Int :=
  match s.getF Fld.time.ppsOutSrc 0 with
  | 0 => sysTime p r / sysSecond
  | 1 => domTime p.rateA p.offA (w64 r) / sysSecond
  | 2 => domTime p.rateB p.offB (w64 r) / sysSecond
  | _ => ((r / 2 ^ 64 * 1152921505 + w64 r / (16 * 10 ^ 9) : Nat) : Int)

/-- The slot, of those that the tick in progress looks at, at which PPS_OUT rises. -/
def State.ppsOutSlot (s : State) : Option Nat :=
  if !s.flag Fld.time.ppsOutEn 0 then none
  else s.lookSlot (fun r =>
    let p := s.setAtRaw r
    decide (0 < r ∧ s.ppsSecond p (r - 1) < s.ppsSecond p r ∧ s.tm.ppsLast ≤ s.ppsSecond p r))

/-- PPS_OUT_EDGE: a pulse that ends by then ends first. -/
def State.ppsOutEdge (s : State) : State :=
  match s.ppsOutSlot with
  | none => s
  | some r =>
    let s0 := if s.tm.ppsFall ≠ 0 ∧ s.tm.ppsFall ≤ r then s.emit (.edge 4 false (w64 s.tm.ppsFall)) else s
    let s1 := { s0 with tm := { s0.tm with
      ppsLast := s.ppsSecond (s.setAtRaw r) r + 1
      ppsFall := r + 16 * s.getF Fld.time.ppsOutWidth 0
      ppsSpan := (r + 1, r + 16 * s.getF Fld.time.ppsOutWidth 0) } }
    (s1.emit (.edge 4 true (w64 r))).fireAt 180 r none

def State.ppsFallDue (s : State) : Bool := decide (s.tm.ppsFall ≠ 0 ∧ s.tm.ppsFall < s.tm.lookTo)

/-- PPS_OUT_FALL. -/
def State.ppsOutFall (s : State) : State :=
  if s.ppsFallDue then ({ s with tm := { s.tm with ppsFall := 0 } }).emit (.edge 4 false (w64 s.tm.ppsFall)) else s

/-! ### Time pulses (R326, R327) -/

/-- A field of block TPn, as a field of OBJ_TIME (R334). -/
def tpF (n : Nat) (f : Field) : Field := ⟨0x0F, 1280 + 192 * n + f.lsb, f.width⟩

/-- Quotient rounded up. -/
def ceilDiv (a b : Nat) : Nat := (a + b - 1) / b

/-- The first k whose instant is not before raw instant `lim` (R327); none where PERIOD 0 has no such edge. `img` is
OBJ_TIME's image. -/
def State.tpFirst (s : State) (img n lim : Nat) : Option Nat :=
  let st := fieldOf (tpF n Fld.tp.start) img
  let per := fieldOf (tpF n Fld.tp.period) img
  let f := fieldOf (tpF n Fld.tp.startFine) img
  if fieldOf (tpF n Fld.tp.base) img = 0 then
    if lim ≤ 16 * st + f then some 0
    else if per = 0 then none
    else some (ceilDiv (lim - (16 * st + f)) (16 * per))
  else
    let v := s.sysAt (lim - f - 1)
    if v < st * 2 ^ 16 then some 0
    else if per = 0 then none
    else some (((v - st * 2 ^ 16) / (per * 2 ^ 16)).toNat + 1)

/-- What the tick in progress holds for the next edge of TPn: the edge's instant, or a skip with the next k. -/
def State.tpDue (s : State) (n : Nat) : Option (Option Nat × Nat) :=
  let k1 := sget (fun _ => 0) s.tm.tpNext n
  if k1 = 0 then none
  else
    let img := s.obj 0x0F 0
    let st := fieldOf (tpF n Fld.tp.start) img
    let per := fieldOf (tpF n Fld.tp.period) img
    let f := fieldOf (tpF n Fld.tp.startFine) img
    let x := st + (k1 - 1) * per
    if fieldOf (tpF n Fld.tp.base) img = 0 then
      let r := 16 * x + f
      let lo := s.raw + (s.tm.lookFrom - s.now)
      if r < lo then some (none, (s.tpFirst img n lo).getD 0)
      else if r < s.raw + (s.tm.lookTo - s.now) then some (some (s.now + (r - s.raw)), 0)
      else none
    else
      match firstSlot (s.tm.lookFrom - f) (s.tm.lookTo - s.tm.lookFrom) (fun r => decide ((x : Int) * 2 ^ 16 ≤ sysTime (s.setAtRaw r) r)) with
      | none => none
      | some r =>
        let before := sysTime (s.setAtRaw r) (r - 1)
        if r = 0 ∨ before < (x : Int) * 2 ^ 16 then some (some (r + f), 0)
        else some (none, if per = 0 then 0 else ((before - st * 2 ^ 16) / (per * 2 ^ 16)).toNat + 1)

/-- Skipped edges of TPn (R326). -/
def State.tpSkip (s : State) (n k' : Nat) : State :=
  let k := sget (fun _ => 0) s.tm.tpNext n - 1
  let per := s.getF (tpF n Fld.tp.period) 0
  let s1 := { s with tm := { s.tm with tpNext := sset (fun _ => 0) s.tm.tpNext n (if per = 0 then 0 else k' + 1) } }
  (s1.raise (tpF n Fld.tp.tpLate) 0).countN 0x0F 0 (14 + 2 * n) (if per = 0 then 1 else k' - k)

/-- A level at the ball of TPn: POLARITY inverts it (R326). -/
def State.tpLevel (s : State) (n : Nat) (high : Bool) (r : Nat) : State :=
  s.emit (.edge n (high != s.flag (tpF n Fld.tp.polarity) 0) (w64 r))

/-- Ends a pulse of TPn at instant r. -/
def State.tpFall (s : State) (n r : Nat) : State :=
  let sp := sget (fun _ => (0, 0)) s.tm.tpSpan n
  let s1 := { s with tm := { s.tm with
    tpEnd := sset (fun _ => 0) s.tm.tpEnd n 0
    tpSpan := sset (fun _ => (0, 0)) s.tm.tpSpan n (sp.1, min sp.2 r) } }
  (s1.setF (tpF n Fld.tp.tpActive) 0 0).tpLevel n false r

/-- A leading edge of TPn at instant r: a pulse that ends by then ends first. -/
def State.tpRise (s : State) (n r : Nat) : State :=
  let e := sget (fun _ => 0) s.tm.tpEnd n
  let s0 := if e ≠ 0 ∧ e ≤ r then s.tpFall n e else s
  let k1 := sget (fun _ => 0) s.tm.tpNext n
  let per := s.getF (tpF n Fld.tp.period) 0
  let stop := r + 16 * s.getF (tpF n Fld.tp.width) 0
  let s1 := { s0 with tm := { s0.tm with
    tpNext := sset (fun _ => 0) s0.tm.tpNext n (if per = 0 then 0 else k1 + 1)
    tpEnd := sset (fun _ => 0) s0.tm.tpEnd n stop
    tpSpan := sset (fun _ => (0, 0)) s0.tm.tpSpan n (r + 1, stop) } }
  (((s1.setF (tpF n Fld.tp.tpActive) 0 1).count 0x0F 0 (13 + 2 * n)).tpLevel n true r).fireAt (176 + n) r none

/-- One decision about TPn: a skip, an edge, or nothing. -/
def State.tpOnce (s : State) (n : Nat) : State :=
  match s.tpDue n with
  | none => s
  | some (some r, _) => s.tpRise n r
  | some (none, k') => s.tpSkip n k'

/-- TP_EDGE: where edges are skipped, the next one may still fall in this tick; with the root PLL unlocked a tick covers 320
fine slots, and two edges may. -/
def State.tpEdge (s : State) (n : Nat) : State := (((s.tpOnce n).tpOnce n).tpOnce n).tpOnce n

def State.tpEndDue (s : State) (n : Nat) : Bool :=
  let e := sget (fun _ => 0) s.tm.tpEnd n
  decide (e ≠ 0 ∧ e < s.tm.lookTo)

/-- TP_PULSE_END; a single pulse clears TP_EN (R327). -/
def State.tpPulseEnd (s : State) (n : Nat) : State :=
  if !s.tpEndDue n then s
  else
    let s1 := s.tpFall n (sget (fun _ => 0) s.tm.tpEnd n)
    if s1.getF (tpF n Fld.tp.period) 0 = 0 then s1.setF (tpF n Fld.tp.tpEn) 0 0 else s1

/-! ### Timestamp capture (R328, R329) -/

/-- TIMESTAMP_CAPTURE: unit n stamps an event. -/
def State.stampEvent (s : State) (n stamp : Nat) : State :=
  let s0 := s.delivered (148 + n)
  if 64 ≤ (s0.tm.stamps.filter (fun e => decide (e.1 = n))).length then
    (s0.markLost (82 + n)).count 0x10 n 1
  else
    let c := sget (fun _ => 0) s0.tm.stampCount n + 1
    ({ s0 with tm := { s0.tm with
      stamps := s0.tm.stamps ++ [(n, w64 stamp, c)]
      stampCount := sset (fun _ => 0) s0.tm.stampCount n c } }).count 0x10 n 0

/-- The record of unit n, which empties its queue (R329). -/
def State.stampRecord (s : State) (n : Nat) : State × List Byte :=
  let l := s.tm.stamps.filter (fun e => decide (e.1 = n))
  match l with
  | [] => (s, [])
  | a :: _ =>
    let q := s.nextSeq (82 + n)
    let body := l.flatMap (fun e => leBytes 8 e.2.1 ++ leBytes 4 e.2.2 ++ leBytes 4 0)
    (({ q.2 with tm := { q.2.tm with stamps := q.2.tm.stamps.filter (fun e => decide (e.1 ≠ n)) } }).clearLost (82 + n),
      q.2.tag 6 n (s.lostFlag (82 + n)) a.2.1 (q.1 % 65536) ++ body)

/-! ### Commands -/

/-- TIME_READ. -/
def cmdTimeRead : Own := fun _ s =>
  let r := 16 * s.tick
  let t := sysFields (s.sysAt r)
  (s, Reply.ok4 (t.1 % 2 ^ 32) (t.1 / 2 ^ 32) t.2.1 (t.2.2 + (if (s.setAtRaw r).act then 2 ^ 16 else 0) + s.sysState * 2 ^ 17))

/-- TIME_SET_EPOCH (R320). -/
def cmdTimeSetEpoch (secs : Nat) : Own := fun id s =>
  (({ s with tm := { s.tm with epoch := s.tm.epoch ++ [(s.tick + 1000, secs, id)] } }).paramsChanged, Reply.wait)

/-- TIME_SWITCH (R322). -/
def cmdTimeSwitch (dom : Nat) (step : Bool) (tick : Nat) : Own := fun id s =>
  if 1 < dom then refuse s .badParam
  else if s.domState (decide (dom = 1)) ≠ 2 then refuse s .state
  else match s.tickParam tick with
    | none => refuse s .tooLate
    | some t =>
      (({ s with tm := { s.tm with switches := s.tm.switches ++ [(t, decide (dom = 1), step, id)] } }).paramsChanged, Reply.wait)

/-- TIME_CAPTURE_READ (R329). -/
def cmdTimeCaptureRead (h : Hdr) (units : Nat) : Own := fun _ s =>
  let ns := (setPositions units 16).filter (fun n => s.tm.stamps.any (fun e => decide (e.1 = n)))
  let r := ns.foldl (fun a n => let q := a.1.stampRecord n; (q.1, a.2 ++ q.2)) (s, ([] : List Byte))
  if h.extlen.toNat < r.2.length then refuse s .badParam
  else (r.1, { Reply.ok2 r.2.length (maskOf ns) with data := r.2 })

/-! ### OBJ_TIME (R334, R335) -/

/-- clockClass (R331). -/
def State.clockClass (s : State) : Nat :=
  let arb := s.flag Fld.time.epochArb 0
  if !s.flag Fld.time.epochSet 0 then 248
  else match s.sysState with
    | 1 => if arb then 13 else 6
    | 2 => if !s.tm.tracked then 248 else if arb then 14 else 7
    | _ => 248

/-- OBJ_TIME as it reads: fields the device computes from its time parameters. -/
def State.timeImage (s : State) (img : Nat) : Nat :=
  let p := s.setAtRaw (16 * s.tick)
  let c := contAt p s.now
  [ (Fld.time.cont, ofS 64 c), (Fld.time.offsetB, ofS 112 p.offB), (Fld.time.offsetA, ofS 112 p.offA),
    (Fld.time.rateB, ofS 40 p.rateB), (Fld.time.rateA, ofS 40 p.rateA), (Fld.time.rawNow, 16 * s.tick),
    (Fld.time.clockClass, s.clockClass), (Fld.time.rawAligned, if s.follower ∧ !s.tm.aligned then 0 else 1),
    (Fld.time.slewing, if c ≠ 0 then 1 else 0), (Fld.time.sysState, s.sysState),
    (Fld.time.actDomain, if p.act then 1 else 0) ].foldl (fun m e => setBits m e.1.lsb e.1.width e.2) img

/-- A signed 4-bit field lies in a range. -/
def inRange4 (f : Field) (img : Nat) (lo hi : Int) : Bool :=
  let v := toS 4 (fieldOf f img)
  decide (lo ≤ v ∧ v ≤ hi)

/-- Limits of block TPn (R327). -/
def badTp (n img : Nat) : Bool :=
  let per := fieldOf (tpF n Fld.tp.period) img
  let w := fieldOf (tpF n Fld.tp.width) img
  decide (1 ≤ per ∧ per < 16) || decide (w = 0) || decide (per ≠ 0 ∧ per ≤ w)

/-- Writes to OBJ_TIME that R335 refuses with BAD_PARAM: `new` is the image they would leave. -/
def badTime (new : Nat) : Bool :=
  let sl := fieldOf Fld.time.slewPpb new
  let w := fieldOf Fld.time.ppsOutWidth new
  decide (sl = 0 ∨ 100 < sl) || decide (w = 0 ∨ 999999999 < w) || decide (10 < fieldOf Fld.time.loopTc new) ||
    decide (fieldOf Fld.time.pulseWin new = 0) || !inRange4 Fld.time.logMinDreq new (-7) 5 ||
    !inRange4 Fld.time.logAnnounce new (-3) 4 || !inRange4 Fld.time.logSync new (-7) 4 ||
    decide (fieldOf Fld.time.ptpTransport new = 3) || decide (2 ≤ fieldOf Fld.time.timeRole new) ||
    (List.range 4).any (fun n => badTp n new)

/-- A field of block TPn other than TP_EN would change while TP_EN is 1 (R327). -/
def stateTp (n old new : Nat) : Bool :=
  decide (fieldOf (tpF n Fld.tp.tpEn) old = 1) &&
    [Fld.tp.width, Fld.tp.period, Fld.tp.polarity, Fld.tp.base, Fld.tp.startFine, Fld.tp.start].any
      (fun f => changed (tpF n f) old new)

/-- Every curator is INVALID, LOADED, HALTED or FAULTED (R335). -/
def State.curatorsQuiet (s : State) : Bool :=
  s.objs.all (fun e =>
    let st := fieldOf Fld.curator.state e.2
    decide (e.1 / 65536 ≠ 5) || decide (st ≠ 2 ∧ st ≠ 3))

/-- Writes to OBJ_TIME that complete with STATE: one whose range covers TIME_ROLE, whatever it writes there, while a curator is
ARMED or RUNNING (R335), and one to the fields of an enabled time pulse (R327). -/
def State.stateTime (s : State) (old new mask : Nat) : Bool :=
  (decide (mask &&& ones Fld.time.timeRole.lsb 2 ≠ 0) && !s.curatorsQuiet) ||
    (List.range 4).any (fun n => stateTp n old new)

/-- TP_EN of TPn would be set with no edge to come (R327). -/
def State.tooLateTime (s : State) (old new : Nat) : Bool :=
  (List.range 4).any (fun n =>
    decide (fieldOf (tpF n Fld.tp.tpEn) old = 0 ∧ fieldOf (tpF n Fld.tp.tpEn) new = 1) &&
      (s.tpFirst new n (16 * (s.tick + 1000))).isNone)

/-- DOM_EN of a domain was written (R315, R321). -/
def State.domEnWritten (s : State) (b : Bool) (old new : Nat) : State :=
  let f := if b then Fld.time.domEnB else Fld.time.domEnA
  if !changed f old new then s
  else
    let d := { s.dom b with edges := [], misses := 0, lockAt := none, updates := [] }
    (s.setDom b d).setDomState b (if fieldOf f new = 1 then 1 else 0)

/-- Clearing DOM_EN of the active domain switches when the other domain is LOCKED (R321). -/
def State.domEnSwitch (s : State) (old new : Nat) : State :=
  let a := s.tm.now.act
  let f := if a then Fld.time.domEnB else Fld.time.domEnA
  if changed f old new ∧ fieldOf f new = 0 ∧ s.domState (!a) = 2 then s.switchTo (!a) false else s

/-- TP_EN of TPn was written (R327). -/
def State.tpEnWritten (s : State) (n old new : Nat) : State :=
  if !changed (tpF n Fld.tp.tpEn) old new then s
  else if fieldOf (tpF n Fld.tp.tpEn) new = 1 then
    match s.tpFirst new n (16 * (s.tick + 1000)) with
    | some k => { s with tm := { s.tm with tpNext := sset (fun _ => 0) s.tm.tpNext n (k + 1) } }
    | none => s
  else
    let s1 := { s with tm := { s.tm with tpNext := sset (fun _ => 0) s.tm.tpNext n 0 } }
    if sget (fun _ => 0) s.tm.tpEnd n = 0 then s1 else s1.tpFall n s.now

/-- SLEW_PPB was written, or TIME_ROLE of a follower, which decayed at the limit of its reference: the continuity offset decays at
the limit of the register from here (R323). -/
def State.slewWritten (s : State) (new : Nat) : State :=
  if s.tm.now.slew = fieldOf Fld.time.slewPpb new then s
  else
    let r := s.changeInstant
    s.changeSet false r (fun q => { q with cont0 := contAt q r, contAt := r, slew := fieldOf Fld.time.slewPpb new })

/-- PPS_OUT_EN and PPS_OUT_SRC were written (R325, R334): low when 0; another source has emitted nothing. -/
def State.ppsOutWritten (s : State) (old new : Nat) : State :=
  let s1 := if changed Fld.time.ppsOutSrc old new then { s with tm := { s.tm with ppsLast := 0 } } else s
  if fieldOf Fld.time.ppsOutEn new = 0 ∧ s1.tm.ppsFall ≠ 0 then
    ({ s1 with tm := { s1.tm with ppsFall := 0, ppsSpan := (s1.tm.ppsSpan.1, min s1.tm.ppsSpan.2 s.now) } }).emit
      (.edge 4 false (16 * s.tick))
  else s1

/-- What a write to OBJ_TIME does beside its fields. -/
def State.timeWritten (s : State) (old new : Nat) : State :=
  let s1 := (((s.slewWritten new).domEnWritten false old new).domEnWritten true old new).domEnSwitch old new
  (List.range 4).foldl (fun t n => t.tpEnWritten n old new) (s1.ppsOutWritten old new)

/-! ### Meanings -/

/-- TIME_READ (R430, R312, R319). -/
def execTimeRead (h : Hdr) (s : State) : Host.Outcome State Fault Refusal := run (.timeRead h) h cmdTimeRead s

/-- TIME_SET_EPOCH (R320). -/
def execTimeSetEpoch (h : Hdr) (secs : BitVec 64) (s : State) : Host.Outcome State Fault Refusal :=
  run (.timeSetEpoch h secs) h (cmdTimeSetEpoch secs.toNat) s

/-- TIME_SWITCH (R322). -/
def execTimeSwitch (h : Hdr) (dom : BitVec 8) (step : Bool) (tick : BitVec 64) (s : State) :
    Host.Outcome State Fault Refusal :=
  run (.timeSwitch h dom step tick) h (cmdTimeSwitch dom.toNat step tick.toNat) s

/-- TIME_CAPTURE_READ (R329). -/
def execTimeCaptureRead (h : Hdr) (units : BitVec 16) (s : State) : Host.Outcome State Fault Refusal :=
  run (.timeCaptureRead h units) h (cmdTimeCaptureRead h units.toNat) s

/-- PPS_EDGE (R317): `fine` is the fine slot within the present tick. -/
def execPpsEdge (b : Bool) (fine : BitVec 4) (s : State) : Host.Outcome State Fault Refusal :=
  .next (s.ppsEdge b (s.raw + fine.toNat))

/-- PULSE_MISS (R317). -/
def execPulseMiss (b : Bool) (s : State) : Host.Outcome State Fault Refusal := .next (s.pulseMiss b)

/-- DOMAIN_LOCK (R316). -/
def execDomainLock (b : Bool) (s : State) : Host.Outcome State Fault Refusal := .next (s.domainLock b)

/-- LOOP_UPDATE (R318). -/
def execLoopUpdate (b : Bool) (s : State) : Host.Outcome State Fault Refusal := .next (s.loopUpdate b)

/-- EPOCH_STEP (R320). -/
def execEpochStep (s : State) : Host.Outcome State Fault Refusal := .next s.epochStep

/-- DOMAIN_SWITCH (R323). -/
def execDomainSwitch (s : State) : Host.Outcome State Fault Refusal := .next s.domainSwitch

/-- TP_EDGE (R326). -/
def execTpEdge (n : Fin 4) (s : State) : Host.Outcome State Fault Refusal := .next (s.tpEdge n.val)

/-- TP_PULSE_END (R326). -/
def execTpPulseEnd (n : Fin 4) (s : State) : Host.Outcome State Fault Refusal := .next (s.tpPulseEnd n.val)

/-- PPS_OUT_EDGE (R325). -/
def execPpsOutEdge (s : State) : Host.Outcome State Fault Refusal := .next s.ppsOutEdge

/-- PPS_OUT_FALL (R325). -/
def execPpsOutFall (s : State) : Host.Outcome State Fault Refusal := .next s.ppsOutFall

/-- TIMESTAMP_CAPTURE (R328). -/
def execTimestampCapture (n : Fin 16) (fine : BitVec 64) (s : State) : Host.Outcome State Fault Refusal :=
  .next (s.stampEvent n.val fine.toNat)

end Sys2Proof.Machine
end

