-- ==== Sys2Proof/Machine/Vitrine.lean ====
section
/-! DEFINITION. Vitrines (10_vitrines.md): sources, triggers, masks, records and their delivery; with them the rows that
also trigger vitrines: the delivery of verdicts and cue words. -/

namespace Sys2Proof.Machine

/-! ### Configuration (R263, R267) -/

def viKind (c : Nat) : Nat := fieldOf Fld.vitrine.srcKind c
def viSrc (c : Nat) : Nat := fieldOf Fld.vitrine.src c
def viPre (c : Nat) : Nat := fieldOf Fld.vitrine.preTicks c
def viPost (c : Nat) : Nat := fieldOf Fld.vitrine.postTicks c
def viMaskEn (c : Nat) : Bool := decide (fieldOf Fld.vitrine.maskEn c = 1)
def viMaskLen (c : Nat) : Nat := fieldOf Fld.vitrine.maskLenM1 c + 1
def viRing (c : Nat) : Nat := 72 + fieldOf Fld.vitrine.ring c

/-- Samples per tick and bytes per sample (R263). -/
def viPerTick (c : Nat) : Nat := match viKind c with | 0 => 8 | 3 => 16 | 4 => 8 | _ => 1
def viSampleBytes (c : Nat) : Nat := match viKind c with | 1 => 4 | 2 => 4 | _ => 2

/-- The output class (R263). -/
def viOutputClass (c : Nat) : Bool := decide (viKind c = 3 ∨ viKind c = 4)

/-- Source input, for every kind but 3. -/
def viInput (c : Nat) : Nat := if viKind c = 2 then inputOfRc (viSrc c) else viSrc c

/-- Domain of the source's tile. -/
def viDom (c : Nat) : Nat := if viKind c = 3 then domDT (dtOfOutput (viSrc c)) else domAT (viInput c / 4)

/-- Bytes a record and its mask need (R267). -/
def viBytes (c : Nat) : Nat :=
  (viPre c + viPost c) * (viPerTick c * viSampleBytes c) + (if viMaskEn c then 4 * viMaskLen c else 0)

/-- First row of the checks of VIT_ARM (R277). -/
def badVitArm (c : Nat) : Bool :=
  let k := viKind c
  decide (4 < k) || decide ((k = 0 ∨ k = 1 ∨ k = 4) ∧ 31 < viSrc c) || decide (k = 3 ∧ 95 < viSrc c) ||
    decide (viPost c = 0) || decide (2097152 < viBytes c) || decide (fieldOf Fld.vitrine.lvlSlope c = 3) ||
    decide (65536 < fieldOf Fld.vitrine.maskAddr c + viMaskLen c) ||
    (viMaskEn c && (!viOutputClass c || decide (95 < fieldOf Fld.vitrine.maskBank c))) || decide (8 < fieldOf Fld.vitrine.maskStep c)

/-- Lag of the samples at the vitrine (R263): A(n) = n + lag. -/
def State.viLag (s : State) (c : Nat) : Int :=
  match viKind c with
  | 0 => 10
  | 1 => 32
  | 2 => 34
  | 3 => if s.outMode (viSrc c) = 1 then -18 else -10
  | _ => 10

/-- Tick A(n). -/
def State.viArrival (s : State) (c n : Nat) : Nat := ((n : Int) + s.viLag c).toNat

/-! ### Capture (R264 to R266, R269) -/

def State.viRun (s : State) (v : Nat) : ViRun := sget (fun _ => ViRun.none) s.vi.run v

def State.setViRun (s : State) (v : Nat) (r : ViRun) : State :=
  { s with vi := { s.vi with run := sset (fun _ => ViRun.none) s.vi.run v r } }

/-- STATE of a vitrine: 0 IDLE, 1 ARMED, 2 FILLING, 3 SCANNING, 4 DONE. -/
def State.viState (s : State) (v : Nat) : Nat := s.getF Fld.vitrine.state v

/-- The samples of ball tick n of a source, as the vitrine takes them now (R264): an output that is not ACTIVE gives
zero codes (R99). -/
def State.viSamples (s : State) (c n : Nat) : List Int :=
  match viKind c with
  | 1 => let z := s.ddc (viSrc c) n; [z.i, z.q]
  | 2 => let z := s.baseband (viSrc c) n; [z.i, z.q]
  | 3 =>
    let r := 16 * (n - pathLatency (s.outMode (viSrc c)))
    (List.range 16).map (fun (k : Nat) => if s.getF Fld.output.state (viSrc c) = 2 then s.dacCode (viSrc c) (r + k) else 0)
  | _ => (List.range 8).map (fun k => s.adcCode (viSrc c) (8 * n + k))

/-- Whether a sample lies at a code limit of its source (R279). -/
def viAtLimit (c : Nat) (x : Int) : Bool :=
  match viKind c with
  | 3 => decide (x = -8192 ∨ x = 8191)
  | 1 => decide (x = -32768 ∨ x = 32767)
  | 2 => decide (x = -32768 ∨ x = 32767)
  | _ => decide (x = -2048 ∨ x = 2047)

/-- The samples of one tick as the level comparator and the scan see them: one component of a complex source. -/
def viReal (c comp : Nat) (l : List Int) : List Int :=
  if viKind c = 1 ∨ viKind c = 2 then [l.getD comp 0] else l

/-- One sample at a level comparator (R269): the new marks and whether it crosses. -/
def crossStep (level hyst slope : Int) (m : Bool × Bool) (x : Int) : (Bool × Bool) × Bool :=
  let up := m.1 && decide (level ≤ x)
  let down := m.2 && decide (x ≤ level)
  let lo := (m.1 && !up) || decide (x ≤ level - hyst)
  let hi := (m.2 && !down) || decide (level + hyst ≤ x)
  ((lo, hi), (up && decide (slope ≠ 1)) || (down && decide (slope ≠ 0)))

/-- The first crossing among the samples of a tick, and the marks after them. -/
def crossScan (level hyst slope : Int) : (Bool × Bool) → Nat → List Int → (Bool × Bool) × Option Nat
  | m, _, [] => (m, none)
  | m, k, x :: l =>
    let a := crossStep level hyst slope m x
    let b := crossScan level hyst slope a.1 (k + 1) l
    (b.1, if a.2 then some k else b.2)

/-- The level comparator on the samples of ball tick n (R269). -/
def ViRun.watch (r : ViRun) (n : Nat) (l : List Int) : ViRun :=
  let c := r.cfg
  let x := crossScan (toS 16 (fieldOf Fld.vitrine.level c)) (fieldOf Fld.vitrine.hyst c) (fieldOf Fld.vitrine.lvlSlope c)
    (r.lowSeen, r.highSeen) 0 (viReal c (fieldOf Fld.vitrine.lvlComp c) l)
  { r with
    scan := n + 1, lowSeen := x.1.1, highSeen := x.1.2
    lvl := match x.2 with
      | some k => if bit (fieldOf Fld.vitrine.trigEn c) 2 then r.lvl ++ [(n, k)] else r.lvl
      | .none => r.lvl }

/-- Number of the latest captured ball tick plus one, or the arm tick. -/
def ViRun.nextTick (r : ViRun) : Nat :=
  match r.cap with
  | [] => r.ta
  | x :: _ => max r.ta (x.1 + 1)

/-- Captures the samples of ball tick n. -/
def State.viCapture (s : State) (v n : Nat) : State :=
  let r := s.viRun v
  let c := r.cfg
  let l := s.viSamples c n
  let stale := decide (viKind c ≠ 3) && s.inCalSpan (viInput c) n
  let cap := (n, stale, l) :: r.cap
  let r1 := { r.watch n l with cap := if s.viState v = 1 then cap.take (viPre c + 64) else cap }
  let s1 := s.setViRun v r1
  if l.any (viAtLimit c) then s1.raise Fld.vitrine.ovr v else s1

/-- First sample of a tick that breaks the mask, among samples from index i (R273). -/
def maskScan (c : Nat) (mask : List Nat) : Nat → List Int → Option Nat
  | _, [] => none
  | i, x :: l =>
    let j := i / 2 ^ fieldOf Fld.vitrine.maskStep c
    let w := mask.getD j 0
    if j < mask.length ∧ (x < toS 16 (bits w 0 16) ∨ toS 16 (bits w 16 16) < x) then some i
    else maskScan c mask (i + 1) l

/-- Tests the captured samples from the trigger on that have not been tested (R273, R274). -/
def State.viTest (s : State) (v : Nat) : State :=
  let r := s.viRun v
  let c := r.cfg
  if !viMaskEn c ∨ s.viState v ≠ 2 ∨ r.viol.isSome then s
  else
    let q := viPerTick c
    let todo := (r.cap.filter (fun x => decide (r.testFrom ≤ x.1 ∧ x.1 ≤ r.nlast))).reverse
    let hit := todo.findSome? (fun x => (maskScan c r.mask ((x.1 - r.trig) * q) x.2.2).map (fun i => (x.1, i)))
    match hit with
    | some h =>
      s.setViRun v { r with viol := some (max (s.viArrival c h.1 + 2) s.tick, (r.trig - r.first) * q + h.2) }
    | .none => s.setViRun v { r with testFrom := max r.testFrom r.nextTick }

/-- A vitrine takes the samples of ball tick n that have arrived: it captures them in ARMED and up to the end of a fill; later
ones only meet its level comparator, whose crossings it ignores (R269, R271). -/
def State.viTakeTick (s : State) (v n : Nat) : State :=
  let r := s.viRun v
  let st := s.viState v
  if st = 1 ∨ (st = 2 ∧ n ≤ r.nlast ∧ r.cutAt.isNone) then s.viCapture v n
  else if bit (fieldOf Fld.vitrine.trigEn r.cfg) 2 then s.setViRun v (r.watch n (s.viSamples r.cfg n))
  else s.setViRun v { r with scan := n + 1 }

/-- The trigger that a vitrine has taken counts, and an event that gave it as delivered (R284, R339). -/
def State.viSettle (s : State) (v : Nat) : State :=
  let r := s.viRun v
  if !r.unsettled then s
  else
    let s1 := (s.setViRun v { r with unsettled := false }).count 0x0B v 1
    if r.byEvt then s1.delivered (128 + v) else s1

/-- No trigger of an earlier ball tick can come any more: the level comparator is off or has looked at every tick before the
trigger's, or the source is lost. -/
def ViRun.final (r : ViRun) : Bool :=
  !bit (fieldOf Fld.vitrine.trigEn r.cfg) 2 || r.lostAt.isSome ||
    (decide (r.trig ≤ r.scan) && r.lvl.all (fun x => decide (r.trig ≤ x.1)))

/-- End of a tick for one vitrine outside IDLE: it takes what has arrived, tests it, and counts its trigger once none can take its
place. -/
def State.viTick (s : State) (v : Nat) : State :=
  let r := s.viRun v
  let taken :=
    if s.viState v = 0 ∨ r.lostAt.isSome ∨ !s.vitClocked then s
    else
      let top := ((s.tick : Int) - s.viLag r.cfg).toNat
      ((List.range' r.scan (top + 1 - r.scan)).foldl (fun u n => u.viTakeTick v n) s).viTest v
  if (taken.viRun v).final then taken.viSettle v else taken

def State.vitrineTick (s : State) : State :=
  if !s.powered domVIT then s else (List.range 8).foldl State.viTick s

/-! ### Triggers (R268, R271) -/

/-- A trigger at ball tick T that a vitrine does not take: triggers of several sources at one T are one (R271). -/
def State.viIgnored (s : State) (v t : Nat) : State :=
  let r := s.viRun v
  if r.ignored.contains t then s
  else (s.setViRun v { r with ignored := t :: r.ignored.filter (fun x => decide (s.tick < x + 128)) }).count 0x0B v 2

/-- Whether a trigger at ball tick T can be taken (R271). -/
def viTakes (r : ViRun) (t : Nat) : Bool :=
  r.started && decide (r.ta ≤ t) && (decide (fieldOf Fld.vitrine.preFull r.cfg = 0) || decide (r.ta + viPre r.cfg ≤ t))

/-- Sets the record's geometry for a trigger at T, sample k of the tick (R266), and tests the samples from T on that are already
stored (R273). -/
def State.viGeometry (s : State) (v t k cause : Nat) : State :=
  let r := s.viRun v
  let c := r.cfg
  let first := if t < r.ta + viPre c then r.ta else t - viPre c
  let s1 := (s.setF Fld.vitrine.trigTick v t).setF Fld.vitrine.trigCause v (1 <<< cause)
  let s2 := if t < r.ta + viPre c then s1.raise Fld.vitrine.preShort v else s1
  (s2.setViRun v { r with trig := t, trigIndex := (t - first) * viPerTick c + k, first := first
                          nlast := t + viPost c - 1, testFrom := t, viol := .none, preShort := decide (t < r.ta + viPre c) }).viTest v

/-- A trigger that a vitrine had taken counts as ignored after all, and an event that gave it as busy (R268, R271, R278). -/
def State.viIgnoreTaken (s : State) (v : Nat) : State :=
  let s1 := s.viIgnored v (s.viRun v).trig
  if (s.viRun v).byEvt then (s1.setViRun v { s1.viRun v with byEvt := false }).busyDrop (128 + v) else s1

/-- A trigger from source `cause` (bit order of TRIG_EN, command 5) at ball tick T, sample k: answers whether it was
taken (R268, R271). A level crossing that lies before a trigger already taken takes its place. -/
def State.viTrigger (s : State) (v t k cause : Nat) : Bool × State :=
  let r := s.viRun v
  let st := s.viState v
  if st = 1 ∧ viTakes r t then
    (true, ((s.setViRun v { r with before := s.obj 0x0C v, byEvt := decide (cause = 0), unsettled := true }).setF
      Fld.vitrine.state v 2).viGeometry v t k cause)
  else if st = 2 ∧ r.trig = t then
    (true, (s.setViRun v { r with byEvt := r.byEvt || decide (cause = 0) }).setF Fld.vitrine.trigCause v
      (s.getF Fld.vitrine.trigCause v ||| (1 <<< cause)))
  else if st = 2 ∧ cause = 2 ∧ t < r.trig ∧ viTakes r t then (true, (s.viIgnoreTaken v).viGeometry v t k cause)
  else (false, s.viIgnored v t)

/-- Configuration that decides a vitrine's trigger sources: the run's, or the object's while there is none. -/
def State.viCfg (s : State) (v : Nat) : Nat := if s.viState v = 0 then s.obj 0x0C v else (s.viRun v).cfg

/-- Verdict triggers of one delivered beat (R268). -/
def State.viVerdicts (s : State) (b : List VPend) : State :=
  if !s.powered domVIT then s
  else b.foldl
    (fun u f => (List.range 8).foldl
      (fun w v =>
        let c := w.viCfg v
        if bit (fieldOf Fld.vitrine.trigEn c) 1 ∧ fieldOf Fld.vitrine.verdict c = f.idx ∧
            bit (fieldOf Fld.vitrine.codeMask c) f.v.code then (w.viTrigger v w.tick 0 1).2 else w) u) s

/-- A cue word at the vitrines (R270). -/
def State.viCue (s : State) (n w : Nat) : State :=
  if !s.powered domVIT then s
  else (List.range 8).foldl
    (fun u v =>
      let c := u.viCfg v
      let m := fieldOf Fld.vitrine.cueMask c
      if bit (fieldOf Fld.vitrine.trigEn c) 4 ∧ fieldOf Fld.vitrine.cueIn c = n ∧
          w &&& m = fieldOf Fld.vitrine.cueValue c &&& m then (u.viTrigger v u.tick 0 4).2 else u) s

/-- TB_TICK is due. -/
def State.viTbDue (s : State) (v : Nat) : Bool :=
  let c := s.viCfg v
  s.powered domVIT && bit (fieldOf Fld.vitrine.trigEn c) 3 && decide (fieldOf Fld.vitrine.tbTick c = s.tick)

/-- LEVEL_TRIGGER is due: a crossing whose ball tick has come. -/
def State.viLevelDue (s : State) (v : Nat) : Bool :=
  match (s.viRun v).lvl with
  | x :: _ => decide (x.1 ≤ s.tick)
  | [] => false

/-- LEVEL_TRIGGER (R269). -/
def State.viLevel (s : State) (v : Nat) : State :=
  if !s.viLevelDue v then s
  else match (s.viRun v).lvl with
    | x :: l => ((s.setViRun v { s.viRun v with lvl := l }).viTrigger v x.1 x.2 2).2
    | [] => s

/-! ### Records (R279 to R281) -/

/-- The samples of a record in order, one list entry per sample index (a complex sample is a pair). -/
def viRecord (r : ViRun) : List (Bool × List Int) :=
  let c := r.cfg
  let ticks := (r.cap.filter (fun x => decide (r.first ≤ x.1 ∧ x.1 ≤ r.nlast))).reverse
  let all := ticks.flatMap (fun x =>
    if viSampleBytes c = 4 then [(x.2.1, x.2.2)] else x.2.2.map (fun y => (x.2.1, [y])))
  match r.cutAt with
  | some n => all.take n
  | .none => all

/-- Reference instant of sample i of a record (R264). -/
def viInstant (r : ViRun) (i : Nat) : Nat :=
  let q := viPerTick r.cfg
  16 * (r.first + i / q) + i % q * (16 / q)

/-- Integer square root by trying bits from the top. -/
def isqrt (n : Nat) : Nat := (List.range 64).foldl (fun a k => let b := a + 2 ^ (63 - k); if b * b ≤ n then b else a) 0

/-- Indexes of the rising crossings of ZC_LEVEL (R281). -/
def viCrossings (c : Nat) (xs : List Int) : List Nat :=
  let lv := toS 16 (fieldOf Fld.vitrine.zcLevel c)
  (xs.foldl
    (fun (a : (Bool × Bool) × Nat × List Nat) x =>
      let st := crossStep lv (fieldOf Fld.vitrine.hyst c) 0 a.1 x
      (st.1, a.2.1 + 1, if st.2 then a.2.1 :: a.2.2 else a.2.2)) ((false, false), 0, [])).2.2.reverse

/-- Bytes 64–127 of the header of a readout-class record of N > 0 samples (R281). -/
def viScan (c : Nat) (xs : List Int) : List Byte :=
  let n : Int := xs.length
  let sum := xs.foldl (· + ·) 0
  let sq := xs.foldl (fun a x => a + x * x) 0
  let mn := xs.foldl min (xs.getD 0 0)
  let mx := xs.foldl max (xs.getD 0 0)
  let mean := (2 * (sum * 65536) + n) / (2 * n)
  let cr := viCrossings c xs
  let k := cr.length
  let d : Int := (cr.getD (k - 1) 0 : Int) - cr.getD 0 0
  let period : Int := if k < 2 then 0 else (2 * (d * 65536) + ((k : Int) - 1)) / (2 * ((k : Int) - 1))
  let lvl : Int := fieldOf Fld.vitrine.burstLevel c
  let burst := (List.range xs.length).filter (fun i => decide (lvl ≤ ((xs.getD i 0).natAbs : Int)))
  let lastOr := fun (l : List Nat) (i : Nat) => if l = [] then 0xFFFFFFFF else l.getD i 0
  leBytes 2 (ofS 16 mn) ++ leBytes 2 (ofS 16 mx) ++ leBytes 2 (mx - mn).toNat ++ leBytes 2 0 ++
    leBytes 8 (ofS 64 mean) ++ leBytes 8 (isqrt ((sq * 2 ^ 32).toNat / xs.length)) ++ leBytes 8 period.toNat ++
    leBytes 4 k ++ leBytes 4 (lastOr burst 0) ++ leBytes 4 (lastOr burst (burst.length - 1)) ++ leBytes 20 0

/-- Header bytes 64–127: zero for the output class; of an empty readout-class record the spec states no measurements,
so they are free values, with PP the difference of the free MIN and MAX. -/
def State.viMeasure (s : State) (r : ViRun) : List Byte × State :=
  if viOutputClass r.cfg then (leBytes 64 0, s)
  else
    let xs := (viRecord r).map (fun x => x.2.getD (if viSampleBytes r.cfg = 4 then fieldOf Fld.vitrine.measComp r.cfg else 0) 0)
    if xs = [] then
      let d := s.draw
      let mn := (Config.freeWord d.1).toNat % 2 ^ 16
      let mx := (Config.freeWord d.1).toNat / 2 ^ 16 % 2 ^ 16
      (leBytes 2 mn ++ leBytes 2 mx ++ leBytes 2 (mx + 2 ^ 16 - mn) ++ leBytes 2 0 ++ leBytes 8 (Config.freeWord (d.1 + 2 ^ 32)).toNat ++
        leBytes 8 (Config.freeWord (d.1 + 2 ^ 33)).toNat ++ leBytes 8 0 ++ leBytes 4 0 ++ leBytes 8 (2 ^ 64 - 1) ++
        leBytes 20 0, d.2)
    else (viScan r.cfg xs, s)

/-- Tag flags of a span of a record (R279). -/
def viFlags (c : Nat) (l : List (Bool × List Int)) : Nat :=
  (if l.any (fun x => x.1) then 1 else 0) + (if l.any (fun x => x.2.any (viAtLimit c)) then 2 else 0)

/-- Cuts a record into lists of n samples. -/
def chunks {α : Type} (n : Nat) : Nat → List α → List (List α)
  | 0, _ => []
  | fuel + 1, l => if l.isEmpty then [] else l.take n :: chunks n fuel (l.drop n)

/-- The data blocks of a record: raw time of the first sample, flags, 480 bytes (R279). -/
def viData (r : ViRun) (l : List (Bool × List Int)) : List (Nat × Nat × List Byte) :=
  let c := r.cfg
  let per := 480 / viSampleBytes c
  let bs := chunks per l.length l
  ((List.range bs.length).zip bs).map (fun e =>
    (viInstant r (e.1 * per), viFlags c e.2,
      e.2.flatMap (fun x => x.2.flatMap (fun y => leBytes 2 (ofS 16 y))) ++
        leBytes (480 - e.2.length * viSampleBytes c) 0))

/-- The blocks of a finished record (R279, R280). -/
def State.viBlocks (s : State) (v : Nat) : List (Nat × Nat × List Byte) × State :=
  let r := s.viRun v
  let c := r.cfg
  let l := viRecord r
  let data := viData r l
  let m := s.viMeasure r
  let fl := viFlags c l
  let rf := (if r.preShort then 1 else 0) + 2 * fl
  let header :=
    leBytes 1 (viKind c) ++ leBytes 1 (s.getF Fld.vitrine.endReason v) ++ leBytes 2 (viSrc c) ++
    leBytes 1 (s.getF Fld.vitrine.trigCause v) ++ leBytes 1 rf ++
    leBytes 2 (if viKind c = 4 then fieldOf Fld.vitrine.loopOut c else 0) ++ leBytes 8 r.trig ++ leBytes 8 r.first ++
    leBytes 4 l.length ++ leBytes 4 r.trigIndex ++ leBytes 4 (s.getF Fld.vitrine.violIndex v) ++ leBytes 4 data.length ++
    leBytes 1 (viSampleBytes c) ++ leBytes 1 (viPerTick c) ++ leBytes 22 0 ++ m.1 ++ leBytes 352 0
  ((viInstant r 0, fl, header) :: data, m.2)

/-! ### Events of a run (R274 to R276, R280) -/

/-- VIT_CAPTURE_START (R277): the arm tick has come. -/
def State.viStartDue (s : State) (v : Nat) : Bool :=
  let r := s.viRun v
  decide (s.viState v = 1 ∧ r.ta ≤ s.tick) && !r.started

def State.viStart (s : State) (v : Nat) : State :=
  if s.viStartDue v then s.setViRun v { s.viRun v with started := true } else s

/-- Ticks of a scan after the fill (R276). -/
def viScanTicks (r : ViRun) : Nat :=
  if viOutputClass r.cfg then 2 else (((viRecord r).length * viSampleBytes r.cfg + 31) / 32) + 8

/-- The fill ends with a reason: 1 FULL, 3 SOURCE_LOST (R275). -/
def State.viFillOver (s : State) (v reason : Nat) : State :=
  let r := s.viRun v
  let s1 := s.setF Fld.vitrine.endReason v reason
  let s2 := if viOutputClass r.cfg then s1 else s1.setF Fld.vitrine.state v 3
  s2.setViRun v { r with doneAt := some (s.tick + viScanTicks r) }

/-- MASK_VIOLATION is due. -/
def State.viViolDue (s : State) (v : Nat) : Bool :=
  let r := s.viRun v
  decide (s.viState v = 2) && r.doneAt.isNone && r.viol.any (fun x => decide (x.1 ≤ s.tick))

/-- MASK_VIOLATION (R274). -/
def State.viViolation (s : State) (v : Nat) : State :=
  match s.viViolDue v, (s.viRun v).viol with
  | true, some x =>
    let s1 := (((s.setF Fld.vitrine.violIndex v x.2).raise Fld.vitrine.violation v).setF Fld.vitrine.endReason v 2).count 0x0B v 4
    (s1.setViRun v { s1.viRun v with cutAt := some (x.2 + 1), doneAt := some (s.tick + 2) }).fire (168 + v)
  | _, _ => s

/-- The last sample of the fill has been stored. -/
def ViRun.full (r : ViRun) : Bool := decide (r.nlast < r.nextTick)

/-- FILL_END is due (R275). -/
def State.viFillDue (s : State) (v : Nat) : Bool :=
  let r := s.viRun v
  decide (s.viState v = 2) && r.doneAt.isNone && r.viol.isNone && r.full && decide (s.viArrival r.cfg r.nlast + 2 ≤ s.tick)

/-- FILL_END (R275). -/
def State.viFillEnd (s : State) (v : Nat) : State := if s.viFillDue v then s.viFillOver v 1 else s

/-- POST_TRIGGER_WAIT_LIMIT is due (R275). -/
def State.viLimitDue (s : State) (v : Nat) : Bool :=
  let r := s.viRun v
  decide (s.viState v = 2) && r.doneAt.isNone && r.viol.isNone && !r.full && decide (r.nlast + 40 ≤ s.tick)

/-- POST_TRIGGER_WAIT_LIMIT (R275). -/
def State.viLimit (s : State) (v : Nat) : State :=
  if s.viLimitDue v then ((s.raise Fld.vitrine.srcLost v).count 0x0B v 5).viFillOver v 3 else s

/-- VITRINE_DONE is due (R276). -/
def State.viDoneDue (s : State) (v : Nat) : Bool :=
  decide (s.viState v = 2 ∨ s.viState v = 3) && (s.viRun v).doneAt.any (fun t => decide (t ≤ s.tick))

/-- VITRINE_DONE (R276). -/
def State.viDone (s : State) (v : Nat) : State :=
  if !s.viDoneDue v then s
  else
    let b := s.viBlocks v
    let r := b.2.viRun v
    let s1 := ((b.2.setF Fld.vitrine.state v 4).setF Fld.vitrine.nsamples v (viRecord r).length).raise Fld.vitrine.done v
    let s2 := s1.setViRun v { r with blocks := b.1, cap := [], doneAt := .none }
    (s2.count 0x0B v 3).fire (160 + v)

/-- Blocks of a record that will not be delivered: each advances the source's sequence (R17) and is counted as lost. -/
def State.viDiscard (s : State) (v : Nat) : State :=
  let r := s.viRun v
  let k := r.blocks.length
  if k = 0 then s
  else (((s.countN 0x0B v 7 k).countN 0x19 (65 + v) 0 k).setViRun v { r with blocks := [] }).markLost (65 + v)

/-- Number of a vitrine's current record, with which its ring entries are tagged. -/
def State.viTag (s : State) (v : Nat) : Nat := v + 8 * s.counter 0x0B v 3

/-- Entries that a length change discarded (R280): a block of the current record takes the rest of it along. -/
def State.viEntriesLost (s : State) (ring : Nat) (l : List Nat) : State :=
  l.foldl
    (fun u t =>
      let v := t % 8
      let u1 := u.markLost (65 + v)
      if t = u1.viTag v then (u1.ringLost ring (u1.viRun v).blocks.length).viDiscard v else u1) s

/-- VITRINE_BLOCK_WRITE is due: a block waits and its ring has a free entry (R280). -/
def State.viWriteDue (s : State) (v : Nat) : Bool :=
  let r := s.viRun v
  s.powered domVIT && decide (s.viState v = 4 ∧ r.blocks ≠ []) && s.ringRoom (viRing r.cfg)

/-- VITRINE_BLOCK_WRITE (R279, R280). -/
def State.viWrite (s : State) (v : Nat) : State :=
  if !s.viWriteDue v then s
  else
    let r := s.viRun v
    match r.blocks with
    | [] => s
    | b :: rest =>
      let q := s.nextSeq (65 + v)
      let bytes := q.2.tag 0x03 v (b.2.1 + s.lostFlag (65 + v)) b.1 (q.1 % 65536) ++ b.2.2
      let s1 := ((q.2.setViRun v { r with blocks := rest }).clearLost (65 + v)).count 0x0B v 6
      let s2 := if rest = [] then s1.setF Fld.vitrine.delivered v 1 else s1
      let o := s2.ringProduce (viRing r.cfg) bytes (s2.viTag v)
      o.1.viEntriesLost (viRing r.cfg) o.2

/-! ### Loss of the source (R265, R275) -/

/-- Copies a field of an image into the object. -/
def State.copyF (s : State) (f : Field) (inst img : Nat) : State := s.setF f inst (fieldOf f img)

/-- A trigger taken at the present tick is not taken after all: it counts as ignored, and what the object says of the last
trigger taken is as it was (R278, R283, "Same-tick cases"). -/
def State.viUntake (s : State) (v : Nat) : State :=
  [Fld.vitrine.trigTick, Fld.vitrine.trigCause, Fld.vitrine.preShort].foldl (fun u f => u.copyF f v (s.viRun v).before)
    ((s.viIgnoreTaken v).setViRun v { (s.viIgnoreTaken v).viRun v with unsettled := false })

/-- A vitrine without a run: what it has ignored stays known. -/
def State.viIdle (s : State) (v : Nat) : State := s.setViRun v { ViRun.none with ignored := (s.viRun v).ignored }

/-- A vitrine's source is lost at the present tick; a trigger of the same tick finds it lost in ARMED. -/
def State.viLost (s : State) (v : Nat) : State :=
  let r := s.viRun v
  let same := decide (s.viState v = 2 ∧ r.trig = s.tick)
  if s.viState v = 1 ∨ same then
    (((if same then s.viUntake v else s).setF Fld.vitrine.state v 0).raise Fld.vitrine.srcLost v).count 0x0B v 5
      |>.viIdle v
  else if 2 ≤ s.viState v ∧ r.lostAt.isNone then s.setViRun v { r with lostAt := some s.tick }
  else s

/-- An input leaves RUNNING or CAL, or loses its tile. -/
def State.vitrineInputOff (s : State) (i : Nat) : State :=
  (List.range 8).foldl (fun u v => if viKind (u.viRun v).cfg ≠ 3 ∧ viInput (u.viRun v).cfg = i then u.viLost v else u) s

/-- An output becomes UNPOWERED. -/
def State.vitrineOutputOff (s : State) (o : Nat) : State :=
  (List.range 8).foldl (fun u v => if viKind (u.viRun v).cfg = 3 ∧ viSrc (u.viRun v).cfg = o then u.viLost v else u) s

/-! ### Commands (R277, R278) -/

/-- Mask words of an archive bank (R272). -/
def State.viMaskWords (s : State) (c : Nat) : List Nat :=
  if viMaskEn c then
    (List.range (viMaskLen c)).map (fun j =>
      let k := 65536 * fieldOf Fld.vitrine.maskBank c + fieldOf Fld.vitrine.maskAddr c + j
      if wordAt s.arc.wordErr k = 2 then 0 else wordAt s.arc.words k)
  else []

/-- Earliest arm tick (R277). -/
def State.armEarliest (s : State) (cs : List Nat) : Nat :=
  s.tick + 1000 + cs.foldl (fun m c => max m (if viMaskEn c then (viMaskLen c + 63) / 64 else 0)) 0

/-- The source of a configuration delivers (R277). -/
def State.viSourceOk (s : State) (c : Nat) : Bool :=
  decide (viKind c = 3) || s.inputState (viInput c) = 3 || s.inputState (viInput c) = 4

/-- Arms one vitrine (R277). -/
def State.armVitrine (s : State) (v ta : Nat) : State :=
  let c := s.obj 0x0C v
  let s1 := [Fld.vitrine.preShort, Fld.vitrine.srcLost, Fld.vitrine.violation, Fld.vitrine.delivered, Fld.vitrine.endReason,
    Fld.vitrine.trigCause].foldl (fun u f => u.setF f v 0) s
  let s2 := ((s1.setF Fld.vitrine.violIndex v 0xFFFFFFFF).setF Fld.vitrine.armTick v ta).setF Fld.vitrine.state v 1
  (s2.setViRun v { ViRun.none with
    cfg := c, ta := ta, scan := ta, mask := s.viMaskWords c, ignored := (s.viRun v).ignored }).count 0x0B v 0

/-- VIT_ARM (R277). -/
def cmdVitArm (mask tick : Nat) : Own := fun _ s =>
  let vs := setPositions mask 8
  let cs := vs.map (fun v => s.obj 0x0C v)
  let ringOf := fun v => if s.viState v = 0 ∨ bit mask v then viRing (s.obj 0x0C v) else viRing (s.viRun v).cfg
  let ta := if tick = 0 then s.armEarliest cs else tick
  if mask = 0 ∨ cs.any badVitArm then refuse s .badParam
  else if !s.powered domVIT ∨ cs.any (fun c => !s.powered (viDom c) ||
      (viMaskEn c && !s.powered (bankDom (fieldOf Fld.vitrine.maskBank c)))) then refuse s .absent
  else if cs.any (fun c => !s.viSourceOk c) then refuse s .state
  else if vs.any (fun v => decide (s.viState v ≠ 0 ∧ s.viState v ≠ 4)) then refuse s .state
  else if vs.any (fun v => decide (s.viState v = 4) && !s.flag Fld.vitrine.delivered v) then refuse s .busy
  else if vs.any (fun v =>
      let r := s.ring (ringOf v)
      decide (r.owner = 0) || !r.en || (List.range 8).any (fun w =>
        decide (w ≠ v ∧ ringOf w = ringOf v) && (decide (s.viState w ≠ 0) || bit mask w))) then refuse s .state
  else if ta < s.armEarliest cs then refuse s .tooLate
  else (vs.foldl (fun u v => u.armVitrine v ta) s, Reply.ok64 ta)

/-- VIT_TRIGGER (R278). -/
def cmdVitTrigger (mask : Nat) : Own := fun _ s =>
  if !s.powered domVIT then refuse s .absent
  else
    let r := (setPositions mask 8).foldl
      (fun (a : Nat × State) v =>
        let t := a.2.viTrigger v a.2.tick 0 5
        (if t.1 then a.1 ||| (1 <<< v) else a.1, t.2)) (0, s)
    (r.2, Reply.ok1 r.1)

/-- Aborts one vitrine (R278): a trigger of the same tick is not taken, and the blocks of a record whose delivery has begun, at
DONE (R276), are lost. -/
def State.viAbort (s : State) (v : Nat) : State :=
  let r := s.viRun v
  if s.viState v = 0 then s
  else
    let s1 := (s.setF Fld.vitrine.state v 0).setF Fld.vitrine.endReason v 4
    let s2 := if s.viState v = 2 ∧ r.trig = s.tick then s1.viUntake v else s1
    ((s2.viDiscard v).viSettle v).viIdle v

/-- VIT_ABORT (R278). -/
def cmdVitAbort (mask : Nat) : Own := fun _ s =>
  if !s.powered domVIT then refuse s .absent
  else ((setPositions mask 8).foldl State.viAbort s, Reply.ok)

/-- Writes to OBJ_VITRINE that R283 refuses: `mask` is the range. -/
def stateVitrine (old mask : Nat) : Bool :=
  let st := fieldOf Fld.vitrine.state old
  decide (st = 1 ∨ st = 2 ∨ st = 3) && decide (mask &&& rowMask (fun r => decide (r.acc = .rw)) rowsVitrine ≠ 0)

/-- An event at EVT(128 + v) (R268, R271, R345). -/
def State.evtVitrine (s : State) (v : Nat) : State :=
  if !s.powered domVIT then s.absentDrop (128 + v)
  else if !bit (fieldOf Fld.vitrine.trigEn (s.viCfg v)) 0 then s.busyDrop (128 + v)
  else
    let t := s.viTrigger v s.tick 0 0
    if t.1 then t.2 else t.2.busyDrop (128 + v)

/-- A word decoded on cue input n goes into the next frame of every UP port that forwards the input (17_courier_links.md,
"Cues"). -/
def State.forwardCue (s : State) (n w : Nat) : State :=
  [0, 1, 2, 3].foldl
    (fun t p =>
      if t.powered (domCP p) ∧ t.getF Fld.courier.linkState p = 3 ∧ t.getL Fld.courier.cueTxEn p = 1 ∧
          t.getL Fld.courier.cueSrc p = n then t.setCpRt p { t.cpRt p with cue := some w }
      else t) s

/-- CUE_WORD (R270, R351): a word with a code error is discarded and counted; a cue port whose clock is gated takes none
(R452). -/
def State.cueWord (s : State) (n w : Nat) (err : Bool) : State :=
  if !s.powered domMGMT1 ∨ s.pw.tripGated then s
  else if err then s.count 0x0C n 0
  else ((s.matchCue n w).viCue n w).forwardCue n w

/-! ### Meanings -/

/-- VERDICT_DELIVERY (R206 to R208, R268). -/
def execVerdictDelivery (s : State) : Host.Outcome State Fault Refusal :=
  .next (s.deliverVerdicts.viVerdicts (if s.powered domMGMT1 then standing s.beat else []))

/-- VIT_ARM (R277). -/
def execVitArm (h : Hdr) (mask : BitVec 8) (tick : BitVec 64) (s : State) : Host.Outcome State Fault Refusal :=
  run (.vitArm h mask tick) h (cmdVitArm mask.toNat tick.toNat) s

/-- VIT_TRIGGER (R278). -/
def execVitTrigger (h : Hdr) (mask : BitVec 8) (s : State) : Host.Outcome State Fault Refusal :=
  run (.vitTrigger h mask) h (cmdVitTrigger mask.toNat) s

/-- VIT_ABORT (R278). -/
def execVitAbort (h : Hdr) (mask : BitVec 8) (s : State) : Host.Outcome State Fault Refusal :=
  run (.vitAbort h mask) h (cmdVitAbort mask.toNat) s

/-- VIT_CAPTURE_START (R277). -/
def execVitCaptureStart (v : Fin 8) (s : State) : Host.Outcome State Fault Refusal := .next (s.viStart v.val)

/-- LEVEL_TRIGGER (R269). -/
def execLevelTrigger (v : Fin 8) (s : State) : Host.Outcome State Fault Refusal := .next (s.viLevel v.val)

/-- TB_TICK (R268). -/
def execTbTick (v : Fin 8) (s : State) : Host.Outcome State Fault Refusal :=
  .next (if s.viTbDue v.val then (s.viTrigger v.val s.tick 0 3).2 else s)

/-- MASK_VIOLATION (R274). -/
def execMaskViolation (v : Fin 8) (s : State) : Host.Outcome State Fault Refusal := .next (s.viViolation v.val)

/-- FILL_END (R275). -/
def execFillEnd (v : Fin 8) (s : State) : Host.Outcome State Fault Refusal := .next (s.viFillEnd v.val)

/-- POST_TRIGGER_WAIT_LIMIT (R275). -/
def execPostTriggerWaitLimit (v : Fin 8) (s : State) : Host.Outcome State Fault Refusal := .next (s.viLimit v.val)

/-- VITRINE_DONE (R276). -/
def execVitrineDone (v : Fin 8) (s : State) : Host.Outcome State Fault Refusal := .next (s.viDone v.val)

/-- VITRINE_BLOCK_WRITE (R280). -/
def execVitrineBlockWrite (v : Fin 8) (s : State) : Host.Outcome State Fault Refusal := .next (s.viWrite v.val)

/-- EVT_VITRINE_TRIGGER (R268). -/
def execEvtVitrineTrigger (v : Fin 8) (s : State) : Host.Outcome State Fault Refusal := .next (s.evtVitrine v.val)

/-- CUE_WORD (R270). -/
def execCueWord (n : Fin 8) (w : BitVec 16) (err : Bool) (s : State) : Host.Outcome State Fault Refusal :=
  .next (s.cueWord n.val w.toNat err)

end Sys2Proof.Machine
end

