-- ==== Sys2Proof/Machine/Courier.lean ====
section
/-! DEFINITION. Courier links (17_courier_links.md): frames, bring-up and measurement, verdicts and cues across the link,
time-sync messages, link-down. A received frame is offered at its write tick. -/

namespace Sys2Proof.Machine

/-! ### Frames (R431 to R433) -/

/-- One step of CRC-16 with polynomial 0x8BB7, most significant bit first (R432). -/
def crc16Bit (c : Nat) (b : Bool) : Nat :=
  let x := bit c 15 != b
  let d := c * 2 % 65536
  if x then d ^^^ 0x8BB7 else d

/-- CRC over bits [239:0] of a frame, bit 239 first (R432). -/
def frameCrc (f : Nat) : Nat := (List.range 240).foldl (fun c k => crc16Bit c (bit f (239 - k))) 0

/-- A frame with its CRC. -/
def withCrc (f : Nat) : Nat := bits f 0 240 + frameCrc f * 2 ^ 240

def frameGood (f : Nat) : Bool := decide (bits f 240 16 = frameCrc f)

/-- The additive scrambler x^31 + x^28 + 1 over a number of bits of a lane, least significant bit first: its state holds its last 31
bits, the newest in bit 0 (R431). Answers the state after them and the scrambled bits. -/
def scramble (w : Nat) : Nat → Nat → Nat × Nat
  | 0, x => (x, 0)
  | n + 1, x =>
    let k := 64 - (n + 1)
    let b := bit x 27 != bit x 30
    let r := scramble w n ((2 * x + b2n b) % 2 ^ 31)
    (r.1, r.2 + b2n (bit w k != b) * 2 ^ k)

/-- What the lanes carry of a frame: lane k its bits [64k + 63 : 64k], scrambled; and the scramblers after it (R431). -/
def laneBits (scram : List Nat) (f : Nat) : List (Nat × Nat) :=
  (List.range 4).map (fun k => scramble (bits f (64 * k) 64) 64 (scram.getD k 0))

/-- Ports by state and generation. -/
def State.linkState (s : State) (p : Nat) : Nat := s.getF Fld.courier.linkState p
def State.linkUp (s : State) (p : Nat) : Bool := s.powered (domCP p) && decide (s.linkState p = 3)
def State.linkGen (s : State) (p : Nat) : Nat := s.getF Fld.courier.liveGen p

/-- Frame period in ticks (R431). -/
def State.framePeriod (s : State) (p : Nat) : Nat := if s.linkGen p = 1 then 2 else 4

/-- A tick at which a frame of the port may leave (R431). -/
def State.frameBoundary (s : State) (p : Nat) : Bool := s.crosses (s.framePeriod p)

def State.upMask (s : State) : Nat := maskOf ([0, 1, 2, 3].filter (fun p => s.linkUp p))

/-! ### Time-sync messages (R436) -/

/-- A time-sync word. -/
def tsWord (type payload : Nat) : Nat := type * 2 ^ 56 + bits payload 0 56
def tsType (w : Nat) : Nat := bits w 56 8
def tsLoad (w : Nat) : Nat := bits w 0 56

/-- Precedence of a message by the type of a word: SNAP before PARAM before TIME. -/
def tsPrec (w : Nat) : Nat := if 0x10 ≤ tsType w then 2 else if 2 ≤ tsType w then 1 else 0

/-- A word that starts a message. -/
def tsStart (w : Nat) : Bool := decide (tsType w = 1 ∨ tsType w = 2 ∨ tsType w = 0x10)

/-- Puts a message into a port's queue: after the message in progress and after what has no lower precedence. -/
def insertMsg (prec : Nat) (msg : List Nat) (q : List Nat) : List Nat :=
  let cont := q.takeWhile (fun w => !tsStart w)
  let rest := q.drop cont.length
  let ahead := rest.takeWhile (fun w => decide (prec ≤ tsPrec w))
  cont ++ ahead ++ msg ++ rest.drop ahead.length

def State.sendMsg (s : State) (p prec : Nat) (msg : List Nat) : State :=
  s.setCpRt p { s.cpRt p with txq := insertMsg prec msg (s.cpRt p).txq }

/-- The SNAP message (R436, R439). -/
def snapMsg (t originNum : Nat) : List Nat :=
  [tsWord 0x10 t, tsWord 0x11 (bits t 56 4 * 2 ^ 52 + bits originNum 0 52), tsWord 0x12 (bits originNum 52 12)]

/-- The PARAM message of a parameter set (R436). -/
def paramMsg (p : TimeSet) : List Nat :=
  let eff := w64 p.from_ / 16
  let rate := ofS 40 (rateOf p p.act)
  let off := ofS 112 (offOf p p.act)
  let c0 := ofS 64 p.cont0
  [ tsWord 0x02 eff,
    tsWord 0x03 (bits eff 56 4 * 2 ^ 52 + (if p.act then 2 ^ 51 else 0) + p.slew % 128 * 2 ^ 44 + rate),
    tsWord 0x04 off, tsWord 0x05 (bits off 56 56), tsWord 0x06 c0,
    tsWord 0x07 (bits c0 56 8 * 2 ^ 48 + bits (w64 p.contAt) 0 48), tsWord 0x08 (bits p.contAt 48 16) ]

/-- The parameter set that a PARAM message carries (R436), seen from a set in force before it; `lift` takes raw time to its
instant without wraps. -/
def paramSet (lift : Nat → Nat) (was : TimeSet) (m : List Nat) : TimeSet :=
  let g := fun k => tsLoad (m.getD k 0)
  let act := bit (g 1) 51
  let eff := g 0 + bits (g 1) 52 4 * 2 ^ 56
  let rate := toS 40 (bits (g 1) 0 40)
  let off := toS 112 (g 2 + g 3 * 2 ^ 56)
  let q := withDom { was with act := act } act rate off
  { q with from_ := lift (16 * eff), slew := bits (g 1) 44 7, cont0 := toS 64 (g 4 + bits (g 5) 48 8 * 2 ^ 56)
           contAt := lift (bits (g 5) 0 48 + bits (g 6) 0 16 * 2 ^ 48), kept := true }

/-- A set differs from the one before it in more than its slew limit: a change that R313 keeps. -/
def TimeSet.keeps (n p : TimeSet) : Bool :=
  decide (n.act ≠ p.act ∨ rateOf n n.act ≠ rateOf p n.act ∨ offOf n n.act ≠ offOf p n.act)

/-- Takes a set of the reference into those kept, newest first. The reference sends the present one and all that are to come, oldest
first, so the set stands in place of every later one that is not yet in force at `now`; one that brings nothing new changes
nothing. -/
def insertSet (now : Nat) (n : TimeSet) (l : List TimeSet) : List TimeSet :=
  l.filter (fun p => decide (n.from_ < p.from_ ∧ p.from_ ≤ now)) ++
  match l.filter (fun p => decide (p.from_ ≤ n.from_)) with
  | [] => [n]
  | p :: rest =>
    if { p with from_ := n.from_, kept := n.kept } = n then p :: rest
    else if p.from_ = n.from_ then { n with kept := p.kept || n.keeps p } :: rest
    else { n with kept := n.keeps p } :: p :: rest

/-- A follower takes parameters (R333, R438). Before its load of raw time their instants mean nothing to it, and it takes them with
the load. -/
def State.takeParams (s : State) (m : List Nat) : State :=
  if !s.tm.aligned then { s with tm := { s.tm with early := s.tm.early ++ [m] } }
  else match insertSet s.now (paramSet s.lift s.tm.now m) (s.tm.now :: s.tm.hist) with
    | [] => s
    | a :: l => { s with tm := { s.tm with now := a, hist := keptSets (if a.kept then 63 else 64) l } }

/-- Raw time takes a value: the one load of a follower (R333). What the model remembers by instants of the old count is gone or
moves along: live images are those in force, the present time parameters stand alone, and events, pulses in progress and the
ledger's mirroring go on by the time they still had. What waits for a tick waits for it in the new count. -/
def State.loadRaw (s : State) (r : Nat) : State :=
  let by_ := fun (x : Nat) => r + x - s.now
  let on_ := fun (x : Nat) => if x = 0 then 0 else max 1 (by_ x)
  { s with
    raw := r, wraps := 0, undo := []
    tm := { s.tm with
      now := { s.setAtRaw s.raw with from_ := 0, contAt := by_ (s.setAtRaw s.raw).contAt }, hist := []
      lookFrom := r, lookTo := r + s.tm.span
      tpEnd := s.tm.tpEnd.map (fun e => (e.1, on_ e.2)), ppsFall := on_ s.tm.ppsFall
      tpSpan := s.tm.tpSpan.map (fun e => (e.1, on_ e.2.1, on_ e.2.2))
      ppsSpan := (on_ s.tm.ppsSpan.1, on_ s.tm.ppsSpan.2) }
    ldg := { s.ldg with mirrorAt := by_ (16 * s.ldg.mirrorAt) / 16 }
    cat := { s.cat with
      last := [], groupEv := []
      flight := s.cat.flight.map (fun f => { f with
        reach := by_ f.reach, arrival := by_ (16 * f.arrival) / 16, stamp := by_ f.stamp })
      gpioEnd := s.cat.gpioEnd.map (fun e => (e.1, on_ (16 * e.2) / 16))
      due := s.cat.due.map (fun e => (by_ (16 * e.1) / 16, e.2.1, e.2.2))
      lut := s.cat.lut.map (fun e => (e.1, { e.2 with queue := e.2.queue.map (fun q => (by_ q.1, q.2)) })) } }

/-- A follower takes the departure tick of a TIME word: its first loads raw time, each later one measures the
residual (R333, R438). -/
def State.takeTime (s : State) (p dep : Nat) : State :=
  let d := s.draw
  let r := Config.alignResidual d.1
  if !s.tm.aligned then
    let s0 := d.2.loadRaw (w64 (16 * (dep + 52)))
    let s1 := s0.tm.early.foldl State.takeParams { s0 with tm := { s0.tm with aligned := true, early := [] } }
    s1.setF Fld.courier.alignResid p (ofS 16 (max (-12) (min 12 r)))
  else
    let s1 := d.2.setF Fld.courier.alignResid p (ofS 16 (sat 16 r))
    if 25 < r.natAbs then s1.raise Fld.time.alignFault 0 else s1

/-- A port counts a frame with errors (R436, R440). -/
def State.errFrame (s : State) (p : Nat) : State :=
  (s.setCpRt p { s.cpRt p with errs := (s.cpRt p).errs + 1, rxq := [] }).count 0x17 p 2

/-- A message that is complete. -/
def State.takeMessage (s : State) (p : Nat) (m : List Nat) : State :=
  let s1 := s.setCpRt p { s.cpRt p with rxq := [] }
  let g := fun k => tsLoad (m.getD k 0)
  match tsType (m.getD 0 0) with
  | 0x10 => s1.peerSnapshot p (g 0 + bits (g 1) 52 4 * 2 ^ 56) (bits (g 1) 0 52 + bits (g 2) 0 12 * 2 ^ 52)
  | 0x02 => if s1.follower ∧ s1.getF Fld.time.followPort 0 = p then s1.takeParams m else s1
  | _ => if s1.follower ∧ s1.getF Fld.time.followPort 0 = p then s1.takeTime p (g 0) else s1

/-- Number of words of a message by its first type. -/
def msgLength (w : Nat) : Nat := match tsType w with | 0x10 => 3 | 0x02 => 7 | _ => 1

/-- A received time-sync word (R436): the words of a message follow one another; anything else discards it. -/
def State.takeTsync (s : State) (p w : Nat) : State :=
  let t := tsType w
  let q := (s.cpRt p).rxq
  if t = 0 then s.setCpRt p { s.cpRt p with rxq := [] }
  else if tsStart w then
    if msgLength w = 1 then s.takeMessage p [w] else s.setCpRt p { s.cpRt p with rxq := [w] }
  else if (3 ≤ t ∧ t ≤ 8) ∨ t = 0x11 ∨ t = 0x12 then
    match q.reverse with
    | [] => s
    | last :: _ =>
      if t = tsType last + 1 then
        let q1 := q ++ [w]
        if q1.length = msgLength (q1.getD 0 0) then s.takeMessage p q1 else s.setCpRt p { s.cpRt p with rxq := q1 }
      else s.setCpRt p { s.cpRt p with rxq := [] }
  else s.errFrame p

/-! ### Link state (R434, R435, R440) -/

/-- The reference's messages wait for ports in UP. -/
def State.goDown (s : State) (p : Nat) : State :=
  ((s.setF Fld.courier.linkState p 0).setF Fld.courier.laneOk p 0).setCpRt p
    { s.cpRt p with measEnd := 0, echoes := 0, maxR := 0, marks := [], owed := none, ready := false, peerUp := false
                    crcRun := 0, txq := [], rxq := [], cue := none, exports := [] }

/-- A port leaves UP (R440). -/
def State.leaveUp (s : State) (p : Nat) : State :=
  let s1 := (((s.goDown p).raise Fld.courier.linkDrop p).setF Fld.courier.downTick p s.tick).count 0x17 p 3
  (s1.fire 222).notice 0x09 p 0 0

/-- Takes a port to DOWN from any state. -/
def State.linkOff (s : State) (p : Nat) : State :=
  if s.linkState p = 3 then s.leaveUp p else if s.linkState p = 0 then s else s.goDown p

/-- Power is taken from PD_CPp (R440): the port leaves UP, and what it held is gone. -/
def State.courierPowerOff (s : State) (p : Nat) : State :=
  let s1 := if s.linkState p = 3 then s.leaveUp p else s
  s1.setCpRt p { CpRt.none with boundAt := (s1.cpRt p).boundAt }

/-- 50 ms and 20 ms in ticks (R434). -/
def linkBound : Nat := 50000000
def genBound : Nat := 20000000

/-- A port in DOWN starts training (R434): generation 2 when both ends have GEN_MAX 1, and the peer's setting is
outside the device. The last tick of a bound is `start + bound` (DESIGN CHOICE: R434 names no tick). The scramblers take new seeds
(R431). -/
def State.startTraining (s : State) (p : Nat) : State :=
  let d := s.draw
  let g2 := s.flag Fld.courier.genMax p && Config.choice d.1
  let s1 := (d.2.setF Fld.courier.linkState p 1).setF Fld.courier.liveGen p (if g2 then 1 else 0)
  s1.setCpRt p { CpRt.none with want := true, boundAt := s.tick + linkBound
                                fallAt := if g2 then s.tick + genBound else 0
                                scram := (List.range 4).map (fun k => Config.scramblerSeed (4 * d.1 + k) % 2 ^ 31)
                                errs := (s.cpRt p).errs, seq := (s.cpRt p).seq }

/-- A port has reached UP: commands that wait for it complete when it was their last (R434). -/
def State.portUp (s : State) (p : Nat) : State :=
  s.cmd.open_.foldl
    (fun u c =>
      match c.instr, c.st with
      | .cpLink _ _ _, .waiting =>
        if !bit c.mask p then u
        else
          let m := clearMask c.mask (1 <<< p)
          if m = 0 then u.completeId c.id (Reply.ok1 u.upMask) else u.setCmd c.id m c.res
      | _, _ => u) s

/-- The port enters UP at a frame boundary at which it sends 0b011 and has received it (R434). -/
def State.enterUp (s : State) (p : Nat) : State :=
  let r := s.cpRt p
  if s.linkState p = 2 ∧ r.ready ∧ r.peerUp then
    (((s.setF Fld.courier.linkState p 3).setF Fld.courier.upTick p s.tick).setCpRt p
      { r with measEnd := 0, boundAt := 0, marks := [], owed := none, exports := [], crcRun := 0 }).portUp p
  else s

def State.fallbackDue (s : State) (p : Nat) : Bool :=
  let r := s.cpRt p
  s.powered (domCP p) && decide (s.linkState p = 1 ∧ r.fallAt ≠ 0 ∧ r.fallAt < s.tick)

/-- TRAINING_FALLBACK (R434): generation 1 when both ends have GEN_FALLBACK 1, and the peer's setting is outside the
device; else training goes on to its bound. The retraining seeds the scramblers anew (R431). -/
def State.trainingFallback (s : State) (p : Nat) : State :=
  if !s.fallbackDue p then s
  else
    let d := s.draw
    let s1 := d.2.setCpRt p { s.cpRt p with fallAt := 0 }
    if s.flag Fld.courier.genFallback p ∧ Config.choice d.1 then
      ((s1.setCpRt p { s1.cpRt p with
        scram := (List.range 4).map (fun k => Config.scramblerSeed (4 * d.1 + k) % 2 ^ 31) }).setF
          Fld.courier.liveGen p 0).raise Fld.courier.fellBack p
    else s1

/-- The port's bring-up has run out of its bound: it goes to DOWN unless it has received the 0b011 that takes it to UP at its next
frame boundary (R31, R434). -/
def State.portBoundDue (s : State) (p : Nat) : Bool :=
  let r := s.cpRt p
  decide (r.boundAt ≠ 0 ∧ r.boundAt < s.tick) && !s.linkUp p && !(decide (s.linkState p = 2) && r.ready && r.peerUp)

/-- A CP_LINK that waits for port p and has run out of its own bound. -/
def State.linkWaitOver (s : State) (p : Nat) (c : Cmd) : Bool :=
  match c.instr, c.st with
  | .cpLink _ _ _, .waiting =>
    bit c.mask p && decide (c.res < s.tick) && !(decide (s.linkState p = 2) && (s.cpRt p).ready && (s.cpRt p).peerUp)
  | _, _ => false

def State.linkTimeoutDue (s : State) (p : Nat) : Bool := s.portBoundDue p || s.cmd.open_.any (s.linkWaitOver p)

/-- The port's part of CP_LINK_TIMEOUT. -/
def State.portBoundOver (s : State) (p : Nat) : State :=
  if !s.portBoundDue p then s
  else
    let st := s.linkState p
    let s1 := if st = 0 then s else s.goDown p
    let s2 := if st = 1 then s1.raise Fld.courier.trainFail p else s1
    s2.setCpRt p { s2.cpRt p with boundAt := 0, fallAt := 0, want := false }

/-- CP_LINK_TIMEOUT (R434): the bound expires; commands that wait for the port complete with TIMEOUT at their own bound. -/
def State.linkTimeout (s : State) (p : Nat) : State :=
  let t := s.portBoundOver p
  (s.cmd.open_.filter (s.linkWaitOver p)).foldl
    (fun u c => u.completeId c.id { Reply.fail .timeout with r0 := u.upMask }) t

/-- FRAME_LOCK: a training port enters MEASURE, whose frames count from its next boundary (R434, R435). A bound that has run out
before comes first (R31). -/
def State.frameLock (s : State) (p : Nat) : State :=
  let t := (s.trainingFallback p).linkTimeout p
  if !t.powered (domCP p) ∨ t.linkState p ≠ 1 then t
  else
    let b := roundUp t.tick (t.framePeriod p)
    ((t.setF Fld.courier.linkState p 2).setF Fld.courier.laneOk p 15).setCpRt p
      { t.cpRt p with measStart := b, measEnd := b + 1024 * t.framePeriod p, fallAt := 0, echoes := 0, maxR := 0
                      marks := [], owed := none, ready := false, peerUp := false, crcRun := 0 }

def State.measureDue (s : State) (p : Nat) : Bool :=
  decide (s.powered (domCP p) ∧ s.linkState p = 2 ∧ (s.cpRt p).measEnd ≤ s.tick) && !(s.cpRt p).ready

/-- MEASURE_END (R434, R435). -/
def State.measureEnd (s : State) (p : Nat) : State :=
  if !s.measureDue p then s
  else
    let r := s.cpRt p
    let h := (r.maxR + 1) / 2
    let s1 := s.setF Fld.courier.hopMeas p h
    if r.echoes < 16 ∨ 800 < h then (s1.goDown p).raise Fld.courier.budget p
    else (s1.setF Fld.courier.pad p (832 - h)).setCpRt p { r with ready := true }

/-- LINK_DOWN is due for a cause (R440): a lane that fails is the world's; the others show in the port. -/
def State.downDue (s : State) (p : Nat) (c : DownCause) : Bool :=
  let r := s.cpRt p
  decide (s.linkState p = 3) && (match c with
    | .laneLoss => true
    | .crcRun => decide (r.measEnd ≠ 0 ∧ 8 ≤ r.crcRun) && s.frameBoundary p
    | .peerDown => decide (r.measEnd ≠ 0 ∧ r.crcRun < 8) && s.frameBoundary p
    | .command => !r.want
    | .powerOff => !s.powered (domCP p))

/-- LINK_DOWN. -/
def State.linkDown (s : State) (p : Nat) (c : DownCause) : State := if s.downDue p c then s.leaveUp p else s

/-- A received frame shows that the port must leave UP: at its own first frame boundary from here (R440). -/
def State.mustLeave (s : State) (p : Nat) : State :=
  if s.linkState p ≠ 3 then s
  else if s.frameBoundary p then s.leaveUp p
  else s.setCpRt p { s.cpRt p with measEnd := s.tick }

/-! ### Reception (R432 to R440) -/

/-- The verdicts of a frame (R433, R437): slot i holds position k of the u-th tick. DESIGN CHOICE: while the verdict bus (PD_MGMT1)
is off a verdict is discarded on reception and not counted as imported. -/
def State.takeVerdicts (s : State) (p f : Nat) : State :=
  let per := s.framePeriod p
  let ks := if per = 2 then 8 else 4
  (List.range 16).foldl
    (fun t i =>
      let v := bits f (16 + 7 * i) 7
      let write := t.tick - per + i / ks
      let imp := impMap (t.liveAt 0x11 p (16 * write)) (i % ks)
      if !bit v 6 ∨ !bit imp 15 ∨ !t.powered domMGMT1 then t
      else
        let w : Verdict := ⟨true, bits v 4 2, bit v 3, bit v 2, bit v 1, bit v 0, write - 52, write + 16⟩
        let t1 := { t with vd := { t.vd with flight := t.vd.flight ++ [(⟨512 + bits imp 0 9, w, p, 0, ⟨0, 0⟩, 0, 0⟩ : VPend)] } }
        t1.count 0x17 p 5) s

/-- The link-management word of a received frame in MEASURE, which arrives at raw time `at_` (R435). -/
def State.takeBulk (s : State) (p at_ w : Nat) : State :=
  let r := s.cpRt p
  match bits w 28 4 with
  | 1 => s.setCpRt p { r with owed := some at_ }
  | 2 =>
    match r.marks with
    | [] => s
    | m :: rest =>
      s.setCpRt p { r with marks := rest, echoes := r.echoes + 1, maxR := max r.maxR (at_ - m - bits w 0 28) }
  | _ => s

/-- COURIER_FRAME: a frame is written at the present tick, having arrived at one of its fine slots. -/
def State.courierFrame (s : State) (p f fine : Nat) : State :=
  if !s.powered (domCP p) ∨ s.linkState p < 2 then s
  else
    let s0 := s.count 0x17 p 1
    if !frameGood f then
      let s1 := (s0.errFrame p).raise Fld.courier.crcErr p
      let s2 := s1.setCpRt p { s1.cpRt p with crcRun := (s1.cpRt p).crcRun + 1 }
      if 8 ≤ (s2.cpRt p).crcRun then s2.mustLeave p else s2
    else
      let ls := bits f 8 3
      let s1 := s0.setCpRt p { s0.cpRt p with crcRun := 0, peerUp := decide (ls = 3) }
      if s1.linkState p = 2 then
        if ls = 0 then s1.goDown p else if bits f 4 2 = 2 then s1.takeBulk p (s1.raw + fine) (bits f 208 32) else s1
      else
        let s2 := if bits f 4 2 = 0 then
            let t := s1.takeVerdicts p f
            let t1 := if bit f 6 ∧ t.getL Fld.courier.cueRxEn p = 1 ∧ t.powered domMGMT1 ∧ !t.pw.tripGated then
                t.matchCue (t.getL Fld.courier.cueDst p) (bits f 128 16) else t
            t1.takeTsync p (bits f 144 64)
          else s1
        if ls = 3 then s2 else s2.mustLeave p

/-! ### Transmission (R431 to R435) -/

/-- The verdict slots of the frame that leaves at the present tick (R433), and how many it carries. -/
def State.verdictSlots (s : State) (p : Nat) : Nat × Nat :=
  let per := s.framePeriod p
  let ks := if per = 2 then 8 else 4
  (s.cpRt p).exports.foldl
    (fun a e =>
      if s.tick - per ≤ e.1 ∧ e.1 < s.tick ∧ e.2.1 < ks then
        let i := ks * (e.1 - (s.tick - per)) + e.2.1
        (a.1 + e.2.2 * 2 ^ (7 * i), a.2 + 1)
      else a) (0, 0)

/-- The link-management word of the frame, and the port after it: in MEASURE a mark in every 64th frame, else the echo
that is owed; in UP the count of errors. -/
def State.bulkWord (s : State) (p : Nat) : Nat × CpRt :=
  let r := s.cpRt p
  let k := (s.tick - r.measStart) / s.framePeriod p
  if s.linkState p = 3 then (0x30000000 + r.errs % 65536, r)
  else if s.linkState p ≠ 2 then (0, r)
  else if r.measStart ≤ s.tick ∧ k % 64 = 0 ∧ k < 1024 then
    (0x10000000 + s.raw % 2 ^ 28, { r with marks := r.marks ++ [s.raw] })
  else match r.owed with
    | some a => (0x20000000 + (s.raw - a) % 2 ^ 28, { r with owed := none })
    | none => (0, r)

/-- A port sends the frame of the present tick. -/
def State.sendFrame (s : State) (p : Nat) : State :=
  let st := s.linkState p
  let b := s.bulkWord p
  let r := b.2
  let vs := if st = 3 then s.verdictSlots p else (0, 0)
  let ts := match st, r.txq with
    | 3, w :: _ => if tsType w = 1 then tsWord 1 s.tick else w
    | _, _ => 0
  let kind := match st with | 3 => 0 | 2 => 2 | _ => 1
  let ls := if r.ready then 3 else st
  let cue := if st = 3 then r.cue else none
  let f := r.seq % 16 + kind * 16 + (if cue.isSome then 64 else 0) + ls * 256 + (if s.follower then 0 else 2048) +
    vs.1 * 2 ^ 16 + (cue.getD 0) * 2 ^ 128 + ts * 2 ^ 144 + b.1 * 2 ^ 208
  let lanes := laneBits r.scram (withCrc f)
  let s1 := s.setCpRt p { r with
    seq := (r.seq + 1) % 16, cue := none, txq := if st = 3 then r.txq.drop 1 else r.txq
    exports := r.exports.filter (fun e => decide (s.tick ≤ e.1))
    scram := lanes.map Prod.fst }
  ((s1.emit (.courier p (lanes.map Prod.snd))).count 0x17 p 0).countN 0x17 p 4 vs.2

/-- End of a tick: ports enter UP and send at their frame boundaries. -/
def State.courierTick (s : State) : State :=
  [0, 1, 2, 3].foldl
    (fun t p =>
      if !t.powered (domCP p) ∨ t.linkState p = 0 ∨ !t.frameBoundary p then t else (t.enterUp p).sendFrame p) s

/-! ### Messages of the reference (R438) -/

def State.timeMsgDue (s : State) : Bool := decide (s.upMask ≠ 0 ∧ s.cp.timeAt ≤ s.tick) && !s.follower

/-- TIME_MESSAGE: the departure tick is filled in when the word leaves. -/
def State.timeMessage (s : State) : State :=
  if !s.timeMsgDue then s
  else
    let s1 := (setPositions s.upMask 4).foldl (fun t p => t.sendMsg p 0 [tsWord 1 0]) s
    { s1 with cp := { s1.cp with timeAt := s.tick + 1024 } }

/-- The least number from `lo` that satisfies a monotone condition, by halving an interval of 2^n. -/
def bisect (p : Nat → Bool) : Nat → Nat → Nat
  | 0, lo => lo
  | n + 1, lo => if p (lo + 2 ^ n - 1) then bisect p n lo else bisect p n (lo + 2 ^ n)

/-- The tick at which the epoch step that is waiting will fall under the present parameters (R320). -/
def State.epochTick (s : State) : List Nat :=
  match s.tm.epoch with
  | [] => []
  | e :: _ =>
    let lo := max (s.lift (16 * e.1)) s.now
    let sec := sysTime s.tm.now (lo - 1) / sysSecond
    [bisect (fun r => decide (sec < sysTime s.tm.now r / sysSecond)) 35 lo % 2 ^ 64 / 16]

/-- Ticks at which changes are scheduled. -/
def State.changeTicks (s : State) : List Nat :=
  let l := [s.tm.domA, s.tm.domB].flatMap (fun d =>
    d.updates.map Prod.fst ++ (match d.lockAt with | some x => [x.1] | none => []))
  (l ++ s.tm.switches.map Prod.fst ++ s.epochTick).eraseDups.mergeSort (fun a b => decide (a ≤ b))

/-- The parameter changes of a tick, made on a copy of the state. -/
def State.changesOf (s : State) (t : Nat) : State :=
  let r := 16 * t + 2 ^ 64 * s.wraps
  let s1 := { s with raw := 16 * t, tm := { s.tm with lookFrom := r, lookTo := r + 16 } }
  (((((s1.loopUpdate false).loopUpdate true).epochStep).domainLock false).domainLock true).domainSwitch

/-- The present parameter set and those that the scheduled changes will bring, oldest first. -/
def State.futureSets (s : State) : List TimeSet :=
  (s.changeTicks.foldl (fun (a : State × List TimeSet) t => let u := a.1.changesOf t; (u, a.2 ++ [u.tm.now]))
    (s, [s.tm.now])).2

def State.paramMsgDue (s : State) : Bool := decide (s.upMask ≠ 0 ∧ s.cp.paramAt ≤ s.tick) && !s.follower

/-- PARAM_MESSAGE: at a change, made or scheduled, and otherwise every 1 ms. -/
def State.paramMessage (s : State) : State :=
  if !s.paramMsgDue then s
  else
    let msgs := s.futureSets.map paramMsg
    let s1 := (setPositions s.upMask 4).foldl (fun t p => msgs.foldl (fun u m => u.sendMsg p 1 m) t) s
    { s1 with cp := { s1.cp with paramAt := s.tick + 1000000 } }

/-! ### Commands and OBJ_COURIER -/

/-- CP_LINK (R434): a command that waits keeps the last tick of its own bound. -/
def cmdCpLink (ports up : Nat) : Own := fun id s =>
  let ps := setPositions ports 4
  if 16 ≤ ports ∨ 16 ≤ up then refuse s .badParam
  else if ps.any (fun p => !s.powered (domCP p)) then refuse s .absent
  else
    let s1 := ps.foldl
      (fun t p =>
        if bit up p then
          if t.linkState p = 0 then t.startTraining p else t.setCpRt p { t.cpRt p with want := true }
        else (t.linkOff p).setCpRt p { (t.linkOff p).cpRt p with want := false }) s
    let todo := maskOf (ps.filter (fun p => bit up p && !s1.linkUp p))
    if todo = 0 then (s1, Reply.ok1 s1.upMask) else (s1.setCmd id todo (s.tick + linkBound), Reply.wait)

/-- CP_COMMIT (R441, R521). -/
def cmdCpCommit (tick : Nat) : Own := fun id s =>
  let keys := s.dirtyKeys Fld.courier.dirty
  if s.anyOff keys then refuse s .absent
  else commitOwn s tick keys (fun tc => ⟨tc, id, 6, s.capture keys, false, [], keys.length, 0, 0⟩)

/-- The commit of captured courier maps at its tick. -/
def State.applyCpCommit (s : State) (c : Commit) : State := c.caps.foldl (fun t e => t.applyCapture e.1 e.2) s

/-- Two valid members of a map name one thing (R441). -/
def mapClash (f : Nat → Nat) : Bool :=
  (List.range 8).any (fun k => (List.range k).any (fun j => bit (f k) 15 && decide (f k = f j)))

/-- Writes to OBJ_COURIER that R441 refuses. -/
def badCourier (new : Nat) : Bool := mapClash (impMap new) || mapClash (expMap new)

def stateCourier (old new : Nat) : Bool :=
  decide (fieldOf Fld.courier.linkState old ≠ 0) &&
    (changed Fld.courier.genMax old new || changed Fld.courier.genFallback old new)

/-! ### Meanings -/

/-- CP_LINK (R434). -/
def execCpLink (h : Hdr) (ports up : BitVec 8) (s : State) : Host.Outcome State Fault Refusal :=
  run (.cpLink h ports up) h (cmdCpLink ports.toNat up.toNat) s

/-- CP_COMMIT (R441). -/
def execCpCommit (h : Hdr) (tick : BitVec 64) (s : State) : Host.Outcome State Fault Refusal :=
  run (.cpCommit h tick) h (cmdCpCommit tick.toNat) s

/-- COURIER_FRAME (R432). -/
def execCourierFrame (p : Fin 4) (frame : LinkFrame) (s : State) : Host.Outcome State Fault Refusal :=
  .next (s.courierFrame p.val frame.frame.toNat frame.fine.toNat)

/-- TRAINING_FALLBACK (R434). -/
def execTrainingFallback (p : Fin 4) (s : State) : Host.Outcome State Fault Refusal := .next (s.trainingFallback p.val)

/-- MEASURE_END (R434). -/
def execMeasureEnd (p : Fin 4) (s : State) : Host.Outcome State Fault Refusal := .next (s.measureEnd p.val)

/-- CP_LINK_TIMEOUT (R434). -/
def execCpLinkTimeout (p : Fin 4) (s : State) : Host.Outcome State Fault Refusal := .next (s.linkTimeout p.val)

/-- LINK_DOWN (R440). -/
def execLinkDown (p : Fin 4) (cause : DownCause) (s : State) : Host.Outcome State Fault Refusal :=
  .next (s.linkDown p.val cause)

/-- FRAME_LOCK (R434). -/
def execFrameLock (p : Fin 4) (s : State) : Host.Outcome State Fault Refusal := .next (s.frameLock p.val)

/-- TIME_MESSAGE (R438). -/
def execTimeMessage (s : State) : Host.Outcome State Fault Refusal := .next s.timeMessage

/-- PARAM_MESSAGE (R438). -/
def execParamMessage (s : State) : Host.Outcome State Fault Refusal := .next s.paramMessage

end Sys2Proof.Machine
end

