-- ==== Sys2Proof/Machine/FrameCommands.lean ====
section
/-! DEFINITION. The frame commands and OBJ_FRAME's own write rules (02_frames.md). -/

namespace Sys2Proof.Machine

/-- FRAME_OP (R57, R58, R65): reserved codes and frames outside the table give BAD_PARAM, F4095 gives STATE. -/
def cmdFrameOp (frame fop farg : Nat) : Own := fun _ s =>
  if 5 < fop ∨ 4096 ≤ frame then refuse s .badParam
  else if frame = 4095 then refuse s .state
  else (s.frameOp frame fop farg, Reply.ok)

/-- FRAME_COMMIT (R62 to R64, R521). -/
def cmdFrameCommit (tick : Nat) (keep : Bool) : Own := fun id s =>
  let keys := s.dirtyKeys Fld.frame.dirty
  if s.anyOff keys then refuse s .absent
  else commitOwn s tick keys (fun tc => ⟨tc, id, 1, s.capture keys, keep, [], keys.length, 0, 0⟩)

/-- The commit of captured frames at its tick (R61 to R63). -/
def State.applyFrameCommit (s : State) (c : Commit) : State :=
  c.caps.foldl (fun t k => t.commitFrame (k.1 % 65536) k.2 c.keep) s

/-- F4095 keeps every staged field zero (R65). -/
def badFrame (inst new : Nat) : Bool :=
  decide (inst = 4095 ∧ new &&& rowMask (fun r => r.staged) rowsFrame ≠ 0)

/-- FRAME_OP (R54 to R60, R65). -/
def execFrameOp (h : Hdr) (frame : BitVec 16) (fop : BitVec 8) (farg : BitVec 16) (s : State) :
    Host.Outcome State Fault Refusal :=
  run (.frameOp h frame fop farg) h (cmdFrameOp frame.toNat fop.toNat farg.toNat) s

/-- FRAME_COMMIT (R64). -/
def execFrameCommit (h : Hdr) (tick : BitVec 64) (keep : Bool) (s : State) : Host.Outcome State Fault Refusal :=
  run (.frameCommit h tick keep) h (cmdFrameCommit tick.toNat keep) s

end Sys2Proof.Machine
end

