-- ==== Sys2Proof/Machine/CommitApply.lean ====
section
/-! DEFINITION. COMMIT_APPLY (01_architecture.md R36 to R40): what each kind of pending commit does at its tick, in order of
acceptance, and the completion of its command. -/

namespace Sys2Proof.Machine

/-- A committed change of an input's carrier, zone or attenuation discards its pending zero, and a new zone takes its own
correction (R482). -/
def State.inputCommitted (s : State) (was : State) (i : Nat) : State :=
  let a := was.inputSet i
  let b := s.inputSet i
  if a = b then s
  else if a.2.1 = b.2.1 then s.dropZero i
  else (s.dropZero i).loadTrim i

/-- A READOUT_COMMIT with what follows for calibration. -/
def State.applyReadout (s : State) (c : Commit) : State :=
  ((c.caps.map Prod.fst).filter (fun k => decide (k / 65536 = 0x06))).foldl
    (fun t k => t.inputCommitted s (k % 65536)) (s.applyReadoutCommit c)

/-- The effect of a commit at its tick. -/
def State.applyKind (s : State) (c : Commit) : State :=
  match c.kind with
  | 1 => s.applyFrameCommit c
  | 2 => s.applyOutputCommit c
  | 3 => s.applyReadout c
  | 4 => s.applyBiasCommit c
  | 5 => s.applyCatCommit c
  | 6 => s.applyCpCommit c
  | _ => s.applyRebase c

/-- What the commit's command answers. -/
def State.commitReply (s : State) (c : Commit) : Reply :=
  match c.kind with
  | 5 => catDone c (match s.cmdOf c.id with | some k => k.h.extlen.toNat | none => 0)
  | _ => Reply.ok1 c.res0

/-- A commit is due. -/
def commitDue (t : Nat) (c : Commit) : Bool := decide (c.tick ≤ t)

/-- COMMIT_APPLY: the first due commit in order of acceptance. -/
def State.commitApply (s : State) : State :=
  match s.cmd.commits.find? (commitDue s.tick) with
  | none => s
  | some c =>
    let s1 := { s with cmd := { s.cmd with commits := s.cmd.commits.filter (fun x => decide (x.id ≠ c.id)) } }
    (s1.applyKind c).completeId c.id (s.commitReply c)

/-- COMMIT_APPLY (R36, R38). -/
def execCommitApply (s : State) : Host.Outcome State Fault Refusal := .next s.commitApply

end Sys2Proof.Machine
end

