-- ==== Sys2Proof/Machine/Ethernet.lean ====
section
/-! DEFINITION. The Ethernet port: PTP (12_time_reference.md R330 to R332), address resolution and other traffic,
PAUSE, the link (15_host_link.md R400, R401, R404). -/

namespace Sys2Proof.Machine

/-- The port sends and receives: powered, and the link is up. -/
def State.ethUp (s : State) : Bool := s.powered domETH && s.flag Fld.eth.linkUp 0

/-! ### Reception (R400, R401, R404) -/

/-- A received frame is dropped and counted as traffic that the port does not take (R401). -/
def State.ethDrop (s : State) : State := { s with eth := { s.eth with drops := s.eth.drops + 1 } }

/-- With VLAN_EN a frame needs one tag that names VLAN_ID. Without it the port takes no tagged frame (DEDUCED from VLAN_EN in R404:
the tag is what VLAN_EN requires). -/
def State.vlanOk (s : State) (rx : EthRx) : Bool :=
  match rx.tag with
  | some t => s.flag Fld.eth.vlanEn 0 && decide (t.toNat % 2 ^ 12 = s.getF Fld.eth.vlanId 0)
  | none => !s.flag Fld.eth.vlanEn 0

/-- A frame arrives: whether the port takes it. A frame with an error, or with a payload of more than 9,000 bytes, is dropped with
RX_ERR (R400, R404). -/
def State.ethTake (s : State) (rx : EthRx) : Bool × State :=
  if !s.ethUp then (false, s)
  else if rx.bad ∨ 9000 < rx.size.toNat then
    let t := s.raise Fld.eth.rxErr 0
    (false, { t with eth := { t.eth with rxErrs := t.eth.rxErrs + 1 } })
  else if !s.vlanOk rx then (false, s.ethDrop)
  else (true, s)

def isV4 (ip : Nat) : Bool := decide (ip / 2 ^ 32 = 0xFFFF)

/-- An address of the port's own: IPv4_ADDR or IPv6_ADDR, of an enabled family (R401, R404). -/
def State.ownAddress (s : State) (ip : Nat) : Bool :=
  let v4 := s.getF Fld.eth.ipv4Addr 0
  let v6 := s.getF Fld.eth.ipv6Addr 0
  if isV4 ip then decide (v4 ≠ 0 ∧ ip % 2 ^ 32 = v4) else decide (v6 ≠ 0 ∧ ip = v6)

/-! ### PTP messages

R330 and R331 name IEEE 1588-2019 and give neither its message format nor its algorithms: those here are the standard's
(PRESUMED). -/

/-- Port identity of the device: its clock identity and port number 1. -/
def ownPort : Nat := Config.ptpIdentity % 2 ^ 64 * 2 ^ 16 + 1

/-- IP and MAC addresses of a message: layer 2, IPv4 or IPv6, to the peer-delay group or the other one (R401). -/
def ptpGroup (transport : Nat) (peer : Bool) : Nat × Nat :=
  match transport, peer with
  | 0, false => (0, 0x011B19000000)
  | 0, true => (0, 0x0180C200000E)
  | 1, false => (0xFFFFE0000181, 0x01005E000181)
  | 1, true => (0xFFFFE000006B, 0x01005E00006B)
  | _, false => (0xFF0E * 2 ^ 112 + 0x181, 0x333300000181)
  | _, true => (0xFF02 * 2 ^ 112 + 0x6B, 0x33330000006B)

/-- PTP is enabled, and so is the address family of its transport (R330, R404). -/
def State.ptpOn (s : State) : Bool :=
  s.flag Fld.time.ptpEn 0 && (match s.getF Fld.time.ptpTransport 0 with
    | 0 => true
    | 1 => decide (s.getF Fld.eth.ipv4Addr 0 ≠ 0)
    | _ => decide (s.getF Fld.eth.ipv6Addr 0 ≠ 0))

/-- Peer-delay messages. -/
def isPeerDelay (kind : Nat) : Bool := decide (kind = 0x2 ∨ kind = 0x3 ∨ kind = 0xA)

/-- Length of a message without TLVs. -/
def ptpLength (kind : Nat) : Nat :=
  match kind with
  | 0x0 => 44
  | 0x1 => 44
  | 0x8 => 44
  | 0xB => 64
  | _ => 54

/-- controlField of a message type. -/
def ptpControl (kind : Nat) : Nat :=
  match kind with
  | 0x0 => 0
  | 0x1 => 1
  | 0x8 => 2
  | 0x9 => 3
  | _ => 5

/-- logMessageInterval, as a signed byte. -/
def State.ptpLogInterval (s : State) (kind : Nat) : Nat :=
  let log := fun f => ofS 8 (toS 4 (s.getF f 0))
  match kind with
  | 0x0 => log Fld.time.logSync
  | 0x8 => log Fld.time.logSync
  | 0x9 => log Fld.time.logMinDreq
  | 0xB => log Fld.time.logAnnounce
  | _ => 0x7F

/-- A message: the common header, and a body. -/
def State.ptpBytes (s : State) (kind flags : Nat) (corr : Int) (seq : Nat) (body : List Byte) : List Byte :=
  beBytes 1 kind ++ beBytes 1 0x12 ++ beBytes 2 (34 + body.length) ++ beBytes 1 (s.getF Fld.time.ptpDomain 0) ++ beBytes 1 0 ++
    beBytes 2 flags ++ beBytes 8 (ofS 64 corr) ++ beBytes 4 0 ++ beBytes 10 ownPort ++ beBytes 2 seq ++
    beBytes 1 (ptpControl kind) ++ beBytes 1 (s.ptpLogInterval kind) ++ body

/-- Sends a message and counts it. -/
def State.ptpSend (s : State) (kind flags : Nat) (corr : Int) (seq : Nat) (body : List Byte) : State :=
  let g := ptpGroup (s.getF Fld.time.ptpTransport 0) (isPeerDelay kind)
  (s.ethSend ⟨.ptp (s.ethTx g.2) g.1 (s.ptpBytes kind flags corr seq body), 0, 0⟩).count 0x0F 0 21

/-- A hardware timestamp of instant r, in system units: within 4 ns, 64 fine slots, of it (R330). -/
def State.ptpTime (s : State) (r : Nat) : Int × State :=
  let d := s.draw
  (d.2.sysAt (r + Config.delay d.1 % 129 - 64), d.2)

/-- A timestamp field, seconds and nanoseconds, of a system time; what is left of a nanosecond goes into correctionField. -/
def ptpField (v : Int) : List Byte := beBytes 6 (sysFields v).1 ++ beBytes 4 (sysFields v).2.1
def ptpFrac (v : Int) : Int := (sysFields v).2.2

/-- The system time of a timestamp field at byte `off`. -/
def ptpFieldAt (msg : List Byte) (off : Nat) : Int :=
  ((beNat (sub msg off 6) * 10 ^ 9 + beNat (sub msg (off + 6) 4)) * 2 ^ 16 : Nat)

def ptpKind (msg : List Byte) : Nat := beNat (sub msg 0 1) % 16
def ptpCorr (msg : List Byte) : Int := toS 64 (beNat (sub msg 8 8))
def ptpSource (msg : List Byte) : Nat := beNat (sub msg 20 10)
def ptpSeq (msg : List Byte) : Nat := beNat (sub msg 30 2)
def ptpTwoStep (msg : List Byte) : Bool := bit (beNat (sub msg 6 1)) 1
/-- requestingPortIdentity of an answer to a delay request. -/
def ptpAsker (msg : List Byte) : Nat := beNat (sub msg 44 10)

def State.setPtp (s : State) (p : PtpRt) : State := { s with eth := { s.eth with ptp := p } }

/-! ### The best master clock (R331) -/

/-- Interval of 2^log seconds in ticks. -/
def logTicks (log : Int) : Nat := if log < 0 then 10 ^ 9 / 2 ^ log.natAbs else 10 ^ 9 * 2 ^ log.natAbs

/-- Data set of the own clock, in the order an Announce message carries it: priority1, clockClass, accuracy and variance,
priority2, identity. -/
def State.ownWord (s : State) : Nat :=
  s.getF Fld.time.priority1 0 * 2 ^ 104 + s.clockClass * 2 ^ 96 + Config.ptpQuality % 2 ^ 24 * 2 ^ 72 +
    s.getF Fld.time.priority2 0 * 2 ^ 64 + Config.ptpIdentity % 2 ^ 64

/-- A foreign master counts: two Announce messages within four announce intervals, the latest within three. -/
def State.qualified (s : State) (f : Foreign) : Bool :=
  let t := logTicks (toS 4 (s.getF Fld.time.logAnnounce 0))
  decide (f.prev ≠ 0 ∧ f.last ≤ f.prev + 4 * t ∧ s.tick + 1 < f.last + 3 * t)

/-- Foreign master a is better: its data set, then its steps removed, then its port. -/
def Foreign.better (a b : Foreign) : Bool :=
  decide (a.word < b.word ∨ (a.word = b.word ∧ (a.steps < b.steps ∨ (a.steps = b.steps ∧ a.port < b.port))))

/-- The best foreign master. -/
def State.bestForeign (s : State) : Option Foreign :=
  (s.eth.foreign.filter s.qualified).foldl
    (fun m f => match m with
      | some g => some (if f.better g then f else g)
      | none => some f) none

/-- PTP_PORT_STATE (R330, R331, R334): 3 DISABLED, 6 MASTER, 7 PASSIVE, 9 SLAVE. A clock of class 127 or below is never a
slave. -/
def State.ptpState (s : State) : Nat :=
  if !s.flag Fld.time.ptpEn 0 then 3
  else if s.flag Fld.time.ptpMasterOnly 0 then 6
  else match s.bestForeign with
    | none => 6
    | some f => if s.ownWord ≤ f.word then 6 else if s.clockClass ≤ 127 then 7 else 9

/-- A message from the master that a slave follows. -/
def State.fromMaster (s : State) (msg : List Byte) : Bool :=
  decide (s.ptpState = 9) && s.bestForeign.any (fun f => decide (f.port = ptpSource msg))

/-- An Announce message renews the record of the foreign master that sent it. -/
def State.announced (s : State) (msg : List Byte) : State :=
  let port := ptpSource msg
  let old := (s.eth.foreign.find? (fun f => decide (f.port = port))).map Foreign.last
  let f : Foreign := ⟨port, beNat (sub msg 47 14), beNat (sub msg 61 2), s.tick + 1, old.getD 0⟩
  { s with eth := { s.eth with foreign := f :: s.eth.foreign.filter (fun f => decide (f.port ≠ port)) } }

/-- An Announce message counts: fewer than 255 steps removed, not from the device itself, not an alternate master's. -/
def announceTaken (msg : List Byte) : Bool :=
  decide (beNat (sub msg 61 2) < 255) && decide (ptpSource msg / 2 ^ 16 ≠ Config.ptpIdentity % 2 ^ 64) &&
    !bit (beNat (sub msg 6 1)) 0

/-! ### What the port sends -/

/-- Sync, with its Follow_Up in two-step operation. It leaves at the start of the present tick. -/
def State.sendSync (s : State) : State :=
  let t := s.ptpTime s.now
  let p := t.2.eth.ptp
  let s1 := t.2.setPtp { p with syncSeq := (p.syncSeq + 1) % 2 ^ 16 }
  if s.flag Fld.time.ptpOneStep 0 then s1.ptpSend 0x0 0 (ptpFrac t.1) p.syncSeq (ptpField t.1)
  else (s1.ptpSend 0x0 0x200 0 p.syncSeq (ptpField 0)).ptpSend 0x8 0 (ptpFrac t.1) p.syncSeq (ptpField t.1)

/-- Announce: the clock's data set, UTC_OFFSET, TIME_SOURCE and ptpTimescale (R331). The other flags are 0 (DESIGN CHOICE). -/
def State.sendAnnounce (s : State) : State :=
  let p := s.eth.ptp
  (s.setPtp { p with announceSeq := (p.announceSeq + 1) % 2 ^ 16 }).ptpSend 0xB
    (if s.flag Fld.time.epochArb 0 then 0 else 8) 0 p.announceSeq
    (ptpField 0 ++ beBytes 2 (s.getF Fld.time.utcOffset 0) ++ beBytes 1 0 ++ beBytes 14 s.ownWord ++ beBytes 2 0 ++
      beBytes 1 (s.getF Fld.time.timeSource 0))

/-- The port sends Delay_Req as a slave, or Pdelay_Req in peer-to-peer operation. -/
def State.ptpRequests (s : State) : Bool := s.flag Fld.time.ptpP2p 0 || decide (s.ptpState = 9)

/-- Delay_Req or Pdelay_Req. -/
def State.sendRequest (s : State) : State :=
  let t := s.ptpTime s.now
  let p := t.2.eth.ptp
  let peer := s.flag Fld.time.ptpP2p 0
  (t.2.setPtp { p with dreqSeq := (p.dreqSeq + 1) % 2 ^ 16, sentAt := t.1 }).ptpSend (if peer then 0x2 else 0x1) 0 0 p.dreqSeq
    (ptpField 0 ++ beBytes (if peer then 10 else 0) 0)

/-- A PTP message interval has expired (R330). -/
def State.ptpDue (s : State) : Bool :=
  s.ethUp && s.ptpOn &&
    ((decide (s.ptpState = 6) && decide (s.eth.syncAt ≤ s.tick ∨ s.eth.announceAt ≤ s.tick)) ||
      (s.ptpRequests && decide (s.eth.dreqAt ≤ s.tick)))

/-- PTP_MESSAGE_INTERVAL: Sync, Announce and Delay_Req that are due leave. -/
def State.ptpInterval (s : State) : State :=
  if !s.ptpDue then s
  else
    let m := decide (s.ptpState = 6)
    let log := fun f => logTicks (toS 4 (s.getF f 0))
    let s1 := if m ∧ s.eth.syncAt ≤ s.tick then
        ({ s with eth := { s.eth with syncAt := s.tick + log Fld.time.logSync } }).sendSync else s
    let s2 := if m ∧ s.eth.announceAt ≤ s.tick then
        ({ s1 with eth := { s1.eth with announceAt := s.tick + log Fld.time.logAnnounce } }).sendAnnounce else s1
    if s.ptpRequests ∧ s.eth.dreqAt ≤ s.tick then
      ({ s2 with eth := { s2.eth with dreqAt := s.tick + log Fld.time.logMinDreq } }).sendRequest
    else s2

/-! ### What the port receives -/

/-- At most 4,096 delay requests are served in a second (R330): whether this one is. -/
def State.servePtp (s : State) : Bool × State :=
  let s1 := if s.eth.servedAt + 10 ^ 9 ≤ s.tick then { s with eth := { s.eth with served := 0, servedAt := s.tick } } else s
  if s1.eth.served < 4096 then (true, { s1 with eth := { s1.eth with served := s1.eth.served + 1 } })
  else (false, s1.count 0x0F 0 23)

/-- Answers a delay request that came at system time `t`: the asker's identity and sequence number go back. -/
def State.answerDelay (s : State) (msg : List Byte) (t : Int) : State :=
  let r := s.servePtp
  let asker := beBytes 10 (ptpSource msg)
  let c := ptpCorr msg
  let seq := ptpSeq msg
  if !r.1 then r.2
  else if ptpKind msg = 0x1 then r.2.ptpSend 0x9 0 (c - ptpFrac t) seq (ptpField t ++ asker)
  else
    let u := r.2.ptpTime r.2.now
    if s.flag Fld.time.ptpOneStep 0 then u.2.ptpSend 0x3 0 (c + (u.1 - t)) seq (ptpField 0 ++ asker)
    else (u.2.ptpSend 0x3 0x200 (-ptpFrac t) seq (ptpField t ++ asker)).ptpSend 0xA 0 (c + ptpFrac u.1) seq
      (ptpField u.1 ++ asker)

def State.ptpIgnored (s : State) : State := s.count 0x0F 0 24

/-- A slave has measured a difference to its master: PTP_OFFSET takes it without the mean path delay (R331). -/
def State.ptpMeasured (s : State) (diff : Int) : State :=
  (s.setPtp { s.eth.ptp with diff := diff, syncRx := (0, 0) }).setF Fld.time.ptpOffset 0 (ofS 64 (diff - s.eth.ptp.delay))

/-- Sync and Follow_Up of the master. -/
def State.ptpSync (s : State) (msg : List Byte) (t : Int) : State :=
  if !s.fromMaster msg then s.ptpIgnored
  else if ptpKind msg = 0x0 then
    if ptpTwoStep msg then s.setPtp { s.eth.ptp with syncRx := (ptpSeq msg + 1, t - ptpCorr msg) }
    else s.ptpMeasured (t - ptpCorr msg - ptpFieldAt msg 34)
  else if s.eth.ptp.syncRx.1 = ptpSeq msg + 1 then s.ptpMeasured (s.eth.ptp.syncRx.2 - ptpCorr msg - ptpFieldAt msg 34)
  else s.ptpIgnored

/-- An answer to the port's latest request. -/
def State.ptpForUs (s : State) (msg : List Byte) : Bool :=
  decide (ptpAsker msg = ownPort ∧ (ptpSeq msg + 1) % 2 ^ 16 = s.eth.ptp.dreqSeq)

/-- Answers to Delay_Req and Pdelay_Req: the mean path delay. -/
def State.ptpAnswer (s : State) (msg : List Byte) (t : Int) : State :=
  let p := s.eth.ptp
  let c := ptpCorr msg
  let at_ := ptpFieldAt msg 34
  if !s.ptpForUs msg then s.ptpIgnored
  else match ptpKind msg with
    | 0x9 => if s.fromMaster msg then s.setPtp { p with delay := (p.diff + (at_ - c - p.sentAt)) / 2 } else s.ptpIgnored
    | 0x3 => if ptpTwoStep msg then s.setPtp { p with respRx := t - c, peerRx := at_ }
             else s.setPtp { p with delay := (t - p.sentAt - c) / 2 }
    | _ => s.setPtp { p with delay := (p.respRx - p.sentAt - (at_ - p.peerRx) - c) / 2 }

/-- PTP_MESSAGE (R330 to R332). -/
def State.ptpMessage (s : State) (rx : EthRx) (msg : List Byte) : State :=
  let e := s.ethTake rx
  let tr := s.getF Fld.time.ptpTransport 0
  if !e.1 then e.2
  else if !s.ptpOn ∨ ¬(rx.target.toNat = (ptpGroup tr false).1 ∨ rx.target.toNat = (ptpGroup tr true).1) then e.2.ethDrop
  else
    let t := (e.2.count 0x0F 0 22).ptpTime (s.now + rx.fine.toNat)
    let kind := ptpKind msg
    let p2p := s.flag Fld.time.ptpP2p 0
    if msg.length < ptpLength kind ∨ beNat (sub msg 1 1) % 16 ≠ 2 ∨ beNat (sub msg 4 1) ≠ s.getF Fld.time.ptpDomain 0 then
      t.2.ptpIgnored
    else match kind with
      | 0x0 => t.2.ptpSync msg t.1
      | 0x8 => t.2.ptpSync msg t.1
      | 0x1 => if s.ptpState = 6 ∧ !p2p then t.2.answerDelay msg t.1 else t.2.ptpIgnored
      | 0x2 => if p2p then t.2.answerDelay msg t.1 else t.2.ptpIgnored
      | 0x9 => if p2p then t.2.ptpIgnored else t.2.ptpAnswer msg t.1
      | 0x3 => if p2p then t.2.ptpAnswer msg t.1 else t.2.ptpIgnored
      | 0xA => if p2p then t.2.ptpAnswer msg t.1 else t.2.ptpIgnored
      | 0xB => if s.flag Fld.time.ptpMasterOnly 0 ∨ !announceTaken msg then t.2.ptpIgnored else t.2.announced msg
      | _ => t.2.ptpIgnored

/-! ### Other traffic, PAUSE and the link (R400, R401, R404) -/

/-- A request that the port answers: for an address of its own, of the family the request belongs to (R401). -/
def State.ethAnswers (s : State) (target : Nat) (k : EthTraffic) : Bool :=
  match k with
  | .arp => isV4 target && s.ownAddress target
  | .neighborSolicitation => !isV4 target && s.ownAddress target
  | .echo => s.ownAddress target
  | .other => false

/-- ETH_REQUEST (R401): the answer goes to the address that the request came from. -/
def State.ethRequest (s : State) (rx : EthRx) (k : EthTraffic) : State :=
  let e := s.ethTake rx
  if !e.1 then e.2
  else if s.ethAnswers rx.target.toNat k then e.2.ethSend ⟨.ethAnswer (s.ethTx rx.mac.toNat) rx.ip.toNat k, 0, 0⟩
  else e.2.ethDrop

/-- Bits per tick of an Ethernet mode (R400). -/
def ethRate (mode : Nat) : Nat := match mode with | 1 => 10 | 2 => 25 | _ => 100

/-- PAUSE_FRAME: transmission stops for a number of quanta of 512 bit times (R400). -/
def State.pauseFrame (s : State) (quanta : Nat) : State :=
  if !s.ethUp then s
  else
    let r := ethRate (s.getF Fld.eth.ethMode 0)
    { s with eth := { s.eth with pauseEnd := s.tick + (512 * quanta + r - 1) / r } }

/-- ETH_LINK_UP: in mode Off there is no link (R400, R404). -/
def State.ethLinkUp (s : State) : State :=
  if s.powered domETH ∧ s.getF Fld.eth.ethMode 0 ≠ 0 then s.setF Fld.eth.linkUp 0 1 else s

/-- ETH_LINK_DOWN: the frames that wait for the end of a pause are lost (R233, R403, R404). -/
def State.ethLinkDown (s : State) : State := if !s.powered domETH then s else (s.setF Fld.eth.linkUp 0 0).dropQueue

/-! ### Meanings -/

/-- PTP_MESSAGE (R330). -/
def execPtpMessage (frame : PtpFrame) (s : State) : Host.Outcome State Fault Refusal :=
  .next (s.ptpMessage frame.rx frame.msg)

/-- PTP_MESSAGE_INTERVAL (R330). -/
def execPtpMessageInterval (s : State) : Host.Outcome State Fault Refusal := .next s.ptpInterval

/-- ETH_REQUEST (R401). -/
def execEthRequest (req : EthRequest) (s : State) : Host.Outcome State Fault Refusal :=
  .next (s.ethRequest req.rx req.kind)

/-- PAUSE_FRAME (R400). -/
def execPauseFrame (quanta : BitVec 16) (s : State) : Host.Outcome State Fault Refusal := .next (s.pauseFrame quanta.toNat)

/-- ETH_LINK_UP (R404). -/
def execEthLinkUp (s : State) : Host.Outcome State Fault Refusal := .next s.ethLinkUp

/-- ETH_LINK_DOWN (R233). -/
def execEthLinkDown (s : State) : Host.Outcome State Fault Refusal := .next s.ethLinkDown

end Sys2Proof.Machine
end

