-- ==== Sys2Proof/Machine/LedgerCommands.lean ====
section
/-! DEFINITION. The commands and events of the ledger (14_ledger.md) over the operations of Machine/Ledger.lean. -/

namespace Sys2Proof.Machine

/-- LDG_SNAP (R372), with PEERS the request to every port in link-up (R370, R371). -/
def cmdLdgSnap (tick : Nat) (peers : Bool) : Own := fun id s =>
  if s.ldg.st = 2 then refuse (s.count 0x18 0 1) .ledgerHeld
  else if s.ldg.st = 1 then refuse s .busy
  else match s.tickParam tick with
    | none => refuse s .tooLate
    | some t =>
      let peerSet := if peers then s.upMask else 0
      let s1 := s.scheduleSnapshot t 0 0 peerSet
      let s2 := (setPositions peerSet 4).foldl (fun u p => u.sendMsg p 2 (snapMsg t (w64 (s.ldg.num + 1)))) s1
      ({ s2 with ldg := { s2.ldg with waiting := s2.ldg.waiting ++ [(t + 8, id, peerSet, 0)] } }, Reply.wait)

/-- LDG_READ (R373). -/
def cmdLdgRead (h : Hdr) (cls first count : Nat) : Own := fun _ s =>
  let u := unitInstances cls
  if u.2 = 0 ∨ count = 0 ∨ first < u.1 ∨ u.1 + u.2 < first + count ∨ h.extlen.toNat < recordLength cls count then
    refuse s .badParam
  else if s.ldg.st ≠ 2 then refuse s .state
  else
    let q := s.nextSeq 81
    let rec_ := q.2.ledgerRecord cls first count q.1
    (q.2, { Reply.ok2 rec_.length (s.ldg.num % 2 ^ 32) with data := rec_ })

/-- LDG_RELEASE (R374). -/
def cmdLdgRelease : Own := fun _ s =>
  if s.ldg.st = 2 then (s.ledgerRelease, Reply.ok1 (s.ldg.num % 2 ^ 32)) else (s, Reply.ok1 0)

/-- LDG_STATUS: the number held, or the one a pending snapshot will take. -/
def cmdLdgStatus : Own := fun _ s =>
  let num := if s.ldg.st = 1 then w64 (s.ldg.num + 1) else if s.ldg.st = 2 then s.ldg.num else 0
  let t := if s.ldg.st = 0 then 0 else s.ldg.tick
  (s, Reply.ok4 s.ldg.st (num % 2 ^ 32) (bits t 0 32) (bits t 32 32))

/-! ### Meanings -/

/-- LDG_SNAP (R372). -/
def execLdgSnap (h : Hdr) (tick : BitVec 64) (peers : Bool) (s : State) : Host.Outcome State Fault Refusal :=
  run (.ldgSnap h tick peers) h (cmdLdgSnap tick.toNat peers) s

/-- LDG_READ (R373). -/
def execLdgRead (h : Hdr) (cls : BitVec 8) (first count : BitVec 16) (s : State) : Host.Outcome State Fault Refusal :=
  run (.ldgRead h cls first count) h (cmdLdgRead h cls.toNat first.toNat count.toNat) s

/-- LDG_RELEASE (R374). -/
def execLdgRelease (h : Hdr) (s : State) : Host.Outcome State Fault Refusal := run (.ldgRelease h) h cmdLdgRelease s

/-- LDG_STATUS (R430). -/
def execLdgStatus (h : Hdr) (s : State) : Host.Outcome State Fault Refusal := run (.ldgStatus h) h cmdLdgStatus s

/-- EVT_LEDGER_SNAPSHOT (R369). -/
def execEvtLedgerSnapshot (s : State) : Host.Outcome State Fault Refusal := .next s.evtLedger

/-- LEDGER_SNAPSHOT (R365). -/
def execLedgerSnapshot (s : State) : Host.Outcome State Fault Refusal := .next s.ledgerSnapshot

/-- LEDGER_MIRROR (R364). -/
def execLedgerMirror (s : State) : Host.Outcome State Fault Refusal := .next s.ledgerMirror

end Sys2Proof.Machine
end

