-- ==== Sys2Proof/Machine/Survey.lean ====
section
/-! DEFINITION. Survey streams (08_survey_streams.md): sources, the CIC decimator, droop compensator, resampler and
gain, blocks and their delivery, starting and stopping. -/

namespace Sys2Proof.Machine

/-! ### Configuration (R221, R223, R224) -/

def svOrder (c : Nat) : Nat := fieldOf Fld.survey.order c
def svR (c : Nat) : Nat := fieldOf Fld.survey.decimM1 c + 1
def svM (c : Nat) : Nat := fieldOf Fld.survey.ddelay c + 1
def svRatio (c : Nat) : Nat := fieldOf Fld.survey.ratio c
def svDroop (c : Nat) : Nat := fieldOf Fld.survey.droopEn c

/-- SHIFTj, j from 1. -/
def svShift (c j : Nat) : Nat := bits c (32 + 5 * (j - 1)) 5

/-- Source input of a configuration (R221). -/
def svInput (c : Nat) : Nat :=
  if fieldOf Fld.survey.srcKind c = 0 then inputOfRc (fieldOf Fld.survey.src c) else fieldOf Fld.survey.src c

/-- Bit growth G (R223): the least g with (R·M)^N ≤ 2^g. -/
def bitGrowth (c : Nat) : Nat :=
  match (List.range 80).find? (fun g => decide ((svR c * svM c) ^ svOrder c ≤ 2 ^ g)) with
  | some g => g
  | none => 80

/-- Writes that R224 refuses. -/
def badSurvey (c : Nat) : Bool :=
  decide (svOrder c < 3 ∨ 5 < svOrder c) || decide (63 < bitGrowth c) || decide (svShift c 1 + 32 < bitGrowth c) ||
    (List.range 10).any (fun j => decide (2 * svOrder c < j + 1 ∧ svShift c (j + 1) ≠ 0)) ||
    decide (fieldOf Fld.survey.decimM1 c = 0) ||
    decide (fieldOf Fld.survey.srcKind c = 1 ∧ 31 < fieldOf Fld.survey.src c) ||
    decide (svRatio c < 0x080000001 ∨ 0x100000000 < svRatio c)

/-- Writes that R237 refuses with STATE: `mask` is the range. -/
def stateSurvey (old mask : Nat) : Bool :=
  decide (fieldOf Fld.survey.state old ≠ 0) &&
    decide (mask &&& rowMask (fun r => decide (r.acc = .rw)) rowsSurvey ≠ 0)

/-! ### The chain (R223 to R228) -/

/-- Wraps to 48 bits, two's complement (R223). -/
def wrap48 (v : Int) : Int := toS 48 (ofS 48 v)

/-- The integrator stages from stage j on: new registers and the value after the last stage's shift. -/
def integrate (c : Nat) : Nat → Int → List Int → List Int × Int
  | _, x, [] => ([], x)
  | j, x, r :: rs =>
    let v := wrap48 (r + x)
    let rest := integrate c (j + 1) (v / (2 : Int) ^ svShift c j) rs
    (v :: rest.1, rest.2)

/-- The comb stages from stage j on: new delay lines (newest first) and the value after the last stage's shift. -/
def comb (c : Nat) : Nat → Int → List (List Int) → List (List Int) × Int
  | _, x, [] => ([], x)
  | j, x, d :: ds =>
    let v := wrap48 (x - d.getD (svM c - 1) 0)
    let rest := comb c (j + 1) (v / (2 : Int) ^ svShift c j) ds
    ((x :: d.take (svM c - 1)) :: rest.1, rest.2)

/-- One source sample through the CIC: the new chain, and whether a CIC output was formed. -/
def SvRun.cicStep (r : SvRun) (x : Iq) (n : Nat) (stale : Bool) : SvRun × Bool :=
  let c := r.cfg
  let i := integrate c 1 x.i r.intI
  let q := integrate c 1 x.q r.intQ
  let r1 := { r with intI := i.1, intQ := q.1, taken := r.taken + 1, lastStale := if stale then n + 1 else r.lastStale }
  if r1.taken % svR c ≠ 0 then (r1, false)
  else
    let ci := comb c (svOrder c + 1) i.2 r1.combI
    let cq := comb c (svOrder c + 1) q.2 r1.combQ
    let clip := saturates 16 ci.2 || saturates 16 cq.2
    ({ r1 with combI := ci.1, combQ := cq.1, cic := ((⟨sat 16 ci.2, sat 16 cq.2⟩, clip) :: r1.cic).take 15
               nCic := r1.nCic + 1 }, true)

/-- Coefficient k of the 15-tap droop compensator, units of 2^-30: symmetric, and of sum 1 (R225). -/
def droopCoef (order ddelay k : Nat) : Int :=
  let t := fun (j : Nat) => Config.droopTap order ddelay j
  if k < 7 then t k
  else if k = 7 then 2 ^ 30 - 2 * (t 0 + t 1 + t 2 + t 3 + t 4 + t 5 + t 6)
  else t (14 - k)

/-- A filter of n taps with coefficients in units of 2^-sh over samples, newest first, absent ones zero: I and Q apart,
rounded half up. -/
def firIq (sh n : Nat) (coef : Nat → Int) (l : List Iq) : Iq :=
  let v := (List.range n).foldl (fun (a : Iq) (k : Nat) =>
    let x := l.getD k ⟨0, 0⟩
    ⟨a.i + coef k * x.i, a.q + coef k * x.q⟩) ⟨0, 0⟩
  ⟨rshift v.i sh, rshift v.q sh⟩

/-- Coefficient k of the resampler for a position whose fraction is given in 16 bits, units of 2^-40: that of phase p, the
upper 6 bits, interpolated to phase p + 1 by the other 10 (R226). -/
def resampleCoef (frac k : Nat) : Int :=
  let p := frac / 1024
  let r : Int := ((frac % 1024 : Nat) : Int)
  Config.resampleTap p k * (1024 - r) + Config.resampleTap (p + 1) k * r

/-- The droop compensator's output after a new CIC output (R225): with DROOP_EN 0 the CIC output itself; with 1 the output
of index seven earlier, from the 15 outputs around it. Answers the chain, whether an output was formed, and whether it
saturated at this stage. -/
def SvRun.droopStep (r : SvRun) : SvRun × Bool × Bool :=
  let c := r.cfg
  if svDroop c = 0 then
    match r.cic with
    | [] => (r, false, false)
    | y :: _ => ({ r with dr := (y :: r.dr).take 16, nDr := r.nDr + 1 }, true, false)
  else if r.nCic < 8 then (r, false, false)
  else
    let v := firIq 30 15 (droopCoef (svOrder c) (svM c - 1)) (r.cic.map Prod.fst)
    let clip := saturates 16 v.i || saturates 16 v.q
    let marked := clip || r.cic.any (fun y => y.2)
    ({ r with dr := ((⟨sat 16 v.i, sat 16 v.q⟩, marked) :: r.dr).take 16, nDr := r.nDr + 1 }, true, clip)

/-- Grid position of index k' as a fraction (R229): numerator over 64·RATIO. -/
def gridNum (c k : Nat) : Nat := fieldOf Fld.survey.delayFrac c * svRatio c + 64 * k * 2 ^ 32
def gridDen (c : Nat) : Nat := 64 * svRatio c

/-- j_min of R229. -/
def svJmin (c : Nat) : Nat := (svOrder c * (svR c * svM c - 1) + 1 + svR c - 1) / svR c - 1

/-- First undiscarded grid index (R229): the smallest k' that meets it. -/
def firstGrid (c : Nat) : Nat :=
  let need := svJmin c + 7 + 7 * svDroop c
  match (List.range 64).find? (fun k => decide (need ≤ gridNum c k / gridDen c)) with
  | some k => k
  | none => 64

/-- Raw time of delivered sample k, rounded half up to a fine slot (R230). -/
def svInstant (r : SvRun) (k : Nat) : Nat :=
  let c := r.cfg
  let g := firstGrid c + k
  let num : Int := ((16 * r.a : Nat) : Int) - 16 - 8 * (svOrder c * (svR c * svM c - 1) : Nat)
  let den := gridDen c
  let x : Int := num * den + 16 * (svR c : Int) * ((gridNum c g + den : Nat) : Int)
  ((2 * x + den) / (2 * (den : Int))).toNat

/-- Whether the sample of the next grid position can be formed (R226): its last input has just been formed. -/
def SvRun.sampleReady (r : SvRun) : Bool := decide (gridNum r.cfg r.formed / gridDen r.cfg + 8 + 1 ≤ r.nDr)

/-- The sample of the next grid position (R226, R227): value, saturation of the resampler or gain, OVF of its block, STALE of
its block. DESIGN CHOICE: the resampler rounds half up, as the stages beside it do. -/
def SvRun.sample (r : SvRun) : Iq × Bool × Bool × Bool :=
  let c := r.cfg
  let fl := gridNum c r.formed / gridDen c
  let frac := gridNum c r.formed % gridDen c * 2 ^ 16 / gridDen c
  let v := firIq 40 16 (resampleCoef frac) (r.dr.map Prod.fst)
  let w : Iq := ⟨sat 16 v.i, sat 16 v.q⟩
  let g := fieldOf Fld.survey.outGain c
  let oi := rshift (w.i * g) 14
  let oq := rshift (w.q * g) 14
  let clip := saturates 16 v.i || saturates 16 v.q || saturates 16 oi || saturates 16 oq
  let lo : Int := (svR c : Int) * ((fl : Int) - 7 - 7 * svDroop c + 1) - 1 - (svOrder c * (svR c * svM c - 1) : Nat)
  (⟨sat 16 oi, sat 16 oq⟩, clip, clip || r.dr.any (fun y => y.2),
    decide (r.lastStale ≠ 0 ∧ (r.a : Int) + lo ≤ (r.lastStale : Int) - 1))

/-! ### One tick of a stream (R221, R222) -/

def State.svRun (s : State) (n : Nat) : SvRun := sget (fun _ => SvRun.none) s.sv.run n

def State.setSvRun (s : State) (n : Nat) (r : SvRun) : State :=
  { s with sv := { s.sv with run := sset (fun _ => SvRun.none) s.sv.run n r } }

/-- A saturation in a stream's chain (R228). -/
def State.svClip (s : State) (n : Nat) (clip : Bool) : State :=
  if clip then (s.raise Fld.survey.sat n).count 0x09 n 3 else s

/-- Source sample of ball tick m (R221): zero in a calibration interval (R222). -/
def State.svSource (s : State) (c m : Nat) : Iq × Bool :=
  let i := svInput c
  if s.inCalSpan i m then (⟨0, 0⟩, true)
  else if fieldOf Fld.survey.srcKind c = 0 then (s.baseband (fieldOf Fld.survey.src c) m, false)
  else (s.ddc i m, false)

/-- The stream takes source sample m; what the run-in samples before the first delivered one give is discarded, but for a
saturation (R228, R229). -/
def State.svTake (s : State) (n m : Nat) : State :=
  let r := s.svRun n
  let x := s.svSource r.cfg m
  let a := r.cicStep x.1 m x.2
  if !a.2 then s.setSvRun n a.1
  else
    let s1 := s.svClip n (match a.1.cic with | y :: _ => y.2 | [] => false)
    let b := a.1.droopStep
    let s2 := s1.svClip n b.2.2
    if !b.2.1 ∨ !b.1.sampleReady then s2.setSvRun n b.1
    else
      let o := b.1.sample
      let r1 := { b.1 with formed := b.1.formed + 1 }
      let s3 := s2.svClip n o.2.1
      if b.1.formed < firstGrid r.cfg then s3.setSvRun n r1
      else
        let s4 := if b.1.delivered = 0 then s3.setF Fld.survey.firstInstant n (w64 (svInstant b.1 0)) else s3
        s4.setSvRun n { r1 with delivered := b.1.delivered + 1, block := o.1 :: b.1.block
                                blkSat := b.1.blkSat || o.2.2.1, blkStale := b.1.blkStale || o.2.2.2 }

/-- Sample m is the next that a run takes. -/
def SvRun.open_ (r : SvRun) (m : Nat) : Bool :=
  decide (r.cfg ≠ 0 ∧ r.a + r.taken = m) && (match r.tp with | some t => decide (m < t) | .none => true)

/-- The stream takes source sample m when that is its next. -/
def State.svNext (s : State) (n m : Nat) : State := if (s.svRun n).open_ m then s.svTake n m else s

/-- End of a tick: every stream takes the source sample of 35 ticks ago, which no later change can touch. -/
def State.surveyTick (s : State) : State :=
  if s.tick < 35 ∨ !s.vitClocked then s
  else s.sv.run.foldl (fun u e => u.svNext e.1 (s.tick - 35)) s

/-! ### Blocks (R231 to R233) -/

/-- Marks the sources of entries that a length change discarded: the next record of each carries LOST. -/
def State.streamsLost (s : State) (l : List Nat) : State :=
  l.foldl (fun u n => u.markLost (1 + n)) s

/-- Sends a stream's open datagram (R233). -/
def State.svSend (s : State) (n : Nat) : State :=
  let r := s.svRun n
  let k := r.dgram.length
  if k = 0 then s
  else
    let d := fieldOf Fld.survey.udpDest r.cfg
    let e := bits (s.obj 0x13 0) (1024 + 256 * d) 256
    (s.setSvRun n { r with dgram := [] }).ethSend
      ⟨.datagram (s.ethTx (bits e 80 48)) (bits e 128 128) (bits e 64 16) 49401 r.dgram.flatten, n + 1, k⟩

/-- The blocks of every open datagram are lost with the engine's power (R17, R236). -/
def State.svDropped (s : State) : State :=
  s.sv.run.foldl (fun u e => if e.2.dgram = [] then u else (u.countN 0x09 e.1 2 e.2.dgram.length).markLost (1 + e.1)) s

/-- Closes the stream's open block, at most 120 samples (R231, R232). -/
def State.closeBlock (s : State) (n : Nat) : State :=
  let r := s.svRun n
  let all := r.block.reverse
  let l := all.take 120
  let q := s.nextSeq (1 + n)
  let first := r.delivered - all.length
  let flags := (if r.blkStale then 1 else 0) + (if r.blkSat then 2 else 0) + s.lostFlag (1 + n)
  let bytes := q.2.tag 0x02 n flags (svInstant r first) (q.1 % 65536) ++
    l.flatMap (fun v => leBytes 2 (ofS 16 v.i) ++ leBytes 2 (ofS 16 v.q)) ++ leBytes (4 * (120 - l.length)) 0
  let s1 := q.2.count 0x09 n 0
  let s2 := if r.blkStale then s1.count 0x09 n 4 else s1
  let r1 := { r with block := (all.drop 120).reverse, blkSat := false, blkStale := false }
  let s3 := (s2.clearLost (1 + n)).setSvRun n r1
  if fieldOf Fld.survey.dest r.cfg = 0 then
    let k := 8 + fieldOf Fld.survey.ring r.cfg
    if s3.ringRoom k then
      let o := (s3.count 0x09 n 1).ringProduce k bytes n
      o.1.streamsLost o.2
    else ((s3.ringLost k 1).count 0x09 n 2).streamsLost [n]
  else
    let s4 := s3.setSvRun n { r1 with dgram := r1.dgram ++ [bytes] }
    if fieldOf Fld.survey.dgramBlocksM1 r.cfg + 1 ≤ r1.dgram.length + 1 then s4.svSend n else s4

/-- Every sample before the stop tick has passed the chain. -/
def SvRun.drained (r : SvRun) (tick : Nat) : Bool :=
  match r.tp with
  | some t => decide (t + 35 ≤ tick)
  | .none => false

/-- SURVEY_BLOCK is due. -/
def State.surveyBlockDue (s : State) (n : Nat) : Bool :=
  let r := s.svRun n
  decide (r.cfg ≠ 0) && (decide (120 ≤ r.block.length) || r.drained s.tick)

/-- SURVEY_BLOCK: a full block, or the last one of a stopped run, with LAST_COUNT: the samples of the run's last block, 0 where
the run delivered none (R231, R235). DESIGN CHOICE: the last datagram of a stopped run, which may hold fewer blocks than
DGRAM_BLOCKS_M1 + 1, is sent at once (R233 is silent on it). -/
def State.surveyBlock (s : State) (n : Nat) : State :=
  if !s.surveyBlockDue n then s
  else
    let r := s.svRun n
    if 120 ≤ r.block.length then s.closeBlock n
    else
      let last := if r.block ≠ [] then r.block.length else if r.delivered = 0 then 0 else 120
      let s1 := (if r.block = [] then s else s.closeBlock n).setF Fld.survey.lastCount n last
      (s1.svSend n).setSvRun n SvRun.none

/-! ### Starting and stopping (R229, R234 to R236) -/

/-- STATE of a stream: 0 IDLE, 1 ARMED, 2 RUNNING. -/
def State.svState (s : State) (n : Nat) : Nat := s.getF Fld.survey.state n

/-- Sum of RATIO / DECIM over streams as a fraction. -/
def rateSum (l : List Nat) : Nat × Nat :=
  l.foldl (fun a c => (a.1 * svR c + svRatio c * a.2, a.2 * svR c)) (0, 1)

/-- Whether a named stream's destination is ready (R234). An Ethernet entry is valid when its VALID is 1: no write
leaves one of a disabled family (R404). -/
def State.svDestOk (s : State) (c : Nat) : Bool :=
  if fieldOf Fld.survey.dest c = 0 then
    let r := s.ring (8 + fieldOf Fld.survey.ring c)
    decide (r.owner ≠ 0) && r.en
  else bit (s.obj 0x13 0) (1024 + 256 * fieldOf Fld.survey.udpDest c)

/-- SURVEY_START (R234). DESIGN CHOICE: HALT_REASON goes back to none here; SRC_HALT and FIRST_INSTANT stay. -/
def cmdSurveyStart (mask tick : Nat) : Own := fun _ s =>
  let ns := setPositions mask 64
  let cfg := fun n => s.obj 0x0A n
  let busy := (List.range 64).filter (fun n => decide (s.svState n ≠ 0) || bit mask n)
  let r := rateSum (busy.map cfg)
  if mask = 0 then refuse s .badParam
  else if !s.powered domVIT ∨ ns.any (fun n => !s.powered (domAT (svInput (cfg n) / 4))) then refuse s .absent
  else if ns.any (fun n => decide (s.svState n ≠ 0)) then refuse s .state
  else if ns.any (fun n => !(s.inputState (svInput (cfg n)) = 3 || s.inputState (svInput (cfg n)) = 4)) then refuse s .state
  else if ns.any (fun n => !s.svDestOk (cfg n)) then refuse s .state
  else if 256 * 2 ^ 32 * r.2 < 1000 * r.1 then refuse s .busy
  else match s.tickParam tick with
    | none => refuse s .tooLate
    | some t =>
      (ns.foldl (fun u n => (((u.setF Fld.survey.state n 1).setF Fld.survey.startTick n t).setF Fld.survey.stopTick n 0).setF
        Fld.survey.haltReason n 0) s, Reply.ok64 t)

/-- SURVEY_STOPs that wait for stream n see it IDLE (R235). -/
def State.svIdleSeen (s : State) (n byId : Nat) : State :=
  s.cmd.open_.foldl
    (fun u cmd =>
      match cmd.instr, cmd.st with
      | .surveyStop _ _ _, .waiting =>
        if !bit cmd.mask n then u
        else
          let m := clearMask cmd.mask (1 <<< n)
          let r := if byId = cmd.id + 1 then cmd.res ||| (1 <<< n) else cmd.res
          let u1 := u.setCmd cmd.id m r
          if m = 0 then u1.completeId cmd.id (Reply.ok64 r) else u1
      | _, _ => u) s

/-- A stream goes IDLE at the present tick with a cause: 1 COMMAND, 2 SOURCE_OFF (R235, R236). DESIGN CHOICE: an ARMED stream
that stops takes STOP_TICK and HALT_REASON as a run that ends does, and LAST_COUNT 0. -/
def State.svHalt (s : State) (n cause : Nat) : State :=
  let byId := if cause = 1 then (sget (fun _ => (0, 0)) s.sv.stop n).2 else 0
  let was := s.svState n
  let r := s.svRun n
  let s1 := ((s.setF Fld.survey.state n 0).setF Fld.survey.stopTick n s.tick).setF Fld.survey.haltReason n cause
  let last := if s.tileClocked then s.tick else min s.tick (r.a + r.taken)
  let s2 := if was = 2 then s1.setSvRun n { r with tp := some last } else s1.setF Fld.survey.lastCount n 0
  let s3 := { s2 with sv := { s2.sv with stop := sset (fun _ => (0, 0)) s2.sv.stop n (0, 0) } }
  (if cause = 2 then s3.raise Fld.survey.srcHalt n else s3).svIdleSeen n byId

/-- SURVEY_STOP (R235). -/
def cmdSurveyStop (mask tick : Nat) : Own := fun id s =>
  if !s.powered domVIT then refuse s .absent
  else
    let ns := (setPositions mask 64).filter (fun n => decide (s.svState n ≠ 0))
    if ns = [] then (s, Reply.ok64 0)
    else
      let t := max tick s.tick
      let s1 := ns.foldl
        (fun u n =>
          let old := sget (fun _ => (0, 0)) u.sv.stop n
          if old.1 ≠ 0 ∧ old.1 ≤ t + 1 then u
          else { u with sv := { u.sv with stop := sset (fun _ => (0, 0)) u.sv.stop n (t + 1, id + 1) } })
        (s.setCmd id (maskOf ns) 0)
      (if t = s.tick then ns.foldl (fun u n => if u.svState n = 0 then u else u.svHalt n 1) s1 else s1, Reply.wait)

/-- SURVEY_STOP_TICK is due. -/
def State.surveyStopDue (s : State) (n : Nat) : Bool :=
  let e := (sget (fun _ => (0, 0)) s.sv.stop n).1
  decide (e ≠ 0 ∧ e ≤ s.tick + 1 ∧ s.svState n ≠ 0)

/-- SURVEY_STOP_TICK (R235). -/
def State.surveyStopTick (s : State) (n : Nat) : State := if s.surveyStopDue n then s.svHalt n 1 else s

/-- SURVEY_RUN_START is due. -/
def State.surveyStartDue (s : State) (n : Nat) : Bool :=
  decide (s.svState n = 1 ∧ s.getF Fld.survey.startTick n ≤ s.tick) && !s.surveyStopDue n

/-- SURVEY_RUN_START (R229): a source that is not in RUNNING or CAL halts the stream at once (R236). -/
def State.surveyRunStart (s : State) (n : Nat) : State :=
  if !s.surveyStartDue n then s
  else
    let c := s.obj 0x0A n
    let k := svOrder c
    let z := List.replicate k (0 : Int)
    let zz := List.replicate k ([] : List Int)
    let r : SvRun := { SvRun.none with
      cfg := c, a := s.tick + fieldOf Fld.survey.delayInt c, intI := z, intQ := z, combI := zz, combQ := zz }
    let s1 := (s.setF Fld.survey.state n 2).setSvRun n r
    if s.inputState (svInput c) = 3 ∨ s.inputState (svInput c) = 4 then s1 else s1.svHalt n 2

/-- A block that is full closes before the stream takes more (R231). -/
def State.svFull (s : State) (n : Nat) : State := if 120 ≤ (s.svRun n).block.length then s.closeBlock n else s

/-- A stream takes the samples of the last 35 ticks at once: what its source is made of is about to go. -/
def State.svFinish (s : State) (n : Nat) : State :=
  (List.range 35).foldl (fun u k => if 35 ≤ s.tick + k then (u.svFull n).svNext n (s.tick + k - 35) else u) s

/-- An input leaves RUNNING or CAL for OFF, or its tile loses power: its RUNNING streams halt, and they and the streams that
were stopped in the last 35 ticks take the samples before their stop while the input's state stands (R236). -/
def State.surveySourceOff (s : State) (i : Nat) : State :=
  (List.range 64).foldl
    (fun u n =>
      if (u.svRun n).cfg ≠ 0 ∧ svInput (u.svRun n).cfg = i then (if u.svState n = 2 then u.svHalt n 2 else u).svFinish n else u) s

/-- A power state that switches the converters off halts every stream that is still ARMED too (R236). -/
def State.surveyAllOff (s : State) : State :=
  (List.range 64).foldl (fun u n => if u.svState n = 1 then u.svHalt n 2 else u) s

/-! ### Meanings -/

/-- SURVEY_START (R234). -/
def execSurveyStart (h : Hdr) (mask tick : BitVec 64) (s : State) : Host.Outcome State Fault Refusal :=
  run (.surveyStart h mask tick) h (cmdSurveyStart mask.toNat tick.toNat) s

/-- SURVEY_STOP (R235). -/
def execSurveyStop (h : Hdr) (mask tick : BitVec 64) (s : State) : Host.Outcome State Fault Refusal :=
  run (.surveyStop h mask tick) h (cmdSurveyStop mask.toNat tick.toNat) s

/-- SURVEY_RUN_START (R229). -/
def execSurveyRunStart (n : Fin 64) (s : State) : Host.Outcome State Fault Refusal := .next (s.surveyRunStart n.val)

/-- SURVEY_BLOCK (R231). -/
def execSurveyBlock (n : Fin 64) (s : State) : Host.Outcome State Fault Refusal := .next (s.surveyBlock n.val)

/-- SURVEY_STOP_TICK (R235). -/
def execSurveyStopTick (n : Fin 64) (s : State) : Host.Outcome State Fault Refusal := .next (s.surveyStopTick n.val)

end Sys2Proof.Machine
end

