-- ==== Sys2Proof/Machine/Power.lean ====
section
/-! DEFINITION. Supplies, power domains, power states and thermal management (18_power_thermal.md), and the loss of the
root PLL's lock (01_architecture.md R27, 12_time_reference.md R310). -/

namespace Sys2Proof.Machine

/-! ### Commands and commits of a domain that powers off (R40, R419) -/

/-- Domains of the units that a command names, for the commands that may stand open (R419). -/
def cmdDomains (i : Instr) : List Nat :=
  match i with
  | .objRead _ c i _ _ => [objDom c.toNat i.toNat]
  | .objWrite _ c i _ _ _ => [objDom c.toNat i.toNat]
  | .outputEnable _ m => (setPositions m.toNat 96).map (fun o => domDT (dtOfOutput o))
  | .outputDisable _ m => (setPositions m.toNat 96).map (fun o => domDT (dtOfOutput o))
  | .frameOp _ _ _ _ => [domMGMT0]
  | .biasWrite _ b _ _ _ => [domBB b.toNat]
  | .biasStrobe _ m => [0, 1, 2, 3].filterMap (fun k => if bits m.toNat (32 * k) 32 = 0 then none else some (domBB k))
  | .biasClear _ b => (setPositions b.toNat 4).map domBB
  | .vitTrigger _ _ => [domVIT]
  | .vitAbort _ _ => [domVIT]
  | .surveyStop _ _ _ => [domVIT]
  | .discSeedStore h => (channelMask h.ext).map (fun c => domAT (c / 64))
  | .discSeedRestore h => (channelMask h.ext).map (fun c => domAT (c / 64))
  | .appStart _ a _ _ => [domAT a.toNat]
  | .appStop _ a _ => [domAT a.toNat]
  | .cpLink _ p _ => (setPositions p.toNat 4).map domCP
  | .inputEn _ i _ => [domAT (i.val / 4)]
  | .fsc _ o _ => [domDT (dtOfOutput o.val)]
  | .bankEn _ k _ => [domBB k.val]
  | .slewEn _ k _ => [domBB k.val]
  | .inputCode _ b _ => [domBB (b.val / 32)]
  | .ethMode _ _ _ => [domETH]
  | _ => []

/-- Open commands that have been accepted for the domain complete with ABSENT (R419). -/
def State.absentCommands (s : State) (d : Nat) : State :=
  s.cmd.open_.foldl
    (fun t c =>
      let started := match c.st with
        | .chained _ => false
        | .ready _ => false
        | _ => true
      if started && (cmdDomains c.instr).contains d then
        let u := match c.instr, t.cmd.timed.find? (fun w => decide (w.id = c.id)) with
          | .discSeedStore _, some w => t.storePart w
          | _, _ => t
        ({ u with cmd := { u.cmd with timed := u.cmd.timed.filter (fun w => decide (w.id ≠ c.id)) } }).completeId c.id
          (Reply.fail .absent)
      else t) s

/-- Marks objects as staged again: their commit was cancelled (R40). -/
def State.restage (s : State) (keys seeds : List Nat) : State :=
  keys.foldl
    (fun t k =>
      let m := dirtyMask (k / 65536)
      let m1 := if k / 65536 = 8 ∧ !seeds.contains k then clearMask m (ones Fld.disc.seedDirty.lsb 1) else m
      { t with objs := sset objDefault t.objs k (sget objDefault t.objs k ||| m1) }) s

/-- Pending commits for the domain are cancelled with ABSENT, and their staged copies stay staged (R40). -/
def State.cancelCommits (s : State) (d : Nat) : State :=
  let hit := fun (c : Commit) => (c.caps.map Prod.fst ++ c.seeds).any (fun k => decide (keyDom k = d))
  (s.cmd.commits.filter hit).foldl
    (fun t c => (t.restage ((c.caps.map Prod.fst).filter (fun k => decide (keyDom k ≠ d))) c.seeds).completeId c.id
      (Reply.fail .absent))
    { s with cmd := { s.cmd with commits := s.cmd.commits.filter (fun c => !hit c) } }

/-! ### What a domain holds (R449) -/

/-- A DAC tile: plays, sums and counters of its outputs, and the vitrines that capture them. -/
def State.dacTileOff (s : State) (t : Nat) : State :=
  let s1 := [0, 1, 2, 3].foldl (fun u j => u.vitrineOutputOff (4 * t + j)) s
  { s1 with drv := { s1.drv with
      plays := s1.drv.plays.filter (fun p => decide (dtOfOutput (outputOfSlot p.slot) ≠ t))
      fscEnd := sclear s1.drv.fscEnd (4 * t) 4
      lastPlaying := sclear s1.drv.lastPlaying (4 * t) 4
      lastRot := sclear s1.drv.lastRot (4 * t) 4
      rotations := sclear s1.drv.rotations (4 * t) 4
      sums := sclear s1.drv.sums (4 * t) 4 } }

/-- An ADC tile: windows, points, discriminators, appraiser and calibration of its inputs (R166, R236, R282). -/
def State.adcTileOff (s : State) (t : Nat) : State :=
  let s1 := [0, 1, 2, 3].foldl
    (fun u j => ((u.abandonInput (4 * t + j)).surveySourceOff (4 * t + j)).vitrineInputOff (4 * t + j)) s
  let other := fun (i : Nat) => decide (atOfInput i ≠ t)
  let s2 := { s1 with
    rd := { s1.rd with
      pts := s1.rd.pts.filter (fun p => other (inputOfRc p.rc))
      frames := sclear s1.rd.frames (64 * t) 64
      startEnd := sclear s1.rd.startEnd (4 * t) 4
      calIvs := s1.rd.calIvs.filter (fun e => other e.1)
      undef := s1.rd.undef.filter (fun e => other e.1) }
    vd := { s1.vd with drift := setBits s1.vd.drift (64 * t) 64 0 }
    ap := { s1.ap with run := sdel s1.ap.run t } }
  s2.calTileOff t

/-- An archive domain: PD_ARC0 holds banks 0–63, PD_ARC1 banks 64–95 and the kernel archive. -/
def State.archiveOff (s : State) (n : Nat) : State :=
  let lo := if n = 0 then 0 else 64 * 65536
  let w := if n = 0 then 64 * 65536 else 32 * 65536
  { s with arc := { s.arc with
      words := sclear s.arc.words lo w
      wordErr := sclear s.arc.wordErr lo w
      kern := if n = 0 then s.arc.kern else []
      kernErr := if n = 0 then s.arc.kernErr else []
      loads := []
      descOld := [] } }

/-- PD_PCIE: ring registers and function registers take their reset values, with assignments and notice routes kept
(R397, R421). -/
def State.pcieOff (s : State) : State :=
  let reg := fun (g : FnRegs) => { FnRegs.fresh g.route with noticeLost := g.noticeLost }
  { s with host := { s.host with
      rings := (List.range 80).foldl (fun m n => sset ringReset m n (Ring.fresh (s.ring n).owner)) []
      ringCause := 0
      pf0 := reg s.host.pf0
      pf1 := reg s.host.pf1 } }

/-- The records of the open block are lost: counted, with LOST in the next block (R17). -/
def State.blockLost (s : State) : State :=
  if s.vd.block = [] then s
  else ((({ s with vd := { s.vd with block := [] } }).ringLost 6 s.vd.block.length).markLost 0)

/-- The verdict-bus hub of PD_MGMT1: the verdicts under way and the barrier masks (R156, R206). Every entry of the verdict table
keeps its content (R209). DESIGN CHOICE: the records of the open block are lost, as with a ring without room; the spec places the
record path in no domain. -/
def State.hubOff (s : State) : State :=
  { s.blockLost with vd := { s.blockLost.vd with flight := [] }
                     cur := { s.blockLost.cur with barMask := [], barRel := [] } }

/-- PD_ETH: the frames that wait for the end of a pause are dropped, and the port forgets its masters. -/
def State.ethOff (s : State) : State :=
  let s1 := s.dropQueue
  { s1 with eth := { s1.eth with foreign := [], ptp := PtpRt.none } }

/-- PD_VIT: the blocks of open datagrams are lost (R17), and every run ends (R236, R282). DESIGN CHOICE: the blocks that a DONE
vitrine's record has not written yet are dropped without counting as produced, at a power loss and at a warm reset. -/
def State.vitOff (s : State) : State :=
  { ((List.range 8).foldl State.viSettle s).svDropped with sv := ⟨[], []⟩, vi := ⟨[]⟩ }

/-- What a domain's units lose at the power-off, while the domain is still on. -/
def State.unitsOff (s : State) (d : Nat) : State :=
  if d = domMGMT0 then s.masterLost
  else if d = domMGMT1 then s.hubOff
  else if d = domPCIE then s.pcieOff
  else if d = domETH then s.ethOff
  else if 5 ≤ d ∧ d < 9 then s.courierPowerOff (d - 5)
  else if 9 ≤ d ∧ d < 33 then s.dacTileOff (d - 9)
  else if 33 ≤ d ∧ d < 41 then s.adcTileOff (d - 33)
  else if 41 ≤ d ∧ d < 49 then s.clusterOff (d - 41)
  else if 49 ≤ d ∧ d < 53 then s.bankPowerOff (d - 49)
  else if d = domVIT then s.vitOff
  else if d = domARC0 ∨ d = domARC1 then s.archiveOff (d - 54)
  else s

/-- Supplies that feed a domain, by the index of R442 (R449). -/
def railsOf (d : Nat) : List Nat :=
  if d = domAON then [0, 3]
  else if 3 ≤ d ∧ d < 5 then [1, 2, 5, 6]
  else if 5 ≤ d ∧ d < 9 then [1, 5, 6]
  else if 9 ≤ d ∧ d < 41 then [1, 2, 4, 7]
  else if 49 ≤ d ∧ d < 53 then [1, 7, 9, 10]
  else [1, 2]

/-- Supply n is good: it has risen to its good threshold and not fallen below its sag threshold since (R442). -/
def State.supplyGood (s : State) (n : Nat) : Bool := !bit s.pw.sagged n

/-- Domains whose power PD_AON holds back after an ordering error (R444). -/
def State.heldBack (s : State) (d : Nat) : Bool := s.pw.orderHolds.any (fun h => bit h.2 d)

/-- A domain can be powered: VAUX and its rails are good, but for VBP and VBN, whose loss R296 handles, and no ordering error holds
it back (R443, R444, R449). -/
def State.railsGood (s : State) (d : Nat) : Bool :=
  (0 :: railsOf d).all (fun n => decide (9 ≤ n) || s.supplyGood n) && !s.heldBack d

/-- VDDA_CONV_LO and VDDA_CONV_HI are good (R453). -/
def State.convGood (s : State) : Bool := s.supplyGood 4 && s.supplyGood 7

/-- A domain loses its power: a powered-down domain keeps no state (R449). Before a commanded power-off its counters are mirrored
(R364). -/
def State.takePower (s : State) (d : Nat) (planned : Bool) : State :=
  if !s.powered d ∨ d = domAON then s
  else
    let s0 := ((((s.calDomainLost d).trimsLost d).unitsOff d).cancelCommits d).absentCommands d
    let s1 := if planned then s0.mirrorNow else s0
    let other := fun (k : Nat) => decide (keyDom k ≠ d)
    let s2 := s1.rememberPower d (s1.live.filter (fun e => decide (e.1 / 65536 = 0x02) && !other e.1))
    { s2 with
      objs := s2.objs.filter (fun e => other e.1)
      live := s2.live.filter (fun e => other e.1)
      undo := s2.undo.filter (fun u => other u.key || decide (u.key / 65536 = 0x02 ∨ u.key / 65536 = 0x04))
      pw := { s2.pw with on := clearMask s2.pw.on (1 <<< d) } }

/-- Takes the power of a domain by command or plan. -/
def State.powerOff (s : State) (d : Nat) : State := s.takePower d true

/-- Powers a domain whose supplies are good: its objects hold their reset values and its counters resume (R364); R296, R302, R469 and R523 say what
else shows; the Ethernet port takes its MAC address from the strongroom (R404). -/
def State.powerOn (s : State) (d : Nat) : State :=
  if s.powered d ∨ !s.railsGood d then s
  else
    let s0 := s.rememberPower d []
    let s1 := (({ s0 with pw := { s0.pw with on := s0.pw.on ||| (1 <<< d) } }).ledgerResume d).loadFactories d
    if 25 ≤ d ∧ d < 33 then (List.range 64).foldl (fun u k => u.slotPowerUp (512 + 64 * (d - 25) + k)) s1
    else if 33 ≤ d ∧ d < 41 then [0, 1, 2, 3].foldl (fun u j => u.loadTrim (4 * (d - 33) + j)) s1
    else if 49 ≤ d ∧ d < 53 then s1.bankPowerUp (d - 49)
    else if d = domETH then s1.setF Fld.eth.macAddr 0 s1.stationMac
    else s1

/-- Powers off a list of domains by command or plan (R453). -/
def State.powerOffAll (s : State) (ds : List Nat) : State := ds.foldl State.powerOff s

/-- The converter tiles, domains 9 to 40. -/
def tileDomains : List Nat := (List.range 32).map (fun k => 9 + k)

/-! ### Unplanned loss (R450) -/

/-- POWER_LOSS: every output mutes, the notice is posted, the ledger units are LOSSY, and the domain stays off. -/
def State.powerLoss (s : State) (d : Nat) : State :=
  if !s.powered d ∨ d = domAON then s
  else
    let s1 := (s.takePower d false).ledgerLoss d
    let s2 := (s1.faultMute s.tick).notice 0x07 d 0 0
    if d = domMGMT0 ∨ d = domMGMT1 then { s2 with bt := { s2.bt with ready := false } } else s2

/-! ### PWR_DOMAIN and PWR_STATE (R449, R453) -/

/-- The on mask restricted to the domains that exist. -/
def State.onBits (s : State) : Nat := s.pw.on % 2 ^ 56

/-- Another PWR_STATE or PWR_DOMAIN is executing (R453). -/
def State.pwrBusy (s : State) : Bool :=
  s.cmd.timed.any (fun w => match s.cmdOf w.id with
    | some c => (match c.instr with | .pwrState _ _ => true | .pwrDomain _ _ _ => true | _ => false)
    | none => false)

/-- A command's own path would lose its domain (R449). -/
def pathLost (h : Hdr) (off : List Nat) : Bool :=
  match h.path with
  | .eth => off.contains domETH
  | _ => off.contains domPCIE

/-- PWR_DOMAIN (R449): BUSY, which its row of the command table lists, while another power command executes (DEDUCED); domains
to power off lose power at its execution, domains to power on have it at its completion. -/
def cmdPwrDomain (h : Hdr) (mask on : Nat) : Own := fun id s =>
  let ds := setPositions mask 56
  let ons := ds.filter (fun d => bit on d)
  let offs := ds.filter (fun d => !bit on d)
  if 2 ^ 56 ≤ mask ∨ ds.any (fun d => decide (d < 3)) then refuse s .badParam
  else if s.pwrBusy then refuse s .busy
  else if ons.any (fun d => tileDomains.contains d) ∧ 1 < s.powerState then refuse s .state
  else if pathLost h offs then refuse s .state
  else
    let s1 := { s with pw := { s.pw with onMask := clearMask s.pw.onMask (maskOf offs) ||| maskOf ons } }
    (s1.powerOffAll offs).work id (if ons = [] then 2000000 else 25000000) false [(0, maskOf ons)] Reply.ok

/-- The end of PWR_DOMAIN. -/
def State.finishPwrDomain (s : State) (id on : Nat) : State :=
  let s1 := ((setPositions on 56).filter (fun d => !tileDomains.contains d || decide (s.powerState ≤ 1))).foldl State.powerOn s
  s1.completeId id (Reply.ok64 s1.onBits)

/-- A curator is ARMED or RUNNING. -/
def State.anyCurator (s : State) : Bool := (List.range 128).any s.curActive

/-- Enters a power state: BAND_REQ is served at the entry to Idle (R460), and the wait for AVS_BEHIND is Run's (R457). -/
def State.setPower (s : State) (v : Nat) : State :=
  let s0 := s.setF Fld.thermal.powerState 0 v
  let s1 := if v = 0 then s0 else { s0 with pw := { s0.pw with avsSince := 0 } }
  if v = 1 then s1.setF Fld.thermal.bandReq 0 0 else s1

/-- Powers the converter tiles off: streams that are still ARMED halt too (R236). -/
def State.tilesOff (s : State) : State := s.surveyAllOff.powerOffAll tileDomains

/-- Run or Idle to Quiet: outputs to MUTED, then the tiles off (R453). -/
def State.toQuiet (s : State) : State :=
  let s1 := (List.range 96).foldl
    (fun t o => if t.powered (domDT (dtOfOutput o)) then t.setF Fld.output.state o 1 else t) s
  s1.tilesOff.setPower 2

/-- A bias bank is neither OFF nor UNPOWERED. -/
def State.banksLive (s : State) : Bool :=
  [0, 1, 2, 3].any (fun k => s.powered (domBB k) && decide (s.bankState k ≠ 1))

/-- A foreground calibration is executing (R453, R476). -/
def State.foreground (s : State) : Bool := s.cal.jobs.any (fun j => decide (j.kind ≤ 2))

/-- PWR_STATE. -/
def cmdPwrState (target : Nat) : Own := fun id s =>
  let p := s.powerState
  if 3 < target then refuse s .badParam
  else if target = p then (s, Reply.ok1 p)
  else if s.pwrBusy ∨ s.foreground then refuse s .busy
  else if target ≠ 0 ∧ p ≠ 2 ∧ s.anyCurator then refuse s .state
  else if target = 3 then
    if s.anyCurator ∨ s.banksLive then refuse s .state
    else ({ s with pw := { s.pw with dormantAt := s.tick + 10000 } }, Reply.ok1 3)
  else if p = 2 then
    if s.pw.hold then refuse s .thermal
    else if !s.convGood then refuse s .state
    else s.work id 25000000 false [(0, target)] Reply.ok
  else if target = 2 then s.toQuiet.work id 2000000 false [(0, 2)] Reply.ok
  else if target = 1 then (s.setPower 1).work id 1000 false [(0, 1)] Reply.ok
  else s.work id 1000 false [(0, 0)] Reply.ok

/-- The end of PWR_STATE: a state that powers more is entered here; a thermal stop that came first refuses (R467). -/
def State.finishPwrState (s : State) (id target : Nat) : State :=
  if target = 2 ∨ s.powerState = target then s.completeId id (Reply.ok1 s.powerState)
  else if s.powerState = 2 then
    if s.pw.hold then s.completeId id (Reply.fail .thermal)
    else
      let s1 := ((tileDomains.filter (fun d => bit s.pw.onMask d)).foldl State.powerOn s).setPower target
      s1.completeId id (Reply.ok1 target)
  else (s.setPower target).completeId id (Reply.ok1 target)

/-- DORMANT_ENTRY is due, 10 µs after PWR_STATE completed (R453). -/
def State.dormantDue (s : State) : Bool := decide (s.pw.dormantAt ≠ 0 ∧ s.pw.dormantAt ≤ s.tick)

/-- How a command that stands open ends when the device goes Dormant: an accession with ABSENT, for its clusters lose their power
(R145), any other with STATE, as at a Docent restart. -/
def dormantReply (c : Cmd) : Reply :=
  match c.instr, c.st with
  | .curAccession _, .waiting => Reply.mask .absent 0
  | _, _ => Reply.fail .state

/-- DORMANT_ENTRY: every domain but PD_AON powers off, and no path executes commands (R421, R451, R453). -/
def State.dormantEntry (s : State) : State :=
  if !s.dormantDue then s
  else
    let s1 := s.powerOffAll ((List.range 55).map (fun k => k + 1))
    let s2 := s1.cmd.open_.foldl (fun t c => t.completeId c.id (dormantReply c)) s1
    let s3 := { s2 with
      cmd := { s2.cmd with timed := [] }
      bt := { s2.bt with ready := false }
      pw := { s2.pw with dormantAt := 0 } }
    s3.setPower 3

/-! ### Temperature (R459 to R466) -/

/-- The highest of a list of readings, and the first sensor that gave it. -/
def hottest : Nat → List Int → Int × Nat → Int × Nat
  | _, [], m => m
  | k, v :: l, m => hottest (k + 1) l (if m.1 < v then (v, k) else m)

/-- WARN (R461). -/
def State.thermalWarn (s : State) (t : Int) (sensor : Nat) : State :=
  let active := s.flag Fld.thermal.warnActive 0
  if !active ∧ 95 * 256 ≤ t then
    (((s.setF Fld.thermal.warnActive 0 1).raise Fld.thermal.warnSeen 0).fire 216).notice 0x02 sensor (ofS 32 t) 0
  else if active ∧ t < 93 * 256 then s.setF Fld.thermal.warnActive 0 0
  else s

/-- Curators that are RUNNING. -/
def State.running (s : State) : List Nat := (List.range 128).filter (fun c => decide (s.curState c = 3))

/-- MUTE_POINT is due in the grace of a STOP: no curator is RUNNING, or the grace is over and the words of the tick have not
started (R136, R463). -/
def State.muteDue (s : State) : Bool :=
  decide (s.thermalState = 1 ∧ s.pw.muteAt = 0) && s.crosses 2 &&
    (decide (s.running = []) || decide (s.pw.graceEnd ≤ s.tick ∧ s.phase ≤ 4))

/-- Curators that still run at the mute point: GRACE_MISS and GRACE_EXPIRED (R463). -/
def State.graceMissed (s : State) (miss : List Nat) : State :=
  if miss = [] then s else (s.setF Fld.thermal.graceMiss 0 (maskOf miss)).raise Fld.thermal.graceExpired 0

/-- MUTE_POINT: the orderly stop ends (R463). A curator that comes to a SHOT word at the mute point halts there by itself, and has
missed nothing (R463, the same-tick cases). -/
def State.mutePoint (s : State) : State :=
  if !s.muteDue then s
  else
    let miss := s.running.filter (fun c => !((s.curRt c).thermalShot && s.shotStarts c))
    let s1 := miss.foldl State.haltBySystem s
    let s3 := (((s1.graceMissed miss).faultMute s.tick).lockAllBanks).setF Fld.thermal.muteTick 0 s.tick
    { s3 with pw := { s3.pw with muteAt := s.tick, tileOff := s.tick + 1000 } }

/-- Records STOP and announces it (R462, R467). -/
def State.stopRecord (s : State) (t : Int) (sensor : Nat) : State :=
  let s1 := ((s.fire 217).notice 0x03 sensor (ofS 32 t) 0).raise Fld.thermal.stopSeen 0
  ((s1.setF Fld.thermal.thermalState 0 1).setF Fld.thermal.stopTick 0 s.tick).setF Fld.thermal.graceMiss 0 0

/-- Begins the grace of a STOP: stop-at-shot for the running curators, a system halt for the armed ones (R462). -/
def State.graceBegin (s : State) : State :=
  let s1 := s.stopAtShotAll.haltSystem true false
  let g := s.tick + 1000 * s.getF Fld.thermal.graceUs 0
  { s1 with pw := { s1.pw with hold := true, muteAt := 0, graceEnd := g } }

/-- STOP begins at the present tick (R462). -/
def State.thermalStop (s : State) (t : Int) (sensor : Nat) : State :=
  let s1 := (s.stopRecord t sensor).graceBegin
  if s1.running = [] then s1.mutePoint else s1

/-- THERMAL_TRIP at the present tick d (R465); in a grace that has not reached its mute point, m is d rounded up to an even tick, and
every curator that runs at d has missed it. Tiles that a STOP is to power down at an earlier tick do so then (R464). -/
def State.thermalTrip (s : State) (t : Int) (sensor : Nat) : State :=
  if s.thermalState = 3 then s
  else
    let grace := decide (s.thermalState = 1)
    let m := roundUp s.tick 2
    let s1 := ((s.faultMute s.tick).haltSystem true true).clearBanks.lockAllBanks
    let s2 := ((s1.fire 217).notice 0x04 sensor (ofS 32 t) 0).raise Fld.thermal.tripSeen 0
    let s3 := (s2.setF Fld.thermal.thermalState 0 3).setF Fld.thermal.tripTick 0 s.tick
    let s4 := if !grace then s3.setF Fld.thermal.graceMiss 0 0
      else if s.pw.muteAt ≠ 0 then s3
      else (s3.graceMissed s.running).setF Fld.thermal.muteTick 0 m
    let off := if s.pw.tileOff = 0 then m + 1000 else min s.pw.tileOff (m + 1000)
    { s4 with pw := { s4.pw with hold := true, tripGated := true, tileOff := off } }

/-- THERMAL_SCAN is due: every 1,000,000 ticks, once (R459). -/
def State.scanDue (s : State) : Bool := s.crosses 1000000 && decide (s.pw.scanRaw ≠ s.raw)

/-- The temperature trims are applied once per scan. When the root PLL's tuning control reaches 80 % of its range, a free value,
BAND_REQ sets; in Idle the band is reselected at once (R460). -/
def State.scanTrims (s : State) : State :=
  let d := s.draw
  let s1 := d.2.setTrims tempTrims (Config.trimValue d.1)
  if Config.choice d.1 ∧ s.powerState ≠ 1 then s1.setF Fld.thermal.bandReq 0 1 else s1

/-- THERMAL_SCAN: 48 readings in 2^-8 °C (R459, R461, R462); a reading of 115 °C trips as well. A sensor that the operand gives no
reading of keeps its last one. A scan completes only when it is due. -/
def State.thermalScan (s0 : State) (given : List Nat) : State :=
  if !s0.scanDue then s0 else
  let s := s0.scanTrims
  let temps := given.take 48 ++ s.pw.temps.drop given.length
  let vals := temps.map (toS 16)
  let h := hottest 1 (vals.drop 1) (vals.headD 0, 0)
  let s1 := { s with pw := { s.pw with temps := temps, scanRaw := s.raw } }
  let s2 := (s1.setF Fld.thermal.tjMax 0 (ofS 16 h.1)).setF Fld.thermal.tjMaxSensor 0 h.2
  let s3 := s2.thermalWarn h.1 h.2
  if (s3.getF Fld.thermal.stopT 0 : Int) * 256 ≤ h.1 ∧ s3.thermalState = 0 then
    if 115 * 256 ≤ h.1 then (s3.thermalTrip h.1 h.2).raise Fld.thermal.stopSeen 0 else s3.thermalStop h.1 h.2
  else if 115 * 256 ≤ h.1 then s3.thermalTrip h.1 h.2
  else s3

def State.tileOffDue (s : State) : Bool := decide (s.pw.tileOff ≠ 0 ∧ s.pw.tileOff ≤ s.tick)

/-- TILE_POWER_DOWN: the converter tiles lose power and the device is in Quiet (R464, R465). -/
def State.tilePowerDown (s : State) : State :=
  if !s.tileOffDue then s
  else
    let s1 := ({ s with pw := { s.pw with tileOff := 0 } }).tilesOff
    let s2 := if s1.powerState ≤ 1 then s1.setPower 2 else s1
    if s2.thermalState = 1 then s2.setF Fld.thermal.thermalState 0 2 else s2

/-- RESUME (R466). -/
def cmdResume : Own := fun _ s =>
  if s.thermalState ≤ 1 then refuse s .state
  else if 85 * 256 ≤ s.getSF Fld.thermal.tjMax 0 then refuse s .thermal
  else
    let s1 := s.setF Fld.thermal.thermalState 0 0
    (({ s1 with pw := { s1.pw with hold := false, tripGated := false } }).unlockBanks.framesResume, Reply.ok)

/-! ### OBJ_THERMAL (R467) -/

/-- Writes that R467 refuses: `new` is the image they would leave. -/
def badThermal (new : Nat) : Bool :=
  let st := fieldOf Fld.thermal.stopT new
  let lo := fieldOf Fld.thermal.avsVmin new
  let hi := fieldOf Fld.thermal.avsVmax new
  decide (st < 95 ∨ 108 < st) || decide (2000 < fieldOf Fld.thermal.graceUs new) ||
    decide (fieldOf Fld.thermal.avsSlew new = 0) || decide (hi < lo) ||
    decide (lo < 6500 ∨ 8500 < lo ∨ hi < 6500 ∨ 8500 < hi)

/-! ### The root PLL (R27, R310) -/

/-- A domain at the unlock: LOCKED or LOST become ACQUIRING, and it counts as never locked. -/
def State.domUnlock (s : State) (b : Bool) : State :=
  let s1 := s.setDom b { s.dom b with edges := [], everLocked := false, misses := 0, lockAt := none, updates := [] }
  if s.domState b = 2 ∨ s.domState b = 3 then s1.setDomState b 1 else s1

/-- PLL_UNLOCK. -/
def State.pllUnlock (s : State) : State :=
  if s.tm.unlocked then s
  else
    let s1 := ((s.faultMute s.tick).haltSystem true true).fire 219
    let s2 := (((s1.notice 0x05 0 0 0).setF Fld.time.unlockRaw 0 (w64 s.raw)).raise Fld.time.rtDiscont 0).count 0x0F 0 12
    let s3 := (s2.domUnlock false).domUnlock true
    { s3 with tm := { s3.tm with unlocked := true } }

/-- PLL_RELOCK: raw time goes on from the first multiple of 16 at or above the value it has reached, `fine` slots past
the state's (R310): the tick in progress ends there. The first lock since cold reset ends the count on the oscillator in the same
way, and is no relock (R496). -/
def State.pllRelock (s : State) (fine : Nat) : State :=
  if !s.tm.unlocked then s
  else
    let r := roundUp (s.raw + fine % 320) 16
    let s1 := { s with tm := { s.tm with unlocked := false, everLocked := true, span := max 16 (r - s.raw) } }
    if s.tm.everLocked then (s1.setF Fld.time.relockRaw 0 (w64 r)).notice 0x06 0 0 0 else s1

/-! ### Meanings -/

/-- PWR_STATE (R453). -/
def execPwrState (h : Hdr) (target : BitVec 8) (s : State) : Host.Outcome State Fault Refusal :=
  run (.pwrState h target) h (cmdPwrState target.toNat) s

/-- PWR_DOMAIN (R449). -/
def execPwrDomain (h : Hdr) (domains on : BitVec 64) (s : State) : Host.Outcome State Fault Refusal :=
  run (.pwrDomain h domains on) h (cmdPwrDomain h domains.toNat on.toNat) s

/-- RESUME (R466). -/
def execResume (h : Hdr) (s : State) : Host.Outcome State Fault Refusal := run (.resume h) h cmdResume s

/-- PLL_UNLOCK (R27). -/
def execPllUnlock (s : State) : Host.Outcome State Fault Refusal := .next s.pllUnlock

/-- PLL_RELOCK (R310). -/
def execPllRelock (fine : BitVec 64) (s : State) : Host.Outcome State Fault Refusal := .next (s.pllRelock fine.toNat)

/-- POWER_LOSS (R450). -/
def execPowerLoss (d : Fin 56) (s : State) : Host.Outcome State Fault Refusal := .next (s.powerLoss d.val)

/-- THERMAL_SCAN (R459). -/
def execThermalScan (temps : List (BitVec 16)) (s : State) : Host.Outcome State Fault Refusal :=
  .next (s.thermalScan (temps.map BitVec.toNat))

/-- THERMAL_TRIP (R465). -/
def execThermalTrip (sensor : BitVec 6) (temp : BitVec 16) (s : State) : Host.Outcome State Fault Refusal :=
  .next (s.thermalTrip temp.toInt sensor.toNat)

/-- MUTE_POINT (R463). -/
def execMutePoint (s : State) : Host.Outcome State Fault Refusal := .next s.mutePoint

/-- TILE_POWER_DOWN (R464). -/
def execTilePowerDown (s : State) : Host.Outcome State Fault Refusal := .next s.tilePowerDown

/-- DORMANT_ENTRY (R453). -/
def execDormantEntry (s : State) : Host.Outcome State Fault Refusal := .next s.dormantEntry

end Sys2Proof.Machine
end

