-- ==== Sys2Proof/Machine/Objects.lean ====
section
/-! DEFINITION. Object access (16_command_reference.md R424, R425; 01_architecture.md R4 to R7): OBJ_READ and OBJ_WRITE over
the field maps, the checks and hooks of each class, and the single-field writes the table lists on their own. -/

namespace Sys2Proof.Machine

/-! ### Reading -/

/-- Fields of an object that the device computes when they are read, with their values. -/
def State.readFields (s : State) (cls inst : Nat) : List (Field × Nat) :=
  match cls with
  | 0x01 => [(Fld.output.liveCarrier, s.getL Fld.output.carrier inst)]
  | 0x02 =>
    let p := s.slotPlaying inst
    [(Fld.slot.playing, b2n p.1), (Fld.slot.holding, b2n p.2)]
  | 0x04 =>
    let img := s.liveObj 0x04 inst
    [(Fld.frame.liveSel, bits img 192 1), (Fld.frame.liveOffset, frameOff img), (Fld.frame.liveFreq, frameFreq img)]
  | 0x06 =>
    [(Fld.input.liveCarrier, s.getL Fld.input.carrier inst), (Fld.input.liveZone, s.getL Fld.input.zone inst),
     (Fld.input.liveAtten, s.getL Fld.input.atten inst)]
  | 0x07 => [(Fld.rdch.pending, s.chPending inst), (Fld.rdch.open, b2n (s.chOpen inst))]
  | 0x08 => [(Fld.disc.adaptState, s.adaptState inst)]
  | 0x09 => [(Fld.demix.liveEn, s.getL Fld.demix.demixEn inst), (Fld.demix.liveMember, s.getL Fld.demix.member inst)]
  | 0x0E => [(Fld.biasbank.clrmode, bits s.pw.straps 0 1)]
  | 0x0F => [(Fld.time.ptpPortState, s.ptpState)]
  | _ => []

/-- The image of an object as a read at the present tick returns it. -/
def State.readObj (s : State) (cls inst : Nat) : Nat :=
  let img := (s.readFields cls inst).foldl (fun m e => setBits m e.1.lsb e.1.width e.2) (s.obj cls inst)
  if cls = 0x0F then s.timeImage img else img

/-- Whether an access moves its data inline (R424). -/
def isInline (h : Hdr) (len : Nat) : Bool := decide (len ≤ 16 ∧ h.extlen.toNat = 0)

/-- OBJ_READ (R424). No field of any object is of access RC or RS. -/
def cmdObjRead (h : Hdr) (cls inst off len : Nat) : Own := fun _ s =>
  if objCount cls ≤ inst then refuse s .badParam
  else if !s.powered (objDom cls inst) then refuse s .absent
  else if !rangeOk cls off len then refuse s .badParam
  else
    let v := bits (s.readObj cls inst) (8 * off) (8 * len)
    if isInline h len then (s, Reply.ok4 (bits v 0 32) (bits v 32 32) (bits v 64 32) (bits v 96 32))
    else if h.extlen.toNat ≠ len then refuse s .badParam
    else (s, { Reply.ok with data := leBytes len v })

/-! ### Writing -/

/-- The mask of the fields of an instance that satisfy `p`. -/
def fieldMask (cls inst : Nat) (p : Row → Bool) : Nat := rowMask p (objRows cls inst)

/-- The image that a write of `data` over the bits `mask` leaves: RO fields keep their value, RW fields take the data, a 1
in a W1C field clears the bit unless hardware set it in this tick (R5, R7, R424). -/
def writtenImage (cls inst old data mask now : Nat) : Nat :=
  let rw := fieldMask cls inst (fun r => decide (r.acc = .rw)) &&& mask
  let w1c := fieldMask cls inst (fun r => decide (r.acc = .w1c)) &&& mask
  clearMask (clearMask old rw ||| (data &&& rw)) (clearMask (data &&& w1c) now)

/-- The seed fields of OBJ_DISC (R202). -/
def seedMask : Nat := ones 192 192

/-- DIRTY bits that a write over `mask` sets (R36, R202): F4095 never has one (R65). -/
def dirtied (cls inst mask : Nat) : Nat :=
  if (cls = 0x04 ∧ inst = 4095) ∨ fieldMask cls inst (fun r => r.staged) &&& mask = 0 then 0
  else if cls = 0x08 ∧ seedMask &&& mask = 0 then ones Fld.disc.dirty.lsb 1
  else dirtyMask cls

/-- Destination entry d of the Ethernet object is in use while the family of its address is disabled (R404). -/
def badDest (new d : Nat) : Bool :=
  bit new (1024 + 256 * d) &&
    (if isV4 (bits new (1152 + 256 * d) 128) then decide (fieldOf Fld.eth.ipv4Addr new = 0)
     else decide (fieldOf Fld.eth.ipv6Addr new = 0))

/-- Writes of the Ethernet object that leave a field outside its range, or an entry in use whose family is disabled: the check is made
against the object as it would result, so neither a write of VALID nor one that disables the family leaves such an entry (R404, R424). -/
def badEth (new : Nat) : Bool :=
  decide (128 < fieldOf Fld.eth.cmdPrefix new) || decide (fieldOf Fld.eth.mtu new < 1500 ∨ 9000 < fieldOf Fld.eth.mtu new) ||
    (List.range 8).any (badDest new)

/-- A survey stream that is ARMED or RUNNING sends to destination d (R404). -/
def State.destInUse (s : State) (d : Nat) : Bool :=
  (List.range 64).any (fun n =>
    decide (s.svState n ≠ 0 ∧ s.getF Fld.survey.dest n = 1 ∧ s.getF Fld.survey.udpDest n = d))

/-- Validity of the object as it would result: BAD_PARAM. -/
def State.writeBad (s : State) (cls inst new : Nat) : Bool :=
  match cls with
  | 0x01 => badOutput inst new
  | 0x02 => badSlot s inst new
  | 0x03 => badDesc new
  | 0x04 => badFrame inst new
  | 0x06 => badInput new
  | 0x07 => badRdch new
  | 0x08 => badDisc new
  | 0x0A => badSurvey new
  | 0x0B => badAppraiser new
  | 0x0F => badTime new
  | 0x11 => badCourier new
  | 0x12 => badThermal new
  | 0x13 => badEth new
  | _ => false

/-- Refusals with STATE. -/
def State.writeState (s : State) (cls inst old new mask : Nat) : Bool :=
  match cls with
  | 0x01 => stateOutput old new
  | 0x0A => stateSurvey old mask
  | 0x0B => stateAppraiser old
  | 0x0C => stateVitrine old mask
  | 0x0D => decide (mask &&& ones Fld.bias.inputCode.lsb 20 ≠ 0) && s.inputBlocked (bankOf inst)
  | 0x0E => stateBiasbank old new mask
  | 0x0F => s.stateTime old new mask
  | 0x11 => stateCourier old new
  | 0x13 => (List.range 8).any (fun d => decide (mask &&& ones (1024 + 256 * d) 256 ≠ 0) && s.destInUse d)
  | _ => false

/-- The status that refuses a write, in the order of R424. TOO_LATE of TP_EN comes last (R327). -/
def State.writeRefused (s : State) (secure : Bool) (cls inst old data new mask : Nat) : Option Status :=
  if cls = 0x10 ∧ mask &&& ones Fld.catalogue.intPf.lsb 32 ≠ 0 ∧ !secure then some .security
  else if clearMask (data &&& mask) (fieldMask cls inst (fun _ => true)) ≠ 0 ∨ s.writeBad cls inst new then some .badParam
  else if s.writeState cls inst old new mask then some .state
  else if cls = 0x01 ∧ busyOutput s inst old new then some .busy
  else if cls = 0x0F ∧ s.tooLateTime old new then some .tooLate
  else none

/-- The input register of a bias output is written through its own operation (R288, R290). -/
def State.beforeWrite (s : State) (cls inst new mask : Nat) : State :=
  if cls = 0x0D ∧ mask &&& ones Fld.bias.inputCode.lsb 20 ≠ 0 then s.writeInput inst (fieldOf Fld.bias.inputCode new) else s

/-- INPUT_EN cleared on an input that was not OFF: what leans on its samples stops (R166, R236, R265, R474). -/
def State.inputGone (s : State) (i : Nat) : State :=
  ((s.surveySourceOff i).vitrineInputOff i).calInputLost i

/-- What a write does beside the fields it sets. `was` is the state before it. -/
def State.afterWrite (s was : State) (cls inst old new mask : Nat) : State :=
  match cls with
  | 0x01 => if changed Fld.output.fsc old new then s.fscChanged inst else s
  | 0x03 => s.descWritten inst old
  | 0x06 =>
    if !bit mask Fld.input.inputEn.lsb then s
    else
      let en := decide (fieldOf Fld.input.inputEn new = 1)
      let s1 := s.inputEnWritten inst en
      if !en ∧ fieldOf Fld.input.state old ≠ 1 then s1.inputGone inst else s1
  | 0x0B => s.appraiserWritten inst
  | 0x0E => s.biasbankWritten inst mask
  | 0x0F => s.timeWritten old new
  | 0x10 => s.gpioWritten was
  | 0x13 => if changed Fld.eth.ethMode old new ∨ changed Fld.eth.fecEn old new then s.ethLinkDown else s
  | _ => s

/-- Writes the bits `mask` of an object with `data` in their places (R424). -/
def State.writeObj (s : State) (secure : Bool) (cls inst data mask : Nat) : State × Reply :=
  let old := s.obj cls inst
  let new := writtenImage cls inst old data mask (s.nowMask (okey cls inst))
  match s.writeRefused secure cls inst old data new mask with
  | some st => refuse s st
  | none =>
    let s1 := (s.beforeWrite cls inst new mask).setObj cls inst (new ||| dirtied cls inst mask)
    (s1.afterWrite s cls inst old new mask, Reply.ok)

/-- A range of bytes that takes in INT_PF, which only a secure path writes (R358). -/
def takesIntPf (cls off len : Nat) : Bool :=
  decide (cls = 0x10 ∧ 8 * off < Fld.catalogue.intPf.lsb + 32 ∧ Fld.catalogue.intPf.lsb < 8 * (off + len))

/-- OBJ_WRITE: ABSENT, then SECURITY, then BAD_PARAM (R424). DEDUCED: an instance outside its class has no domain that could be absent,
and answers BAD_PARAM first. -/
def cmdObjWrite (h : Hdr) (cls inst off len data : Nat) : Own := fun _ s =>
  if objCount cls ≤ inst then refuse s .badParam
  else if !s.powered (objDom cls inst) then refuse s .absent
  else if takesIntPf cls off len ∧ !pathSecure h.path then refuse s .security
  else if !rangeOk cls off len then refuse s .badParam
  else if !isInline h len ∧ h.extlen.toNat ≠ len then refuse s .badParam
  else
    let d := (if isInline h len then data else leNat h.ext) % 2 ^ (8 * len)
    s.writeObj (pathSecure h.path) cls inst (d <<< (8 * off)) (ones (8 * off) (8 * len))

/-- The write of single fields that a row of the table names: an OBJ_WRITE that touches exactly these fields. -/
def cmdFieldWrite (h : Hdr) (cls inst : Nat) (l : List (Field × Nat)) : Own := fun _ s =>
  if !s.powered (objDom cls inst) then refuse s .absent
  else
    let data := l.foldl (fun m e => m ||| (e.2 % 2 ^ e.1.width) <<< e.1.lsb) 0
    let mask := l.foldl (fun m e => m ||| ones e.1.lsb e.1.width) 0
    s.writeObj (pathSecure h.path) cls inst data mask

/-! ### The field-write rows -/

def cmdInputEn (h : Hdr) (i : Nat) (v : Bool) : Own := cmdFieldWrite h 0x06 i [(Fld.input.inputEn, b2n v)]
def cmdFsc (h : Hdr) (o v : Nat) : Own := cmdFieldWrite h 0x01 o [(Fld.output.fsc, v)]
def cmdBankEn (h : Hdr) (k : Nat) (v : Bool) : Own := cmdFieldWrite h 0x0E k [(Fld.biasbank.bankEn, b2n v)]
def cmdTpEn (h : Hdr) (n : Nat) (v : Bool) : Own := cmdFieldWrite h 0x0F 0 [(tpF n Fld.tp.tpEn, b2n v)]
def cmdSlewEn (h : Hdr) (k : Nat) (v : Bool) : Own := cmdFieldWrite h 0x0E k [(Fld.biasbank.slewEn, b2n v)]
def cmdDomEn (h : Hdr) (b v : Bool) : Own :=
  cmdFieldWrite h 0x0F 0 [(if b then Fld.time.domEnB else Fld.time.domEnA, b2n v)]
def cmdEthMode (h : Hdr) (mode : Nat) (fec : Bool) : Own :=
  cmdFieldWrite h 0x13 0 [(Fld.eth.ethMode, mode), (Fld.eth.fecEn, b2n fec)]
def cmdInputCode (h : Hdr) (b code : Nat) : Own := cmdFieldWrite h 0x0D b [(Fld.bias.inputCode, code)]

/-! ### Meanings -/

/-- OBJ_READ (R424). -/
def execObjRead (h : Hdr) (cls : BitVec 8) (inst : BitVec 16) (offset len : BitVec 32) (s : State) :
    Host.Outcome State Fault Refusal :=
  run (.objRead h cls inst offset len) h (cmdObjRead h cls.toNat inst.toNat offset.toNat len.toNat) s

/-- OBJ_WRITE (R424). -/
def execObjWrite (h : Hdr) (cls : BitVec 8) (inst : BitVec 16) (offset len : BitVec 32) (data : BitVec 128) (s : State) :
    Host.Outcome State Fault Refusal :=
  run (.objWrite h cls inst offset len data) h
    (cmdObjWrite h cls.toNat inst.toNat offset.toNat len.toNat data.toNat) s

/-- INPUT_EN (R165, R166). -/
def execInputEn (h : Hdr) (i : Fin 32) (v : Bool) (s : State) : Host.Outcome State Fault Refusal :=
  run (.inputEn h i v) h (cmdInputEn h i.val v) s

/-- FSC (R95). -/
def execFsc (h : Hdr) (o : Fin 96) (v : BitVec 8) (s : State) : Host.Outcome State Fault Refusal :=
  run (.fsc h o v) h (cmdFsc h o.val v.toNat) s

/-- BANK_EN (R297, R298). -/
def execBankEn (h : Hdr) (k : Fin 4) (v : Bool) (s : State) : Host.Outcome State Fault Refusal :=
  run (.bankEn h k v) h (cmdBankEn h k.val v) s

/-- TP_EN (R327). -/
def execTpEn (h : Hdr) (n : Fin 4) (v : Bool) (s : State) : Host.Outcome State Fault Refusal :=
  run (.tpEn h n v) h (cmdTpEn h n.val v) s

/-- SLEW_EN (R294). -/
def execSlewEn (h : Hdr) (k : Fin 4) (v : Bool) (s : State) : Host.Outcome State Fault Refusal :=
  run (.slewEn h k v) h (cmdSlewEn h k.val v) s

/-- DOM_EN (R315, R321). -/
def execDomEn (h : Hdr) (b v : Bool) (s : State) : Host.Outcome State Fault Refusal :=
  run (.domEn h b v) h (cmdDomEn h b v) s

/-- ETH_MODE (R404). -/
def execEthMode (h : Hdr) (mode : BitVec 2) (fec : Bool) (s : State) : Host.Outcome State Fault Refusal :=
  run (.ethMode h mode fec) h (cmdEthMode h mode.toNat fec) s

/-- INPUT_CODE (R288). -/
def execInputCode (h : Hdr) (b : Fin 128) (code : BitVec 20) (s : State) : Host.Outcome State Fault Refusal :=
  run (.inputCode h b code) h (cmdInputCode h b.val code.toNat) s

end Sys2Proof.Machine
end

