-- ==== Sys2Proof/Machine/Security.lean ====
section
/-! DEFINITION. Secure commands (05_curator_programs.md R524, 20_reset_boot.md R497, R499), the check of a Docent image
(R495), the boot (R493, R494, R496) and the boot and debug registers. -/

namespace Sys2Proof.Machine

/-! ### The Docent image (R495) -/

def imgAt (img : List Byte) (off n : Nat) : Nat := leNat (sub img off n)

/-- Magic, format, reserved fields and lengths of an image (R495 check 1). -/
def imageShape (img : List Byte) : Bool :=
  let body := imgAt img 8 4
  decide (imgAt img 0 4 = 0x5A464431 ∧ imgAt img 4 2 = 1 ∧ imgAt img 7 1 = 0 ∧ imgAt img 20 12 = 0) &&
    decide (1 ≤ body ∧ body ≤ 3145728 ∧ img.length = 192 + body)

/-- BOOT_CODE that the checks of R495 give an image: 0x01 where every check passes. -/
def State.imageCode (s : State) (img : List Byte) : Nat :=
  let fk := sget (fun _ => 0) s.bt.fk (imgAt img 6 1)
  if !imageShape img then 0x15
  else if 3 < imgAt img 6 1 ∨ fk = 0 ∨ (fk - 1) % 2 = 1 ∨ beNat (sha256 (sub img 32 64)) ≠ (fk - 1) / 2 then 0x13
  else if imgAt img 16 4 < s.bt.minSecVer then 0x14
  else if sha256 (sub img 0 32 ++ img.drop 192) ≠ sub img 96 32 then 0x11
  else if !ecdsaVerify (beNat (sub img 96 32)) (beNat (sub img 128 32)) (beNat (sub img 160 32)) (beNat (sub img 32 32))
      (beNat (sub img 64 32)) then 0x12
  else 0x01

/-! ### Boot (R493, R494, R496) -/

/-- An image passes: the Docent powers the domains of Quiet, runs and takes commands, and services its watchdog; after a Docent
restart or a wake it posts why (R489, R490, R496). DESIGN CHOICE: it powers a domain that PWR_DOMAIN or a loss has taken, as stage
5 of R496 says for every boot, though R450 lets one stay off. -/
def State.booted (s0 : State) (img : List Byte) (src : Nat) (alt : Bool) : State :=
  let s := (setPositions quietOn 56).foldl State.powerOn s0
  let s1 := { s with bt := { s.bt with
    code := 1, src := src, alt := alt, version := imgAt img 12 4, ready := true, booting := false, waitGo := false
    cause := 0, served := s.tick } }
  if s.bt.cause = 0 then s1 else s1.notice 0x0B s.bt.cause 0 0

/-- BOOT_ALT while no image has booted: the first slot tried has failed (R494). -/
def State.bootAlt (s : State) (alt : Bool) : State := { s with bt := { s.bt with alt := alt } }

/-- The boot ROM halts with a code. -/
def State.bootHalt (s : State) (code : Nat) : State :=
  { s with bt := { s.bt with code := code, src := 0xF, booting := false, waitGo := false } }

/-- The boot ROM waits for an image over PCIe (R494). -/
def State.bootWait (s : State) (code : Nat) : State :=
  { s with bt := { s.bt with code := code, src := 0xF, waitGo := true } }

/-- CRC-32C of a descriptor: over its SEQ and image length (R493). -/
def slotCrc (seq len : Nat) : Nat := (crc32c (leBytes 4 seq ++ leBytes 4 len)).toNat

/-- A slot is valid when its CRC matches and SEQ is not 0xFFFF_FFFF (R493). -/
def Slot.valid (d : Slot) : Bool := decide (d.crc = slotCrc d.seq d.len ∧ d.seq ≠ 0xFFFFFFFF)

/-- The descriptor and image that an update programs (R497). -/
def Slot.programmed (seq : Nat) (img : List Byte) : Slot := ⟨seq, img.length, slotCrc seq img.length, img⟩

/-- The image that a valid slot holds, of the length its descriptor gives. -/
def Slot.content (d : Slot) : List Byte := d.image.take d.len

/-- Valid slots in the order they are tried, with their number (R493): the higher SEQ first, slot A first of equals. -/
def State.bootSlots (s : State) : List (Nat × Slot) :=
  let a := s.bt.slotA
  let b := s.bt.slotB
  match a.valid, b.valid with
  | true, true => if a.seq < b.seq then [(1, b), (0, a)] else [(0, a), (1, b)]
  | true, false => [(0, a)]
  | false, true => [(1, b)]
  | false, false => []

/-- Tries the slots in order; `code` is the code so far, `alt` whether one has failed. Answers the image that boots, or
the last failure. -/
def trySlots (s : State) (code : Nat) (alt : Bool) : List (Nat × Slot) → State ⊕ Nat
  | [] => .inr code
  | (src, d) :: l =>
    let c := s.imageCode d.content
    if c = 1 then .inl (s.booted d.content src alt) else trySlots s c true l

/-- BOOT_CODE while the boot ROM waits with BOOTSEL 0b01: the code of the last failure stays until an image boots (R494). -/
def waitCode (code : Nat) : Nat := if 0x10 ≤ code ∧ code ≤ 0x15 then code else 0x20

/-- Stage 3 of a boot powers the management cores (R496). -/
def State.bootPower (s : State) : State := (s.powerOn domMGMT0).powerOn domMGMT1

/-- BOOT: once the root PLL has locked, the boot ROM loads and checks an image, as the straps say (R492 to R496). In test mode it
loads none. -/
def State.bootRun (s0 : State) : State :=
  let s := s0.bootPower
  let sel := bits s.pw.straps 1 2
  if !s0.bt.booting ∨ s0.bt.waitGo ∨ !s0.tm.everLocked ∨ !s0.supplyGood 0 then s0
  else if bit s.pw.straps 3 then (s.bootAlt false).bootHalt 0x30
  else if sel = 3 then (s.bootAlt false).bootHalt 0x15
  else if sel = 1 then (s.bootAlt false).bootWait (waitCode s.bt.code)
  else match trySlots s 0x10 false s.bootSlots with
    | .inl t => t
    | .inr code =>
      let t := s.bootAlt (decide (s.bootSlots ≠ []))
      if sel = 2 then t.bootWait code else t.bootHalt code

/-- BOOT_GO with the bytes that the DMA read of the image returned, none where the host refused it (R494). PF0 reads. -/
def State.bootGo (s : State) (image : Option (List Byte)) : State :=
  if !s.bt.waitGo then s
  else
    let code := match image with
      | none => 0x15
      | some img => if s.bt.addr % 4 ≠ 0 ∨ img.length ≠ s.bt.len then 0x15 else s.imageCode img
    let s1 := s.emit (.dmaRead .pf0 s.bt.addr s.bt.len)
    if code = 1 then s1.booted (image.getD []) 2 s.bt.alt
    else { s1 with bt := { s1.bt with code := code } }

/-! ### Boot and debug registers (R494, R499) -/

/-- DEBUG_NONCE as a byte string. -/
def State.nonceBytes (s : State) : List Byte := leBytes 32 (Config.nonce s.bt.nonce % 2 ^ 256)

/-- A write of a register with no behaviour of its own, the boot registers of PF0 included. -/
def State.regWrite (s : State) (f : Fn) (off v : Nat) : State :=
  if !s.powered domPCIE then s
  else match f, off with
    | .pf0, 0x010 => { s with bt := { s.bt with addr := setBits s.bt.addr 0 32 v } }
    | .pf0, 0x014 => { s with bt := { s.bt with addr := setBits s.bt.addr 32 32 v } }
    | .pf0, 0x018 => { s with bt := { s.bt with len := v } }
    | _, _ => s.barWrite f off v

/-- The value of a dword of BAR0, the boot registers of PF0 and the debug registers of PF1 included. -/
def State.regRead (s : State) (f : Fn) (off : Nat) : Nat :=
  match f with
  | .pf0 =>
    if off = 0x010 then bits s.bt.addr 0 32
    else if off = 0x014 then bits s.bt.addr 32 32
    else if off = 0x018 then s.bt.len
    else if off = 0x01C then s.bt.code * 2 ^ 8 + s.bt.src * 2 ^ 4 + 2 * b2n s.bt.alt
    else s.barRead f off
  | .pf1 =>
    if off = 0x020 then 2 * s.bt.lifecycle + b2n s.bt.debugOpen
    else if 0x040 ≤ off ∧ off < 0x050 ∧ off % 4 = 0 then leNat (sub s.bt.uid (off - 0x040) 4)
    else if 0x060 ≤ off ∧ off < 0x080 ∧ off % 4 = 0 then leNat (sub s.nonceBytes (off - 0x060) 4)
    else s.barRead f off

/-- What a host read of BAR0 returns: nothing while PD_PCIE is off, and zero for another size than 32 bits (R379). -/
def State.hostRead (s : State) (f : Fn) (off size : Nat) : Option Nat :=
  if !s.powered domPCIE then none else if size ≠ 4 then some 0 else some (s.regRead f off)

/-- What a host read of BAR0 does beside answering; one of another size than 32 bits does nothing (R379). -/
def State.hostReadActs (s : State) (f : Fn) (off size : Nat) : State := if size = 4 then s.barReadActs f off else s

/-! ### Secure commands -/

/-- SEC_POLICY (R524). -/
def cmdSecPolicy (policy : Bool) : Own := fun id s =>
  if s.flag Fld.thermal.nvInhibit 0 then refuse s .supplyLow
  else if s.nvBusy then refuse s .busy
  else s.work id 2000000 true [(0, b2n policy)] (Reply.ok1 (b2n s.policy))

/-- SEC_KEY_LOAD (R524). -/
def cmdSecKeyLoad (h : Hdr) (slot : Nat) : Own := fun id s =>
  let x := beNat (sub h.ext 0 32)
  let y := beNat (sub h.ext 32 32)
  if 3 < slot ∨ h.extlen.toNat ≠ 64 ∨ pP ≤ x ∨ pP ≤ y ∨ !onP256 x y then refuse s .badParam
  else if s.flag Fld.thermal.nvInhibit 0 then refuse s .supplyLow
  else if s.nvBusy then refuse s .busy
  else s.work id 2000000 true [(slot, x), (slot, y)] Reply.ok

/-- The read-back of a strongroom record passes: a free value of the model (R486). -/
def State.readBack (s : State) : Bool × State :=
  let d := s.draw
  (Config.choice d.1, d.2)

/-- The end of the write of a security record: a failed read-back completes with SIGNATURE, and the previous content stays in
force (R486). -/
def State.finishSecure (s : State) (id key len body : Nat) (rep : Reply) : State :=
  let r := s.readBack
  if r.1 then (r.2.nvWrite key len body).completeId id rep
  else (r.2.nvSpoil key len body).completeId id (Reply.fail .signature)

/-- The end of SEC_POLICY. DESIGN CHOICE: the record's body is the policy as a number of 16 bytes; the spec gives no format. -/
def State.finishPolicy (s : State) (id policy : Nat) (rep : Reply) : State := s.finishSecure id nvPolicy 16 policy rep

/-- The end of SEC_KEY_LOAD. DESIGN CHOICE: the record's body is X, then Y, 32 bytes each; the spec gives no format. -/
def State.finishKey (s : State) (id slot x y : Nat) (rep : Reply) : State :=
  s.finishSecure id (nvKey slot) 64 (x % 2 ^ 256 + y * 2 ^ 256) rep

/-- A SEC_FW_UPDATE is executing. -/
def State.updating (s : State) : Bool :=
  s.cmd.timed.any (fun w => match s.cmdOf w.id with
    | some c => (match c.instr with | .secFwUpdate _ => true | _ => false)
    | none => false)

/-- SEQ of a valid slot plus one, 0 for an invalid one. -/
def slotSeq (d : Slot) : Nat := if d.valid then d.seq + 1 else 0

/-- The slot that an update writes (0 A, 1 B) and the SEQ it gives it (R497). -/
def State.updateSlot (s : State) : Nat × Nat :=
  let a := slotSeq s.bt.slotA
  let b := slotSeq s.bt.slotB
  if s.bt.src = 0 then (1, a % 2 ^ 32)
  else if s.bt.src = 1 then (0, b % 2 ^ 32)
  else (if b < a then 1 else 0, (max a b) % 2 ^ 32)

def State.setSlot (s : State) (n : Nat) (o : Slot) : State :=
  { s with bt := if n = 0 then { s.bt with slotA := o } else { s.bt with slotB := o } }

/-- SEC_FW_UPDATE: the descriptor of the slot is erased first (R497). -/
def cmdSecFwUpdate (h : Hdr) : Own := fun id s =>
  if s.imageCode h.ext ≠ 1 then refuse s .signature
  else if s.flag Fld.thermal.nvInhibit 0 then refuse s .supplyLow
  else if s.nvBusy ∨ s.updating then refuse s .busy
  else
    let t := s.updateSlot
    (s.setSlot t.1 Slot.erased).work id 60000000000 false [t] (Reply.ok1 h.ext.length)

/-- NV_INHIBIT sets: an update in progress ends with SUPPLY_LOW and its slot stays invalid (R447, R497). -/
def State.cutUpdate (s : State) : State :=
  let isUpd := fun (w : Timed) => match s.cmdOf w.id with
    | some c => (match c.instr with | .secFwUpdate _ => true | _ => false)
    | none => false
  (s.cmd.timed.filter isUpd).foldl (fun t w => t.completeId w.id (Reply.fail .supplyLow))
    { s with cmd := { s.cmd with timed := s.cmd.timed.filter (fun w => !isUpd w) } }

/-- The end of SEC_FW_UPDATE: the descriptor is programmed last, when the read-back digest is right (R497). A SEQ of 0xFFFF_FFFF
makes no valid slot (R493). -/
def State.finishUpdate (s : State) (id slot seq : Nat) (img : List Byte) (rep : Reply) : State :=
  let r := s.readBack
  if r.1 then (r.2.setSlot slot (Slot.programmed seq img)).completeId id rep
  else r.2.completeId id (Reply.fail .signature)

/-- SEC_DEBUG_UNLOCK (R499). -/
def cmdSecDebugUnlock (h : Hdr) : Own := fun _ s =>
  if h.extlen.toNat ≠ 64 then refuse s .badParam
  else if s.bt.lifecycle = 1 ∨ s.bt.debugOpen then refuse s .state
  else
    let hash := beNat (sha256 (s.nonceBytes ++ s.bt.uid))
    let ok := ecdsaVerify hash (beNat (sub h.ext 0 32)) (beNat (sub h.ext 32 32)) s.bt.dbgKey.1 s.bt.dbgKey.2
    let d := s.draw
    ({ d.2 with bt := { d.2.bt with nonce := d.1, debugOpen := ok } }, if ok then Reply.ok else Reply.fail .signature)

/-! ### Meanings -/

/-- SEC_POLICY (R524). -/
def execSecPolicy (h : Hdr) (policy : Bool) (s : State) : Host.Outcome State Fault Refusal :=
  run (.secPolicy h policy) h (cmdSecPolicy policy) s

/-- SEC_KEY_LOAD (R524). -/
def execSecKeyLoad (h : Hdr) (slot : BitVec 8) (s : State) : Host.Outcome State Fault Refusal :=
  run (.secKeyLoad h slot) h (cmdSecKeyLoad h slot.toNat) s

/-- SEC_FW_UPDATE (R497). -/
def execSecFwUpdate (h : Hdr) (s : State) : Host.Outcome State Fault Refusal := run (.secFwUpdate h) h (cmdSecFwUpdate h) s

/-- SEC_DEBUG_UNLOCK (R499). -/
def execSecDebugUnlock (h : Hdr) (s : State) : Host.Outcome State Fault Refusal :=
  run (.secDebugUnlock h) h (cmdSecDebugUnlock h) s

/-- BOOT (R496). -/
def execBoot (s : State) : Host.Outcome State Fault Refusal := .next s.bootRun

/-- BOOT_GO (R494): a write of the register with bit 0 set. -/
def execBootGo (v : BitVec 32) (image : Option (List Byte)) (s : State) : Host.Outcome State Fault Refusal :=
  .next (if s.powered domPCIE ∧ v.getLsbD 0 then s.bootGo image else s)

/-- REGISTER_WRITE (R379, R381, R386, R392, R494): a write of another size than 32 bits is ignored. -/
def execRegisterWrite (f : Fn) (off : BitVec 16) (w : BusWrite) (s : State) : Host.Outcome State Fault Refusal :=
  .next (if w.size.toNat = 4 then s.regWrite f off.toNat w.value.toNat else s)

end Sys2Proof.Machine
end

