-- ==== Sys2Proof/Machine/Supplies.lean ====
section
/-! DEFINITION. Supplies: thresholds, readings, sags, the write inhibit and ordering errors (18_power_thermal.md R442 to R448). -/

namespace Sys2Proof.Machine

/-! ### Thresholds (R442), in µV -/

/-- Sag thresholds by supply index. -/
def sagLevels : List Int :=
  [2600000, 620000, 760000, 950000, 950000, 810000, 1140000, 1710000, 1710000, 5500000, -5500000]

/-- Good thresholds by supply index. -/
def goodLevels : List Int :=
  [2650000, 630000, 770000, 960000, 960000, 820000, 1160000, 1730000, 1730000, 5700000, -5700000]

/-- A reading below the sag threshold of supply n; VBN is negative (R442). -/
def sagReading (n : Nat) (v : Int) : Bool :=
  if n = 10 then decide (-5500000 < v) else decide (v < sagLevels.getD n 0)

/-- A reading at or above the good threshold of supply n (R442). -/
def goodReading (n : Nat) (v : Int) : Bool :=
  if n = 10 then decide (v ≤ -5700000) else decide (goodLevels.getD n 0 ≤ v)

/-- The latest reading of supply n. -/
def State.reading (s : State) (n : Nat) : Int := s.pw.readings.getD n 0

/-- Supplies that are sagged. -/
def State.sagList (s : State) : List Nat := setPositions s.pw.sagged 11

/-! ### What the end of a sag sets going -/

/-- The write inhibit while it is in force: its 10 ms run from the tick at which VAUX and VDD_CORE are both good, and start again
when either falls below its good threshold (R447). -/
def State.nvWatch (s : State) (good : Bool) : State :=
  if !s.flag Fld.thermal.nvInhibit 0 then s
  else if !good then { s with pw := { s.pw with nvClear := 0 } }
  else if s.pw.nvClear = 0 then { s with pw := { s.pw with nvClear := s.tick + 10000000 } }
  else s

/-- Supplies that must be good before the hold of an ordering error ends (R444). -/
def orderNeeds (code : Nat) : List Nat :=
  match code with
  | 1 => [0]
  | 2 => [1, 2]
  | 3 => [1, 2]
  | 4 => [3, 4, 5, 6]
  | 5 => [7, 8]
  | _ => []

/-- Domains that the hold of an ordering error keeps unpowered (R444): the errors of step 3 and later hold the SerDes and converter
domains, whose analog stays isolated. -/
def orderMask (code : Nat) : Nat :=
  match code with
  | 1 => ones 1 55
  | 2 => ones 1 55
  | 3 => ones 3 38
  | 4 => ones 9 32
  | _ => 0

/-- Holds of ordering errors end with what they wait for, and the domains that they took come up again (R444). -/
def State.endHolds (s : State) : State :=
  let over_ := fun (h : Nat × Nat) => (orderNeeds h.1).all s.supplyGood
  let s1 := { s with pw := { s.pw with orderHolds := s.pw.orderHolds.filter (fun h => !over_ h) } }
  ((s.pw.orderHolds.filter over_).flatMap (fun h => setPositions h.2 56)).foldl State.powerOn s1

/-- Records an ordering error: the first one stands in ORDER_CODE (R444). -/
def State.recordOrder (s : State) (code : Nat) : State :=
  (if s.getF Fld.thermal.orderCode 0 = 0 then s.setF Fld.thermal.orderCode 0 code else s).raise Fld.thermal.orderErr 0

/-- Supplies become good again: what waits for them goes on, and an ordering error that came before VAUX is recorded (R444,
R447). -/
def State.suppliesRise (s : State) (mask : Nat) : State :=
  let s1 := { s with pw := { s.pw with sagged := clearMask s.pw.sagged mask } }
  let s2 := if s1.pw.orderWait ≠ 0 ∧ s1.supplyGood 0 then
      { s1 with pw := { s1.pw with orderWait := 0 } }.recordOrder s1.pw.orderWait else s1
  (s2.endHolds).nvWatch (s2.supplyGood 0 && s2.supplyGood 1)

/-! ### Readings and sags (R445, R446) -/

/-- PD_AON reads every supply once every 10 µs (R445). DESIGN CHOICE: in the tick that holds a multiple of 10 µs of
raw time. A supply whose reading is good again is sagged no longer; the end of the last sag is a row of the table. -/
def State.supplyRead (s : State) : State :=
  if !s.crosses 10000 then s
  else
    let s1 := { s with pw := { s.pw with readings := (List.range 11).map (fun n => toS 32 (ofS 32 (Config.supplyReading n (s.now / 160000)))) } }
    let up := maskOf (s1.sagList.filter (fun n => goodReading n (s1.reading n)))
    let s2 := if up = s1.pw.sagged then s1 else s1.suppliesRise up
    s2.nvWatch (s2.supplyGood 0 && s2.supplyGood 1 && goodReading 0 (s2.reading 0) && goodReading 1 (s2.reading 1))

/-- The latest read found supply n below its sag threshold. -/
def State.sagDue (s : State) (n : Nat) : Bool :=
  s.crosses 10000 && s.supplyGood n && sagReading n (s.reading n)

/-- The latest read found every sagged supply good again. -/
def State.sagEndDue (s : State) : Bool :=
  decide (s.pw.sagged ≠ 0) && s.sagList.all (fun n => goodReading n (s.reading n))

/-- Announces the onset of a sag at the end of its tick: the notice names the lowest of the supplies that sagged in it (R446). -/
def State.sagNotice (s : State) : State :=
  match setPositions s.pw.sagOnset 11 with
  | [] => s
  | n :: _ => ({ s with pw := { s.pw with sagOnset := 0 } }).notice 0x08 n (ofS 32 (s.reading n)) 0

/-- A supply that falls below its threshold: its bit and reading, the start of the condition, and the write inhibit (R446, R447). -/
def State.sagTaken (s : State) (n : Nat) (reading : Int) : State :=
  let first := decide (s.pw.sagged = 0)
  let s1 := { s with pw := { s.pw with
    sagged := s.pw.sagged ||| (1 <<< n)
    sagOnset := if first ∨ (s.pw.sagOnset ≠ 0 ∧ s.supplyGood n) then s.pw.sagOnset ||| (1 <<< n) else s.pw.sagOnset
    readings := s.pw.readings.set n reading } }
  let s2 := if n < 2 then ((s1.setF Fld.thermal.nvInhibit 0 1).nvWatch false).cutUpdate else s1
  if first then (s2.fire 218).raise Fld.thermal.sagSeen 0 else s2

/-- SUPPLY_SAG: supply `n` falls below its sag threshold with a reading in µV. VBP and VBN stop being good (R296); VAUX below 2.45 V
asks for brown-out reset (R448). A reading at or above the threshold is no sag (R442, R505). -/
def State.supplySag (s : State) (n : Nat) (reading : Int) : State :=
  if 10 < n ∨ !sagReading n reading then s
  else
    let s1 := s.sagTaken n reading
    let s2 := if 9 ≤ n then s1.supplyLost else s1
    if n = 0 ∧ reading < 2450000 then s2.askReset .cold else s2

/-- SUPPLY_SAG_END: no supply remains sagged (R446). A supply whose latest reading is not good has risen since: its new reading is a
free value at or above its good threshold. -/
def State.supplySagEnd (s : State) : State :=
  if s.pw.sagged = 0 then s
  else
    let risen := s.sagList.foldl
      (fun (u : State) n =>
        if goodReading n (u.reading n) then u
        else
          let d := u.draw
          let v := Config.supplyReading n d.1
          let g := if n = 10 then min (-5700000) v else max (goodLevels.getD n 0) v
          { d.2 with pw := { d.2.pw with readings := d.2.pw.readings.set n g } }) s
    risen.suppliesRise s.pw.sagged

def State.nvClearDue (s : State) : Bool := decide (s.pw.nvClear ≠ 0 ∧ s.pw.nvClear ≤ s.tick)

/-- NV_INHIBIT_CLEAR (R447). -/
def State.nvInhibitClear (s : State) : State :=
  if !s.nvClearDue then s
  else ({ s with pw := { s.pw with nvClear := 0 } }).setF Fld.thermal.nvInhibit 0 0

/-! ### Ordering errors (R444) -/

/-- The hold of errors 1 to 5: while what they wait for is not good, the domains that are powered lose their power and come up when
it is, and after error 5 the banks stay OFF (R444). -/
def State.orderHold (s : State) (code : Nat) : State :=
  if (orderNeeds code).all s.supplyGood then s
  else
    let taken := s.pw.on &&& orderMask code
    let s0 := s.powerOffAll (setPositions taken 56)
    let s1 := { s0 with pw := { s0.pw with orderHolds := s0.pw.orderHolds ++ [(code, taken)] } }
    let banks := if code = 5 then [0, 1, 2, 3].filter (fun k => s1.powered (domBB k) && decide (s1.bankState k ≠ 1)) else []
    let s2 := banks.foldl (fun (u : State) k => (u.bankOff k).setF Fld.biasbank.bankEn k 0) s1
    if s2.powered domMGMT0 ∧ s2.powered domMGMT1 then s2 else { s2 with bt := { s2.bt with ready := false } }

/-- Error 6: each domain that a removed supply feeds loses power as an unplanned loss (R444, R450). The supplies that are sagged are
those that were removed. -/
def State.orderLoss (s : State) : State :=
  ((List.range 56).filter (fun d => (railsOf d).any (fun n => !s.supplyGood n))).foldl State.powerLoss s

/-- ORDER_ERR (R444): an error before VAUX is good is recorded when VAUX becomes good. -/
def State.orderError (s : State) (code : Nat) : State :=
  if code = 0 ∨ 6 < code then s
  else
    let s1 := if s.supplyGood 0 then s.recordOrder code
      else if s.pw.orderWait = 0 then { s with pw := { s.pw with orderWait := code } } else s
    if code = 6 then s1.orderLoss else s1.orderHold code

/-! ### Meanings -/

/-- SUPPLY_SAG (R446): the reading is a signed number of µV. -/
def execSupplySag (supply : BitVec 6) (reading : BitVec 32) (s : State) : Host.Outcome State Fault Refusal :=
  .next (s.supplySag supply.toNat reading.toInt)

/-- SUPPLY_SAG_END (R446). -/
def execSupplySagEnd (s : State) : Host.Outcome State Fault Refusal := .next s.supplySagEnd

/-- NV_INHIBIT_CLEAR (R447). -/
def execNvInhibitClear (s : State) : Host.Outcome State Fault Refusal := .next s.nvInhibitClear

/-- ORDER_ERR (R444). -/
def execOrderErr (code : BitVec 8) (s : State) : Host.Outcome State Fault Refusal := .next (s.orderError code.toNat)

end Sys2Proof.Machine
end

