-- ==== Sys2Proof/Machine/System.lean ====
section
/-! DEFINITION. System commands (16_command_reference.md): SYS_NOP, SYS_IDENTIFY, SYS_RESET, SYS_NOTIFY, SYS_CANCEL, and
RING_ASSIGN (15_host_link.md R391). -/

namespace Sys2Proof.Machine

/-- JTAG IDCODE (21_pins_electrical.md R515). -/
def idcode : Nat := 0x195125AF

/-- SYS_NOP. -/
def cmdSysNop : Own := fun _ s => (s, Reply.ok)

/-- SYS_IDENTIFY (R427). -/
def cmdSysIdentify : Own := fun _ s => (s, Reply.ok4 idcode 0x11 s.subsys s.bt.version)

/-- SYS_RESET: the reset takes effect 10,000 ticks after the completion (R428). -/
def cmdSysReset (kind : Nat) : Own := fun _ s =>
  if 1 < kind then refuse s .badParam
  else ({ s with cmd := { s.cmd with resetAt := s.cmd.resetAt ++ [(s.tick + 10000, kind)] } }, Reply.ok)

/-- A notice route that R423 lists. -/
def routeKnown (r : Nat) : Bool := decide (r ≤ 3 ∨ (0x10 ≤ r ∧ r ≤ 0x17))

/-- The ring or mailbox of a route belongs to a function (R423). -/
def State.routeOwned (s : State) (f : Fn) (r : Nat) : Bool :=
  if r = 0 then true
  else if r < 0x10 then (s.ring (2 + r)).ownedBy f
  else decide (mbFn (r - 0x10) = f)

/-- SYS_NOTIFY (R423). -/
def cmdSysNotify (h : Hdr) (route : Nat) : Own := fun _ s =>
  if !routeKnown route then refuse s .badParam
  else match pathFn h.path with
    | none => refuse s .state
    | some f =>
      if !s.routeOwned f route then refuse s .state
      else (s.setFn f { s.fnRegs f with route := route }, Reply.ok1 (s.fnRegs f).route)

/-- Whether SYS_CANCEL reaches a scheduled command (R417): of its path and tag, with an AT tick other than the present. -/
def cancels (p : Path) (tag now : Nat) (c : Cmd) : Bool :=
  decide (c.h.path = p) && decide (tag = 0xFFFF ∨ c.h.tag.toNat = tag) &&
    (match c.st with
     | .sched a => decide (a ≠ now)
     | .deferred a => decide (a ≠ now)
     | _ => false)

/-- SYS_CANCEL (R417). -/
def cmdSysCancel (h : Hdr) (tag : Nat) : Own := fun _ s =>
  let l := s.cmd.open_.filter (cancels h.path tag s.tick)
  (l.foldl (fun t c => t.complete c.id c.instr c.h (Reply.fail .state) 4) s, Reply.ok1 l.length)

/-- A survey stream that is ARMED or RUNNING, or a vitrine outside IDLE, names ring n (R391). -/
def State.ringNamed (s : State) (n : Nat) : Bool :=
  (List.range 64).any (fun k =>
      decide (s.svState k ≠ 0 ∧ s.getF Fld.survey.dest k = 0 ∧ 8 + s.getF Fld.survey.ring k = n)) ||
    (List.range 8).any (fun v => decide (s.viState v ≠ 0 ∧ viRing (s.viRun v).cfg = n))

/-- OWNER of an owner byte of RING_ASSIGN (R391). -/
def ownerOf (b : Nat) : Option Nat :=
  match b with
  | 0x00 => some 1
  | 0x01 => some 2
  | 0xFF => some 0
  | _ => none

/-- RING_ASSIGN (R391). -/
def cmdRingAssign (h : Hdr) (n owner : Nat) : Own := fun _ s =>
  match ownerOf owner with
  | none => refuse s .badParam
  | some o =>
    if !(n = 6 ∨ (8 ≤ n ∧ n ≤ 79)) then refuse s .badParam
    else if !pathSecure h.path ∧ ((s.ring n).owner = 2 ∨ o = 2) then refuse s .security
    else if (s.ring n).en ∨ s.ringNamed n then refuse s .state
    else
      let s1 := s.setRing n (Ring.fresh o)
      ({ s1 with host := { s1.host with ringCause := clearMask s1.host.ringCause (1 <<< n) } }, Reply.ok)

/-! ### Meanings -/

/-- SYS_NOP (R430). -/
def execSysNop (h : Hdr) (s : State) : Host.Outcome State Fault Refusal := run (.sysNop h) h cmdSysNop s

/-- SYS_IDENTIFY (R427). -/
def execSysIdentify (h : Hdr) (s : State) : Host.Outcome State Fault Refusal := run (.sysIdentify h) h cmdSysIdentify s

/-- SYS_RESET (R428). -/
def execSysReset (h : Hdr) (kind : BitVec 8) (s : State) : Host.Outcome State Fault Refusal :=
  run (.sysReset h kind) h (cmdSysReset kind.toNat) s

/-- SYS_NOTIFY (R423). -/
def execSysNotify (h : Hdr) (route : BitVec 8) (s : State) : Host.Outcome State Fault Refusal :=
  run (.sysNotify h route) h (cmdSysNotify h route.toNat) s

/-- SYS_CANCEL (R417). -/
def execSysCancel (h : Hdr) (tag : BitVec 16) (s : State) : Host.Outcome State Fault Refusal :=
  run (.sysCancel h tag) h (cmdSysCancel h tag.toNat) s

/-- RING_ASSIGN (R391). -/
def execRingAssign (h : Hdr) (ring owner : BitVec 8) (s : State) : Host.Outcome State Fault Refusal :=
  run (.ringAssign h ring owner) h (cmdRingAssign h ring.toNat owner.toNat) s

end Sys2Proof.Machine
end

