-- ==== Sys2Proof/Machine/Execution.lean ====
section
/-! DEFINITION. Commands that the device holds as data: packets fetched from rings, mailboxes and datagrams, chained and
scheduled commands, and commands whose work ends later (15_host_link.md, 16_command_reference.md R413 to R418). -/

namespace Sys2Proof.Machine

/-- The checks and effect of a command kept as data (R430). A row that no command names is no opcode. -/
def runCommand (i : Instr) : Own :=
  match i with
  | .sysNop _ => cmdSysNop
  | .sysIdentify _ => cmdSysIdentify
  | .objRead h c n o l => cmdObjRead h c.toNat n.toNat o.toNat l.toNat
  | .objWrite h c n o l d => cmdObjWrite h c.toNat n.toNat o.toNat l.toNat d.toNat
  | .sysReset _ k => cmdSysReset k.toNat
  | .sysNotify h r => cmdSysNotify h r.toNat
  | .sysCancel h t => cmdSysCancel h t.toNat
  | .ringAssign h r o => cmdRingAssign h r.toNat o.toNat
  | .pwrState _ t => cmdPwrState t.toNat
  | .pwrDomain h d o => cmdPwrDomain h d.toNat o.toNat
  | .timeRead _ => cmdTimeRead
  | .timeSetEpoch _ v => cmdTimeSetEpoch v.toNat
  | .timeSwitch _ d st t => cmdTimeSwitch d.toNat st t.toNat
  | .timeCaptureRead h u => cmdTimeCaptureRead h u.toNat
  | .archiveLoad h b a c => cmdArchiveLoad h b.toNat a.toNat c.toNat
  | .archiveRead h b a c => cmdArchiveRead h b.toNat a.toNat c.toNat
  | .kernelLoad h a c => cmdKernelLoad h a.toNat c.toNat
  | .kernelRead h a c => cmdKernelRead h a.toNat c.toNat
  | .outputEnable _ m => cmdOutputEnable m.toNat
  | .outputDisable _ m => cmdOutputDisable m.toNat
  | .outputCommit _ t => cmdOutputCommit t.toNat
  | .curAccession h => cmdCurAccession h
  | .curReadback h c a n => cmdCurReadback h c.toNat a.toNat n.toNat
  | .curStart _ m t => cmdCurStart m.toNat t.toNat
  | .curStop _ m t a => cmdCurStop m.toNat t.toNat a
  | .curBarrier _ b m => cmdCurBarrier b.toNat m.toNat
  | .frameOp _ f o a => cmdFrameOp f.toNat o.toNat a.toNat
  | .frameCommit _ t k => cmdFrameCommit t.toNat k
  | .readoutCommit _ t => cmdReadoutCommit t.toNat
  | .discRebase h t => cmdDiscRebase h t.toNat
  | .discSeedStore h => cmdDiscSeedStore h
  | .discSeedRestore h => cmdDiscSeedRestore h
  | .biasWrite h b f c a => cmdBiasWrite h b.toNat f.toNat c.toNat a
  | .biasStrobe _ m => cmdBiasStrobe m.toNat
  | .biasClear _ b => cmdBiasClear b.toNat
  | .biasCommit _ t => cmdBiasCommit t.toNat
  | .catCommit h t => cmdCatCommit h t.toNat
  | .catGroup _ m => cmdCatGroup m.toNat
  | .vitArm _ m t => cmdVitArm m.toNat t.toNat
  | .vitTrigger _ m => cmdVitTrigger m.toNat
  | .vitAbort _ m => cmdVitAbort m.toNat
  | .calOutput _ m => cmdCalOutput m.toNat
  | .calInput _ m => cmdCalInput m.toNat
  | .calBias _ b => cmdCalBias b.toNat
  | .calSysZero _ i => cmdCalSysZero i.toNat
  | .calSysFull _ i a f => cmdCalSysFull i.toNat a.toNat f.toNat
  | .calSysStore _ m => cmdCalSysStore m.toNat
  | .resume _ => cmdResume
  | .ldgSnap _ t p => cmdLdgSnap t.toNat p
  | .ldgRead h c f n => cmdLdgRead h c.toNat f.toNat n.toNat
  | .ldgRelease _ => cmdLdgRelease
  | .ldgStatus _ => cmdLdgStatus
  | .surveyStart _ m t => cmdSurveyStart m.toNat t.toNat
  | .surveyStop _ m t => cmdSurveyStop m.toNat t.toNat
  | .cpLink _ p u => cmdCpLink p.toNat u.toNat
  | .cpCommit _ t => cmdCpCommit t.toNat
  | .secPolicy _ p => cmdSecPolicy p
  | .secKeyLoad h n => cmdSecKeyLoad h n.toNat
  | .secFwUpdate h => cmdSecFwUpdate h
  | .secDebugUnlock h => cmdSecDebugUnlock h
  | .appStart _ a b c => cmdAppStart a.toNat b.toNat c.toNat
  | .appStop _ a b => cmdAppStop a.toNat b.toNat
  | .appRead h a => cmdAppRead h a.toNat
  | .inputEn h i v => cmdInputEn h i.val v
  | .fsc h o v => cmdFsc h o.val v.toNat
  | .bankEn h k v => cmdBankEn h k.val v
  | .tpEn h n v => cmdTpEn h n.val v
  | .slewEn h k v => cmdSlewEn h k.val v
  | .domEn h b v => cmdDomEn h b v
  | .ethMode h m v => cmdEthMode h m.toNat v
  | .inputCode h b c => cmdInputCode h b.val c.toNat
  | _ => fun _ s => refuse s .badOpcode

/-! ### Packets (R387, R393, R402, R414) -/

/-- A packet that fails before its header can be trusted completes with a status; TAG and OPCODE echo bytes 0–3 (R412). It
counts as its path's last packet, badly ended (R418). -/
def State.refusePacket (s : State) (c : Carried) (tag op : Nat) (rep : Reply) : State :=
  let n := s.newId c.path
  let prev := sget (fun _ => 0) s.cmd.last (pathKey c.path)
  ({ n.2 with cmd := { n.2.cmd with last := sset (fun _ => 0) n.2.cmd.last (pathKey c.path) 3 } }.queueCompletion n.1 op tag
    c.path c.peer.toNat c.peerPort.toNat c.mac.toNat 0 rep 0).keepFirst c.path prev

/-- A packet arrives on a path: CRC, opcode, then the command (R414). -/
def State.takePacket (s : State) (c : Carried) (p : BitVec 512) : State :=
  let tag := bits p.toNat 16 16
  let op := bits p.toNat 0 16
  if !packetCrcOk p then s.refusePacket c tag op (Reply.fail .badCrc)
  else match decodePacket c p with
    | none => s.refusePacket c tag op (Reply.fail .badOpcode)
    | some i => s.issue i (packetHdr c p) (runCommand i)

/-- The first 64 bytes of a message as a packet. -/
def packetOf (l : List Byte) : BitVec 512 := BitVec.ofNat 512 (leNat (l.take 64))

/-- A message that carries a packet and its extended parameters; one shorter than a packet is refused (R396, R402). -/
def State.takeCarrier (s : State) (path : Path) (peer : BitVec 128) (port : BitVec 16) (mac : BitVec 48) (l : List Byte) :
    State :=
  let c : Carried := ⟨path, l.drop 64, false, peer, port, mac⟩
  if l.length < 64 then s.refusePacket c (leNat (sub l 2 2)) (leNat (sub l 0 2)) (Reply.fail .badParam)
  else s.takePacket c (packetOf l)

/-- Consumes the entry at the consumer index of command ring k, which counts for the ring's cause (R386, R387). -/
def State.ringConsume (s : State) (k : Nat) : State :=
  let r := s.ring k
  let len := match r.oldLen with | some l => l | none => r.length
  let wraps := decide (len ≤ r.cons + 1)
  let c := if wraps then 0 else r.cons + 1
  (((s.setRing k { r with cons := c, oldLen := if wraps then none else r.oldLen }).count 0x15 k 1).ringWriteBack k c).ringCount k

/-- The DMA reads of a fetch, with the requester ID of the ring's owner: the entry at the consumer index, and the extended
parameters of a command that takes them (R385, R399, R408). -/
def State.fetchReads (s : State) (k : Nat) (p : BitVec 512) : State :=
  let r := s.ring k
  let s1 := s.emit (.dmaRead r.fn (r.base + 64 * r.cons) 64)
  let ptr := bits p.toNat 128 64
  let len := bits p.toNat 192 32
  if packetCrcOk p ∧ takesExt (bits p.toNat 0 16) ∧ len ≠ 0 ∧ ptr % 4 = 0 then s1.emit (.dmaRead r.fn ptr len) else s1

/-- A fetch from command ring k may go on: its path lives, it is enabled and holds an entry, fewer than 64 of its commands are
open, and its completion ring holds none back (R387, R390, R413). -/
def State.fetchReady (s : State) (k : Fin 3) : Bool :=
  let r := s.ring k.val
  s.pathAlive (.ring k) && r.en && !r.isEmpty && decide (s.openOn (.ring k) < 64 ∧ s.heldFor (3 + k.val) = 0)

/-- COMMAND_FETCH: `packet` is what the DMA read of the entry returned, `ext` what the read of the extended parameters did,
none where the host refused it (R387, R408, R413). -/
def State.commandFetch (s : State) (k : Fin 3) (packet : BitVec 512) (ext : Option (List Byte)) : State :=
  if s.fetchReady k then
    ((s.fetchReads k.val packet).ringConsume k.val).takePacket ⟨.ring k, ext.getD [], ext.isNone, 0, 0, 0⟩ packet
  else s

/-- The source of a datagram matches CMD_PEER under CMD_PREFIX, and the address family is enabled (R402, R404). -/
def State.peerAllowed (s : State) (peer : Nat) : Bool :=
  let n := 128 - s.getF Fld.eth.cmdPrefix 0
  let v4 := decide (peer / 2 ^ 32 = 0xFFFF)
  decide (peer / 2 ^ n = s.getF Fld.eth.cmdPeer 0 / 2 ^ n) &&
    (if v4 then decide (s.getF Fld.eth.ipv4Addr 0 ≠ 0) else decide (s.getF Fld.eth.ipv6Addr 0 ≠ 0))

/-- A command datagram from a source that may not send one is dropped (R402). -/
def State.dropCommand (s : State) : State :=
  let t := s.raise Fld.eth.cmdDrop 0
  { t with eth := { t.eth with cmdDrops := t.eth.cmdDrops + 1 } }

/-- COMMAND_DATAGRAM (R402): one to an address of the port's own; without CMD_EN it is traffic that the port does not take. -/
def State.commandDatagram (s : State) (rx : EthRx) (port : BitVec 16) (payload : List Byte) : State :=
  let e := s.ethTake rx
  if !e.1 then e.2
  else if !s.pathAlive .eth ∨ !s.ownAddress rx.target.toNat then e.2.ethDrop
  else if !s.peerAllowed rx.ip.toNat then e.2.dropCommand
  else e.2.takeCarrier .eth rx.ip port rx.mac payload

/-- H2D_TAKE: the Docent takes a posted message, which is a command on the mailbox's path (R393, R396). -/
def State.h2dTake (s : State) (m : Fin 8) : State :=
  let b := s.mbox m.val
  if !b.h2dFull ∨ !s.pathAlive (.mb m) ∨ 64 ≤ s.openOn (.mb m) then s
  else (s.h2dTaken m.val).takeCarrier (.mb m) 0 0 0 (leBytes b.h2dPosted (b.h2d % 2 ^ (8 * b.h2dPosted)))

/-- D2H_DOORBELL: the Docent posts a message into an empty slot (R392, R393); TIMEOUT is 0 in POSTED. A doorbell on a full slot or
with a length outside 1 to 256 is ignored. -/
def State.d2hPost (s : State) (m : Nat) (msg : List Byte) (tmoUs : Nat) : State :=
  let b := s.mbox m
  if b.d2hFull ∨ msg = [] ∨ 256 < msg.length then s
  else
    let s1 := s.setMbox m { b with
      d2h := setBits b.d2h 0 (8 * msg.length) (leNat msg), d2hLen := msg.length, d2hFull := true, d2hDoorbell := true
      d2hAck := false, d2hTimeout := false, d2hDue := if tmoUs = 0 then 0 else s.tick + 1000 * tmoUs }
    let s2 := { s1 with host := { s1.host with mbq := dropQueued m msg s1.host.mbq } }
    (((s2.markNow (nowBox m) 0x1000).count 0x16 m 1).mbCause m 0).fire 223

/-! ### Chains and schedules (R415 to R418) -/

/-- A chained command whose predecessor has completed. -/
def Cmd.readyOn (p : Path) (c : Cmd) : Bool :=
  decide (c.h.path = p) && (match c.st with | .ready _ => true | _ => false)

/-- CHAINED_COMMAND_START (R418). -/
def State.chainStart (s : State) (p : Path) : State :=
  match s.cmd.open_.find? (Cmd.readyOn p) with
  | none => s
  | some c =>
    match c.st with
    | .ready true => (s.acceptNow c.id).startCmd c.id c.instr c.h (runCommand c.instr)
    | _ => (s.acceptNow c.id).skipCmd c.id c.instr c.h

/-- A scheduled command whose AT tick has come. -/
def Cmd.schedDue (t : Nat) (c : Cmd) : Bool :=
  match c.st with
  | .sched a => decide (a ≤ t)
  | .soon a => decide (a ≤ t)
  | _ => false

/-- CAT_GROUP acts before the other scheduled commands of its tick (R348, R415). -/
def isCatGroup (i : Instr) : Bool :=
  match i with
  | .catGroup _ _ => true
  | _ => false

/-- A FRAME_OP acts in step 3 of R33 (R58, R415). -/
def isFrameOp (i : Instr) : Bool :=
  match i with
  | .frameOp _ _ _ _ => true
  | _ => false

/-- A scheduled command that executes before the others of its tick: a CAT_GROUP (R348), before the words of the tick a CUR_STOP
that halts in it (R153), and a FRAME_OP, in step 3 of R33, before those that follow every curator action (R415). -/
def State.goesFirst (s : State) (c : Cmd) : Bool :=
  isCatGroup c.instr || (if s.phase ≤ 4 then stopsNow s.tick c.instr else isFrameOp c.instr)

/-- The scheduled command that executes next, in order of acceptance. -/
def State.nextScheduled (s : State) : Option Cmd :=
  match s.cmd.open_.find? (fun c => c.schedDue s.tick && s.goesFirst c) with
  | some c => some c
  | none => s.cmd.open_.find? (Cmd.schedDue s.tick)

/-- Whether a command executed now would answer BUSY (R416). -/
def State.wouldBeBusy (s : State) (c : Cmd) : Bool :=
  decide ((gated c.instr c.h (runCommand c.instr) c.id s).2.status = .busy)

/-- Changes the state of an open command, keeping its acceptance tick. -/
def State.markCmd (s : State) (id : Nat) (st : CmdState) (late : Bool) : State :=
  { s with cmd := { s.cmd with
      open_ := s.cmd.open_.map (fun c => if c.id = id then { c with st := st, late := late } else c) } }

/-- SCHEDULED_EXECUTION: a command that would be BUSY is deferred (R415, R416). -/
def State.scheduledExecution (s : State) : State :=
  match s.nextScheduled with
  | none => s
  | some c =>
    if s.wouldBeBusy c then s.markCmd c.id (.deferred (match c.st with | .sched a => a | _ => s.tick)) false
    else (s.markCmd c.id .waiting false).execute c.id c.instr c.h (runCommand c.instr)

/-- A deferred command within its 10,000 ticks. -/
def Cmd.deferredAt (c : Cmd) : Option Nat :=
  match c.st with
  | .deferred a => some a
  | _ => none

/-- A deferred command that may execute: its time is not over and its checks no longer give BUSY. -/
def State.deferredReady (s : State) (c : Cmd) : Bool :=
  match c.deferredAt with
  | some a => decide (s.tick < a + 10000) && !s.wouldBeBusy c
  | none => false

/-- DEFERRED_EXECUTION (R416). -/
def State.deferredExecution (s : State) : State :=
  match s.cmd.open_.find? s.deferredReady with
  | none => s
  | some c => (s.markCmd c.id .waiting true).execute c.id c.instr c.h (runCommand c.instr)

/-- A deferred command whose time is over. -/
def Cmd.deferredOver (t : Nat) (c : Cmd) : Bool :=
  match c.deferredAt with
  | some a => decide (a + 10000 ≤ t)
  | none => false

/-- DEFERRED_TIMEOUT (R416). -/
def State.deferredTimeout (s : State) : State :=
  match s.cmd.open_.find? (Cmd.deferredOver s.tick) with
  | none => s
  | some c => s.complete c.id c.instr c.h (Reply.fail .timeout) 0

/-! ### The end of commands at work (R146, R204, R449, R453, R483, R486, R497) -/

/-- How many of `n` records are written before a read-back fails: all of them, or fewer, a free value (R486). -/
def State.recordsWritten (s : State) (n : Nat) : Nat × State :=
  let r := s.readBack
  if r.1 ∨ n = 0 then (n, r.2)
  else
    let d := r.2.draw
    (Config.delay d.1 % n, d.2)

/-- The first record that a write of several did not bring in: the copy it programmed is not valid (R486). -/
def State.spoilFirst (s : State) (key : Nat → Nat) (len : Nat) (l : List (Nat × Nat)) : State :=
  match l with
  | [] => s
  | e :: _ => s.nvSpoil (key e.1) len e.2

/-- The end of DISC_SEED_STORE. -/
def State.finishSeeds (s : State) (w : Timed) : State :=
  let n := s.recordsWritten w.vals.length
  ((n.2.storeSeeds (w.vals.take n.1)).spoilFirst nvDisc 72 (w.vals.drop n.1)).completeId w.id
    (if n.1 = w.vals.length then w.rep else Reply.fail .calFail)

/-- The end of CAL_SYS_STORE: on a failure RESULT0 names the inputs whose records are all written. -/
def State.finishStore (s : State) (w : Timed) : State :=
  let n := s.recordsWritten w.vals.length
  let lost := (w.vals.drop n.1).map (fun e => e.1 / 3)
  let done := (w.vals.map (fun e => e.1 / 3)).filter (fun i => !lost.contains i)
  ((n.2.storeCorrections (w.vals.take n.1)).spoilFirst nvCorrection 16 (w.vals.drop n.1)).completeId w.id
    (if n.1 = w.vals.length then w.rep else { Reply.fail .calFail with r0 := maskOf done })

/-- First value a command at work holds back. -/
def Timed.first (w : Timed) : Nat × Nat := w.vals.headD (0, 0)

/-- What happens at the end of a command at work. -/
def State.finishTimed (s : State) (w : Timed) (c : Cmd) : State :=
  match c.instr with
  | .curAccession h => s.finishAccession w.id c.mask h.ext
  | .discSeedStore _ => s.finishSeeds w
  | .calSysStore _ _ => s.finishStore w
  | .pwrDomain _ _ _ => s.finishPwrDomain w.id w.first.2
  | .pwrState _ _ => s.finishPwrState w.id w.first.2
  | .secPolicy _ _ => s.finishPolicy w.id w.first.2 w.rep
  | .secKeyLoad _ _ => s.finishKey w.id w.first.1 w.first.2 ((w.vals.drop 1).headD (0, 0)).2 w.rep
  | .secFwUpdate h => s.finishUpdate w.id w.first.1 w.first.2 h.ext w.rep
  | _ => s.completeId w.id w.rep

/-- Begin-of-tick work: commands whose time at work has come complete. -/
def State.timedEnd (s : State) : State :=
  let due := s.cmd.timed.filter (fun w => decide (w.due ≤ s.tick))
  due.foldl
    (fun t w => match t.cmdOf w.id with
      | some c => t.finishTimed w c
      | none => t)
    { s with cmd := { s.cmd with timed := s.cmd.timed.filter (fun w => !decide (w.due ≤ s.tick)) } }

/-! ### Meanings -/

/-- COMMAND_FETCH (R387, R413). -/
def execCommandFetch (k : Fin 3) (packet : BitVec 512) (ext : Option (List Byte)) (s : State) :
    Host.Outcome State Fault Refusal :=
  .next (s.commandFetch k packet ext)

/-- COMMAND_DATAGRAM (R402). -/
def execCommandDatagram (rx : EthRx) (port : BitVec 16) (payload : List Byte) (s : State) :
    Host.Outcome State Fault Refusal :=
  .next (s.commandDatagram rx port payload)

/-- H2D_TAKE (R393, R396). -/
def execH2dTake (m : Fin 8) (s : State) : Host.Outcome State Fault Refusal := .next (s.h2dTake m)

/-- D2H_DOORBELL (R393). -/
def execD2hDoorbell (m : Fin 8) (msg : List Byte) (tmoUs : BitVec 24) (s : State) : Host.Outcome State Fault Refusal :=
  .next (s.d2hPost m.val msg tmoUs.toNat)

/-- CHAINED_COMMAND_START (R418). -/
def execChainedCommandStart (p : Path) (s : State) : Host.Outcome State Fault Refusal := .next (s.chainStart p)

/-- SCHEDULED_EXECUTION (R415). -/
def execScheduledExecution (s : State) : Host.Outcome State Fault Refusal := .next s.scheduledExecution

/-- DEFERRED_EXECUTION (R416). -/
def execDeferredExecution (s : State) : Host.Outcome State Fault Refusal := .next s.deferredExecution

/-- DEFERRED_TIMEOUT (R416). -/
def execDeferredTimeout (s : State) : Host.Outcome State Fault Refusal := .next s.deferredTimeout

end Sys2Proof.Machine
end

