-- ==== Sys2Proof/Machine/Sideband.lean ====
section
/-! DEFINITION. What the device shows beside its command paths: PCIe configuration space (00_scope.md R2, 15_host_link.md R377), the
SMBus registers (21_pins_electrical.md R514) and the JTAG port (R515). The table has no row for an access to any of them; what they
hold is State, and what an access does is one operation each. -/

namespace Sys2Proof.Machine

/-! ### PCIe configuration space -/

/-- Class code 0x1180 (R2), with programming interface 0x00. -/
def pciClass : Nat := 0x118000

/-- A dword of a function's configuration header, at the offsets of the PCI Express specification (PRESUMED: the spec names what is
read and not where): vendor and device ID, revision and class code, multi-function header, a 64-bit non-prefetchable BAR0 that no
host has placed, and the subsystem IDs from the strongroom (R1, R2, R377). -/
def State.cfgRead (s : State) (off : Nat) : Nat :=
  match off with
  | 0x00 => 0x95127A1C
  | 0x08 => pciClass * 2 ^ 8 + 0x11
  | 0x0C => 0x800000
  | 0x10 => 0x4
  | 0x2C => s.subsys
  | _ => 0

def State.cfg (s : State) (f : Fn) : CfgSpace := match f with | .pf0 => s.port.cfg0 | .pf1 => s.port.cfg1

def State.setCfg (s : State) (f : Fn) (c : CfgSpace) : State :=
  match f with
  | .pf0 => { s with port := { s.port with cfg0 := c } }
  | .pf1 => { s with port := { s.port with cfg1 := c } }

/-- Registers of the capabilities that R377 lists. Where they stand in configuration space is the PCI Express specification's and the
device's; they go by name here. -/
inductive CapReg where
  | powerControl | deviceCaps | deviceControl | deviceControl2 | aerUncorrectable | aerUncorrectableMask | aerCorrectable
  | aerCorrectableMask | aerControl | msixControl | msixTable | msixPba
deriving DecidableEq, Repr

/-- What a capability register reads, in the format of the PCI Express specification (PRESUMED): the power state; Max_Payload_Size
512 supported and function-level reset; the sizes in force; ECRC capable and enabled; a table of 32 vectors (R377, R381, R382). -/
def State.capRead (s : State) (f : Fn) (r : CapReg) : Nat :=
  let c := s.cfg f
  match r with
  | .powerControl => c.pm
  | .deviceCaps => 2 + 2 ^ 28
  | .deviceControl => 2 ^ 5 * c.mps + 2 ^ 12 * c.mrrs
  | .deviceControl2 => 2 ^ 12 * b2n c.tag10
  | .aerUncorrectable => c.aer.1
  | .aerUncorrectableMask => c.aerMask.1
  | .aerCorrectable => c.aer.2
  | .aerCorrectableMask => c.aerMask.2
  | .aerControl => 2 ^ 5 + 2 ^ 6 * b2n c.ecrcGen + 2 ^ 7 + 2 ^ 8 * b2n c.ecrcCheck
  | .msixControl => 31
  | .msixTable => 0x1000
  | .msixPba => 0x1800

/-- A write of a capability register. Of the power states the function takes D0 and D3hot, of the sizes those of R377; another value
changes nothing. A 1 clears an error status bit. -/
def State.capWrite (s : State) (f : Fn) (r : CapReg) (v : Nat) : State :=
  let c := s.cfg f
  let pm := v % 4
  let mps := bits v 5 3
  let mrrs := bits v 12 3
  s.setCfg f (match r with
    | .powerControl => if pm = 0 ∨ pm = 3 then { c with pm := pm } else c
    | .deviceControl => { c with mps := if mps ≤ 2 then mps else c.mps, mrrs := if mrrs ≤ 5 then mrrs else c.mrrs }
    | .deviceControl2 => { c with tag10 := bit v 12 }
    | .aerUncorrectable => { c with aer := (clearMask c.aer.1 v, c.aer.2) }
    | .aerUncorrectableMask => { c with aerMask := (v, c.aerMask.2) }
    | .aerCorrectable => { c with aer := (c.aer.1, clearMask c.aer.2 v) }
    | .aerCorrectableMask => { c with aerMask := (c.aerMask.1, v) }
    | .aerControl => { c with ecrcGen := bit v 6, ecrcCheck := bit v 8 }
    | _ => c)

/-- The largest payload of a request of a function, and the largest read request, in bytes (R377). -/
def CfgSpace.maxPayload (c : CfgSpace) : Nat := 128 * 2 ^ c.mps
def CfgSpace.maxReadRequest (c : CfgSpace) : Nat := 128 * 2 ^ c.mrrs

/-- A reset of a function: its configuration space takes its reset values; error status, which is sticky, stays, and an FLR keeps the
payload size (PRESUMED: the PCI Express specification, to which R488 refers). -/
def CfgSpace.cleared (c : CfgSpace) (keepSize : Bool) : CfgSpace :=
  { CfgSpace.fresh with mps := if keepSize then c.mps else 0, aer := c.aer, aerMask := c.aerMask }

/-! ### SMBus (R514) -/

/-- The slave's 7-bit address. -/
def smbusAddress : Nat := 0x5C

/-- Size in bytes and value of a register; none where the table has none. Voltages are in mV, rounded down (DESIGN CHOICE). -/
def State.smbusRegister (s : State) (code : Nat) : Option (Nat × Nat) :=
  if code = 0x00 then some (2, s.getF Fld.thermal.tjMax 0)
  else if code = 0x01 then some (1, s.powerState + 8 * s.thermalState + 64 * b2n s.bt.ready)
  else if code = 0x02 then some (1, s.getF Fld.thermal.tjMaxSensor 0)
  else if 0x10 ≤ code ∧ code ≤ 0x1A then some (2, ofS 16 (s.pw.readings.getD (code - 0x10) 0 / 1000))
  else none

/-- Packet error code of SMBus: CRC-8 with polynomial x^8 + x^2 + x + 1 (PRESUMED: the SMBus specification's). -/
def pec (l : List Byte) : Byte :=
  l.foldl (fun c b => (List.range 8).foldl (fun (x : Byte) _ => if x.getLsbD 7 then (x <<< 1) ^^^ 7 else x <<< 1) (c ^^^ b)) 0

/-- What a Read Byte or Read Word of a register answers, low byte first, with the PEC where it is asked for; none where the slave does
not acknowledge: while the Docent is not READY, in Dormant, without PD_MGMT0, which serves it, and for a code that names no register (DESIGN CHOICE). -/
def State.smbusRead (s : State) (code : Nat) (withPec : Bool) : Option (List Byte) :=
  if !s.bt.ready ∨ s.powerState = 3 ∨ !s.powered domMGMT0 then none
  else (s.smbusRegister code).map (fun r =>
    let d := leBytes r.1 r.2
    let head := [BitVec.ofNat 8 (2 * smbusAddress), BitVec.ofNat 8 code, BitVec.ofNat 8 (2 * smbusAddress + 1)]
    if withPec then d ++ [pec (head ++ d)] else d)

/-! ### JTAG (R515) -/

def State.setJtag (s : State) (j : JtagRt) : State := { s with port := { s.port with jtag := j } }

/-- TRST_B low, or the reset state of the port: IDCODE is selected (PRESUMED: IEEE 1149.1). -/
def State.jtagReset (s : State) : State := s.setJtag { s.port.jtag with instr := .idcode, shift := [] }

/-- An instruction comes into force. The spec gives the instructions no codes. Boundary scan is open in every lifecycle state (R499). -/
def State.jtagSelect (s : State) (i : JtagInstr) : State := s.setJtag { s.port.jtag with instr := i, shift := [] }

/-- The instruction selects the boundary register. -/
def JtagInstr.scans (i : JtagInstr) : Bool :=
  match i with
  | .sample | .extest | .extestPulse | .extestTrain => true
  | _ => false

/-- Level that a cell captures at its ball: a free value at each capture. -/
def State.jtagLevels (s : State) : List Bool := (List.range jtagCells).map (fun k => Config.choice (s.free + k))

/-- The capture of the selected register: IDCODE, a 0 of the bypass register, or the levels at the cells (IEEE 1149.1). -/
def State.jtagCapture (s : State) : State :=
  let j := s.port.jtag
  if j.instr.scans then { s.setJtag { j with shift := s.jtagLevels } with free := s.free + jtagCells }
  else if j.instr = .idcode then s.setJtag { j with shift := (List.range 32).map (fun k => bit 0x195125AF k) }
  else s.setJtag { j with shift := [false] }

/-- One TCK in the shift state: the bit at TDO, and the register with TDI taken in. -/
def State.jtagShift (s : State) (tdi : Bool) : Bool × State :=
  let j := s.port.jtag
  (j.shift.headD false, s.setJtag { j with shift := j.shift.tail ++ [tdi] })

/-- The update: the boundary cells take what was shifted in; SAMPLE/PRELOAD loads them for an instruction to come. -/
def State.jtagUpdate (s : State) : State :=
  let j := s.port.jtag
  if j.instr.scans ∧ j.shift.length = jtagCells then s.setJtag { j with cells := j.shift } else s

/-- What drives the ball of an output cell. -/
inductive BallDrive where
  | function | level (b : Bool) | pulse (b : Bool) | train (b : Bool) | released
deriving DecidableEq, Repr

/-- What drives the ball of cell n: the device itself; the cell under EXTEST and CLAMP; nothing under HIGHZ; and the pulse or train of
IEEE 1149.6 at the SerDes balls, cells 83 to 194 (R515). DESIGN CHOICE: cells stand in the order of the rule, low-speed set, LVDS,
SerDes. -/
def State.ballDrive (s : State) (n : Nat) : BallDrive :=
  let j := s.port.jtag
  let b := j.cells.getD n false
  match j.instr with
  | .extest | .clamp => .level b
  | .highz => .released
  | .extestPulse => if 83 ≤ n then .pulse b else .level b
  | .extestTrain => if 83 ≤ n then .train b else .level b
  | _ => .function

/-- The debug access beyond boundary scan is open (R499). -/
def State.debugAccess (s : State) : Bool := decide (s.bt.lifecycle = 1) || s.bt.debugOpen

end Sys2Proof.Machine
end

