-- ==== Sys2Proof/Machine/Reset.lean ====
section
/-! DEFINITION. The reset classes and the wake from Dormant (20_reset_boot.md R487 to R491, 15_host_link.md R397,
18_power_thermal.md R454). -/

namespace Sys2Proof.Machine

/-! ### Strongroom writes that a reset cuts short (R486) -/

/-- How a strongroom write in progress leaves its records: some are written, a free value, and of the next one the copy that was
being programmed is not valid. -/
def State.cutWrite (s : State) (w : Timed) : State :=
  let d := s.draw
  let n := Config.delay d.1 % (w.vals.length + 1)
  match (s.cmdOf w.id).map Cmd.instr with
  | some (.discSeedStore _) => (d.2.storeSeeds (w.vals.take n)).spoilFirst nvDisc 72 (w.vals.drop n)
  | some (.calSysStore _ _) => (d.2.storeCorrections (w.vals.take n)).spoilFirst nvCorrection 16 (w.vals.drop n)
  | some (.secPolicy _ _) => d.2.spoilFirst (fun _ => nvPolicy) 16 w.vals
  | some (.secKeyLoad _ _) => d.2.spoilFirst nvKey 64 w.vals
  | _ => d.2

/-- Every strongroom write in progress is cut short (R486). -/
def State.cutWrites (s : State) : State := (s.cmd.timed.filter Timed.nv).foldl State.cutWrite s

/-! ### Cold reset -/

/-- COLD_RESET (R487, R488): everything takes its reset value but the strongroom, the fuses and the flash; what stands at the pins
stays, the straps are sampled (R492), and a new DEBUG_NONCE is drawn (R499). DESIGN CHOICE: the row stands for the whole reset, from
its cause to the release: PORST_B is high again, no supply is sagged, and what came in between, SYSRST_B and WAKE_B among it, was
ignored (R491). -/
def State.coldReset (s0 : State) : State :=
  let s := s0.cutWrites
  let d := s.draw
  let z := State.reset
  let t := { z with
    pending := s.pending, sent := s.sent, free := d.2.free
    bi := { z.bi with supplyGood := s.bi.supplyGood, clrLow := s.bi.clrLow }
    cat := { z.cat with gpioIn := s.cat.gpioIn, gpioSeen := s.cat.gpioSeen }
    pw := { z.pw with straps := Config.straps d.1 % 16, readings := s.pw.readings }
    bt := { s.bt with
      addr := 0, len := 0, code := 0, src := 0, alt := false, ready := false, booting := true, waitGo := false
      cause := 0, version := 0, debugOpen := false, nonce := d.1, asked := [], widest := 0, served := 0 } }
  let banks := [49, 50, 51, 52].foldl State.loadFactories ([0, 1, 2, 3].foldl State.bankPowerUp t)
  banks.setF Fld.eth.macAddr 0 s.stationMac

/-! ### Rings, mailboxes and commands (R397) -/

/-- Mailboxes of a function. -/
def fnBoxes (f : Fn) : List Nat := match f with | .pf0 => [0, 1, 2, 3] | .pf1 => [4, 5, 6, 7]

/-- Every mailbox's H2D message, or D2H message, goes through an operation. -/
def State.overBoxes (s : State) (l : List Nat) (f : State → Nat → State) : State := l.foldl f s

/-- Paths forget their last packet: the next command of each is not chained (R418). -/
def State.forgetPaths (s : State) (keys : List Nat) : State :=
  { s with cmd := { s.cmd with last := keys.foldl (fun m k => sset (fun _ => 0) m k 0) s.cmd.last } }

/-! ### Warm reset -/

/-- A domain that a warm reset leaves alone: PD_AON and the bias banks (R487). -/
def warmKeeps (d : Nat) : Bool := decide (d = domAON) || decide (49 ≤ d ∧ d < 53)

/-- OBJ_CATALOGUE after a warm reset: its configuration takes its reset values, its sticky flags stay (R488). -/
def warmCatalogue (img : Nat) : Nat :=
  resetImage 0x10 0 ||| (img &&& fieldMask 0x10 0 (fun r => decide (r.acc = .w1c)))

/-- The objects after a warm reset. -/
def State.warmObjects (s : State) : State :=
  let keep := fun (k : Nat) => warmKeeps (keyDom k)
  let s1 := { s with
    objs := s.objs.filter (fun e => keep e.1)
    live := s.live.filter (fun e => keep e.1 && decide (e.1 / 65536 ≠ 0x10))
    undo := s.undo.filter (fun u => keep u.key && decide (u.key / 65536 ≠ 0x10)) }
  (s1.setObj 0x10 0 (warmCatalogue (s.obj 0x10 0))).setPower 2

/-- The host link after a warm reset: rings and registers at their reset values, messages withdrawn (R397). -/
def State.warmHost (s : State) : State :=
  let s0 := s.dropMessages (fun _ => true)
  let s1 := { s0 with host := { s0.host with
    rings := [], ringCause := 0, pf0 := FnRegs.fresh 1, pf1 := FnRegs.fresh 0, held := [] } }
  (s1.overBoxes (List.range 8) State.h2dWithdraw).overBoxes (List.range 8) State.d2hWithdraw

/-- What a warm reset loses of the records under way counts as lost: the open record block, the blocks of open datagrams, the
frames that wait for the end of a pause, and the records of completions that have not left (R17). Triggers taken count. -/
def State.warmLost (s : State) : State :=
  let s1 := ((List.range 8).foldl State.viSettle s).blockLost.svDropped.dropQueue
  s1.cmd.outbox.foldl (fun t e => t.capturesLost e.units) s1

/-- The groups of the domains that a warm reset clears. The counters of every domain are those mirrored (R364, R488). -/
def State.warmGroups (s : State) : State :=
  let z := State.reset
  { s with
    drv := z.drv, arc := z.arc, cur := z.cur, rd := z.rd, vd := z.vd, sv := z.sv, ap := z.ap, vi := z.vi, cp := z.cp
    eth := z.eth
    tm := { s.tm with stamps := [], switches := [], epoch := [] }
    cat := { s.cat with
      due := s.cat.due.filter (fun e => decide (e.2.1 < 256 ∨ 512 ≤ e.2.1)), lut := [], gpioOut := 0, gpioEnd := [], cueEnd := []
      groupEv := [] }
    cmd := { z.cmd with nextId := s.cmd.nextId }
    pw := { s.pw with on := clearMask quietOn (ones 49 4) ||| (s.pw.on &&& ones 49 4), dormantAt := 0 }
    cal := { z.cal with jobs := s.cal.jobs.filter (fun j => decide (j.kind = 2))
                        trims := s.cal.trims.filter (fun e => decide (0x2000 ≤ e.1)) }
    ldg := { s.ldg with cnt := s.ldg.mirror }
    bt := { s.bt with
      addr := 0, len := 0, code := 0, src := 0, alt := false, ready := false, booting := true, waitGo := false
      cause := 0 } }

/-- A courier port that is UP leaves it (R440). -/
def State.linkLeaves (s : State) (p : Nat) : State := if s.linkState p = 3 then s.leaveUp p else s

/-- WARM_RESET (R487, R488): links leave UP first, and their event fires (R440); commands under way, a switch and an epoch step among
them, are abandoned (R397). Out of Dormant it powers the bias banks too, which Quiet powers (R451, R496). -/
def State.warmReset (s0 : State) : State :=
  let s := [0, 1, 2, 3].foldl State.linkLeaves s0
  let t := ((s.cutWrites.warmLost.mirrorNow.ledgerReset.warmGroups).warmObjects.warmHost).setF Fld.eth.macAddr 0 s.stationMac
  if s.powerState = 3 then [49, 50, 51, 52].foldl State.powerOn t else t

/-! ### Docent restart -/

/-- A SEC_FW_UPDATE: cut short, it leaves the descriptor of its slot erased (R497). -/
def Cmd.isUpdate (c : Cmd) : Bool := match c.instr with | .secFwUpdate _ => true | _ => false

/-- Whether the effect of a command that a restart cut short took place is a free value (R397), but for a firmware update. -/
def State.maybeEffect (s : State) (c : Cmd) : State :=
  let d := s.draw
  if !Config.choice d.1 then d.2
  else match d.2.cmd.timed.find? (fun w => decide (w.id = c.id)) with
    | some w => if c.isUpdate then d.2 else d.2.finishTimed w c
    | none =>
      match c.st with
      | .waiting => d.2
      | _ => (gated c.instr c.h (runCommand c.instr) c.id d.2).1

/-- A command in flight at a restart completes with STATE (R397). -/
def State.cutCommand (s : State) (c : Cmd) : State :=
  let t := (s.complete c.id c.instr c.h (Reply.fail .state) 0).maybeEffect c
  { t with cmd := { t.cmd with timed := t.cmd.timed.filter (fun w => decide (w.id ≠ c.id)) } }

/-- The Docent goes down: no path executes commands, H2D messages are kept, D2H messages withdrawn, commands in flight
complete (R397, R489). Commits that were accepted stay. -/
def State.docentDown (s : State) (cause : Nat) : State :=
  let s0 := s.dropMessages (fun _ => true)
  let s1 := { s0 with
    bt := { s0.bt with ready := false, booting := true, waitGo := false, cause := cause } }
  let s2 := (s1.overBoxes (List.range 8) State.h2dMarkReset).overBoxes (List.range 8) State.d2hWithdraw
  (s2.cmd.open_.foldl State.cutCommand s2).forgetPaths (List.range 12)

/-- A restart that SYS_RESET asked for is due (R428). -/
def State.restartDue (s : State) : Bool := s.cmd.resetAt.any (fun e => decide (e.1 ≤ s.tick ∧ e.2 = 1))

/-- A second has passed without a service of the watchdog while the Docent was up (R490). -/
def State.watchdogDue (s : State) : Bool := s.bt.ready && decide (s.bt.served + 1000000000 ≤ s.tick)

/-- The Docent services its watchdog within every second; whether it does is its own, a free value at the last tick (R490). -/
def State.watchdogService (s : State) : State :=
  if s.bt.ready ∧ s.bt.served + 999999999 = s.tick then
    let d := s.draw
    if Config.choice d.1 then { d.2 with bt := { d.2.bt with served := s.tick } } else d.2
  else s

/-- A warm reset that SYS_RESET asked for is due. -/
def State.warmDue (s : State) : Bool := s.cmd.resetAt.any (fun e => decide (e.1 ≤ s.tick ∧ e.2 = 0))

/-- DOCENT_RESTART: one restart at a tick, SYS_RESET's cause before another (R489). In Dormant the Docent is off. A restart in the
boot that follows a cold or warm reset is absorbed in it: no notice is posted (R487, R489). -/
def State.docentRestart (s : State) (cause : Nat) : State :=
  if s.powerState = 3 then s
  else
    let c := if s.restartDue ∨ (s.bt.booting ∧ s.bt.cause = 1) then 1
      else if s.bt.booting ∧ s.bt.cause = 0 then 0 else cause
    let s1 := { s with cmd := { s.cmd with
      resetAt := s.cmd.resetAt.filter (fun e => !decide (e.1 ≤ s.tick ∧ e.2 = 1)) } }
    s1.docentDown c

/-! ### Function-level and link reset -/

/-- MSI-X and cause state of a function at reset values. -/
def FnRegs.cleared (r : FnRegs) : FnRegs :=
  { r with msix := [], pba := 0, catPending := 0, mbCause := 0, mbVec := 0, sentNow := 0, catBusy := 0 }

/-- Rings of a function at reset values, assignments kept; held completions are discarded and counted. -/
def State.flrRings (s : State) (f : Fn) : State :=
  let ns := (List.range 80).filter (fun n => (s.ring n).ownedBy f)
  let gone := fun (e : HeldEntry) => ns.contains e.ring && !e.notice
  let s0 := (s.host.held.filter gone).foldl (fun t e => t.ringLost e.ring 1) s
  let s1 := ns.foldl (fun t n => t.setRing n (Ring.fresh (t.ring n).owner)) s0
  { s1 with host := { s1.host with
    ringCause := clearMask s1.host.ringCause (maskOf ns), held := s1.host.held.filter (fun e => !gone e) } }

/-- A path of a function. -/
def pathOf (f : Fn) (c : Cmd) : Bool := decide (pathFn c.h.path = some f)

/-- An AT_TIME command not yet executed: scheduled, deferred, or held by CHAIN. -/
def Cmd.unexecuted (c : Cmd) : Bool :=
  c.isSched || (c.h.atTime && (match c.st with | .chained _ => true | .ready _ => true | _ => false))

/-- Completions of the tick in progress and in the Docent's queue that a function's reset discards; those of a ring count as LOST
(R397), and so do the records that they carry (R17). A mailbox has no LOST counter (R376). Bit 0 of byte 6 tells a notice from a completion (R410). -/
def State.flrReplies (s : State) (f : Fn) : State :=
  let mine := fun (e : OutEntry) => decide (pathFn e.path = some f)
  let gone := fun (e : Nat × List Byte) => (fnBoxes f).contains e.1 && !bit (leNat (sub e.2 6 1)) 0
  let s1 := s.dropMessages gone
  (s1.cmd.outbox.filter mine).foldl
    (fun t e => (match e.path with
      | .ring k => if e.bytes = [] then t else t.ringLost (3 + k.val) 1
      | _ => t).capturesLost e.units)
    { s1 with cmd := { s1.cmd with outbox := s1.cmd.outbox.filter (fun e => !mine e) } }

/-- Commands of a function run to their end with their completions discarded; scheduled ones are cancelled (R397). -/
def State.flrCommands (s : State) (f : Fn) : State :=
  let s1 := { s with cmd := { s.cmd with
    open_ := s.cmd.open_.map (fun c => if pathOf f c then { c with discard := true } else c) } }
  let s2 := (s1.cmd.open_.filter (fun c => pathOf f c && c.unexecuted)).foldl
    (fun t c => t.complete c.id c.instr c.h (Reply.fail .state) 4) s1
  s2.forgetPaths (match f with | .pf0 => [0, 1, 3, 4, 5, 6] | .pf1 => [2, 7, 8, 9, 10])

/-- FLR (R397, R487). -/
def State.flr (s : State) (f : Fn) : State :=
  let s1 := ((s.flrCommands f).flrReplies f).flrRings f
  let s2 := (s1.setFn f (s1.fnRegs f).cleared).setCfg f ((s1.cfg f).cleared true)
  (s2.overBoxes (fnBoxes f) State.h2dWithdraw).overBoxes (fnBoxes f) State.d2hMarkReset

/-- LINK_RESET: as FLR of both functions (R397, R487), with their payload sizes back at 128 bytes. -/
def State.linkReset (s : State) : State :=
  let t := (s.flr .pf0).flr .pf1
  (t.setCfg .pf0 ((t.cfg .pf0).cleared false)).setCfg .pf1 ((t.cfg .pf1).cleared false)

/-! ### Wake (R454) -/

/-- The wake: Quiet's domains are powered and the Docent is booted as at a restart, with cause 3. -/
def State.wakeUp (s : State) : State :=
  (((setPositions quietOn 56).foldl State.powerOn s).setPower 2).docentDown 3

/-- WAKE (R339, R454). -/
def State.wake (s : State) (c : WakeCause) : State :=
  match c with
  | .evt252 => if s.powerState = 3 then (s.delivered 252).wakeUp else s.busyDrop 252
  | .wakeB => if s.powerState = 3 then s.wakeUp else s

/-! ### The resets of one tick (R487) -/

/-- Width of a reset class. -/
def ResetAsk.rank (a : ResetAsk) : Nat :=
  match a with
  | .cold => 4
  | .warm => 3
  | .docent _ => 2
  | _ => 1

/-- The effect of a reset of a class. FLR and link reset need PD_PCIE. -/
def State.resetBy (s : State) (a : ResetAsk) : State :=
  match a with
  | .cold => s.coldReset
  | .warm => s.warmReset
  | .docent c => s.docentRestart c
  | .link => if s.powered domPCIE then s.linkReset else s
  | .function f => if s.powered domPCIE then s.flr f else s

/-- A reset acts unless one as wide has acted in the tick; resets of two functions both act (R487). -/
def State.resetActs (s : State) (a : ResetAsk) : Bool :=
  decide (s.bt.widest < a.rank) || decide (a.rank = 1 ∧ s.bt.widest = 1)

/-- A reset acts at the present tick. -/
def State.resetNow (s : State) (a : ResetAsk) : State :=
  if s.resetActs a then { s.resetBy a with bt := { (s.resetBy a).bt with widest := a.rank } } else s

/-- A reset from outside: it is requested, and at the end of the tick's work the widest class requested acts; one that comes after
that acts at once (R487). -/
def State.resetRow (s : State) (a : ResetAsk) : State := if s.phase ≤ 10 then s.askReset a else s.resetNow a

/-- Whether the cause of a Docent restart is there: SYS_RESET is due, the watchdog has expired, or a fault of the Docent itself, which
is the outside's (R489, R490). A wake is a row of its own. -/
def State.restartCause (s : State) (c : Nat) : Bool :=
  match c with
  | 1 => s.restartDue
  | 2 => s.watchdogDue
  | 4 => true
  | _ => false

/-! ### Meanings -/

/-- COLD_RESET (R487). -/
def execColdReset (s : State) : Host.Outcome State Fault Refusal := .next s.coldReset

/-- WARM_RESET (R488). -/
def execWarmReset (s : State) : Host.Outcome State Fault Refusal := .next (s.resetRow .warm)

/-- DOCENT_RESTART (R489). -/
def execDocentRestart (cause : BitVec 8) (s : State) : Host.Outcome State Fault Refusal := 
  .next (if s.restartCause cause.toNat then s.resetRow (.docent cause.toNat) else s)

/-- FLR (R397). -/
def execFlr (f : Fn) (s : State) : Host.Outcome State Fault Refusal := .next (s.resetRow (.function f))

/-- LINK_RESET (R397). -/
def execLinkReset (s : State) : Host.Outcome State Fault Refusal := .next (s.resetRow .link)

/-- WAKE (R454). -/
def execWake (cause : WakeCause) (s : State) : Host.Outcome State Fault Refusal := .next (s.wake cause)

end Sys2Proof.Machine
end

