-- ==== Sys2Proof/Machine/Dispatch.lean ====
section
/-! DEFINITION. The one dispatch: every command of the table and its meaning. -/

namespace Sys2Proof.Machine

/-- The effect of a command on everything but the queue. -/
def exec (i : Instr) (s : State) : Host.Outcome State Fault Refusal :=
  match i with
  | .sysNop h => Sys2Proof.Machine.execSysNop h s
  | .sysIdentify h => Sys2Proof.Machine.execSysIdentify h s
  | .objRead h cls inst offset len => Sys2Proof.Machine.execObjRead h cls inst offset len s
  | .objWrite h cls inst offset len data => Sys2Proof.Machine.execObjWrite h cls inst offset len data s
  | .sysReset h kind => Sys2Proof.Machine.execSysReset h kind s
  | .sysNotify h route => Sys2Proof.Machine.execSysNotify h route s
  | .sysCancel h tag => Sys2Proof.Machine.execSysCancel h tag s
  | .ringAssign h ring owner => Sys2Proof.Machine.execRingAssign h ring owner s
  | .pwrState h target => Sys2Proof.Machine.execPwrState h target s
  | .pwrDomain h domains on => Sys2Proof.Machine.execPwrDomain h domains on s
  | .timeRead h => Sys2Proof.Machine.execTimeRead h s
  | .timeSetEpoch h secs => Sys2Proof.Machine.execTimeSetEpoch h secs s
  | .timeSwitch h dom step tick => Sys2Proof.Machine.execTimeSwitch h dom step tick s
  | .timeCaptureRead h units => Sys2Proof.Machine.execTimeCaptureRead h units s
  | .archiveLoad h bank start count => Sys2Proof.Machine.execArchiveLoad h bank start count s
  | .archiveRead h bank start count => Sys2Proof.Machine.execArchiveRead h bank start count s
  | .kernelLoad h start count => Sys2Proof.Machine.execKernelLoad h start count s
  | .kernelRead h start count => Sys2Proof.Machine.execKernelRead h start count s
  | .outputEnable h mask => Sys2Proof.Machine.execOutputEnable h mask s
  | .outputDisable h mask => Sys2Proof.Machine.execOutputDisable h mask s
  | .outputCommit h tick => Sys2Proof.Machine.execOutputCommit h tick s
  | .curAccession h => Sys2Proof.Machine.execCurAccession h s
  | .curReadback h cur addr count => Sys2Proof.Machine.execCurReadback h cur addr count s
  | .curStart h mask tick => Sys2Proof.Machine.execCurStart h mask tick s
  | .curStop h mask tick atShot => Sys2Proof.Machine.execCurStop h mask tick atShot s
  | .curBarrier h b mask => Sys2Proof.Machine.execCurBarrier h b mask s
  | .frameOp h frame fop farg => Sys2Proof.Machine.execFrameOp h frame fop farg s
  | .frameCommit h tick keepPhase => Sys2Proof.Machine.execFrameCommit h tick keepPhase s
  | .readoutCommit h tick => Sys2Proof.Machine.execReadoutCommit h tick s
  | .discRebase h tick => Sys2Proof.Machine.execDiscRebase h tick s
  | .discSeedStore h => Sys2Proof.Machine.execDiscSeedStore h s
  | .discSeedRestore h => Sys2Proof.Machine.execDiscSeedRestore h s
  | .biasWrite h bank first count strobeAfter => Sys2Proof.Machine.execBiasWrite h bank first count strobeAfter s
  | .biasStrobe h masks => Sys2Proof.Machine.execBiasStrobe h masks s
  | .biasClear h banks => Sys2Proof.Machine.execBiasClear h banks s
  | .biasCommit h tick => Sys2Proof.Machine.execBiasCommit h tick s
  | .catCommit h tick => Sys2Proof.Machine.execCatCommit h tick s
  | .catGroup h mask => Sys2Proof.Machine.execCatGroup h mask s
  | .vitArm h mask tick => Sys2Proof.Machine.execVitArm h mask tick s
  | .vitTrigger h mask => Sys2Proof.Machine.execVitTrigger h mask s
  | .vitAbort h mask => Sys2Proof.Machine.execVitAbort h mask s
  | .calOutput h mask => Sys2Proof.Machine.execCalOutput h mask s
  | .calInput h mask => Sys2Proof.Machine.execCalInput h mask s
  | .calBias h banks => Sys2Proof.Machine.execCalBias h banks s
  | .calSysZero h input => Sys2Proof.Machine.execCalSysZero h input s
  | .calSysFull h input ampl freq => Sys2Proof.Machine.execCalSysFull h input ampl freq s
  | .calSysStore h mask => Sys2Proof.Machine.execCalSysStore h mask s
  | .resume h => Sys2Proof.Machine.execResume h s
  | .ldgSnap h tick peers => Sys2Proof.Machine.execLdgSnap h tick peers s
  | .ldgRead h cls first count => Sys2Proof.Machine.execLdgRead h cls first count s
  | .ldgRelease h => Sys2Proof.Machine.execLdgRelease h s
  | .ldgStatus h => Sys2Proof.Machine.execLdgStatus h s
  | .surveyStart h mask tick => Sys2Proof.Machine.execSurveyStart h mask tick s
  | .surveyStop h mask tick => Sys2Proof.Machine.execSurveyStop h mask tick s
  | .cpLink h ports up => Sys2Proof.Machine.execCpLink h ports up s
  | .cpCommit h tick => Sys2Proof.Machine.execCpCommit h tick s
  | .secPolicy h policy => Sys2Proof.Machine.execSecPolicy h policy s
  | .secKeyLoad h slot => Sys2Proof.Machine.execSecKeyLoad h slot s
  | .secFwUpdate h => Sys2Proof.Machine.execSecFwUpdate h s
  | .secDebugUnlock h => Sys2Proof.Machine.execSecDebugUnlock h s
  | .appStart h app start stop => Sys2Proof.Machine.execAppStart h app start stop s
  | .appStop h app stop => Sys2Proof.Machine.execAppStop h app stop s
  | .appRead h app => Sys2Proof.Machine.execAppRead h app s
  | .inputEn h n v => Sys2Proof.Machine.execInputEn h n v s
  | .fsc h o v => Sys2Proof.Machine.execFsc h o v s
  | .bankEn h k v => Sys2Proof.Machine.execBankEn h k v s
  | .tpEn h n v => Sys2Proof.Machine.execTpEn h n v s
  | .slewEn h k v => Sys2Proof.Machine.execSlewEn h k v s
  | .domEn h b v => Sys2Proof.Machine.execDomEn h b v s
  | .ethMode h mode fec => Sys2Proof.Machine.execEthMode h mode fec s
  | .inputCode h b code => Sys2Proof.Machine.execInputCode h b code s
  | .ringLength f n v => Sys2Proof.Machine.execRingLength f n v s
  | .ringProd f n v => Sys2Proof.Machine.execRingProd f n v s
  | .ringCons f n v => Sys2Proof.Machine.execRingCons f n v s
  | .ringEn f n v => Sys2Proof.Machine.execRingEn f n v s
  | .doorbell m v => Sys2Proof.Machine.execDoorbell m v s
  | .take m => Sys2Proof.Machine.execTake m s
  | .d2hLastWordRead m => Sys2Proof.Machine.execD2hLastWordRead m s
  | .rawLo f => Sys2Proof.Machine.execRawLo f s
  | .bootGo v image => Sys2Proof.Machine.execBootGo v image s
  | .msixMaskClear f v => Sys2Proof.Machine.execMsixMaskClear f v s
  | .registerWrite f off w => Sys2Proof.Machine.execRegisterWrite f off w s
  | .d2hDoorbell m msg tmoUs => Sys2Proof.Machine.execD2hDoorbell m msg tmoUs s
  | .h2dTake m => Sys2Proof.Machine.execH2dTake m s
  | .h2dTimeout m => Sys2Proof.Machine.execH2dTimeout m s
  | .d2hTimeout m => Sys2Proof.Machine.execD2hTimeout m s
  | .commandFetch k packet ext => Sys2Proof.Machine.execCommandFetch k packet ext s
  | .commandDatagram rx port payload => Sys2Proof.Machine.execCommandDatagram rx port payload s
  | .chainedCommandStart p => Sys2Proof.Machine.execChainedCommandStart p s
  | .scheduledExecution => Sys2Proof.Machine.execScheduledExecution s
  | .deferredExecution => Sys2Proof.Machine.execDeferredExecution s
  | .deferredTimeout => Sys2Proof.Machine.execDeferredTimeout s
  | .heldCompletionWrite k => Sys2Proof.Machine.execHeldCompletionWrite k s
  | .ringIrqTime n => Sys2Proof.Machine.execRingIrqTime n s
  | .commitApply => Sys2Proof.Machine.execCommitApply s
  | .curatorStart c => Sys2Proof.Machine.execCuratorStart c s
  | .wordStart c => Sys2Proof.Machine.execWordStart c s
  | .waitTimeout c => Sys2Proof.Machine.execWaitTimeout c s
  | .barrierRelease b => Sys2Proof.Machine.execBarrierRelease b s
  | .barrierTimeout c => Sys2Proof.Machine.execBarrierTimeout c s
  | .curatorHalt c => Sys2Proof.Machine.execCuratorHalt c s
  | .fscMuteEnd o => Sys2Proof.Machine.execFscMuteEnd o s
  | .startingEnd n => Sys2Proof.Machine.execStartingEnd n s
  | .pointFormed c => Sys2Proof.Machine.execPointFormed c s
  | .verdictProduced c => Sys2Proof.Machine.execVerdictProduced c s
  | .verdictDelivery => Sys2Proof.Machine.execVerdictDelivery s
  | .recordBlockClose => Sys2Proof.Machine.execRecordBlockClose s
  | .surveyRunStart n => Sys2Proof.Machine.execSurveyRunStart n s
  | .surveyBlock n => Sys2Proof.Machine.execSurveyBlock n s
  | .surveyStopTick n => Sys2Proof.Machine.execSurveyStopTick n s
  | .appRunStart n => Sys2Proof.Machine.execAppRunStart n s
  | .appPoint n => Sys2Proof.Machine.execAppPoint n s
  | .appRunEnd n => Sys2Proof.Machine.execAppRunEnd n s
  | .vitCaptureStart v => Sys2Proof.Machine.execVitCaptureStart v s
  | .levelTrigger v => Sys2Proof.Machine.execLevelTrigger v s
  | .tbTick v => Sys2Proof.Machine.execTbTick v s
  | .maskViolation v => Sys2Proof.Machine.execMaskViolation v s
  | .fillEnd v => Sys2Proof.Machine.execFillEnd v s
  | .postTriggerWaitLimit v => Sys2Proof.Machine.execPostTriggerWaitLimit v s
  | .vitrineDone v => Sys2Proof.Machine.execVitrineDone v s
  | .vitrineBlockWrite v => Sys2Proof.Machine.execVitrineBlockWrite v s
  | .biasUpdateEdge k => Sys2Proof.Machine.execBiasUpdateEdge k s
  | .deglitchEnd b => Sys2Proof.Machine.execDeglitchEnd b s
  | .slewEnApply k => Sys2Proof.Machine.execSlewEnApply k s
  | .ldacB k => Sys2Proof.Machine.execLdacB k s
  | .clrB => Sys2Proof.Machine.execClrB s
  | .supplyGood => Sys2Proof.Machine.execSupplyGood s
  | .supplyLoss => Sys2Proof.Machine.execSupplyLoss s
  | .gpioEdge g edge => Sys2Proof.Machine.execGpioEdge g edge s
  | .gpioPulseEnd g => Sys2Proof.Machine.execGpioPulseEnd g s
  | .cueWord n w err => Sys2Proof.Machine.execCueWord n w err s
  | .lutCellOutput j => Sys2Proof.Machine.execLutCellOutput j s
  | .evtCuratorFlag c => Sys2Proof.Machine.execEvtCuratorFlag c s
  | .evtVitrineTrigger v => Sys2Proof.Machine.execEvtVitrineTrigger v s
  | .evtAppraiserStart n => Sys2Proof.Machine.execEvtAppraiserStart n s
  | .evtBiasStrobe k => Sys2Proof.Machine.execEvtBiasStrobe k s
  | .timestampCapture n fine => Sys2Proof.Machine.execTimestampCapture n fine s
  | .evtGpioOutput g => Sys2Proof.Machine.execEvtGpioOutput g s
  | .evtCueOutput n => Sys2Proof.Machine.execEvtCueOutput n s
  | .hostInterrupt j => Sys2Proof.Machine.execHostInterrupt j s
  | .groupEnable g => Sys2Proof.Machine.execGroupEnable g s
  | .groupDisable g => Sys2Proof.Machine.execGroupDisable g s
  | .evtLedgerSnapshot => Sys2Proof.Machine.execEvtLedgerSnapshot s
  | .wake cause => Sys2Proof.Machine.execWake cause s
  | .ppsEdge b fine => Sys2Proof.Machine.execPpsEdge b fine s
  | .pulseMiss b => Sys2Proof.Machine.execPulseMiss b s
  | .domainLock b => Sys2Proof.Machine.execDomainLock b s
  | .loopUpdate b => Sys2Proof.Machine.execLoopUpdate b s
  | .epochStep => Sys2Proof.Machine.execEpochStep s
  | .domainSwitch => Sys2Proof.Machine.execDomainSwitch s
  | .tpEdge n => Sys2Proof.Machine.execTpEdge n s
  | .tpPulseEnd n => Sys2Proof.Machine.execTpPulseEnd n s
  | .ppsOutEdge => Sys2Proof.Machine.execPpsOutEdge s
  | .ppsOutFall => Sys2Proof.Machine.execPpsOutFall s
  | .ptpMessage frame => Sys2Proof.Machine.execPtpMessage frame s
  | .ethRequest req => Sys2Proof.Machine.execEthRequest req s
  | .courierFrame p frame => Sys2Proof.Machine.execCourierFrame p frame s
  | .trainingFallback p => Sys2Proof.Machine.execTrainingFallback p s
  | .measureEnd p => Sys2Proof.Machine.execMeasureEnd p s
  | .cpLinkTimeout p => Sys2Proof.Machine.execCpLinkTimeout p s
  | .linkDown p cause => Sys2Proof.Machine.execLinkDown p cause s
  | .timeMessage => Sys2Proof.Machine.execTimeMessage s
  | .paramMessage => Sys2Proof.Machine.execParamMessage s
  | .ledgerSnapshot => Sys2Proof.Machine.execLedgerSnapshot s
  | .ledgerMirror => Sys2Proof.Machine.execLedgerMirror s
  | .pllUnlock => Sys2Proof.Machine.execPllUnlock s
  | .pllRelock fine => Sys2Proof.Machine.execPllRelock fine s
  | .supplySag supply reading => Sys2Proof.Machine.execSupplySag supply reading s
  | .nvInhibitClear => Sys2Proof.Machine.execNvInhibitClear s
  | .orderErr code => Sys2Proof.Machine.execOrderErr code s
  | .powerLoss d => Sys2Proof.Machine.execPowerLoss d s
  | .thermalScan temps => Sys2Proof.Machine.execThermalScan temps s
  | .thermalTrip sensor temp => Sys2Proof.Machine.execThermalTrip sensor temp s
  | .mutePoint => Sys2Proof.Machine.execMutePoint s
  | .tilePowerDown => Sys2Proof.Machine.execTilePowerDown s
  | .avsTarget => Sys2Proof.Machine.execAvsTarget s
  | .interleaveTracking n => Sys2Proof.Machine.execInterleaveTracking n s
  | .sourceRotation o => Sys2Proof.Machine.execSourceRotation o s
  | .calOutputEnd => Sys2Proof.Machine.execCalOutputEnd s
  | .calInputEnd => Sys2Proof.Machine.execCalInputEnd s
  | .calBiasEnd => Sys2Proof.Machine.execCalBiasEnd s
  | .sysMeasurementEnd => Sys2Proof.Machine.execSysMeasurementEnd s
  | .dormantEntry => Sys2Proof.Machine.execDormantEntry s
  | .coldReset => Sys2Proof.Machine.execColdReset s
  | .warmReset => Sys2Proof.Machine.execWarmReset s
  | .docentRestart cause => Sys2Proof.Machine.execDocentRestart cause s
  | .flr f => Sys2Proof.Machine.execFlr f s
  | .linkReset => Sys2Proof.Machine.execLinkReset s
  | .boot => Sys2Proof.Machine.execBoot s
  | .clrBRelease => Sys2Proof.Machine.execClrBRelease s
  | .frameLock p => Sys2Proof.Machine.execFrameLock p s
  | .ethLinkUp => Sys2Proof.Machine.execEthLinkUp s
  | .ethLinkDown => Sys2Proof.Machine.execEthLinkDown s
  | .cueOutputWordEnd n => Sys2Proof.Machine.execCueOutputWordEnd n s
  | .supplySagEnd => Sys2Proof.Machine.execSupplySagEnd s
  | .adcOvr n => Sys2Proof.Machine.execAdcOvr n s
  | .overload b => Sys2Proof.Machine.execOverload b s
  | .ptpMessageInterval => Sys2Proof.Machine.execPtpMessageInterval s
  | .pauseFrame quanta => Sys2Proof.Machine.execPauseFrame quanta s

end Sys2Proof.Machine
end

