-- ==== Sys2Proof/Machine/Tick.lean ====
section
/-! DEFINITION. The device's clock (R8, R25, R33). The table has no row for a tick: the clock is what `step` does on an
empty queue (DESIGN CHOICE). Each tick is offered in fourteen phases, 0 to 13, in the order R33 gives: an empty step in
phase p queues the events of the tick that are due in phase p, each a row of the table, and the steps that follow run them.
When the last phase is over, the samples of the tick are taken, the tick ends, raw time moves on by 16 fine slots, and the events
of phase 0 of the next tick are queued: no row from outside comes before them. -/

namespace Sys2Proof.Machine

/-- The command, when it is due. -/
def one (b : Bool) (i : Instr) : List Instr := if b then [i] else []

/-- One command for each unit that is due, in ascending order. -/
def each {n : Nat} (f : Nat → Bool) (mk : Fin n → Instr) : List Instr :=
  ((List.finRange n).filter (fun k => f k.val)).map mk

/-- Scheduled executions, one for each command whose AT tick has come (R415). -/
def State.schedEvents (s : State) (p : Cmd → Bool) : List Instr :=
  (s.cmd.open_.filter (fun c => c.schedDue s.tick && p c)).map (fun _ => .scheduledExecution)

/-- Commits of the present tick, before anything that the tick evaluates (R33, R36, R354). -/
def State.commitEvents (s : State) : List Instr :=
  (s.cmd.commits.filter (commitDue s.tick)).map (fun _ => .commitApply)

/-- Phase 0, time limits whose last tick is over: what comes in this tick comes too late for them (R31, R394, R434), and vitrines
whose arm tick has come (R271). -/
def State.limitEvents (s : State) : List Instr :=
  each s.h2dTimeoutDue .h2dTimeout ++ each s.d2hTimeoutDue .d2hTimeout ++
  (s.cmd.open_.filter (Cmd.deferredOver s.tick)).map (fun _ => .deferredTimeout) ++
  each s.fallbackDue .trainingFallback ++ each s.linkTimeoutDue .cpLinkTimeout ++
  (if s.vitClocked then each s.viStartDue .vitCaptureStart else [])

/-- Phase 0: LUT cells whose output changed before the tick, where raw time has jumped; a snapshot that the beginning of the tick has not taken (R365); time limits that are over; a group mask holds from the
start of its tick (R348); commits; then the changes of the time parameters, in the order of their same-tick cases (R316 to
R322). -/
def State.changeEvents (s : State) : List Instr :=
  each s.lutDue .lutCellOutput ++ one s.snapshotDue .ledgerSnapshot ++ s.limitEvents ++ s.schedEvents (fun c => isCatGroup c.instr) ++ s.commitEvents ++
  [false, true].flatMap (fun b => one (s.updateDue b) (.loopUpdate b)) ++
  (if s.epochSlot.isSome then s.tm.epoch.map (fun _ => .epochStep) else []) ++
  [false, true].flatMap (fun b => one (s.missDue b) (.pulseMiss b) ++ one (s.lockDue b) (.domainLock b)) ++
  (s.tm.switches.filter (fun w => decide (w.1 ≤ s.tick))).map (fun _ => .domainSwitch)

/-- Phase 1, edges that follow system time as the changes of the tick leave it (R325, R326). -/
def State.timeEvents (s : State) : List Instr :=
  each (fun n => (s.tpDue n).isSome) .tpEdge ++ one s.ppsOutSlot.isSome .ppsOutEdge

/-- Phase 1, supplies and temperature: what the readings of PD_AON bring (R445, R446, R459). -/
def State.sensorEvents (s : State) : List Instr :=
  each s.sagDue (fun (n : Fin 11) => .supplySag (BitVec.ofNat 6 n) (BitVec.ofInt 32 (s.reading n))) ++
  one s.sagEndDue .supplySagEnd ++
  one s.scanDue (.thermalScan ((List.range 48).map (fun k => Config.temperature k s.free)))

/-- Phase 1, supervision: power, ledger, calibration, rings. What a tile's gated clock times waits (R452). -/
def State.superviseEvents (s : State) : List Instr :=
  s.sensorEvents ++ one s.avsDue .avsTarget ++ one s.tileOffDue .tilePowerDown ++ one s.dormantDue .dormantEntry ++
  one s.nvClearDue .nvInhibitClear ++ one s.mirrorDue .ledgerMirror ++
  one (s.jobDue [0]).isSome .calOutputEnd ++ one (s.jobDue [1]).isSome .calInputEnd ++
  one (s.jobDue [2]).isSome .calBiasEnd ++ one (s.jobDue [3, 4]).isSome .sysMeasurementEnd ++
  (if s.tileClocked then each s.fscEndDue .fscMuteEnd ++ each s.startingDue .startingEnd else []) ++
  each s.ringIrqDue .ringIrqTime

/-- Phase 1, links, bias edges and the ends of pulses. -/
def State.linkEvents (s : State) : List Instr :=
  one s.timeMsgDue .timeMessage ++ one s.paramMsgDue .paramMessage ++
  each s.measureDue .measureEnd ++
  [DownCause.crcRun, .peerDown, .command, .powerOff].flatMap
    (fun c => each (fun p => s.downDue p c) (fun p => .linkDown p c)) ++
  each s.deglitchDue .deglitchEnd ++ each s.updDue .biasUpdateEdge ++
  each (fun g => decide (0 < sget (fun _ => 0) s.cat.gpioEnd g ∧ sget (fun _ => 0) s.cat.gpioEnd g ≤ s.now / 16))
    .gpioPulseEnd ++
  each (fun n => decide (0 < sget (fun _ => 0) s.cat.cueEnd n ∧ sget (fun _ => 0) s.cat.cueEnd n ≤ s.tick))
    .cueOutputWordEnd

/-- Chained commands whose predecessor has completed (R418). -/
def State.chainEvents (s : State) : List Instr :=
  (s.cmd.open_.filter (fun c => c.readyOn c.h.path)).map (fun c => .chainedCommandStart c.h.path)

/-- Phase 2: ends of time pulses and SLEW_EN, after the edges and holds that decide them (R294, R326); verdict records and
the verdicts of the tick (R206, R212), none from a gated clock (R452); and, before the halts of the tick, the CUR_STOPs
scheduled for it that halt in it (R153). -/
def State.verdictEvents (s : State) : List Instr :=
  each s.tpEndDue .tpPulseEnd ++ one s.ppsFallDue .ppsOutFall ++ each s.slewApplyDue .slewEnApply ++
  one s.recordsDue .recordBlockClose ++ one (decide (s.beat ≠ []) && !s.pw.tripGated) .verdictDelivery ++
  s.schedEvents (fun c => stopsNow s.tick c.instr)

/-- Phase 3: halts, barriers, waits and starts of curators (R126, R131, R132, R136, R150); a mute point at the end of the grace is a
halt, before what would end a wait or a barrier at its tick (R136, R463). -/
def State.curatorEvents (s : State) : List Instr :=
  each s.haltDue .curatorHalt ++ one s.muteDue .mutePoint ++
  each (fun b => decide (0 < s.barrierRel b ∧ s.barrierRel b ≤ s.tick)) .barrierRelease ++
  each s.barrierTimeoutDue .barrierTimeout ++ each s.waitTimeoutDue .waitTimeout ++ each s.curStartDue .curatorStart

/-- Phase 4: the words of the tick; a word may stand at a halt that the events of phase 3 have made due (R136). -/
def State.wordEvents (s : State) : List Instr := each s.haltDue .curatorHalt ++ each s.wordDue .wordStart

/-- Phase 5: the mute point follows the word starts of its tick; windows that end in it form their points (R178). -/
def State.pointEvents (s : State) : List Instr :=
  one s.muteDue .mutePoint ++ (if s.tileClocked then each (fun c => (s.pointDue c).isSome) .pointFormed else [])

/-- Phase 7: scheduled, deferred and chained commands, after every curator action of the tick (R415). -/
def State.commandEvents (s : State) : List Instr :=
  s.schedEvents (fun _ => true) ++
  (s.cmd.open_.filter s.deferredReady).map (fun _ => .deferredExecution) ++ s.chainEvents

/-- The command that an event gives at a task input (R338, R339). -/
def arrivalOf (f : Flight) : List Instr :=
  let t := f.evt
  if t < 128 then [.evtCuratorFlag (Fin.ofNat 128 t)]
  else if t < 136 then [.evtVitrineTrigger (Fin.ofNat 8 (t - 128))]
  else if t < 144 then [.evtAppraiserStart (Fin.ofNat 8 (t - 136))]
  else if t < 148 then [.evtBiasStrobe (Fin.ofNat 4 (t - 144))]
  else if t < 164 then [.timestampCapture (Fin.ofNat 16 (t - 148)) (BitVec.ofNat 64 f.stamp)]
  else if t < 180 then [.evtGpioOutput (Fin.ofNat 16 (t - 164))]
  else if t < 188 then [.evtCueOutput (Fin.ofNat 8 (t - 180))]
  else if t < 220 then [.hostInterrupt (Fin.ofNat 32 (t - 188))]
  else if t < 236 then [.groupEnable (Fin.ofNat 16 (t - 220))]
  else if t < 252 then [.groupDisable (Fin.ofNat 16 (t - 236))]
  else if t = 252 then [.wake .evt252]
  else if t = 253 then [.evtLedgerSnapshot]
  else []

/-- A task input that decides on the state the tick's commands leave: curator flags, appraisers, GPIO and cue outputs, host
interrupts, and the wake input (R339). -/
def lateInput (t : Nat) : Bool := decide (t < 128 ∨ 136 ≤ t ∧ t < 144 ∨ 164 ≤ t ∧ t < 220 ∨ t = 252)

/-- Events that arrive in this tick (R342): in phase 8, or after its commands in phase 12. -/
def State.arrivals (s : State) (late : Bool) : List Instr :=
  (s.cat.flight.filter (fun f => s.arrived f && lateInput f.evt == late)).flatMap arrivalOf

/-- Mask violations and ends of fills that are due; once more at the end of the tick, for a trigger of the tick whose record is
complete with the samples already stored (R274, R275). -/
def State.fillEvents (s : State) : List Instr :=
  if s.powered domVIT then each s.viViolDue .maskViolation ++ each s.viFillDue .fillEnd else []

/-- Phase 9: appraisers, vitrines and survey streams. A vitrine's mask violation comes before the end of its fill. What closes a
run goes on in Quiet, with the clocks of the blocks gated (R236, R282). -/
def State.observerEvents (s : State) : List Instr :=
  (if s.tileClocked then
    each s.apStartDue .appRunStart ++
    (List.finRange 8).flatMap (fun n =>
      if s.apPointDue n.val then
        ((s.apRun n.val).queue.filter (fun x => decide (x.ready ≤ s.tick))).map (fun _ => .appPoint n)
      else [])
  else []) ++
  (if s.vitClocked then each s.viTbDue .tbTick ++ each s.viLevelDue .levelTrigger else []) ++ s.fillEvents ++
  (if s.powered domVIT then
    each s.viLimitDue .postTriggerWaitLimit ++ each s.viDoneDue .vitrineDone ++ each s.viWriteDue .vitrineBlockWrite ++
    each s.surveyStopDue .surveyStopTick ++ each s.surveyStartDue .surveyRunStart ++ each s.surveyBlockDue .surveyBlock
  else [])

/-- Held entries that their ring now has room for, one command for each (R390). -/
def State.heldEvents (s : State) : List Instr :=
  (List.finRange 3).flatMap (fun k =>
    if s.ringRoom (3 + k.val) then List.replicate (s.heldFor (3 + k.val)) (.heldCompletionWrite k) else [])

/-- The Docent posts the message that waits longest for an empty mailbox; its timeout is its own choice (R392, R395). -/
def State.postEvents (s : State) : List Instr :=
  (List.finRange 8).flatMap (fun m =>
    if (s.mbox m.val).d2hFull then []
    else match s.host.mbq.find? (fun e => decide (e.1 = m.val)) with
      | some e => [.d2hDoorbell m e.2 (BitVec.ofNat 24 (Config.delay s.free % 16000001))]
      | none => [])

/-- The resets of the tick: of those requested, that SYS_RESET made due, or that the watchdog decides, the widest class acts
(R487). SYS_RESET's cause of a restart comes before another (the same-tick cases of R489). -/
def State.resetEvents (s : State) : List Instr :=
  let asks := s.bt.asked ++ (if s.warmDue then [.warm] else []) ++ (if s.restartDue then [.docent 1] else []) ++
    (if s.watchdogDue then [.docent 2] else [])
  if asks.contains .cold then [.coldReset]
  else if asks.contains .warm then [.warmReset]
  else match asks.find? (fun a => a = .docent 1), asks.find? (fun a => decide (a.rank = 2)) with
    | some _, _ => [.docentRestart 1]
    | _, some (.docent c) => [.docentRestart (BitVec.ofNat 8 c)]
    | _, _ =>
      if asks.contains .link then [.linkReset]
      else [Fn.pf0, .pf1].flatMap (fun f => if asks.contains (.function f) then [.flr f] else [])

/-- Phase 10: ends of runs, held entries, messages, and the resets that are due. -/
def State.closingEvents (s : State) : List Instr :=
  (if s.tileClocked then each s.apEndDue .appRunEnd else []) ++ s.heldEvents ++ s.postEvents ++ one s.ptpDue .ptpMessageInterval ++
  s.resetEvents

/-- The events of the tick in progress that are due in a phase. -/
def State.phaseEvents (s : State) : List Instr :=
  match s.phase with
  | 0 => s.changeEvents
  | 1 => s.timeEvents ++ s.superviseEvents ++ s.linkEvents
  | 2 => s.verdictEvents
  | 3 => s.curatorEvents
  | 4 => s.wordEvents
  | 5 => s.pointEvents
  | 6 => if s.tileClocked then each (fun c => (s.verdictDue c).isSome) .verdictProduced else []
  | 7 => s.commandEvents
  | 8 => s.arrivals false
  | 9 => s.observerEvents
  | 10 => s.closingEvents
  | 12 => s.arrivals true ++ s.chainEvents
  | 13 => s.chainEvents ++ s.fillEvents
  | _ => s.chainEvents

/-! ### The end of a tick and the beginning of the next -/

/-- A slot plays or a window is pending (R457). -/
def State.timedActive (s : State) : Bool :=
  s.drv.plays.any (fun p => s.samples p s.tick) || decide (s.rd.wins ≠ [])

/-- What the tick does beside the rows of the table, on the way into a phase: GPIO producers and outputs after the group
masks and commits of the tick; the decision cycles of curators after its halts, barriers and waits (R111, R123); the samples of
drive sums and readout windows after its words, before its points. -/
def State.phaseWork (s : State) : State :=
  match s.phase with
  | 1 => s.gpioDue
  | 4 => s.curatorsBegin
  | 5 => if s.tileClocked then s.driveSums.readoutTick else s
  | _ => s

/-- The samples of the tick and what is decided at its end. -/
def State.sampleTick (s : State) : State :=
  let s1 := s.sagNotice.driveTick.surveyTick.vitrineTick.strobeTick
  (((s1.avsTickEnd s.timedActive).courierTick.ledgerTickEnd.pauseOver).flushOut).hostTickEnd

/-- What the model need not remember any longer: events that have arrived, group events out of reach of a clash, live
images whose last use is over (R50, R347). It notes TRACKING with EPOCH_SET (R331). -/
def State.forget (s : State) : State :=
  { s with
    setNow := []
    bt := { s.bt with widest := 0 }
    tm := { s.tm with tracked := s.tm.tracked || (s.flag Fld.time.epochSet 0 && decide (s.sysState = 1)) }
    undo := s.undo.filter (fun u => decide (s.now / 16 < u.tick + 128))
    cat := { s.cat with
      flight := s.cat.flight.filter (fun f => !s.arrived f)
      groupEv := s.cat.groupEv.filter (fun e => decide (s.now < e.2.1 + 64)) } }

/-- Raw time moves on to the next tick; with the root PLL unlocked by 320 fine slots at a time (R27, R310). -/
def State.nextTick (s : State) : State :=
  let t := { s.setRaw (s.raw + s.span) with phase := 0 }
  let n := if s.tm.unlocked then 320 else 16
  let lo := if s.tm.lookTo + 320 < t.now then t.now else s.tm.lookTo
  { t with tm := { t.tm with span := n, lookFrom := lo, lookTo := max lo (t.now + n) } }

/-- What the beginning of a tick decides before any event of the tick: the demixers (R181), the supply readings (R445), slews
(R294), strobes of BIAS_WRITE (R305), and commands whose time at work is over. -/
def State.beginTick (s : State) : State :=
  (if s.tileClocked then s.demixBegin else s).watchdogService.supplyRead.slewBegin.strobesAfter.ledgerWaits.timedEnd

/-- The tick ends and the next begins. The events of the tick count those that merged with them (R343); the LUT cells go over
its fine slots, and their outputs change (R349). A snapshot of the new tick takes the counters before anything of that tick counts (R365), what the tick's
beginning decides included. -/
def State.closeTick (s : State) : State := s.sampleTick.countMerged.lutTick.forget.nextTick.ledgerSnapshot.beginTick

/-- The events of phase 0 are queued, before any row from outside. -/
def State.openTick (s : State) : State := { s with pending := s.changeEvents, phase := 1 }

/-- The phase that follows. In phases 11 and 13 chained commands start one another until none is left (R418); phase 13 is the
last. -/
def nextPhase (p : Nat) (l : List Instr) : Nat := if p = 11 ∧ l ≠ [] then 11 else min 13 (p + 1)

/-- One step of the clock: it queues the events of the phase, or ends the tick and opens the next. -/
def State.clock (s : State) : State :=
  let s1 := s.phaseWork
  let l := s1.phaseEvents
  if 13 ≤ s1.phase ∧ l = [] then s1.closeTick.openTick
  else { s1 with
    pending := l, phase := nextPhase s1.phase l
    free := if s1.phase = 1 ∨ s1.phase = 10 then s1.free + 1 else s1.free
    bt := if s1.phase = 10 then { s1.bt with asked := [] } else s1.bt }

end Sys2Proof.Machine
end

