-- ==== Sys2Proof/Safety.lean ====
section
/-! DEFINITION. The words in which statements about the device are made: what it takes for a host command to be accepted
and executed where it arrives, the state its own rule finds, what a group of rows leaves alone, and the canonical form of
the stores. -/

namespace Sys2Proof.Machine

/-- A command packet passes every common check of R414 and executes at the present tick (R413, R415, R418, R421): the path
takes commands and has room, nothing is wrong with the packet, no AT_TIME, no predecessor that holds or cuts it, a place in
the tick that has not passed with no command of its path placed before it, and a power state that the catalogue lists. -/
structure Admitted (i : Instr) (h : Hdr) (s : State) : Prop where
  alive : s.pathAlive h.path = true
  room : s.openOn h.path < 64
  sound : commonCheck i h = none
  now : h.atTime = false
  free : h.chain = false ∨
    (sget (fun _ => 0) s.cmd.last (pathKey h.path) ≠ 1 ∧ sget (fun _ => 0) s.cmd.last (pathKey h.path) ≠ 3)
  placed : s.place h.path i = none
  power : bit (powerMask i.opcode) s.powerState = true
  fits : s.dataFits h 0 = true

/-- The state in which a command stands open under the next identity, after the common checks. -/
def State.opened (s : State) (i : Instr) (h : Hdr) : State := (s.newId h.path).2.openCmd s.cmd.nextId i h .waiting

/-- The state in which an admitted command makes its own checks: it is open, accepted at the present tick. -/
def State.accepted (s : State) (i : Instr) (h : Hdr) : State := (s.opened i h).restate s.cmd.nextId .waiting

/-- The AT tick of a packet that arrives at the present tick (R415). -/
def State.atTick (s : State) (h : Hdr) : Nat := if h.at_.toNat = 0 then s.tick + 1000 else h.at_.toNat / 16

/-- An admitted command's own effect `t` followed by its completion (R410 to R412). -/
def State.answered (s t : State) (i : Instr) (h : Hdr) (rep : Reply) : State := t.complete s.cmd.nextId i h rep 0

/-- A packet that the common checks of R414 refuse, its identity taken in the state `t`: it completes with their answer, and where
its path has accepted no command since its last reset, the next is still its first (R418). -/
def State.turnedAway (s t : State) (i : Instr) (h : Hdr) (rep : Reply) : State :=
  (s.answered t i h rep).keepFirst h.path (sget (fun _ => 0) s.cmd.last (pathKey h.path))

/-- An OBJ_WRITE of one field on its own meets no refusal (R424): the object's domain is powered, and no check of the object
finds anything wrong with the write or with the object as it would result. -/
structure State.Writable (s : State) (h : Hdr) (f : Field) (inst v : Nat) : Prop where
  powered : s.powered (objDom f.cls inst) = true
  checks : s.writeRefused (pathSecure h.path) f.cls inst (s.obj f.cls inst) ((v % 2 ^ f.width) <<< f.lsb)
    (setBits (s.obj f.cls inst) f.lsb f.width v) (ones f.lsb f.width) = none

/-- Every store of the state is in the canonical form of Machine/Store.lean: what it lists is what it holds. -/
structure State.Canonical (s : State) : Prop where
  objs : swf objDefault s.objs = true
  live : swf objDefault s.live = true
  counters : swf (fun _ => 0) s.ldg.cnt = true

end Sys2Proof.Machine
end

