-- ==== Sys2Proof/WellFormed.lean ====
section
/-! DEFINITION. Which commands are well formed. Operands carry their ranges in their types; the checks here are what a
type does not say: a scan reports 48 sensors (R459), a message of the Docent fits its mailbox slot (R392), and the inline
bits that a header sets aside lie outside the fields its opcode defines (R406). A packet with a wrong parameter is well
formed: the device answers it with a status. -/

namespace Sys2Proof

/-- A command that some happening of the spec stands for. -/
def Instr.wf (i : Instr) : Bool :=
  match i with
  | .thermalScan temps => decide (temps.length = 48)
  | .d2hDoorbell _ msg _ => decide (1 ≤ msg.length ∧ msg.length ≤ 256)
  | _ =>
    match i.hdr with
    | some h => decide (h.rsv &&& paramMask i.opcode = 0)
    | none => true

end Sys2Proof
end

