-- ==== Sys2Proof/Certificates/Slice0/Obligations.lean ====
section
/-! DEFINITION. The statements for the provers. A statement about a host command speaks of an admitted one (`Admitted`): its
effect on `State.accepted`, the state in which it stands open, and its completion (`State.answered`). Where a conclusion is an
equation for the next state, everything that the right side does not change is the frame. -/

open Sys2Proof Sys2Proof.Machine

/-! ### The queue, reset and packets -/

/-- A step of a device with a waiting command is the meaning of the command at the front on the state with the rest of the
queue. The queue is the model's own (log entries 1 and 2). -/
def Obligations.StepRunsTheFrontCommand : Prop :=
  ∀ (c : Instr) (rest : List Instr) (s : State), s.pending = c :: rest →
    step s = exec c { s with pending := rest }

/-- After reset raw time is 0, the device is in Quiet with the converter tiles off and every other domain on, no command waits
or is open, and the stores of objects, live copies and counters are in their canonical form (R451, R487; the powered domains
from reset on are the model's reading, log entry 8). -/
def Obligations.ResetLeavesQuietAndCanonicalStores : Prop :=
  State.reset.raw = 0 ∧ State.reset.powerState = 2 ∧ State.reset.thermalState = 0 ∧ State.reset.pending = [] ∧
    State.reset.cmd.open_ = [] ∧ State.reset.Canonical ∧
    ∀ d : Fin 56, State.reset.powered d.val = decide (d.val < 9 ∨ 41 ≤ d.val)

/-- Decoding the packet of any well-formed host command gives the command back, every parameter and header field at every
value (R406, R430): no bit of the encoding is dropped. -/
def Obligations.PacketOfACommandDecodesToIt : Prop :=
  ∀ (i : Instr) (h : Hdr) (p : BitVec 512), i.hdr = some h → i.wf = true → encodePacket i = some p →
    decodePacket h.carried p = some i ∧ packetCrcOk p = true

/-- Every host command but the object writes that the table lists on their own has a packet (R430). -/
def Obligations.EveryHostCommandHasAPacket : Prop :=
  ∀ (i : Instr) (h : Hdr), i.hdr = some h → i.writeRow = false → ∃ p, encodePacket i = some p

/-! ### Acceptance, schedules and chains -/

/-- A packet that fails a common check has no effect: its command completes with the check's answer, and is not the first that its
path accepts (R414, R418). A secure opcode off the secure paths, or without SECURE, completes with SECURITY and has no effect (R398, R429). SECURE on a non-secure path
completes with SECURITY whatever the opcode (R398). -/
def Obligations.FailedChecksHaveNoEffect : Prop :=
  (∀ (i : Instr) (h : Hdr) (rep : Reply) (s : State), i.hdr = some h → commonCheck i h = some rep →
     s.pathAlive h.path = true → s.openOn h.path < 64 →
     exec i s = .next (s.turnedAway (s.newId h.path).2 i h rep)) ∧
  (∀ (i : Instr) (h : Hdr) (s : State), i.hdr = some h → secureOpcode i.opcode = true →
     (pathSecure h.path && h.secure) = false → s.pathAlive h.path = true → s.openOn h.path < 64 →
     exec i s = .next (s.turnedAway (s.newId h.path).2 i h (Reply.fail .security))) ∧
  (∀ (i : Instr) (h : Hdr) (s : State), i.hdr = some h → h.secure = true → pathSecure h.path = false →
     s.pathAlive h.path = true → s.openOn h.path < 64 →
     exec i s = .next (s.turnedAway (s.newId h.path).2 i h (Reply.fail .security)))

/-- A command with AT_TIME that passes the common checks waits for its AT tick, unless 256 commands already wait (BUSY) or the
tick lies less than 1,000 ticks ahead (TOO_LATE); until then it changes nothing but the list of open commands (R414, R415,
R417). At its AT tick a scheduled command executes, or is deferred if it would be BUSY; a deferred one executes late at the
first tick at which it no longer would, and completes with TIMEOUT when 10,000 ticks are over (R415, R416). -/
def Obligations.ScheduledCommandsWaitExecuteOrTimeOut : Prop :=
  (∀ (i : Instr) (h : Hdr) (s : State), i.hdr = some h → s.pathAlive h.path = true → s.openOn h.path < 64 →
     commonCheck i h = none → h.atTime = true → h.chain = false →
     (256 ≤ s.schedCount → exec i s = .next (s.turnedAway (s.opened i h) i h (Reply.fail .busy))) ∧
     (s.schedCount < 256 → s.atTick h < s.tick + 1000 →
       exec i s = .next (s.turnedAway (s.opened i h) i h (Reply.fail .tooLate))) ∧
     (s.schedCount < 256 → s.tick + 1000 ≤ s.atTick h →
       exec i s = .next ((s.opened i h).restate s.cmd.nextId (.sched (s.atTick h))))) ∧
  ((∀ (s : State) (c : Cmd) (a : Nat), s.nextScheduled = some c → c.st = .sched a →
     exec .scheduledExecution s =
       .next (if s.wouldBeBusy c then s.markCmd c.id (.deferred a) false
              else (s.markCmd c.id .waiting false).execute c.id c.instr c.h (runCommand c.instr))) ∧
   (∀ (s : State) (c : Cmd), s.cmd.open_.find? s.deferredReady = some c →
     exec .deferredExecution s =
       .next ((s.markCmd c.id .waiting true).execute c.id c.instr c.h (runCommand c.instr))) ∧
   (∀ (s : State) (c : Cmd), s.cmd.open_.find? (Cmd.deferredOver s.tick) = some c →
     exec .deferredTimeout s = .next (s.complete c.id c.instr c.h (Reply.fail .timeout) 0)))

/-- A command with CHAIN waits while its predecessor runs, and is skipped with STATE and CHAIN_SKIP after one that ended
badly; when a waiting one is released it takes its place behind the commands accepted before, and starts or is skipped as its
predecessor ended (R413, R418). -/
def Obligations.ChainedCommandFollowsItsPredecessor : Prop :=
  (∀ (i : Instr) (h : Hdr) (s : State), i.hdr = some h → s.pathAlive h.path = true → s.openOn h.path < 64 →
    commonCheck i h = none → h.chain = true →
    (sget (fun _ => 0) s.cmd.last (pathKey h.path) = 1 →
      exec i s = .next ((s.newId h.path).2.openCmd s.cmd.nextId i h
        (.chained (sget (fun _ => 0) s.cmd.lastId (pathKey h.path))))) ∧
    (sget (fun _ => 0) s.cmd.last (pathKey h.path) = 3 →
      exec i s = .next ((s.newId h.path).2.complete s.cmd.nextId i h (Reply.fail .state) 2))) ∧
  (∀ (p : Path) (s : State) (c : Cmd) (ok : Bool), s.cmd.open_.find? (Cmd.readyOn p) = some c → c.st = .ready ok →
    exec (.chainedCommandStart p) s =
      .next (if ok then (s.acceptNow c.id).startCmd c.id c.instr c.h (runCommand c.instr)
             else (s.acceptNow c.id).complete c.id c.instr c.h (Reply.fail .state) 2))

/-- A fetch of a ring that is ready reads the entry at the consumer index by DMA with the requester ID of the ring's owner,
consumes it, and takes the packet: with a good CRC and a known opcode it arrives as its command, else it completes with BAD_CRC
or BAD_OPCODE; a ring that is not ready fetches nothing (R385, R387, R390, R413, R414). A datagram to the port's own address
from an allowed peer, and a mailbox message of 64 bytes or more that the Docent takes, arrive as the command their first 64
bytes spell; a datagram shorter than 64 bytes completes with BAD_PARAM (the model's choice of status, log entry 13), one from
another peer only sets CMD_DROP and is counted, and one to another address is dropped and counted (R393, R396, R401, R402). -/
def Obligations.PacketsArriveAsTheirCommand : Prop :=
  (∀ (k : Fin 3) (p : BitVec 512) (ext : Option (List Byte)) (s : State), s.fetchReady k = true →
     let c : Carried := ⟨.ring k, ext.getD [], ext.isNone, 0, 0, 0⟩
     let r := s.ring k.val
     let t := (s.fetchReads k.val p).ringConsume k.val
     Outgoing.dmaRead r.fn (r.base + 64 * r.cons) 64 ∈ (s.fetchReads k.val p).sent ∧
     (packetCrcOk p = false → exec (.commandFetch k p ext) s =
       .next (t.refusePacket c (bits p.toNat 16 16) (bits p.toNat 0 16) (Reply.fail .badCrc))) ∧
     (packetCrcOk p = true → decodePacket c p = none → exec (.commandFetch k p ext) s =
       .next (t.refusePacket c (bits p.toNat 16 16) (bits p.toNat 0 16) (Reply.fail .badOpcode))) ∧
     (∀ i, packetCrcOk p = true → decodePacket c p = some i →
       exec (.commandFetch k p ext) s = .next (t.issue i (packetHdr c p) (runCommand i)) ∧
       exec (.commandFetch k p ext) s = exec i t)) ∧
  (∀ (k : Fin 3) (p : BitVec 512) (ext : Option (List Byte)) (s : State), s.fetchReady k = false →
     exec (.commandFetch k p ext) s = .next s) ∧
  ((∀ (rx : EthRx) (port : BitVec 16) (l : List Byte) (s : State), s.ethUp = true → rx.bad = false → rx.size.toNat ≤ 9000 →
     s.vlanOk rx = true → s.pathAlive .eth = true →
     let c : Carried := ⟨.eth, l.drop 64, false, rx.ip, port, rx.mac⟩
     (s.ownAddress rx.target.toNat = false → exec (.commandDatagram rx port l) s =
       .next { s with eth := { s.eth with drops := s.eth.drops + 1 } }) ∧
     (s.ownAddress rx.target.toNat = true → s.peerAllowed rx.ip.toNat = false →
       exec (.commandDatagram rx port l) s = .next s.dropCommand ∧
       s.dropCommand.getF Fld.eth.cmdDrop 0 = (s.raise Fld.eth.cmdDrop 0).getF Fld.eth.cmdDrop 0 ∧
       s.dropCommand.eth.cmdDrops = s.eth.cmdDrops + 1) ∧
     (s.ownAddress rx.target.toNat = true → s.peerAllowed rx.ip.toNat = true → l.length < 64 →
       exec (.commandDatagram rx port l) s =
         .next (s.refusePacket c (leNat (sub l 2 2)) (leNat (sub l 0 2)) (Reply.fail .badParam))) ∧
     (∀ i, s.ownAddress rx.target.toNat = true → s.peerAllowed rx.ip.toNat = true → 64 ≤ l.length →
       packetCrcOk (packetOf l) = true → decodePacket c (packetOf l) = some i →
       exec (.commandDatagram rx port l) s = .next (s.issue i (packetHdr c (packetOf l)) (runCommand i)) ∧
       exec (.commandDatagram rx port l) s = exec i s)) ∧
   (∀ (m : Fin 8) (s : State) (i : Instr), (s.mbox m.val).h2dFull = true → s.pathAlive (.mb m) = true →
     s.openOn (.mb m) < 64 →
     let l := leBytes (s.mbox m.val).h2dPosted ((s.mbox m.val).h2d % 2 ^ (8 * (s.mbox m.val).h2dPosted))
     let c : Carried := ⟨.mb m, l.drop 64, false, 0, 0, 0⟩
     64 ≤ l.length → packetCrcOk (packetOf l) = true → decodePacket c (packetOf l) = some i →
     exec (.h2dTake m) s = .next ((s.h2dTaken m.val).issue i (packetHdr c (packetOf l)) (runCommand i)) ∧
     exec (.h2dTake m) s = exec i (s.h2dTaken m.val)))

/-! ### Rings, mailboxes, interrupts and registers -/

/-- A LENGTH write by the ring's owner: a value that is no power of two from 16 to 65,536 sets LEN_ERR and nothing else; on a
disabled ring the length takes effect at once with both indexes at 0; on an enabled one it is staged (R41, R42). -/
def Obligations.RingLengthTakesEffectOrIsStaged : Prop :=
  ∀ (f : Fn) (n : Fin 80) (v : BitVec 32) (s : State), s.powered domPCIE = true → (s.ring n.val).ownedBy f = true →
    ((∀ k : Fin 13, v.toNat ≠ 2 ^ (k.val + 4)) →
      exec (.ringLength f n v) s =
        .next ((s.setRing n.val { s.ring n.val with lenErr := true }).markNow (nowRingSt n.val) 128)) ∧
    (∀ k : Fin 13, v.toNat = 2 ^ (k.val + 4) → (s.ring n.val).en = true →
      exec (.ringLength f n v) s = .next (s.setRing n.val { s.ring n.val with staged := some v.toNat })) ∧
    (∀ k : Fin 13, v.toNat = 2 ^ (k.val + 4) → (s.ring n.val).en = false →
      exec (.ringLength f n v) s =
        .next ((s.setRing n.val { s.ring n.val with length := v.toNat, prod := 0, cons := 0, oldLen := none, tags := [] }).count
          0x15 n.val 3))

/-- An index write by the owner of an enabled ring, of which bits [31:16] are ignored (R4): PROD of a command ring without a
staged length and CONS of a device-produced ring take a value below LENGTH, counting the entries written or read; a value of
LENGTH or more sets PTR_ERR and nothing else. While a length is staged, a PROD below the present one is the wrap: a value of the
staged length or more sets PTR_ERR and nothing else, another makes the staged length the ring's, counts the change and the
unread entries beyond it as lost, and moves CONS to 0 when it stands there (R42, R387, R389). An index write on a disabled ring, and one of the side that the device owns, is
ignored (R386, R387). A write of the ring control register by the owner sets EN, IRQ_EN, WB_EN and VECTOR from their bits and
keeps the indexes; clearing EN drops a staged length (the model's reading, log entry 53). A function that does not own the ring
changes nothing (R386, R388). -/
def Obligations.RingIndexesAndControl : Prop :=
  ((∀ (f : Fn) (n : Fin 80) (v : BitVec 32) (s : State), s.powered domPCIE = true → (s.ring n.val).ownedBy f = true →
     n.val < 3 → (s.ring n.val).en = true → (s.ring n.val).staged = none →
     let x := v.toNat % 2 ^ 16
     (x < (s.ring n.val).length →
       exec (.ringProd f n v) s =
         .next ((s.countN 0x15 n.val 0
           (if x < (s.ring n.val).prod then (s.ring n.val).length - (s.ring n.val).prod + x
            else x - (s.ring n.val).prod)).setRing n.val { s.ring n.val with prod := x })) ∧
     ((s.ring n.val).length ≤ x →
       exec (.ringProd f n v) s =
         .next ((s.setRing n.val { s.ring n.val with ptrErr := true }).markNow (nowRingSt n.val) 256))) ∧
   (∀ (f : Fn) (n : Fin 80) (v : BitVec 32) (l : Nat) (s : State), s.powered domPCIE = true →
     (s.ring n.val).ownedBy f = true → n.val < 3 → (s.ring n.val).en = true → (s.ring n.val).staged = some l →
     let r := s.ring n.val
     let x := v.toNat % 2 ^ 16
     (r.prod ≤ x → x < r.length →
       exec (.ringProd f n v) s = .next ((s.countN 0x15 n.val 0 (x - r.prod)).setRing n.val { r with prod := x })) ∧
     ((r.prod ≤ x ∧ r.length ≤ x) ∨ (x < r.prod ∧ l ≤ x) →
       exec (.ringProd f n v) s =
         .next ((s.setRing n.val { r with ptrErr := true }).markNow (nowRingSt n.val) 256)) ∧
     (x < r.prod → x < l →
       exec (.ringProd f n v) s = .next ((((s.countN 0x15 n.val 0 (r.length - r.prod + x)).setRing n.val
         { r with
           length := l, staged := none, prod := x
           cons := if l ≤ r.cons ∧ l < r.length then 0 else r.cons
           oldLen := if r.length < l ∧ r.cons ≠ 0 then some r.length else none
           tags := if l < r.length then r.tags.filter (fun t => decide (t.1 < l)) else r.tags }).count 0x15 n.val 3).ringLost
             n.val (if l < r.length then r.length - max r.cons l else 0)))) ∧
   (∀ (f : Fn) (n : Fin 80) (v : BitVec 32) (s : State), s.powered domPCIE = true → (s.ring n.val).ownedBy f = true →
     3 ≤ n.val → (s.ring n.val).en = true →
     let x := v.toNat % 2 ^ 16
     (x < (s.ring n.val).length → (s.ring n.val).cons ≤ x →
       exec (.ringCons f n v) s =
         .next ((s.countN 0x15 n.val 1 (x - (s.ring n.val).cons)).setRing n.val
           { s.ring n.val with
             cons := x
             tags := (s.ring n.val).tags.filter (fun t => !decide ((s.ring n.val).cons ≤ t.1 ∧ t.1 < x)) })) ∧
     (x < (s.ring n.val).length → x < (s.ring n.val).cons →
       exec (.ringCons f n v) s =
         .next ((s.countN 0x15 n.val 1
           ((s.ring n.val).oldLen.getD (s.ring n.val).length - (s.ring n.val).cons + x)).setRing n.val
           { s.ring n.val with
             cons := x, oldLen := none
             tags := (s.ring n.val).tags.filter (fun t => !decide ((s.ring n.val).cons ≤ t.1 ∨ t.1 < x)) })) ∧
     ((s.ring n.val).length ≤ x →
       exec (.ringCons f n v) s =
         .next ((s.setRing n.val { s.ring n.val with ptrErr := true }).markNow (nowRingSt n.val) 256))) ∧
   (∀ (f : Fn) (n : Fin 80) (v : BitVec 32) (s : State), (s.ring n.val).en = false ∨ 3 ≤ n.val →
     exec (.ringProd f n v) s = .next s) ∧
   (∀ (f : Fn) (n : Fin 80) (v : BitVec 32) (s : State), (s.ring n.val).en = false ∨ n.val < 3 →
     exec (.ringCons f n v) s = .next s)) ∧
  ((∀ (f : Fn) (n : Fin 80) (v : BitVec 32) (s : State), s.powered domPCIE = true → (s.ring n.val).ownedBy f = true →
     exec (.ringEn f n v) s = .next (s.setRing n.val { s.ring n.val with
       vector := v.toNat / 256 % 32, wbEn := v.getLsbD 2, irqEn := v.getLsbD 1, en := v.getLsbD 0
       staged := if v.getLsbD 0 then (s.ring n.val).staged else none })) ∧
   (∀ (f : Fn) (n : Fin 80) (v : BitVec 32) (s : State), s.powered domPCIE = true → (s.ring n.val).ownedBy f = false →
     exec (.ringEn f n v) s = .next s ∧ exec (.ringLength f n v) s = .next s ∧ exec (.ringProd f n v) s = .next s ∧
       exec (.ringCons f n v) s = .next s))

/-- A message of the host: DOORBELL with a length of 1 to 256 fills an empty slot, sets the receiver's DOORBELL flag, starts its
timeout and is counted; the Docent's take empties the slot and sets ACK, after a timeout that is due; a timeout leaves the
message posted (R393, R394). A message of the Docent: a post of 1 to 256 bytes fills an empty slot, is counted and fires EVP223;
a take, by TAKE or by a read of the last word, empties it and sets the Docent's ACK, after a timeout that is due; the Docent's
timeout leaves it posted. A doorbell of either side on a full slot, or with any other length, is ignored (R392, R393, R394). That a
message too short for a packet is answered BAD_PARAM, that a D2H post clears TIMEOUT and a take leaves it, and that the take
clears the DOORBELL flag, is the model's choice (logs 13, 54, 107). -/
def Obligations.MailboxesPostTakeAndTimeOut : Prop :=
  ((∀ (m : Fin 8) (v : BitVec 32) (s : State), s.powered domPCIE = true → (s.mbox m.val).h2dFull = false →
     1 ≤ v.toNat % 512 → v.toNat % 512 ≤ 256 →
     exec (.doorbell m v) s = .next ((s.setMbox m.val { s.mbox m.val with
       h2dLen := v.toNat % 512, h2dPosted := v.toNat % 512, h2dFull := true, h2dBell := true
       h2dDue := if (s.mbox m.val).tmoUs = 0 then 0 else s.tick + 1000 * (s.mbox m.val).tmoUs }).count 0x16 m.val 0)) ∧
   (∀ (m : Fin 8) (v : BitVec 32) (s : State), s.powered domPCIE = true →
     (s.mbox m.val).h2dFull = true ∨ v.toNat % 512 = 0 ∨ 256 < v.toNat % 512 →
     exec (.doorbell m v) s = .next s) ∧
   (∀ (m : Fin 8) (s : State), (s.mbox m.val).h2dFull = true → (s.mbox m.val).h2dDue ≠ 0 → (s.mbox m.val).h2dDue ≤ s.tick →
     exec (.h2dTimeout m) s =
       .next ((((s.setMbox m.val { s.mbox m.val with h2dTimeout := true, h2dDue := 0 }).markNow (nowBox m.val) 2).count
         0x16 m.val 2).mbCause m.val 2)) ∧
   (∀ (m : Fin 8) (s : State), (s.mbox m.val).h2dFull = true → s.pathAlive (.mb m) = true →
     s.openOn (.mb m) < 64 → (s.mbox m.val).h2dPosted < 64 →
     let l := leBytes (s.mbox m.val).h2dPosted ((s.mbox m.val).h2d % 2 ^ (8 * (s.mbox m.val).h2dPosted))
     exec (.h2dTake m) s = .next ((s.h2dTaken m.val).refusePacket ⟨.mb m, l.drop 64, false, 0, 0, 0⟩ (leNat (sub l 2 2))
       (leNat (sub l 0 2)) (Reply.fail .badParam)) ∧
     ((s.h2dTaken m.val).mbox m.val).h2dFull = false ∧ ((s.h2dTaken m.val).mbox m.val).ack = true)) ∧
  ((∀ (m : Fin 8) (msg : List Byte) (us : BitVec 24) (s : State), 1 ≤ msg.length → msg.length ≤ 256 →
     (s.mbox m.val).d2hFull = false →
     exec (.d2hDoorbell m msg us) s = .next ((((({ s.setMbox m.val { s.mbox m.val with
         d2h := setBits (s.mbox m.val).d2h 0 (8 * msg.length) (leNat msg), d2hLen := msg.length, d2hFull := true
         d2hDoorbell := true, d2hAck := false, d2hTimeout := false
         d2hDue := if us.toNat = 0 then 0 else s.tick + 1000 * us.toNat } with
         host := { (s.setMbox m.val { s.mbox m.val with
           d2h := setBits (s.mbox m.val).d2h 0 (8 * msg.length) (leNat msg), d2hLen := msg.length, d2hFull := true
           d2hDoorbell := true, d2hAck := false, d2hTimeout := false
           d2hDue := if us.toNat = 0 then 0 else s.tick + 1000 * us.toNat }).host with
           mbq := dropQueued m.val msg s.host.mbq } }).markNow (nowBox m.val) 0x1000).count 0x16 m.val 1).mbCause m.val
             0).fire 223)) ∧
   (∀ (m : Fin 8) (msg : List Byte) (us : BitVec 24) (s : State),
     (s.mbox m.val).d2hFull = true ∨ msg = [] ∨ 256 < msg.length → exec (.d2hDoorbell m msg us) s = .next s) ∧
   (∀ (m : Fin 8) (s : State), s.powered domPCIE = true → (s.mbox m.val).d2hFull = true →
     let u := if (s.mbox m.val).d2hDue ≠ 0 ∧ (s.mbox m.val).d2hDue ≤ s.tick then
         (s.setMbox m.val { s.mbox m.val with d2hTimeout := true, d2hDue := 0 }).count 0x16 m.val 2
       else s
     let t := u.setMbox m.val { u.mbox m.val with
       d2hFull := false, d2hAck := true, d2hRreset := false, d2hDue := 0 }
     exec (.take m) s = .next t ∧ exec (.d2hLastWordRead m) s = .next t) ∧
   (∀ (m : Fin 8) (s : State), (s.mbox m.val).d2hFull = true → (s.mbox m.val).d2hDue ≠ 0 → (s.mbox m.val).d2hDue ≤ s.tick →
     exec (.d2hTimeout m) s =
       .next ((s.setMbox m.val { s.mbox m.val with d2hTimeout := true, d2hDue := 0 }).count 0x16 m.val 2)))

/-- A read of RAW_LO latches raw time, the presented system time and its state for the function (R384). A 32-bit write of
SCRATCH, of BOOT_ADDR and of BOOT_LEN changes that register alone, and a write of another size, at an address that is no
register, or while PD_PCIE is off, changes nothing (R379, R494). BOOT_GO reads the image by DMA with PF0's requester ID (R385);
while the boot ROM waits for it, an image of BOOT_LEN bytes at an aligned address that passes every check is booted, one that
fails a check leaves the ROM waiting with the code of the failure, and one whose read is refused leaves it waiting with 0x15
(the model's choice of code, log entry 71); without GO, or when the ROM does not wait, nothing changes (R494, R495). -/
def Obligations.RegistersActAsTheirRulesSay : Prop :=
  (∀ (f : Fn) (s : State), s.powered domPCIE = true →
     let p := s.setAtRaw (16 * s.tick)
     let t := sysFields (s.sysAt (16 * s.tick))
     exec (.rawLo f) s = .next (s.setFn f { s.fnRegs f with
       latch := (16 * s.tick, t.1, t.2.1, s.sysState * 2 ^ 17 + (if p.act then 2 ^ 16 else 0) + t.2.2) })) ∧
  ((∀ (f : Fn) (v : BitVec 32) (s : State), s.powered domPCIE = true →
     exec (.registerWrite f 0x00C ⟨4, v⟩) s = .next (s.setFn f { s.fnRegs f with scratch := v.toNat }) ∧
     exec (.registerWrite .pf0 0x010 ⟨4, v⟩) s = .next { s with bt := { s.bt with addr := setBits s.bt.addr 0 32 v.toNat } } ∧
     exec (.registerWrite .pf0 0x014 ⟨4, v⟩) s = .next { s with bt := { s.bt with addr := setBits s.bt.addr 32 32 v.toNat } } ∧
     exec (.registerWrite .pf0 0x018 ⟨4, v⟩) s = .next { s with bt := { s.bt with len := v.toNat } }) ∧
   (∀ (f : Fn) (off : BitVec 16) (size : BitVec 8) (v : BitVec 32) (s : State),
     s.powered domPCIE = false ∨ 0xD000 ≤ off.toNat ∨ size.toNat ≠ 4 → exec (.registerWrite f off ⟨size, v⟩) s = .next s)) ∧
  (∀ (v : BitVec 32) (image : Option (List Byte)) (s : State), s.powered domPCIE = true →
     (v.getLsbD 0 = false ∨ s.bt.waitGo = false → exec (.bootGo v image) s = .next s) ∧
     (∀ img, v.getLsbD 0 = true → s.bt.waitGo = true → image = some img → s.bt.addr % 4 = 0 → img.length = s.bt.len →
       let t := s.emit (.dmaRead .pf0 s.bt.addr s.bt.len)
       (s.imageCode img = 1 → exec (.bootGo v image) s =
         .next (t.booted img 2 s.bt.alt)) ∧
       (s.imageCode img ≠ 1 → exec (.bootGo v image) s = .next { t with bt := { t.bt with code := s.imageCode img } })) ∧
     (v.getLsbD 0 = true → s.bt.waitGo = true → image = none →
       exec (.bootGo v image) s = .next { s.emit (.dmaRead .pf0 s.bt.addr s.bt.len) with bt := { s.bt with code := 0x15 } }))

/-- When the mask of a vector clears, one message goes out if its PBA bit is set, and the PBA bit clears; else only the mask
bit changes (R382). An event at EVT(188 + j) makes catalogue vector j pending in the function that INT_PF names; one that
finds it pending changes only what the end of the tick drops it by; without PD_PCIE it is dropped as absent (R339, R383). A
held completion is written once its ring has room: it is the oldest held for that ring, and the others stay; the expiry of
IRQ_TIME with an uncounted entry sets the ring's cause and restarts the count (R386, R390). That PD_PCIE is the domain whose loss
makes a host interrupt ABSENT is the model's choice (log 49). -/
def Obligations.InterruptsAndHeldCompletions : Prop :=
  (∀ (f : Fn) (v : Fin 32) (s : State), s.powered domPCIE = true →
     let g : FnRegs := { s.fnRegs f with
       msix := sset (fun _ => msixReset) (s.fnRegs f).msix v.val (setBits ((s.fnRegs f).entry v.val) 96 1 0) }
     (bit (s.fnRegs f).pba v.val = false → exec (.msixMaskClear f v) s = .next (s.setFn f g)) ∧
     (bit (s.fnRegs f).pba v.val = true →
       ∃ t, exec (.msixMaskClear f v) s = .next t ∧ t.sent = .msix f v.val :: s.sent ∧
         bit (t.fnRegs f).pba v.val = false ∧ (t.fnRegs f).msix = g.msix ∧ t.host.rings = s.host.rings ∧
         t.host.mbs = s.host.mbs ∧ t.objs = s.objs ∧ t.cmd = s.cmd)) ∧
  (∀ (j : Fin 32) (s : State),
     let f : Fn := if bit (s.getF Fld.catalogue.intPf 0) j.val then .pf1 else .pf0
     (s.powered domPCIE = false →
       exec (.hostInterrupt j) s = .next ((s.raise Fld.catalogue.absentDrop 0).count 0x12 (188 + j.val) 3)) ∧
     (s.powered domPCIE = true → bit (s.fnRegs f).catPending j.val = true →
       exec (.hostInterrupt j) s =
         .next (s.setFn f { s.fnRegs f with catBusy := (s.fnRegs f).catBusy ||| (1 <<< j.val) })) ∧
     (s.powered domPCIE = true → bit (s.fnRegs f).catPending j.val = false →
       exec (.hostInterrupt j) s =
         .next ((((s.setFn f { s.fnRegs f with catPending := (s.fnRegs f).catPending ||| (1 <<< j.val) }).markNow (nowCat f)
           (1 <<< j.val)).raiseVector f j.val).count 0x12 (188 + j.val) 0))) ∧
  ((∀ (k : Fin 3) (s : State) (pre post : List HeldEntry) (e : HeldEntry), s.host.held = pre ++ e :: post →
     e.ring = 3 + k.val → (∀ x ∈ pre, x.ring ≠ 3 + k.val) → s.ringRoom (3 + k.val) = true →
     exec (.heldCompletionWrite k) s =
       .next (({ s with host := { s.host with held := pre ++ post } }).ringProduce (3 + k.val) e.bytes 0).1) ∧
   (∀ (n : Fin 80) (s : State), (s.ring n.val).irqEn = true → (s.ring n.val).irqTime ≠ 0 → (s.ring n.val).counted ≠ 0 →
     (s.ring n.val).firstAt + 1000 * (s.ring n.val).irqTime ≤ s.tick →
     exec (.ringIrqTime n) s = .next ((s.setRing n.val { s.ring n.val with counted := 0 }).ringCauseSet n.val)))

/-! ### System commands and objects -/

/-- SYS_NOP changes nothing; SYS_IDENTIFY returns the IDCODE, the silicon revision, the subsystem identities and the Docent's
version; SYS_RESET of kind 0 or 1 asks for its reset 10,000 ticks later (R427, R428, R430). SYS_NOTIFY sets the notice route
of the issuing function when the function owns it, and answers the previous route; RING_ASSIGN gives a device-produced ring
that is disabled and unnamed fresh registers with the new owner; SYS_CANCEL completes with STATE and CANCELLED every scheduled
command of its path and tag whose AT tick is not the present one (R391, R417, R423). That RING_ASSIGN clears the ring's cause bit is
the model's choice (log 53). -/
def Obligations.SystemAndRoutingCommandsAnswer : Prop :=
  ((∀ (h : Hdr) (s : State), Admitted (.sysNop h) h s →
     exec (.sysNop h) s = .next (s.answered (s.accepted (.sysNop h) h) (.sysNop h) h Reply.ok)) ∧
   (∀ (h : Hdr) (s : State), Admitted (.sysIdentify h) h s →
     exec (.sysIdentify h) s = .next (s.answered (s.accepted (.sysIdentify h) h) (.sysIdentify h) h
       (Reply.ok4 0x195125AF 0x11 s.subsys s.bt.version))) ∧
   (∀ (h : Hdr) (k : BitVec 8) (s : State), Admitted (.sysReset h k) h s →
     let a := s.accepted (.sysReset h k) h
     (k.toNat ≤ 1 → exec (.sysReset h k) s = .next (s.answered
       { a with cmd := { a.cmd with resetAt := a.cmd.resetAt ++ [(s.tick + 10000, k.toNat)] } } (.sysReset h k) h Reply.ok)) ∧
     (1 < k.toNat → exec (.sysReset h k) s = .next (s.answered a (.sysReset h k) h (Reply.fail .badParam))))) ∧
  ((∀ (h : Hdr) (r : BitVec 8) (f : Fn) (s : State), Admitted (.sysNotify h r) h s → routeKnown r.toNat = true →
     pathFn h.path = some f → s.routeOwned f r.toNat = true →
     exec (.sysNotify h r) s = .next (s.answered
       ((s.accepted (.sysNotify h r) h).setFn f { s.fnRegs f with route := r.toNat }) (.sysNotify h r) h
       (Reply.ok1 (s.fnRegs f).route))) ∧
   (∀ (h : Hdr) (n o : BitVec 8) (own : Nat) (s : State), Admitted (.ringAssign h n o) h s →
     (o.toNat = 0 ∧ own = 1 ∨ o.toNat = 1 ∧ own = 2 ∨ o.toNat = 0xFF ∧ own = 0) →
     (n.toNat = 6 ∨ 8 ≤ n.toNat ∧ n.toNat ≤ 79) →
     (pathSecure h.path = true ∨ (s.ring n.toNat).owner ≠ 2 ∧ own ≠ 2) → (s.ring n.toNat).en = false →
     s.ringNamed n.toNat = false →
     let a := (s.accepted (.ringAssign h n o) h).setRing n.toNat (Ring.fresh own)
     exec (.ringAssign h n o) s = .next (s.answered
       { a with host := { a.host with ringCause := clearMask s.host.ringCause (1 <<< n.toNat) } } (.ringAssign h n o) h
       Reply.ok)) ∧
   (∀ (h : Hdr) (tag : BitVec 16) (s : State), Admitted (.sysCancel h tag) h s →
     let l := (s.accepted (.sysCancel h tag) h).cmd.open_.filter (cancels h.path tag.toNat s.tick)
     exec (.sysCancel h tag) s = .next (s.answered
       (l.foldl (fun t c => t.complete c.id c.instr c.h (Reply.fail .state) 4) (s.accepted (.sysCancel h tag) h))
       (.sysCancel h tag) h (Reply.ok1 l.length))))

/-- OBJ_READ returns the bytes of the object's view, in its results up to 16 bytes and at EXTPTR beyond, and changes nothing;
OBJ_WRITE is refused by the first check that fails, or writes exactly the bits of its range and does what the object's own
rules add (R424). -/
def Obligations.ObjectReadAndWriteFollowTheirRange : Prop :=
  (∀ (h : Hdr) (c : BitVec 8) (n : BitVec 16) (o l : BitVec 32) (s : State), Admitted (.objRead h c n o l) h s →
    n.toNat < objCount c.toNat → s.powered (objDom c.toNat n.toNat) = true → rangeOk c.toNat o.toNat l.toNat = true →
    let a := s.accepted (.objRead h c n o l) h
    let v := bits (a.readObj c.toNat n.toNat) (8 * o.toNat) (8 * l.toNat)
    (isInline h l.toNat = true → exec (.objRead h c n o l) s = .next (s.answered a (.objRead h c n o l) h
      (Reply.ok4 (bits v 0 32) (bits v 32 32) (bits v 64 32) (bits v 96 32)))) ∧
    (isInline h l.toNat = false → h.extlen = l → s.dataFits h l.toNat = true →
      exec (.objRead h c n o l) s = .next (s.answered a (.objRead h c n o l) h
        { Reply.ok with data := leBytes l.toNat v }))) ∧
  (∀ (h : Hdr) (c : BitVec 8) (n : BitVec 16) (o l : BitVec 32) (d : BitVec 128) (s : State),
    Admitted (.objWrite h c n o l d) h s → n.toNat < objCount c.toNat → s.powered (objDom c.toNat n.toNat) = true →
    rangeOk c.toNat o.toNat l.toNat = true → (isInline h l.toNat = true ∨ h.extlen = l) →
    let a := s.accepted (.objWrite h c n o l d) h
    let data := ((if isInline h l.toNat then d.toNat else leNat h.ext) % 2 ^ (8 * l.toNat)) <<< (8 * o.toNat)
    let mask := ones (8 * o.toNat) (8 * l.toNat)
    let new := writtenImage c.toNat n.toNat (s.obj c.toNat n.toNat) data mask (s.nowMask (okey c.toNat n.toNat))
    (∀ st, a.writeRefused (pathSecure h.path) c.toNat n.toNat (s.obj c.toNat n.toNat) data new mask = some st →
      exec (.objWrite h c n o l d) s = .next (s.answered a (.objWrite h c n o l d) h (Reply.fail st))) ∧
    (a.writeRefused (pathSecure h.path) c.toNat n.toNat (s.obj c.toNat n.toNat) data new mask = none →
      exec (.objWrite h c n o l d) s = .next (s.answered
        (((a.beforeWrite c.toNat n.toNat new mask).setObj c.toNat n.toNat (new ||| dirtied c.toNat n.toNat mask)).afterWrite a
          c.toNat n.toNat (s.obj c.toNat n.toNat) new mask) (.objWrite h c n o l d) h Reply.ok)))

/-- An OBJ_WRITE leaves every RO and reserved bit of an object as it is, gives RW bits in its range the data, clears a W1C bit
in its range for a 1 unless hardware set it in the same tick, and leaves every bit outside its range (R4, R5, R7, R424). -/
def Obligations.WrittenImageFollowsTheAccess : Prop :=
  ∀ (cls inst old data mask now k : Nat),
    bit (writtenImage cls inst old data mask now) k =
      ((if bit (fieldMask cls inst (fun r => decide (r.acc = .rw))) k && bit mask k then bit data k else bit old k) &&
        !(bit (fieldMask cls inst (fun r => decide (r.acc = .w1c))) k && bit mask k && bit data k && !bit now k))

/-- A write of INPUT_EN, FSC, BANK_EN, SLEW_EN or INPUT_CODE that no check refuses sets the field at its tick and does what
the field's own rule adds: an enabled input starts from OFF, a disabled one goes OFF and abandons its windows; a changed FSC
starts FSC_BUSY; a bank enters or leaves OFF (R95, R166, R288, R294, R297). A write of TP_EN, DOM_EN_A or DOM_EN_B, ETH_MODE
and FEC_EN that no check refuses sets the field and does what the field's own rule adds; a changed Ethernet mode or FEC takes
the link down (R321, R327, R404). -/
def Obligations.FieldWritesTakeEffect : Prop :=
  ((∀ (h : Hdr) (i : Fin 32) (s : State), s.Canonical → Admitted (.inputEn h i true) h s →
     s.Writable h Fld.input.inputEn i.val 1 →
     s.inputState i.val = 1 →
     let a := (s.accepted (.inputEn h i true) h).setF Fld.input.inputEn i.val 1
     exec (.inputEn h i true) s = .next (s.answered
       { a.setF Fld.input.state i.val 2 with
         rd := { s.rd with startEnd := sset (fun _ => 0) s.rd.startEnd i.val (s.tick + 2000) } }
       (.inputEn h i true) h Reply.ok)) ∧
   (∀ (h : Hdr) (i : Fin 32) (s : State), s.Canonical → Admitted (.inputEn h i false) h s →
     s.Writable h Fld.input.inputEn i.val 0 →
     let a := ((s.accepted (.inputEn h i false) h).setF Fld.input.inputEn i.val 0).inputEnWritten i.val false
     exec (.inputEn h i false) s = .next (s.answered (if s.inputState i.val = 1 then a else a.inputGone i.val)
       (.inputEn h i false) h Reply.ok)) ∧
   (∀ (h : Hdr) (o : Fin 96) (v : BitVec 8) (s : State), Admitted (.fsc h o v) h s → s.Writable h Fld.output.fsc o.val v.toNat →
     let a := (s.accepted (.fsc h o v) h).setF Fld.output.fsc o.val v.toNat
     exec (.fsc h o v) s = .next (s.answered (if s.getF Fld.output.fsc o.val = v.toNat then a else a.fscChanged o.val)
       (.fsc h o v) h Reply.ok)) ∧
   (∀ (h : Hdr) (k : Fin 4) (v : Bool) (s : State), s.Canonical → Admitted (.bankEn h k v) h s →
     s.Writable h Fld.biasbank.bankEn k.val (b2n v) →
     exec (.bankEn h k v) s = .next (s.answered
       (((s.accepted (.bankEn h k v) h).setF Fld.biasbank.bankEn k.val (b2n v)).bankEnWritten k.val v) (.bankEn h k v) h
       Reply.ok)) ∧
   (∀ (h : Hdr) (k : Fin 4) (v : Bool) (s : State), Admitted (.slewEn h k v) h s →
     s.Writable h Fld.biasbank.slewEn k.val (b2n v) →
     exec (.slewEn h k v) s = .next (s.answered
       ((s.accepted (.slewEn h k v) h).setF Fld.biasbank.slewEn k.val (b2n v)) (.slewEn h k v) h Reply.ok)) ∧
   (∀ (h : Hdr) (b : Fin 128) (v : BitVec 20) (s : State), s.Canonical → Admitted (.inputCode h b v) h s →
     s.Writable h Fld.bias.inputCode b.val v.toNat →
     exec (.inputCode h b v) s = .next (s.answered ((s.accepted (.inputCode h b v) h).writeInput b.val v.toNat)
       (.inputCode h b v) h Reply.ok))) ∧
  ((∀ (h : Hdr) (n : Fin 4) (v : Bool) (s : State), Admitted (.tpEn h n v) h s →
     s.Writable h (tpF n.val Fld.tp.tpEn) 0 (b2n v) →
     let f := tpF n.val Fld.tp.tpEn
     exec (.tpEn h n v) s = .next (s.answered
       (((s.accepted (.tpEn h n v) h).setF f 0 (b2n v)).timeWritten (s.obj 0x0F 0)
         (setBits (s.obj 0x0F 0) f.lsb f.width (b2n v))) (.tpEn h n v) h Reply.ok)) ∧
   (∀ (h : Hdr) (b v : Bool) (s : State), Admitted (.domEn h b v) h s →
     s.Writable h (if b then Fld.time.domEnB else Fld.time.domEnA) 0 (b2n v) →
     let f := if b then Fld.time.domEnB else Fld.time.domEnA
     exec (.domEn h b v) s = .next (s.answered
       (((s.accepted (.domEn h b v) h).setF f 0 (b2n v)).timeWritten (s.obj 0x0F 0)
         (setBits (s.obj 0x0F 0) f.lsb f.width (b2n v))) (.domEn h b v) h Reply.ok)) ∧
   (∀ (h : Hdr) (m : BitVec 2) (fec : Bool) (s : State), Admitted (.ethMode h m fec) h s →
     s.powered domETH = true → badEth (s.obj 0x13 0) = false →
     let a := (s.accepted (.ethMode h m fec) h).setObj 0x13 0
       (setBits (setBits (s.obj 0x13 0) Fld.eth.ethMode.lsb 2 m.toNat) Fld.eth.fecEn.lsb 1 (b2n fec))
     exec (.ethMode h m fec) s = .next (s.answered
       (if s.getF Fld.eth.ethMode 0 = m.toNat ∧ s.getF Fld.eth.fecEn 0 = b2n fec then a else a.ethLinkDown)
       (.ethMode h m fec) h Reply.ok)))

/-! ### Power, time and memories: their commands -/

/-- PWR_STATE: the present state answers at once; a power command or foreground calibration in progress gives BUSY; curators
that are armed or running refuse every target but Run; the other changes take their time, Quiet at once and Dormant 10,000
ticks later (R453, R454). PWR_DOMAIN: a mask of an always-on domain is BAD_PARAM, a power command in progress BUSY, a tile
that would power up in Quiet and the loss of the command's own path are STATE; otherwise the domains to power off lose power
now and the command works for at most its bound (R449; that they lose it at the execution, the model's reading, log entries 15 and
64; BUSY before STATE, the model's reading, log entry 106). RESUME needs a stopped or tripped device below 85 °C, ends the hold,
returns LOCKED banks to ACTIVE (R466), and lets the frame changes act that waited for the frame clock (the model's choice, log
entry 115). -/
def Obligations.PowerCommands : Prop :=
  (∀ (h : Hdr) (v : BitVec 8) (s : State), Admitted (.pwrState h v) h s → v.toNat ≤ 3 →
     let a := s.accepted (.pwrState h v) h
     (v.toNat = s.powerState →
       exec (.pwrState h v) s = .next (s.answered a (.pwrState h v) h (Reply.ok1 s.powerState))) ∧
     (v.toNat ≠ s.powerState → a.pwrBusy = true ∨ a.foreground = true →
       exec (.pwrState h v) s = .next (s.answered a (.pwrState h v) h (Reply.fail .busy))) ∧
     (v.toNat ≠ s.powerState → a.pwrBusy = false → a.foreground = false →
       (v.toNat ≠ 0 → s.powerState ≠ 2 → s.anyCurator = true →
         exec (.pwrState h v) s = .next (s.answered a (.pwrState h v) h (Reply.fail .state))) ∧
       (v.toNat ≤ 1 → s.powerState = 2 → s.pw.hold = true →
         exec (.pwrState h v) s = .next (s.answered a (.pwrState h v) h (Reply.fail .thermal))) ∧
       (v.toNat ≤ 1 → s.powerState = 2 → s.pw.hold = false → s.convGood = false →
         exec (.pwrState h v) s = .next (s.answered a (.pwrState h v) h (Reply.fail .state))) ∧
       (v.toNat ≤ 1 → s.powerState = 2 → s.pw.hold = false → s.convGood = true →
         exec (.pwrState h v) s = .next (a.work s.cmd.nextId 25000000 false [(0, v.toNat)] Reply.ok).1) ∧
       (v.toNat = 1 → s.powerState = 0 → s.anyCurator = false →
         exec (.pwrState h v) s = .next ((a.setPower 1).work s.cmd.nextId 1000 false [(0, 1)] Reply.ok).1) ∧
       (v.toNat = 0 → s.powerState = 1 →
         exec (.pwrState h v) s = .next (a.work s.cmd.nextId 1000 false [(0, 0)] Reply.ok).1) ∧
       (v.toNat = 2 → s.powerState ≤ 1 → s.anyCurator = false →
         exec (.pwrState h v) s = .next (a.toQuiet.work s.cmd.nextId 2000000 false [(0, 2)] Reply.ok).1) ∧
       (v.toNat = 3 → s.anyCurator = false → s.banksLive = false →
         exec (.pwrState h v) s = .next (s.answered { a with pw := { a.pw with dormantAt := s.tick + 10000 } }
           (.pwrState h v) h (Reply.ok1 3))))) ∧
  ((∀ (h : Hdr) (m on : BitVec 64) (s : State), Admitted (.pwrDomain h m on) h s →
     let a := s.accepted (.pwrDomain h m on) h
     let ds := setPositions m.toNat 56
     let ons := ds.filter (fun d => bit on.toNat d)
     let offs := ds.filter (fun d => !bit on.toNat d)
     (2 ^ 56 ≤ m.toNat ∨ ds.any (fun d => decide (d < 3)) = true →
       exec (.pwrDomain h m on) s = .next (s.answered a (.pwrDomain h m on) h (Reply.fail .badParam))) ∧
     (m.toNat < 2 ^ 56 → ds.any (fun d => decide (d < 3)) = false → a.pwrBusy = true →
       exec (.pwrDomain h m on) s = .next (s.answered a (.pwrDomain h m on) h (Reply.fail .busy))) ∧
     (m.toNat < 2 ^ 56 → ds.any (fun d => decide (d < 3)) = false → a.pwrBusy = false →
       (ons.any (fun d => tileDomains.contains d) = true → 1 < s.powerState →
         exec (.pwrDomain h m on) s = .next (s.answered a (.pwrDomain h m on) h (Reply.fail .state))) ∧
       (pathLost h offs = true →
         exec (.pwrDomain h m on) s = .next (s.answered a (.pwrDomain h m on) h (Reply.fail .state))) ∧
       (s.powerState ≤ 1 ∨ ons.any (fun d => tileDomains.contains d) = false → pathLost h offs = false →
         exec (.pwrDomain h m on) s = .next
           ((({ a with pw := { a.pw with onMask := clearMask s.pw.onMask (maskOf offs) ||| maskOf ons } }).powerOffAll offs).work
             s.cmd.nextId (if ons = [] then 2000000 else 25000000) false [(0, maskOf ons)] Reply.ok).1))) ∧
   (∀ (h : Hdr) (s : State), Admitted (.resume h) h s →
     let a := s.accepted (.resume h) h
     (s.thermalState ≤ 1 → exec (.resume h) s = .next (s.answered a (.resume h) h (Reply.fail .state))) ∧
     (2 ≤ s.thermalState → 85 * 256 ≤ s.getSF Fld.thermal.tjMax 0 →
       exec (.resume h) s = .next (s.answered a (.resume h) h (Reply.fail .thermal))) ∧
     (2 ≤ s.thermalState → s.getSF Fld.thermal.tjMax 0 < 85 * 256 →
       let b := a.setF Fld.thermal.thermalState 0 0
       exec (.resume h) s = .next (s.answered
         ({ b with pw := { b.pw with hold := false, tripGated := false } }).unlockBanks.framesResume (.resume h) h Reply.ok))))

/-- A domain that powers off keeps no state: its objects read as at reset, and it is no longer powered (R449). -/
def Obligations.PowerOffForgetsTheDomainsObjects : Prop :=
  ∀ (s : State) (cls inst : Nat), inst < 65536 → objDom cls inst ≠ domAON → s.powered (objDom cls inst) = true →
    let t := s.powerOff (objDom cls inst)
    t.obj cls inst = objDefault (okey cls inst) ∧ t.liveObj cls inst = objDefault (okey cls inst) ∧
      t.powered (objDom cls inst) = false

/-- TIME_READ answers the presented system time of the start of the tick; TIME_SET_EPOCH asks for the step at the first whole
second 1,000 ticks later; TIME_SWITCH waits for its tick, for a LOCKED domain; TIME_CAPTURE_READ returns the records of the
named units and empties their queues (R312, R320, R322, R329). -/
def Obligations.TimeCommandsAnswerOrAreScheduled : Prop :=
  (∀ (h : Hdr) (s : State), Admitted (.timeRead h) h s →
    let p := s.setAtRaw (16 * s.tick)
    let t := sysFields (s.sysAt (16 * s.tick))
    exec (.timeRead h) s = .next (s.answered (s.accepted (.timeRead h) h) (.timeRead h) h
      (Reply.ok4 (t.1 % 2 ^ 32) (t.1 / 2 ^ 32) t.2.1 (t.2.2 + (if p.act then 2 ^ 16 else 0) + s.sysState * 2 ^ 17)))) ∧
  (∀ (h : Hdr) (e : BitVec 64) (s : State), Admitted (.timeSetEpoch h e) h s →
    let a := s.accepted (.timeSetEpoch h e) h
    exec (.timeSetEpoch h e) s = .next
      ({ a with tm := { a.tm with epoch := s.tm.epoch ++ [(s.tick + 1000, e.toNat, s.cmd.nextId)] } }).paramsChanged) ∧
  (∀ (h : Hdr) (d : Bool) (step : Bool) (v : BitVec 64) (s : State),
    let i := Instr.timeSwitch h (if d then 1 else 0) step v
    Admitted i h s →
    let a := s.accepted i h
    (s.domState d ≠ 2 → exec i s = .next (s.answered a i h (Reply.fail .state))) ∧
    (s.domState d = 2 → s.tickParam v.toNat = none → exec i s = .next (s.answered a i h (Reply.fail .tooLate))) ∧
    (∀ t, s.domState d = 2 → s.tickParam v.toNat = some t → exec i s = .next
      ({ a with tm := { a.tm with switches := s.tm.switches ++ [(t, d, step, s.cmd.nextId)] } }).paramsChanged)) ∧
  (∀ (h : Hdr) (u : BitVec 16) (s : State), Admitted (.timeCaptureRead h u) h s →
    let a := s.accepted (.timeCaptureRead h u) h
    let ns := (setPositions u.toNat 16).filter (fun n => s.tm.stamps.any (fun e => decide (e.1 = n)))
    let r := ns.foldl (fun x n => ((x.1.stampRecord n).1, x.2 ++ (x.1.stampRecord n).2)) (a, ([] : List Byte))
    (h.extlen.toNat < r.2.length →
      exec (.timeCaptureRead h u) s = .next (s.answered a (.timeCaptureRead h u) h (Reply.fail .badParam))) ∧
    (r.2.length ≤ h.extlen.toNat → s.dataFits h r.2.length = true →
      exec (.timeCaptureRead h u) s = .next (s.answered r.1 (.timeCaptureRead h u) h
        { Reply.ok2 r.2.length (maskOf ns) with data := r.2 })))

/-- ARCHIVE_LOAD and KERNEL_LOAD write exactly the words of their data from START on, clear what the words had of errors and
answer the CRC of what they then read; ARCHIVE_READ and KERNEL_READ return the words, and change nothing (R72, R74). -/
def Obligations.MemoryLoadsAndReadsMoveTheirWords : Prop :=
  (∀ (h : Hdr) (b : BitVec 8) (st n : BitVec 32) (s : State), b.toNat ≤ 95 → s.powered (bankDom b.toNat) = true →
    let k := 65536 * b.toNat + st.toNat
    (Admitted (.archiveLoad h b st n) h s → memBad 65536 st.toNat n.toNat h.extlen.toNat true = false →
      let a := s.accepted (.archiveLoad h b st n) h
      let w := putWords s.arc.words k (words32 h.ext)
      let e := sclear s.arc.wordErr k n.toNat
      exec (.archiveLoad h b st n) s = .next (s.answered
        { a with arc := { a.arc with
            words := w, wordErr := e, loads := ⟨s.tick, k, n.toNat, s.arc.words, s.arc.wordErr⟩ :: s.arc.loads } }
        (.archiveLoad h b st n) h (Reply.ok1 (crcNat (readWords w e k n.toNat))))) ∧
    (Admitted (.archiveRead h b st n) h s → memBad 65536 st.toNat n.toNat h.extlen.toNat false = false →
      let d := readWords s.arc.words s.arc.wordErr k n.toNat
      s.dataFits h d.length = true →
      exec (.archiveRead h b st n) s = .next (s.answered (s.accepted (.archiveRead h b st n) h) (.archiveRead h b st n) h
        { Reply.ok2 (crcNat d) (badWords s.arc.wordErr k n.toNat) with data := d }))) ∧
  (∀ (h : Hdr) (st n : BitVec 32) (s : State), s.powered domARC1 = true →
    (Admitted (.kernelLoad h st n) h s → memBad 1048576 st.toNat n.toNat h.extlen.toNat true = false →
      let a := s.accepted (.kernelLoad h st n) h
      let w := putWords s.arc.kern st.toNat (words32 h.ext)
      let e := sclear s.arc.kernErr st.toNat n.toNat
      exec (.kernelLoad h st n) s = .next (s.answered
        { a with arc := { a.arc with
            kern := w, kernErr := e
            loads := ⟨s.tick, 2 ^ 24 + st.toNat, n.toNat, kernelKeys s.arc.kern, kernelKeys s.arc.kernErr⟩ :: s.arc.loads } }
        (.kernelLoad h st n) h (Reply.ok1 (crcNat (readWords w e st.toNat n.toNat))))) ∧
    (Admitted (.kernelRead h st n) h s → memBad 1048576 st.toNat n.toNat h.extlen.toNat false = false →
      let d := readWords s.arc.kern s.arc.kernErr st.toNat n.toNat
      s.dataFits h d.length = true →
      exec (.kernelRead h st n) s = .next (s.answered (s.accepted (.kernelRead h st n) h) (.kernelRead h st n) h
        { Reply.ok2 (crcNat d) (badWords s.arc.kernErr st.toNat n.toNat) with data := d })))

/-- A word that ARCHIVE_LOAD wrote reads back, and every other word of the archive is as before: what the loads write is
exactly their range (R72). -/
def Obligations.ArchiveLoadWritesExactlyItsRange : Prop :=
  ∀ (h : Hdr) (b : BitVec 8) (st n : BitVec 32) (s : State), Admitted (.archiveLoad h b st n) h s → b.toNat ≤ 95 →
    s.powered (bankDom b.toNat) = true → memBad 65536 st.toNat n.toNat h.extlen.toNat true = false →
    h.ext.length = 4 * n.toNat → swf (fun _ => 0) s.arc.words = true →
    let k := 65536 * b.toNat + st.toNat
    ∃ t, exec (.archiveLoad h b st n) s = .next t ∧
      (∀ j, j < n.toNat → wordAt t.arc.words (k + j) = leNat (sub h.ext (4 * j) 4)) ∧
      (∀ m, m < k ∨ k + n.toNat ≤ m → wordAt t.arc.words m = wordAt s.arc.words m) ∧
      t.arc.kern = s.arc.kern ∧ t.objs = s.objs ∧ t.live = s.live

/-! ### Outputs, frames and commits -/

/-- OUTPUT_ENABLE unmutes the named outputs, all powered, with the PLL locked, in their carrier's range, outside a thermal
hold and a calibration; OUTPUT_DISABLE mutes them but leaves a fault mute; the end of FSC_BUSY unmutes an output that it muted
(R95, R98, R99, R102). -/
def Obligations.OutputStatesFollowTheirCommands : Prop :=
  (∀ (h : Hdr) (m : BitVec 96) (s : State), Admitted (.outputEnable h m) h s →
    let a := s.accepted (.outputEnable h m) h
    let os := setPositions m.toNat 96
    (os.any (fun o => !s.powered (domDT (dtOfOutput o))) = true →
      exec (.outputEnable h m) s = .next (s.answered a (.outputEnable h m) h (Reply.fail .absent))) ∧
    (os.any (fun o => !s.powered (domDT (dtOfOutput o))) = false →
      (os ≠ [] → s.pw.hold = true →
        exec (.outputEnable h m) s = .next (s.answered a (.outputEnable h m) h (Reply.fail .thermal))) ∧
      (s.pw.hold = false → os.any (fun o => s.tm.unlocked || !carrierOk (s.outMode o) (s.getL Fld.output.carrier o)) = false →
        os.any s.outputInCal = false →
        exec (.outputEnable h m) s = .next (s.answered (os.foldl State.enableOutput a) (.outputEnable h m) h Reply.ok)))) ∧
  (∀ (h : Hdr) (m : BitVec 96) (s : State), Admitted (.outputDisable h m) h s →
    (setPositions m.toNat 96).any (fun o => !s.powered (domDT (dtOfOutput o))) = false →
    exec (.outputDisable h m) s = .next (s.answered ((setPositions m.toNat 96).foldl
      (fun u o => if u.getF Fld.output.state o = 4 then u else u.setF Fld.output.state o 1)
      (s.accepted (.outputDisable h m) h)) (.outputDisable h m) h Reply.ok)) ∧
  (∀ (o : Fin 96) (s : State), s.Canonical → s.fscEndDue o.val = true →
    let t := s.setF Fld.output.fscBusy o.val 0
    let u := { t with drv := { s.drv with fscEnd := sset (fun _ => 0) s.drv.fscEnd o.val 0 } }
    exec (.fscMuteEnd o) s = .next (if s.getF Fld.output.state o.val = 3 then u.setF Fld.output.state o.val 2 else u))

/-- OUTPUT_COMMIT captures the dirty outputs and slots, all in powered domains, clears their dirty bits and waits for its
tick; 16 pending commits refuse it with BUSY, a tick too early with TOO_LATE, and an object whose domain is off with ABSENT.
FRAME_COMMIT, BIAS_COMMIT and CAT_COMMIT capture and wait likewise when nothing refuses them (R36, R37, R39, R40, R64, R107,
R521). READOUT_COMMIT, DISC_REBASE and CP_COMMIT that nothing refuses are commits as well: a rebase captures nothing but the
channels it names, a readout commit also notes which captured discriminators had their seeds written (R188, R201, R203, R441,
R521). -/
def Obligations.CommitCommandsCaptureAndWait : Prop :=
  ((∀ (h : Hdr) (v : BitVec 64) (s : State), Admitted (.outputCommit h v) h s →
     let a := s.accepted (.outputCommit h v) h
     let keys := s.dirtyKeys Fld.output.dirty ++ s.dirtyKeys Fld.slot.dirty
     (s.anyOff keys = true →
       exec (.outputCommit h v) s = .next (s.answered a (.outputCommit h v) h (Reply.fail .absent))) ∧
     (s.anyOff keys = false → s.commitsFull = true →
       exec (.outputCommit h v) s = .next (s.answered a (.outputCommit h v) h (Reply.fail .busy))) ∧
     (s.anyOff keys = false → s.commitsFull = false → s.tickParam v.toNat = none →
       exec (.outputCommit h v) s = .next (s.answered a (.outputCommit h v) h (Reply.fail .tooLate))) ∧
     (∀ t, s.anyOff keys = false → s.commitsFull = false → s.tickParam v.toNat = some t →
       exec (.outputCommit h v) s = .next
         ((a.addCommit ⟨t, s.cmd.nextId, 2, s.capture keys, false, [], keys.length, 0, 0⟩).clearDirty keys))) ∧
   (∀ (h : Hdr) (v : BitVec 64) (keep : Bool) (t : Nat) (s : State), Admitted (.frameCommit h v keep) h s →
     s.anyOff (s.dirtyKeys Fld.frame.dirty) = false → s.commitsFull = false → s.tickParam v.toNat = some t →
     let keys := s.dirtyKeys Fld.frame.dirty
     exec (.frameCommit h v keep) s = .next (((s.accepted (.frameCommit h v keep) h).addCommit
       ⟨t, s.cmd.nextId, 1, s.capture keys, keep, [], keys.length, 0, 0⟩).clearDirty keys)) ∧
   (∀ (h : Hdr) (v : BitVec 64) (t : Nat) (s : State), s.commitsFull = false → s.tickParam v.toNat = some t →
     let bk := s.dirtyKeys Fld.biasbank.dirty
     (Admitted (.biasCommit h v) h s → s.anyOff bk = false → bk.any (fun k => s.spanRefused (k % 65536)) = false →
       exec (.biasCommit h v) s = .next (((s.accepted (.biasCommit h v) h).addCommit
         ⟨t, s.cmd.nextId, 4, s.capture bk, false, [], bk.length, 0, 0⟩).clearDirty bk)) ∧
     (Admitted (.catCommit h v) h s → (allCycles (s.obj 0x10 0)).any (cycleRefused (s.obj 0x10 0)) = false →
       let rep := catReply (s.obj 0x10 0) (s.liveObj 0x10 0) h.extlen.toNat
       exec (.catCommit h v) s = .next ((((s.accepted (.catCommit h v) h).addCommit
         ⟨t, s.cmd.nextId, 5, s.capture [okey 0x10 0], false, [], rep.r0, rep.r1, rep.r2⟩).clearDirty
           [okey 0x10 0]).showCatPending)))) ∧
  (∀ (h : Hdr) (v : BitVec 64) (t : Nat) (s : State), s.commitsFull = false → s.tickParam v.toNat = some t →
     (let keys := s.dirtyKeys Fld.input.dirty ++ s.dirtyKeys Fld.disc.dirty ++ s.dirtyKeys Fld.demix.dirty
      Admitted (.readoutCommit h v) h s → s.anyOff keys = false →
       exec (.readoutCommit h v) s = .next (((s.accepted (.readoutCommit h v) h).addCommit
         ⟨t, s.cmd.nextId, 3, s.capture keys, false, s.seedKeys keys, keys.length, 0, 0⟩).clearDirty keys)) ∧
     (let cs := channelMask h.ext
      Admitted (.discRebase h v) h s → h.extlen.toNat = 64 → s.channelOff cs = false →
       exec (.discRebase h v) s = .next ((s.accepted (.discRebase h v) h).addCommit
         ⟨t, s.cmd.nextId, 7, [], false, cs.map (okey 0x08), cs.length, 0, 0⟩)) ∧
     (let keys := s.dirtyKeys Fld.courier.dirty
      Admitted (.cpCommit h v) h s → s.anyOff keys = false →
       exec (.cpCommit h v) s = .next (((s.accepted (.cpCommit h v) h).addCommit
         ⟨t, s.cmd.nextId, 6, s.capture keys, false, [], keys.length, 0, 0⟩).clearDirty keys)))

/-- The first due commit in order of acceptance acts at its tick and its command completes; for an OUTPUT_COMMIT every
captured image replaces the staged fields of its live copy; with nothing due nothing happens (R36, R38, R107). -/
def Obligations.DueCommitActsAndCompletes : Prop :=
  (∀ (s : State) (c : Commit), s.cmd.commits.find? (commitDue s.tick) = some c →
    let s1 := { s with cmd := { s.cmd with commits := s.cmd.commits.filter (fun x => decide (x.id ≠ c.id)) } }
    exec .commitApply s = .next ((s1.applyKind c).completeId c.id (s.commitReply c)) ∧
    (c.kind = 2 → exec .commitApply s = .next
      ((c.caps.foldl (fun t k => t.applyCapture k.1 k.2) s1).completeId c.id (Reply.ok1 c.res0)))) ∧
  (∀ (s : State), (∀ c ∈ s.cmd.commits, s.tick < c.tick) → exec .commitApply s = .next s)

/-- A due commit of one frame makes its live image the committed one for the commit's tick, in the master and in every tile's
replica that holds an image of its own, and changes no other live image; without KEEP_PHASE the live offset is the committed
offset (R19, R61 to R63; that a replica keeps its images while the master has no power is the model's reading of R19, log entry
79). After TRIP, with the frame clock gated, it changes no live image and waits for RESUME (R452; that it is held and not lost is
the model's choice, log entry 115). -/
def Obligations.FrameCommitSetsTheLiveFrame : Prop :=
  ∀ (s : State) (c : Commit) (f img : Nat), s.cmd.commits.find? (commitDue s.tick) = some c → c.kind = 1 →
    c.caps = [(okey 0x04 f, img)] → f < 4095 → swf objDefault s.live = true →
    (s.pw.tripGated = true → ∃ t, exec .commitApply s = .next t ∧ t.live = s.live ∧ t.objs = s.objs ∧
      t.drv.held = s.drv.held ++ [.commit f img c.keep]) ∧
    (s.pw.tripGated = false → ∃ t, exec .commitApply s = .next t ∧
      t.liveObj 0x04 f = frameCommitImage (s.liveObj 0x04 f) img (16 * s.tick) c.keep ∧
      (∀ k, k < 32 → t.liveObj (0x40 + k) f = match heldFrame (s.liveObj (0x40 + k) f) with
        | some r => 2 ^ 512 + frameCommitImage r img (16 * s.tick) c.keep % 2 ^ 512
        | none => s.liveObj (0x40 + k) f) ∧
      (∀ cls inst, okey cls inst ≠ okey 0x04 f → (∀ k, k < 32 → okey cls inst ≠ okey (0x40 + k) f) →
        t.liveObj cls inst = s.liveObj cls inst) ∧
      (c.keep = false → frameOff (t.liveObj 0x04 f) = bits img 160 32))

/-- FRAME_OP acts at once on a frame of the table, in the master and in the replicas, with an operation that exists; F4095
refuses it with STATE, other numbers and reserved codes with BAD_PARAM; without PD_MGMT0 no operation acts (the model's reading,
log entry 79); after TRIP, with the frame clock gated, the operation waits for RESUME (R452; that it is held and not lost is the
model's choice, log entry 115); CAT_GROUP sets the sixteen group enables (R54, R57, R65, R348). -/
def Obligations.FrameOpAndGroupMaskActAtOnce : Prop :=
  (∀ (h : Hdr) (f : BitVec 16) (op : BitVec 8) (arg : BitVec 16) (s : State), Admitted (.frameOp h f op arg) h s →
    let a := s.accepted (.frameOp h f op arg) h
    (5 < op.toNat ∨ 4096 ≤ f.toNat →
      exec (.frameOp h f op arg) s = .next (s.answered a (.frameOp h f op arg) h (Reply.fail .badParam))) ∧
    (op.toNat ≤ 5 → f.toNat = 4095 →
      exec (.frameOp h f op arg) s = .next (s.answered a (.frameOp h f op arg) h (Reply.fail .state))) ∧
    (op.toNat = 0 → f.toNat < 4095 →
      exec (.frameOp h f op arg) s = .next (s.answered a (.frameOp h f op arg) h Reply.ok)) ∧
    (op.toNat ≤ 5 → f.toNat < 4095 → s.powered domMGMT0 = false →
      exec (.frameOp h f op arg) s = .next (s.answered a (.frameOp h f op arg) h Reply.ok)) ∧
    (1 ≤ op.toNat → op.toNat ≤ 5 → f.toNat < 4095 → s.powered domMGMT0 = true → s.pw.tripGated = true →
      exec (.frameOp h f op arg) s = .next (s.answered
        { a with drv := { a.drv with held := s.drv.held ++ [.op f.toNat op.toNat arg.toNat] } }
        (.frameOp h f op arg) h Reply.ok)) ∧
    (1 ≤ op.toNat → op.toNat ≤ 5 → f.toNat < 4095 → s.powered domMGMT0 = true → s.pw.tripGated = false →
      let r := frameOpImage (s.liveObj 0x04 f.toNat) op.toNat arg.toNat (16 * s.tick)
      exec (.frameOp h f op arg) s = .next (s.answered
        (((a.changeLive 0x04 f.toNat r.1 r.2).inReplicas f.toNat
          (fun img => (frameOpImage img op.toNat arg.toNat (16 * s.tick)).1)).noteConflict f.toNat r.2)
        (.frameOp h f op arg) h Reply.ok))) ∧
  (∀ (h : Hdr) (m : BitVec 16) (s : State), Admitted (.catGroup h m) h s →
    exec (.catGroup h m) s = .next (s.answered
      ((s.accepted (.catGroup h m) h).setF Fld.catalogue.groupLive 0 m.toNat) (.catGroup h m) h (Reply.ok1 m.toNat)))

/-- After SETF_CONT, the phase at t0 under the new frequency differs from the phase under the old one by at most 2^-33 turn
(2^15 of 2^48), and by exactly zero when (F_old − F_new) · t0 mod 2^48 is a multiple of 2^16. After RESETPH and SETF_RESET,
the phase at t0 lies within 2^-33 turn of zero, and is zero under the same condition on F · t0. Rounding is half up, so the
new offset is a function of the operands; SHIFT adds its argument to the offset and SETPH sets it (R56). -/
def Obligations.FrameOperationsSetTheOffset : Prop :=
  ∀ (img arg t : Nat), img < 2 ^ 256 → arg < 2 ^ 16 →
    let ph := fun (x : Nat) => (frameFreq x * (t % p48) + frameOff x * 2 ^ 16) % p48
    let near := fun (d : Nat) => d ≤ 2 ^ 15 ∨ p48 - 2 ^ 15 ≤ d
    let half := fun (x : Nat) => (x % p48 + 2 ^ 15) / 2 ^ 16
    let word := if arg % 2 = 1 then bits img 64 48 else bits img 0 48
    frameOff (frameOpImage img 1 arg t).1 = (frameOff img + arg * 2 ^ 16) % 2 ^ 32 ∧
    frameOff (frameOpImage img 2 arg t).1 = arg * 2 ^ 16 ∧
    (let r := (frameOpImage img 3 arg t).1
     frameFreq r = frameFreq img ∧ frameOff r = (2 ^ 32 - half (frameFreq r * t) % 2 ^ 32) % 2 ^ 32 ∧ near (ph r) ∧
       (frameFreq r * t % p48 % 2 ^ 16 = 0 → ph r = 0)) ∧
    (let r := (frameOpImage img 4 arg t).1
     let df := frameFreq img + p48 - frameFreq r
     frameFreq r = word ∧ frameOff r = (frameOff img + half (df * t)) % 2 ^ 32 ∧ near ((ph r + p48 - ph img) % p48) ∧
       (df * t % p48 % 2 ^ 16 = 0 → ph r = ph img)) ∧
    (let r := (frameOpImage img 5 arg t).1
     frameFreq r = word ∧ frameOff r = (2 ^ 32 - half (frameFreq r * t) % 2 ^ 32) % 2 ^ 32 ∧ near (ph r) ∧
       (frameFreq r * t % p48 % 2 ^ 16 = 0 → ph r = 0))

/-- DISC_SEED_STORE works for at most its bound to write one record for each named channel, unless writing is inhibited;
DISC_SEED_RESTORE copies the stored records into the staged copies and marks them dirty, and counts those that exist (R204).
-/
def Obligations.SeedStoreAndRestoreWork : Prop :=
  (∀ (h : Hdr) (s : State), Admitted (.discSeedStore h) h s → h.extlen.toNat = 64 → s.channelOff (channelMask h.ext) = false →
    let a := s.accepted (.discSeedStore h) h
    let cs := channelMask h.ext
    (s.flag Fld.thermal.nvInhibit 0 = true →
      exec (.discSeedStore h) s = .next (s.answered a (.discSeedStore h) h (Reply.fail .supplyLow))) ∧
    (s.flag Fld.thermal.nvInhibit 0 = false → s.nvBusy = true →
      exec (.discSeedStore h) s = .next (s.answered a (.discSeedStore h) h (Reply.fail .busy))) ∧
    (s.flag Fld.thermal.nvInhibit 0 = false → s.nvBusy = false →
      exec (.discSeedStore h) s = .next (a.work s.cmd.nextId (2000000 + 100000 * cs.length) true
        (cs.map (fun c => (c, bits (s.obj 0x08 c) 0 576))) Reply.ok).1)) ∧
  (∀ (h : Hdr) (s : State), Admitted (.discSeedRestore h) h s → h.extlen.toNat = 64 →
    s.channelOff (channelMask h.ext) = false → s.nvBusy = false →
    let cs := channelMask h.ext
    let n := (cs.filter (fun c => (s.nvRead (nvDisc c)).isSome)).length
    exec (.discSeedRestore h) s = .next (((cs.foldl State.restoreSeed (s.accepted (.discSeedRestore h) h)).work s.cmd.nextId
      (2000000 + 100000 * cs.length) false [] (Reply.ok2 n (cs.length - n))).1))

/-- BIAS_WRITE writes the input registers of its range, with a strobe of them one tick later on request (Result 0 holds the low
bits of its tick: the model's choice, log entry 80); BIAS_STROBE strobes each named bank with its own mask and waits for the end
of the tick; BIAS_CLEAR clears its banks at their next update edge (R288, R289, R302, R305). -/
def Obligations.BiasCommandsWriteStrobeAndClear : Prop :=
  (∀ (h : Hdr) (b f n : BitVec 8) (after : Bool) (s : State), Admitted (.biasWrite h b f n after) h s →
    b.toNat ≤ 3 → f.toNat ≤ 31 → 1 ≤ n.toNat → f.toNat + n.toNat ≤ 32 → h.extlen.toNat = 4 * n.toNat →
    (words32 h.ext).any (fun w => decide (2 ^ 20 ≤ w)) = false → s.powered (domBB b.toNat) = true →
    let a := s.accepted (.biasWrite h b f n after) h
    let t := ((List.range n.toNat).zip (words32 h.ext)).foldl (fun u e => u.writeInput (32 * b.toNat + f.toNat + e.1) e.2) a
    (s.inputBlocked b.toNat = true →
      exec (.biasWrite h b f n after) s = .next (s.answered a (.biasWrite h b f n after) h (Reply.fail .state))) ∧
    (s.inputBlocked b.toNat = false → after = false →
      exec (.biasWrite h b f n after) s = .next (s.answered t (.biasWrite h b f n after) h (Reply.ok1 0))) ∧
    (s.inputBlocked b.toNat = false → after = true →
      exec (.biasWrite h b f n after) s = .next (s.answered
        { t with bi := { t.bi with after := t.bi.after ++ [(s.tick + 1, b.toNat, ones f.toNat n.toNat)] } }
        (.biasWrite h b f n after) h (Reply.ok1 ((s.tick + 1) % 2 ^ 32))))) ∧
  (∀ (h : Hdr) (m : BitVec 128) (s : State), Admitted (.biasStrobe h m) h s →
    let ks := [0, 1, 2, 3].filter (fun k => decide (bits m.toNat (32 * k) 32 ≠ 0))
    ks.any (fun k => !s.powered (domBB k)) = false →
    let t := (ks.foldl (fun u k => u.addOwnStrobe k (bits m.toNat (32 * k) 32)) (s.accepted (.biasStrobe h m) h)).setCmd
      s.cmd.nextId (maskOf ks) 0
    exec (.biasStrobe h m) s = .next { t with bi := { t.bi with waiting := t.bi.waiting ++ [s.cmd.nextId] } }) ∧
  (∀ (h : Hdr) (b : BitVec 8) (s : State), Admitted (.biasClear h b) h s →
    let a := s.accepted (.biasClear h b) h
    (16 ≤ b.toNat → exec (.biasClear h b) s = .next (s.answered a (.biasClear h b) h (Reply.fail .badParam))) ∧
    (b.toNat < 16 → (setPositions b.toNat 4).any (fun k => !s.powered (domBB k)) = false →
      exec (.biasClear h b) s = .next (s.answered
        ((setPositions b.toNat 4).foldl (fun t k => t.addUpd ⟨k, s.tick, updateEdge s.tick, true, [], false⟩) a)
        (.biasClear h b) h Reply.ok)))

/-! ### Curators: their commands -/

/-- CUR_START: an empty mask or an odd tick is BAD_PARAM; then the checks of R151 in their order answer with the mask of what
fails; a start that passes arms every named curator for its start tick, an even one at least 1,000 ticks ahead (R135, R150,
R151). CUR_STOP completes at once when no named curator is armed or running, and for one running curator requests its halt at
the first even tick whose words have not started, in place of the request of an earlier CUR_STOP and beside a halt of another
cause, which stays, and waits; CUR_BARRIER sets
the members of a barrier none of whose old and new members is active; CUR_READBACK returns the words of a store and their CRC;
CUR_ACCESSION of a malformed image, of an active curator, and of an unsigned image under the secure policy is refused, and of a
well-formed unsigned one without the policy begins to write its curators and works to its bound (R144, R146, R149, R153, R155).
-/
def Obligations.CuratorCommands : Prop :=
  (∀ (h : Hdr) (m : BitVec 128) (v : BitVec 64) (s : State), Admitted (.curStart h m v) h s →
     let a := s.accepted (.curStart h m v) h
     let cs := setPositions m.toNat 128
     let t := if v.toNat = 0 then roundUp (s.tick + 1000) 2 else v.toNat
     let off := maskOf (cs.filter (fun c => !s.powered (domCC (clusterOf c))))
     let sig := maskOf (cs.filter (fun c => decide (s.curState c = 0) && (s.curRt c).verifyFailed))
     let bad := maskOf (cs.filter (fun c => !(s.curState c = 1 || s.curState c = 4 || s.curState c = 5)))
     let fails := fun (r : Reply) => exec (.curStart h m v) s = .next (s.answered a (.curStart h m v) h r)
     (m.toNat = 0 ∨ v.toNat % 2 = 1 → fails (Reply.fail .badParam)) ∧
     (m.toNat ≠ 0 → v.toNat % 2 = 0 →
       (off ≠ 0 → fails (Reply.mask .absent off)) ∧
       (off = 0 → s.pw.hold = true → fails (Reply.mask .thermal m.toNat)) ∧
       (off = 0 → s.pw.hold = false → s.tm.unlocked = true → fails (Reply.mask .state m.toNat)) ∧
       (off = 0 → s.pw.hold = false → s.tm.unlocked = false → sig ≠ 0 → fails (Reply.mask .signature sig)) ∧
       (off = 0 → s.pw.hold = false → s.tm.unlocked = false → sig = 0 → bad ≠ 0 → fails (Reply.mask .state bad)) ∧
       (off = 0 → s.pw.hold = false → s.tm.unlocked = false → sig = 0 → bad = 0 →
         (t < s.tick + 1000 → fails (Reply.mask .tooLate m.toNat)) ∧
         (s.tick + 1000 ≤ t → exec (.curStart h m v) s = .next (s.answered
           (cs.foldl (fun u c => u.armCurator c t) a) (.curStart h m v) h (Reply.ok64 t)))))) ∧
  ((∀ (h : Hdr) (m : BitVec 128) (v : BitVec 64) (shot : Bool) (s : State), Admitted (.curStop h m v shot) h s →
     let act := (setPositions m.toNat 128).filter (fun c => s.powered (domCC (clusterOf c)) && s.curActive c)
     (act = [] → exec (.curStop h m v shot) s = .next (s.answered (s.accepted (.curStop h m v shot) h)
       (.curStop h m v shot) h (Reply.mask .ok 0))) ∧
     (∀ c, act = [c] → s.curState c = 3 → v.toNat = 0 → shot = false →
       let a := (s.accepted (.curStop h m v shot) h).setCmd s.cmd.nextId (maskOf [c]) 0
       exec (.curStop h m v shot) s = .next (a.setCurRt c { s.curRt c with
         stopId := s.cmd.nextId + 1, atShot := false, stopAt := some s.haltTick }))) ∧
   (∀ (h : Hdr) (b : BitVec 8) (m : BitVec 128) (s : State), Admitted (.curBarrier h b m) h s →
     let a := s.accepted (.curBarrier h b m) h
     let act := (setPositions (m.toNat ||| s.barrierMask b.toNat) 128).any
       (fun c => s.powered (domCC (clusterOf c)) && s.curActive c)
     (b.toNat = 0 ∨ 15 < b.toNat →
       exec (.curBarrier h b m) s = .next (s.answered a (.curBarrier h b m) h (Reply.fail .badParam))) ∧
     (1 ≤ b.toNat → b.toNat ≤ 15 → act = true →
       exec (.curBarrier h b m) s = .next (s.answered a (.curBarrier h b m) h (Reply.fail .state))) ∧
     (1 ≤ b.toNat → b.toNat ≤ 15 → act = false →
       exec (.curBarrier h b m) s = .next (s.answered
         { a with cur := { a.cur with barMask := sset (fun _ => 0) s.cur.barMask b.toNat m.toNat } }
         (.curBarrier h b m) h Reply.ok))) ∧
   (∀ (h : Hdr) (c ad n : BitVec 16) (s : State), Admitted (.curReadback h c ad n) h s → c.toNat ≤ 127 → 1 ≤ n.toNat →
     ad.toNat + n.toNat ≤ 4096 → 20 * n.toNat ≤ h.extlen.toNat → s.powered (domCC (clusterOf c.toNat)) = true →
     let d := (List.range n.toNat).flatMap (fun j =>
       leBytes 20 (if s.storeErrAt c.toNat (ad.toNat + j) = 2 then 0 else s.storeWord c.toNat (ad.toNat + j)))
     let bad := ((List.range n.toNat).filter (fun j => decide (s.storeErrAt c.toNat (ad.toNat + j) = 2))).length
     s.dataFits h d.length = true →
     exec (.curReadback h c ad n) s = .next (s.answered (s.accepted (.curReadback h c ad n) h) (.curReadback h c ad n) h
       { Reply.ok4 (crcNat d) bad (s.curState c.toNat) (s.getF Fld.curator.wordsM1 c.toNat) with data := d })) ∧
   (∀ (h : Hdr) (s : State), Admitted (.curAccession h) h s →
     let a := s.accepted (.curAccession h) h
     let img := h.ext
     let cs := setPositions (imgLe img 8 16) 128
     (imageOk img h.extlen.toNat = false →
       exec (.curAccession h) s = .next (s.answered a (.curAccession h) h (Reply.fail .badParam))) ∧
     (imageOk img h.extlen.toNat = true → cs.any (fun c => !s.powered (domCC (clusterOf c))) = false →
       (cs.any s.curActive = true →
         exec (.curAccession h) s = .next (s.answered a (.curAccession h) h (Reply.fail .state))) ∧
       (cs.any s.curActive = false → s.policy = true → imgLe img 6 2 % 2 = 0 →
         exec (.curAccession h) s = .next (s.answered a (.curAccession h) h (Reply.fail .signature))) ∧
       (cs.any s.curActive = false → s.policy = false → imgLe img 6 2 % 2 = 0 → a.accessionBusy = false →
         exec (.curAccession h) s = .next
           ((cs.foldl (fun u c => u.beginAccession c img) a).work s.cmd.nextId (accessionBound img) false [] Reply.ok).1))))

/-! ### Observers, calibration, ledger, links and secure commands -/

/-- VIT_ARM of any vitrines that every check passes arms each of them for one arm tick, which is at least 1,000 ticks ahead, and
further when a mask must be copied first; a vitrine in mask mode takes the mask words with it, uncorrectable ones as 0 (R272, R277).
VIT_TRIGGER offers a trigger of this tick to each named vitrine: an ARMED one that can take it goes FILLING, one that is FILLING from
a trigger of this tick notes the source, and any other ignores it; the answer names those that took it. VIT_ABORT ends each named
vitrine's run (R268, R271, R278). -/
def Obligations.VitrineCommandsArmTriggerAndAbort : Prop :=
  (∀ (h : Hdr) (m : BitVec 8) (t : BitVec 64) (s : State), Admitted (.vitArm h m t) h s →
    let i := Instr.vitArm h m t
    let a := s.accepted i h
    let vs := setPositions m.toNat 8
    let cs := vs.map (fun v => s.obj 0x0C v)
    let ringOf := fun v => if s.viState v = 0 ∨ bit m.toNat v then viRing (s.obj 0x0C v) else viRing (s.viRun v).cfg
    let ta := if t.toNat = 0 then s.armEarliest cs else t.toNat
    (m.toNat = 0 ∨ (∃ c ∈ cs, badVitArm c = true) → exec i s = .next (s.answered a i h (Reply.fail .badParam))) ∧
    (m.toNat ≠ 0 → s.powered domVIT = true →
      (∀ c ∈ cs, badVitArm c = false ∧ s.powered (viDom c) = true ∧ s.viSourceOk c = true ∧
        (viMaskEn c = true → s.powered (bankDom (fieldOf Fld.vitrine.maskBank c)) = true)) →
      (∀ v ∈ vs, (s.viState v = 0 ∨ s.viState v = 4 ∧ s.flag Fld.vitrine.delivered v = true) ∧
        (s.ring (ringOf v)).owner ≠ 0 ∧ (s.ring (ringOf v)).en = true ∧
        ∀ w, w < 8 → w ≠ v → (s.viState w ≠ 0 ∨ bit m.toNat w = true) → ringOf w ≠ ringOf v) →
      (ta < s.armEarliest cs → exec i s = .next (s.answered a i h (Reply.fail .tooLate))) ∧
      (s.armEarliest cs ≤ ta →
        exec i s = .next (s.answered (vs.foldl (fun u v => u.armVitrine v ta) a) i h (Reply.ok64 ta))))) ∧
  (∀ (v ta : Nat) (s : State), swf (fun _ => ViRun.none) s.vi.run = true → viMaskEn (s.obj 0x0C v) = true →
    let c := s.obj 0x0C v
    let word := fun j =>
      let k := 65536 * fieldOf Fld.vitrine.maskBank c + fieldOf Fld.vitrine.maskAddr c + j
      if wordAt s.arc.wordErr k = 2 then 0 else wordAt s.arc.words k
    ((s.armVitrine v ta).viRun v).mask = (List.range (viMaskLen c)).map word ∧ ((s.armVitrine v ta).viRun v).cfg = c ∧
      s.tick + 1000 + (viMaskLen c + 63) / 64 ≤ s.armEarliest [c]) ∧
  ((∀ (h : Hdr) (m : BitVec 8) (s : State), Admitted (.vitTrigger h m) h s →
     let i := Instr.vitTrigger h m
     let a := s.accepted i h
     let r := (setPositions m.toNat 8).foldl
       (fun (x : Nat × State) v =>
         let t := x.2.viTrigger v s.tick 0 5
         (if t.1 then x.1 ||| (1 <<< v) else x.1, t.2)) (0, a)
     (s.powered domVIT = false → exec i s = .next (s.answered a i h (Reply.fail .absent))) ∧
     (s.powered domVIT = true → exec i s = .next (s.answered r.2 i h (Reply.ok1 r.1)))) ∧
   (∀ (h : Hdr) (v : Fin 8) (s : State), Admitted (.vitTrigger h (1 <<< v.val)) h s → s.powered domVIT = true →
     let i := Instr.vitTrigger h (1 <<< v.val)
     let a := s.accepted i h
     (s.viState v.val = 1 → viTakes (s.viRun v.val) s.tick = true →
       let b := a.setViRun v.val { s.viRun v.val with before := s.obj 0x0C v.val, byEvt := false, unsettled := true }
       exec i s = .next (s.answered ((b.setF Fld.vitrine.state v.val 2).viGeometry v.val s.tick 0 5) i h
         (Reply.ok1 (1 <<< v.val)))) ∧
     (s.viState v.val = 2 → (s.viRun v.val).trig = s.tick →
       exec i s = .next (s.answered ((a.setViRun v.val (s.viRun v.val)).setF Fld.vitrine.trigCause v.val
         (s.getF Fld.vitrine.trigCause v.val ||| 32)) i h (Reply.ok1 (1 <<< v.val)))) ∧
     ((s.viState v.val = 1 ∧ viTakes (s.viRun v.val) s.tick = false) ∨ (s.viState v.val = 2 ∧ (s.viRun v.val).trig ≠ s.tick) ∨
         (s.viState v.val ≠ 1 ∧ s.viState v.val ≠ 2) →
       exec i s = .next (s.answered (a.viIgnored v.val s.tick) i h (Reply.ok1 0))))) ∧
  (∀ (h : Hdr) (m : BitVec 8) (s : State), Admitted (.vitAbort h m) h s → s.powered domVIT = true →
    exec (.vitAbort h m) s = .next (s.answered ((setPositions m.toNat 8).foldl State.viAbort (s.accepted (.vitAbort h m) h))
      (.vitAbort h m) h Reply.ok))

/-- SURVEY_START arms its streams for its tick when every one is idle, its source and destination are there and the data rate
fits, and is BUSY when the rate does not; SURVEY_STOP of streams that are all idle completes at once, and of one stream with a
tick to come sets its stop and waits (R234, R235). APP_START of an idle or finished appraiser clears it and arms it for its
tick, or for its event; APP_STOP of an armed or running one without a bound sets the bound and waits, and completes at once
when there is no run, and ends a run at once whose start tick its own tick is; APP_READ returns the record of a run that is DONE, and
keeps it (R252, R255, R257, R258). That SURVEY_START clears HALT_REASON is the model's choice (log 96). -/
def Obligations.SurveyAndAppraiserCommands : Prop :=
  ((∀ (h : Hdr) (m v : BitVec 64) (s : State), Admitted (.surveyStart h m v) h s →
     let a := s.accepted (.surveyStart h m v) h
     let ns := setPositions m.toNat 64
     let cfg := fun n => s.obj 0x0A n
     let busy := (List.range 64).filter (fun n => decide (s.svState n ≠ 0) || bit m.toNat n)
     let r := rateSum (busy.map cfg)
     (m.toNat = 0 → exec (.surveyStart h m v) s = .next (s.answered a (.surveyStart h m v) h (Reply.fail .badParam))) ∧
     (m.toNat ≠ 0 → s.powered domVIT = true → ns.any (fun n => !s.powered (domAT (svInput (cfg n) / 4))) = false →
       ns.any (fun n => decide (s.svState n ≠ 0)) = false →
       ns.any (fun n => !(s.inputState (svInput (cfg n)) = 3 || s.inputState (svInput (cfg n)) = 4)) = false →
       ns.any (fun n => !s.svDestOk (cfg n)) = false →
       (256 * 2 ^ 32 * r.2 < 1000 * r.1 →
         exec (.surveyStart h m v) s = .next (s.answered a (.surveyStart h m v) h (Reply.fail .busy))) ∧
       (∀ t, 1000 * r.1 ≤ 256 * 2 ^ 32 * r.2 → s.tickParam v.toNat = some t →
         exec (.surveyStart h m v) s = .next (s.answered
           (ns.foldl (fun u n => (((u.setF Fld.survey.state n 1).setF Fld.survey.startTick n t).setF
             Fld.survey.stopTick n 0).setF Fld.survey.haltReason n 0) a) (.surveyStart h m v) h (Reply.ok64 t))))) ∧
   (∀ (h : Hdr) (m v : BitVec 64) (s : State), Admitted (.surveyStop h m v) h s → s.powered domVIT = true →
     let a := s.accepted (.surveyStop h m v) h
     let ns := (setPositions m.toNat 64).filter (fun n => decide (s.svState n ≠ 0))
     (ns = [] → exec (.surveyStop h m v) s = .next (s.answered a (.surveyStop h m v) h (Reply.ok64 0))) ∧
     (∀ n, ns = [n] → (sget (fun _ => (0, 0)) s.sv.stop n).1 = 0 → s.tick < v.toNat →
       let b := a.setCmd s.cmd.nextId (maskOf [n]) 0
       exec (.surveyStop h m v) s = .next
         { b with sv := { b.sv with stop := sset (fun _ => (0, 0)) s.sv.stop n (v.toNat + 1, s.cmd.nextId + 1) } }))) ∧
  ((∀ (h : Hdr) (p : BitVec 8) (x y : BitVec 64) (s : State), Admitted (.appStart h p x y) h s →
     badAppStart p.toNat (s.obj 0x0B p.toNat) = false → s.powered (domAT p.toNat) = true →
     let a := s.accepted (.appStart h p x y) h
     let c := s.obj 0x0B p.toNat
     (s.apState p.toNat = 4 → exec (.appStart h p x y) s = .next (s.answered a (.appStart h p x y) h (Reply.fail .busy))) ∧
     (s.apState p.toNat = 1 ∨ s.apState p.toNat = 2 →
       exec (.appStart h p x y) s = .next (s.answered a (.appStart h p x y) h (Reply.fail .state))) ∧
     (s.apState p.toNat = 0 ∨ s.apState p.toNat = 3 →
       (fieldOf Fld.appraiser.trigEn c = 1 → exec (.appStart h p x y) s = .next
         ((a.apClear p.toNat y.toNat).setF Fld.appraiser.state p.toNat 1)) ∧
       (∀ t, fieldOf Fld.appraiser.trigEn c ≠ 1 → s.tickParam x.toNat = some t → exec (.appStart h p x y) s = .next
         (((a.apClear p.toNat y.toNat).setF Fld.appraiser.state p.toNat 1).setF Fld.appraiser.startTick p.toNat t)))) ∧
   (∀ (h : Hdr) (p : BitVec 8) (y : BitVec 64) (s : State), Admitted (.appStop h p y) h s → p.toNat ≤ 7 →
     s.powered (domAT p.toNat) = true →
     let a := s.accepted (.appStop h p y) h
     (s.apState p.toNat ≠ 1 → s.apState p.toNat ≠ 2 →
       exec (.appStop h p y) s = .next (s.answered a (.appStop h p y) h Reply.ok)) ∧
     (s.apState p.toNat = 1 ∨ s.apState p.toNat = 2 → (s.apRun p.toNat).bound = none →
       let t := (a.setF Fld.appraiser.stopTick p.toNat (max y.toNat s.tick)).setApRun p.toNat
         { s.apRun p.toNat with bound := some (max y.toNat s.tick), reason := 3 }
       (s.apState p.toNat = 1 ∨ s.getF Fld.appraiser.startTick p.toNat ≠ max y.toNat s.tick →
         exec (.appStop h p y) s = .next t) ∧
       (s.apState p.toNat = 2 → s.getF Fld.appraiser.startTick p.toNat = max y.toNat s.tick →
         exec (.appStop h p y) s = .next (t.apFinish p.toNat)))) ∧
   (∀ (h : Hdr) (p : BitVec 8) (s : State), Admitted (.appRead h p) h s → p.toNat ≤ 7 → s.powered (domAT p.toNat) = true →
     let a := s.accepted (.appRead h p) h
     (s.apState p.toNat ≠ 3 → exec (.appRead h p) s = .next (s.answered a (.appRead h p) h (Reply.fail .state))) ∧
     (s.apState p.toNat = 3 → apLength (s.apRun p.toNat).cfg ≤ h.extlen.toNat →
       let q := a.nextSeq (73 + p.toNat)
       s.dataFits h (q.2.apRecord p.toNat q.1).length = true →
       exec (.appRead h p) s = .next (s.answered (q.2.count 0x0A p.toNat 6) (.appRead h p) h
         { Reply.ok1 (apLength (s.apRun p.toNat).cfg) with data := q.2.apRecord p.toNat q.1 }))))

/-- The foreground calibrations take units that are there and free (outputs: all muted here), move inputs and banks to CAL,
and wait for their end: an output calibration a free time within 5 ms, an input calibration 150,000 ticks, a bias calibration
1,000,000; units that are busy refuse them (R472 to R475). CAL_SYS_ZERO and CAL_SYS_FULL need a RUNNING input and a free
appraiser, which they take to CAL; a full measurement also a level and a tone in range, checked first, and a pending zero at the
present setting; CAL_SYS_STORE writes the corrections of its inputs (R480, R481, R483). -/
def Obligations.CalibrationCommands : Prop :=
  ((∀ (h : Hdr) (m : BitVec 96) (s : State), Admitted (.calOutput h m) h s →
     let a := s.accepted (.calOutput h m) h
     let os := setPositions m.toNat 96
     os.any (fun o => !s.powered (domDT (dtOfOutput o))) = false →
     (os.any (fun o => s.outputInCal o || s.flag Fld.output.fscBusy o) = true →
       exec (.calOutput h m) s = .next (s.answered a (.calOutput h m) h (Reply.fail .busy))) ∧
     (os.any (fun o => s.outputInCal o || s.flag Fld.output.fscBusy o) = false →
       os.any (fun o => decide (s.getF Fld.output.state o = 2 ∨ s.getF Fld.output.state o = 3)) = false →
       exec (.calOutput h m) s = .next ((a.draw.2).addJob 0 m.toNat (s.tick + 1 + Config.delay s.free % 5000000)
         s.cmd.nextId 0 0))) ∧
   (∀ (h : Hdr) (m : BitVec 32) (s : State), Admitted (.calInput h m) h s →
     let a := s.accepted (.calInput h m) h
     let is := setPositions m.toNat 32
     is.any (fun i => !s.powered (domAT (atOfInput i))) = false →
     (is.any (fun i => decide (s.inputState i ≠ 3) || s.inputInJob [1, 3, 4] i) = true →
       exec (.calInput h m) s = .next (s.answered a (.calInput h m) h (Reply.fail .busy))) ∧
     (is.any (fun i => decide (s.inputState i ≠ 3) || s.inputInJob [1, 3, 4] i) = false →
       exec (.calInput h m) s = .next
         ((is.foldl State.enterInputCal a).addJob 1 m.toNat (s.tick + 150000) s.cmd.nextId 0 0))) ∧
   (∀ (h : Hdr) (b : BitVec 8) (s : State), Admitted (.calBias h b) h s → b.toNat < 16 →
     let a := s.accepted (.calBias h b) h
     let ks := setPositions b.toNat 4
     ks.any (fun k => !s.powered (domBB k)) = false →
     (ks.any (fun k => decide (s.bankState k ≠ 3)) = true →
       exec (.calBias h b) s = .next (s.answered a (.calBias h b) h (Reply.fail .state))) ∧
     (ks.any (fun k => decide (s.bankState k ≠ 3)) = false →
       exec (.calBias h b) s = .next ((ks.foldl (fun t k => t.setF Fld.biasbank.state k 5) a).addJob 2 b.toNat
         (s.tick + 1000000) s.cmd.nextId 0 0)))) ∧
  ((∀ (h : Hdr) (i : BitVec 8) (s : State), Admitted (.calSysZero h i) h s → i.toNat ≤ 31 →
     let a := s.accepted (.calSysZero h i) h
     (∀ st, s.sysRefused i.toNat = some st →
       exec (.calSysZero h i) s = .next (s.answered a (.calSysZero h i) h (Reply.fail st))) ∧
     (s.sysRefused i.toNat = none →
       exec (.calSysZero h i) s = .next (a.startSystem 3 i.toNat s.cmd.nextId 0 0))) ∧
   (∀ (h : Hdr) (i : BitVec 8) (p : BitVec 16) (f : BitVec 48) (s : State), Admitted (.calSysFull h i p f) h s →
     i.toNat ≤ 31 →
     let a := s.accepted (.calSysFull h i p f) h
     let l := s.expectedLevel i.toNat p.toNat
     (l < -2000 ∨ -100 < l ∨ s.toneFar i.toNat f.toNat = true →
       exec (.calSysFull h i p f) s = .next (s.answered a (.calSysFull h i p f) h (Reply.fail .badParam))) ∧
     (-2000 ≤ l → l ≤ -100 → s.toneFar i.toNat f.toNat = false →
       (∀ st, s.sysRefused i.toNat = some st →
         exec (.calSysFull h i p f) s = .next (s.answered a (.calSysFull h i p f) h (Reply.fail st)))) ∧
     (-2000 ≤ l → l ≤ -100 → s.toneFar i.toNat f.toNat = false → s.sysRefused i.toNat = none →
       (s.zeroFor i.toNat = false →
         exec (.calSysFull h i p f) s = .next (s.answered a (.calSysFull h i p f) h (Reply.fail .state))) ∧
       (s.zeroFor i.toNat = true →
         exec (.calSysFull h i p f) s = .next (a.startSystem 4 i.toNat s.cmd.nextId l f.toNat)))) ∧
   (∀ (h : Hdr) (m : BitVec 32) (s : State), Admitted (.calSysStore h m) h s →
     let a := s.accepted (.calSysStore h m) h
     let is := (setPositions m.toNat 32).filter (fun i => s.corrRecords i ≠ [])
     (s.flag Fld.thermal.nvInhibit 0 = true →
       exec (.calSysStore h m) s = .next (s.answered a (.calSysStore h m) h (Reply.fail .supplyLow))) ∧
     (s.flag Fld.thermal.nvInhibit 0 = false → s.nvBusy = false →
       exec (.calSysStore h m) s = .next (a.work s.cmd.nextId (2000000 + 200000 * (is.flatMap s.corrRecords).length) true
         (is.flatMap s.corrRecords) (Reply.ok1 (maskOf is))).1)))

/-- LDG_SNAP without peers schedules a snapshot when none is held or pending; LDG_READ returns the record of its units from a
held one; LDG_STATUS tells a free and a held ledger (R372, R373). A snapshot that is due takes to the shadows what the units
supply, a unit whose domain is off its mirrored values, and is held with the next number; the mirrors follow once 1,000 ticks are
over; an event at EVT253 is decided at the end of its tick: it schedules a snapshot 1,000 ticks ahead when the ledger is then
free, and else is busy (R364, R365, R369). -/
def Obligations.LedgerCommandsAndSnapshots : Prop :=
  ((∀ (h : Hdr) (v : BitVec 64) (s : State), Admitted (.ldgSnap h v false) h s →
     let a := s.accepted (.ldgSnap h v false) h
     (s.ldg.st = 2 → exec (.ldgSnap h v false) s = .next (s.answered (a.count 0x18 0 1) (.ldgSnap h v false) h
       (Reply.fail .ledgerHeld))) ∧
     (s.ldg.st = 1 → exec (.ldgSnap h v false) s = .next (s.answered a (.ldgSnap h v false) h (Reply.fail .busy))) ∧
     (∀ t, s.ldg.st = 0 → s.tickParam v.toNat = some t → exec (.ldgSnap h v false) s = .next
       { a with ldg := { a.ldg with
           st := 1, tick := t, origin := 0, originNum := 0, sentTo := 0, waiting := s.ldg.waiting ++ [(t + 8, s.cmd.nextId, 0, 0)] } })) ∧
   (∀ (h : Hdr) (c : BitVec 8) (f n : BitVec 16) (s : State), Admitted (.ldgRead h c f n) h s →
     let a := s.accepted (.ldgRead h c f n) h
     let u := unitInstances c.toNat
     (u.2 = 0 ∨ n.toNat = 0 ∨ f.toNat < u.1 ∨ u.1 + u.2 < f.toNat + n.toNat →
       exec (.ldgRead h c f n) s = .next (s.answered a (.ldgRead h c f n) h (Reply.fail .badParam))) ∧
     (u.2 ≠ 0 → 1 ≤ n.toNat → u.1 ≤ f.toNat → f.toNat + n.toNat ≤ u.1 + u.2 → recordLength c.toNat n.toNat ≤ h.extlen.toNat →
       (s.ldg.st ≠ 2 → exec (.ldgRead h c f n) s = .next (s.answered a (.ldgRead h c f n) h (Reply.fail .state))) ∧
       (s.ldg.st = 2 →
         let q := a.nextSeq 81
         let r := q.2.ledgerRecord c.toNat f.toNat n.toNat q.1
         s.dataFits h r.length = true →
         exec (.ldgRead h c f n) s = .next (s.answered q.2 (.ldgRead h c f n) h
           { Reply.ok2 r.length (s.ldg.num % 2 ^ 32) with data := r })))) ∧
   (∀ (h : Hdr) (s : State), Admitted (.ldgStatus h) h s →
     let a := s.accepted (.ldgStatus h) h
     (s.ldg.st = 0 → exec (.ldgStatus h) s = .next (s.answered a (.ldgStatus h) h (Reply.ok4 0 0 0 0))) ∧
     (s.ldg.st = 2 → exec (.ldgStatus h) s = .next (s.answered a (.ldgStatus h) h
       (Reply.ok4 2 (s.ldg.num % 2 ^ 32) (bits s.ldg.tick 0 32) (bits s.ldg.tick 32 32)))))) ∧
  (∀ (s : State),
     (s.ldg.st = 1 → s.ldg.tick ≤ s.tick → ∃ t, exec .ledgerSnapshot s = .next t ∧ t.ldg.st = 2 ∧
       t.ldg.num = (s.ldg.num + 1) % 2 ^ 64 ∧ t.ldg.shadow = s.supplied ∧ t.ldg.shadowOn = s.pw.on ∧
       t.objs = s.objs ∧ t.cmd = s.cmd) ∧
     (s.ldg.st ≠ 1 ∨ s.tick < s.ldg.tick → exec .ledgerSnapshot s = .next s) ∧
     (s.ldg.mirrorAt + 1000 ≤ s.tick → exec .ledgerMirror s =
       .next { s with ldg := { s.ldg with mirror := s.supplied, mirrorAt := s.tick } }) ∧
     (s.tick < s.ldg.mirrorAt + 1000 → exec .ledgerMirror s = .next s) ∧
     exec .evtLedgerSnapshot s = .next { s with ldg := { s.ldg with events := s.ldg.events + 1 } } ∧
     (s.ldg.events = 1 → s.ldg.st = 0 → s.ledgerTickEnd = ({ s with ldg := { s.ldg with
       st := 1, tick := s.tick + 1000, origin := 0, originNum := 0, sentTo := 0, events := 0 } }).count 0x12 253 0) ∧
     (s.ldg.events = 1 → s.ldg.st ≠ 0 → s.ledgerTickEnd = ({ s with ldg := { s.ldg with events := 0 } }).busyDrop 253))

/-- LDG_RELEASE takes a HELD ledger to FREE and completes with OK; in any other state it completes with OK and changes
nothing, so a pending snapshot stays. A release and an EVT253 arrival at one tick apply in that order, in whichever order they
come: the event, decided at the end of the tick, schedules a new snapshot (R374). -/
def Obligations.LedgerReleaseFreesAHeldLedger : Prop :=
  (∀ (h : Hdr) (s : State), Admitted (.ldgRelease h) h s →
    let a := s.accepted (.ldgRelease h) h
    (s.ldg.st ≠ 2 → exec (.ldgRelease h) s = .next (s.answered a (.ldgRelease h) h (Reply.ok1 0))) ∧
    (s.ldg.st = 2 → exec (.ldgRelease h) s = .next (s.answered
      { a with ldg := { a.ldg with st := 0, shadow := [], shadowEnv := [] } } (.ldgRelease h) h
      (Reply.ok1 (s.ldg.num % 2 ^ 32))))) ∧
  (∀ (h : Hdr) (s : State), Admitted (.ldgRelease h) h s → s.ldg.st = 2 →
    (∀ u t, s.ldg.events = 0 → exec (.ldgRelease h) s = .next u → exec .evtLedgerSnapshot u = .next t →
      t.ledgerTickEnd.ldg.st = 1 ∧ t.ledgerTickEnd.ldg.tick = s.tick + 1000) ∧
    (∀ u t, s.ldg.events = 0 → exec .evtLedgerSnapshot s = .next u → exec (.ldgRelease h) u = .next t →
      t.ledgerTickEnd.ldg.st = 1 ∧ t.ledgerTickEnd.ldg.tick = s.tick + 1000))

/-- CP_LINK of one port takes it from DOWN into training and waits, with a bound of 50 ms of its own, leaves a port that is UP there, takes it down, or is
ABSENT with the port's domain off (R434, R440). -/
def Obligations.CourierLinkCommandMovesItsPort : Prop :=
  ∀ (h : Hdr) (p : Fin 4) (up : Bool) (s : State),
    let i := Instr.cpLink h (1 <<< p.val) (if up then 1 <<< p.val else 0)
    Admitted i h s →
    let a := s.accepted i h
    (s.powered (domCP p.val) = false → exec i s = .next (s.answered a i h (Reply.fail .absent))) ∧
    (s.powered (domCP p.val) = true → up = true → s.linkState p.val = 3 →
      let b := a.setCpRt p.val { s.cpRt p.val with want := true }
      exec i s = .next (s.answered b i h (Reply.ok1 b.upMask))) ∧
    (s.powered (domCP p.val) = true → up = true → s.linkState p.val = 0 → s.Canonical →
      exec i s = .next ((a.startTraining p.val).setCmd s.cmd.nextId (1 <<< p.val) (s.tick + 50000000))) ∧
    (s.powered (domCP p.val) = true → up = false →
      let b := a.linkOff p.val
      let c := b.setCpRt p.val { b.cpRt p.val with want := false }
      exec i s = .next (s.answered c i h (Reply.ok1 c.upMask)))

/-- The secure commands: SEC_POLICY and SEC_KEY_LOAD with a good key work for at most 2 ms on the strongroom, unless writing
is inhibited or it is busy; SEC_FW_UPDATE with an image that passes its checks erases the other slot's descriptor and works on
that slot within 60 s, and one with a bad image is refused; SEC_DEBUG_UNLOCK consumes the nonce and opens the debug unit
exactly when the signature verifies (R497, R499, R524). -/
def Obligations.SecureCommandsKeepTheirRules : Prop :=
  (∀ (h : Hdr) (p : Bool) (s : State), Admitted (.secPolicy h p) h s →
    let a := s.accepted (.secPolicy h p) h
    (s.flag Fld.thermal.nvInhibit 0 = true →
      exec (.secPolicy h p) s = .next (s.answered a (.secPolicy h p) h (Reply.fail .supplyLow))) ∧
    (s.flag Fld.thermal.nvInhibit 0 = false → s.nvBusy = true →
      exec (.secPolicy h p) s = .next (s.answered a (.secPolicy h p) h (Reply.fail .busy))) ∧
    (s.flag Fld.thermal.nvInhibit 0 = false → s.nvBusy = false →
      exec (.secPolicy h p) s =
        .next (a.work s.cmd.nextId 2000000 true [(0, b2n p)] (Reply.ok1 (b2n s.policy))).1)) ∧
  (∀ (h : Hdr) (n : BitVec 8) (s : State), Admitted (.secKeyLoad h n) h s →
    let a := s.accepted (.secKeyLoad h n) h
    let x := beNat (sub h.ext 0 32)
    let y := beNat (sub h.ext 32 32)
    (3 < n.toNat ∨ h.extlen.toNat ≠ 64 ∨ pP ≤ x ∨ pP ≤ y ∨ onP256 x y = false →
      exec (.secKeyLoad h n) s = .next (s.answered a (.secKeyLoad h n) h (Reply.fail .badParam))) ∧
    (n.toNat ≤ 3 → h.extlen.toNat = 64 → x < pP → y < pP → onP256 x y = true →
      s.flag Fld.thermal.nvInhibit 0 = false → s.nvBusy = false →
      exec (.secKeyLoad h n) s =
        .next (a.work s.cmd.nextId 2000000 true [(n.toNat, x), (n.toNat, y)] Reply.ok).1)) ∧
  (∀ (h : Hdr) (s : State), Admitted (.secFwUpdate h) h s →
    let a := s.accepted (.secFwUpdate h) h
    (s.imageCode h.ext ≠ 1 →
      exec (.secFwUpdate h) s = .next (s.answered a (.secFwUpdate h) h (Reply.fail .signature))) ∧
    (s.imageCode h.ext = 1 → s.flag Fld.thermal.nvInhibit 0 = false → a.nvBusy = false → a.updating = false →
      exec (.secFwUpdate h) s = .next ((a.setSlot s.updateSlot.1 Slot.erased).work s.cmd.nextId 60000000000 false [s.updateSlot]
        (Reply.ok1 h.ext.length)).1)) ∧
  (∀ (h : Hdr) (s : State), Admitted (.secDebugUnlock h) h s → h.extlen.toNat = 64 →
    let a := s.accepted (.secDebugUnlock h) h
    let ok := ecdsaVerify (beNat (sha256 (s.nonceBytes ++ s.bt.uid))) (beNat (sub h.ext 0 32)) (beNat (sub h.ext 32 32))
      s.bt.dbgKey.1 s.bt.dbgKey.2
    (s.bt.lifecycle = 1 ∨ s.bt.debugOpen = true →
      exec (.secDebugUnlock h) s = .next (s.answered a (.secDebugUnlock h) h (Reply.fail .state))) ∧
    (s.bt.lifecycle ≠ 1 → s.bt.debugOpen = false →
      exec (.secDebugUnlock h) s = .next (s.answered
        { a with free := s.free + 1, bt := { a.bt with nonce := s.free, debugOpen := ok } } (.secDebugUnlock h) h
        (if ok then Reply.ok else Reply.fail .signature))))

/-! ### Curators, readout and observers: their events -/

/-- CURATOR_START makes an armed curator run from its ENTRY word. No word starts at a halt that is due. Else a word that starts
faults by the first check that fails, in the order address, uncorrectable ECC, illegal fields, membership of its barrier; a
correctable error is counted and the word goes on; a curator asked to stop at a shot halts at a SHOT word; any other legal word
is counted, takes its actions, and decides its first cycle or arrives at its barrier (R111 to R116, R133, R135, R150). A wait
that its HOLD ends goes on to NEXT with WAIT_TIMEOUT; a barrier releases its waiting members that do not halt to NEXT; one that
times out goes to ALT with BARRIER_TIMEOUT; a halt happens at its tick, a CUR_STOP's own request for a shot aside (R126, R131,
R132, R136, R137). That a word that faults still counts as started, that a barrier's and a wait's exits and the order of two
halts are as stated, COMMAND standing for both at one tick, is the model's choice (logs 26, 27, 87, 88).
An event at a curator sets its flag, or is dropped as busy while it is set, or
as absent with the cluster off; one at an appraiser starts a run that is armed for it, and is else dropped (R127, R255, R339,
R345). That a curator's event is busy where its clock is gated is the model's choice (log 128). -/
def Obligations.CuratorEvents : Prop :=
  ((∀ (c : Fin 128) (s : State), s.curState c.val = 2 → s.getF Fld.curator.startTick c.val ≤ s.tick →
     exec (.curatorStart c) s =
       .next ((s.setF Fld.curator.state c.val 3).goTo c.val (s.getF Fld.curator.entry c.val) s.tick)) ∧
   (∀ (c : Fin 128) (t : Nat) (s : State), s.curState c.val = 3 → (s.curRt c.val).nextAt = some t → t ≤ s.tick →
     let a := (s.curRt c.val).nextPc
     let w := s.storeWord c.val a
     let q := if s.storeErrAt c.val a = 1 then (s.raise Fld.curator.storeEccCorr c.val).count 0x05 c.val 7 else s
     let p := (q.setF Fld.curator.pc c.val a).count 0x05 c.val 0
     let atStop := ((s.curRt c.val).atShot || (s.curRt c.val).thermalShot) && wShot w
     let go := fun (waiting : Nat) => ((p.setCurRt c.val { p.curRt c.val with
       inWord := true, t0 := s.tick, word := w, nextAt := none, staleSeen := false }).setF Fld.curator.waiting c.val
         waiting).wordActions c.val w
     (s.haltDue c.val = true → exec (.wordStart c) s = .next s) ∧
     (s.haltDue c.val = false → s.wordCount c.val ≤ a →
       exec (.wordStart c) s = .next (s.faultCurator c.val 2 (s.getF Fld.curator.pc c.val))) ∧
     (s.haltDue c.val = false → a < s.wordCount c.val →
       (s.storeErrAt c.val a = 2 → exec (.wordStart c) s = .next (p.faultCurator c.val 3 a)) ∧
       (s.storeErrAt c.val a ≠ 2 → illegalWord w = true → exec (.wordStart c) s = .next (p.faultCurator c.val 1 a)) ∧
       (s.storeErrAt c.val a ≠ 2 → illegalWord w = false → atStop = true →
         exec (.wordStart c) s = .next (q.haltCurator c.val 3 s.tick)) ∧
       (s.storeErrAt c.val a ≠ 2 → illegalWord w = false → atStop = false → wSync w ≠ 0 →
         bit (s.barrierMask (wSync w)) c.val = false → exec (.wordStart c) s = .next (p.faultCurator c.val 4 a)) ∧
       (s.storeErrAt c.val a ≠ 2 → illegalWord w = false → atStop = false → wSync w ≠ 0 →
         bit (s.barrierMask (wSync w)) c.val = true →
         exec (.wordStart c) s = .next ((go 1).barrierArrive c.val (wSync w))) ∧
       (s.storeErrAt c.val a ≠ 2 → illegalWord w = false → atStop = false → wSync w = 0 →
         exec (.wordStart c) s = .next ((go (if isWait (wCond w) then 1 else 0)).decideCycle c.val s.tick))))) ∧
  ((∀ (c : Fin 128) (s : State), (s.curRt c.val).inWord = true → isWait (wCond (s.curRt c.val).word) = true →
     (s.curRt c.val).nextAt = none → wordEnd (s.curRt c.val).t0 (s.curRt c.val).word ≤ s.tick →
     s.haltDue c.val = false →
     exec (.waitTimeout c) s = .next (((s.raise Fld.curator.waitTimeout c.val).count 0x05 c.val 2).goTo c.val
       (wNext (s.curRt c.val).word) (wordEnd (s.curRt c.val).t0 (s.curRt c.val).word))) ∧
   (∀ (b : Fin 16) (s : State), s.barrierRel b.val ≠ 0 → s.barrierRel b.val ≤ s.tick →
     exec (.barrierRelease b) s = .next ((setPositions (s.barrierMask b.val) 128).foldl
       (fun u m => if u.getF Fld.curator.syncWait m = b.val ∧ b.val ≠ 0 ∧ s.haltDue m = false then
           (u.setF Fld.curator.syncWait m 0).goTo m (wNext (u.curRt m).word) (s.barrierRel b.val)
         else u) { s with cur := { s.cur with barRel := sset (fun _ => 0) s.cur.barRel b.val 0 } })) ∧
   (∀ (c : Fin 128) (s : State), (s.curRt c.val).inWord = true → s.getF Fld.curator.syncWait c.val ≠ 0 →
     wordEnd (s.curRt c.val).t0 (s.curRt c.val).word ≤ s.tick → s.haltDue c.val = false →
     (s.barrierRel (s.getF Fld.curator.syncWait c.val) = 0 ∨ s.tick < s.barrierRel (s.getF Fld.curator.syncWait c.val)) →
     exec (.barrierTimeout c) s = .next ((((s.setF Fld.curator.syncWait c.val 0).raise Fld.curator.barrierTimeout c.val).count
       0x05 c.val 3).goTo c.val (wAlt (s.curRt c.val).word) (wordEnd (s.curRt c.val).t0 (s.curRt c.val).word))) ∧
   (∀ (c : Fin 128) (s : State), s.curActive c.val = true →
     let r := s.curRt c.val
     let shot := r.atShot && s.shotStarts c.val
     (∀ t k, r.haltAt = some (t, k) → t ≤ s.tick → r.stopAt = none ∨ shot = true →
       exec (.curatorHalt c) s = .next (s.haltCurator c.val k t)) ∧
     (∀ t, r.haltAt = none → r.stopAt = some t → t ≤ s.tick → shot = false →
       exec (.curatorHalt c) s = .next (s.haltCurator c.val 2 t)) ∧
     (∀ t k u, r.haltAt = some (t, k) → t ≤ s.tick → r.stopAt = some u → u ≤ s.tick → shot = false →
       exec (.curatorHalt c) s = .next (if u ≤ t then s.haltCurator c.val 2 u else s.haltCurator c.val k t)) ∧
     (r.haltAt = none → shot = true → exec (.curatorHalt c) s = .next s))) ∧
  ((∀ (c : Fin 128) (s : State),
     (s.powered (domCC (c.val / 16)) = false → exec (.evtCuratorFlag c) s = .next (s.absentDrop c.val)) ∧
     (s.powered (domCC (c.val / 16)) = true →
       s.flag Fld.curator.evtFlag c.val = true ∨ s.powerState ≠ 0 ∨ s.pw.tripGated = true →
       exec (.evtCuratorFlag c) s = .next (s.busyDrop c.val)) ∧
     (s.powered (domCC (c.val / 16)) = true → s.flag Fld.curator.evtFlag c.val = false → s.powerState = 0 →
       s.pw.tripGated = false →
       exec (.evtCuratorFlag c) s = .next (((s.setF Fld.curator.evtFlag c.val 1).setCurRt c.val
         { s.curRt c.val with flagTick := s.tick }).count 0x12 c.val 0))) ∧
   (∀ (n : Fin 8) (s : State),
     (s.powered (domAT n.val) = false → exec (.evtAppraiserStart n) s = .next (s.absentDrop (136 + n.val))) ∧
     (s.powered (domAT n.val) = true → s.apState n.val ≠ 1 ∨ apTrig s n.val = false →
       exec (.evtAppraiserStart n) s = .next (s.busyDrop (136 + n.val))) ∧
     (s.powered (domAT n.val) = true → s.apState n.val = 1 → apTrig s n.val = true → (s.apRun n.val).bound = none →
       exec (.evtAppraiserStart n) s = .next ((((s.setF Fld.appraiser.startTick n.val s.tick).setF Fld.appraiser.state n.val
         2).count 0x0A n.val 0).count 0x12 (136 + n.val) 0))))

/-- The end of STARTING takes an input to RUNNING; an over-range sample sets ADC_OVR and, the first time, its tick (R160, R165).
A window's sums, shifted, rounded and saturated to 32 bits, are its point; a guard overflow or a component that saturates here
marks it OVF; a held window takes the last point's value as STALE; a member of the demixer waits for its stage and leaves
LAST_I and LAST_Q to it (R177, R178, R179, R183, R187). A demixed point is the sum over its set of coefficient times point,
shifted by 16, rounded and saturated, OVF from itself, from this stage or from a point it took, and marked DEMIX where it took
another's (R180, R181, R189). That ADC_OVR sets in every state but OFF, at the ball tick, and what the list of over-range
samples holds, is the model's choice (logs 92, 93). -/
def Obligations.InputsStartAndWindowsFormPoints : Prop :=
  (∀ (i : Fin 32) (s : State), sget (fun _ => 0) s.rd.startEnd i.val ≠ 0 →
    sget (fun _ => 0) s.rd.startEnd i.val ≤ s.tick → s.inputState i.val = 2 →
    exec (.startingEnd i) s = .next { s.setF Fld.input.state i.val 3 with
      rd := { s.rd with startEnd := sset (fun _ => 0) s.rd.startEnd i.val 0 } }) ∧
  (∀ (i : Fin 32) (s : State),
    (s.powered (domAT (i.val / 4)) = false ∨ s.inputState i.val = 1 → exec (.adcOvr i) s = .next s) ∧
    (s.powered (domAT (i.val / 4)) = true → s.inputState i.val ≠ 1 → s.flag Fld.input.adcOvr i.val = false →
      exec (.adcOvr i) s = .next (
        let t := ((s.setF Fld.input.ovrTick i.val s.tick).raise Fld.input.adcOvr i.val).count 0x07 i.val 0
        { t with rd := { s.rd with overs := (i.val, s.tick) :: s.rd.overs } })) ∧
    (s.powered (domAT (i.val / 4)) = true → s.inputState i.val ≠ 1 → s.flag Fld.input.adcOvr i.val = true →
      exec (.adcOvr i) s = .next (
        let t := (s.raise Fld.input.adcOvr i.val).count 0x07 i.val 0
        { t with rd := { s.rd with overs := (i.val, s.tick) :: s.rd.overs } }))) ∧
  (∀ (c : Fin 512) (w : Win) (s : State), s.pointDue c.val = some w →
    let a := rshift w.acc.i w.oshift
    let b := rshift w.acc.q w.oshift
    let out := (saturates 32 a && !w.gsatI) || (saturates 32 b && !w.gsatQ)
    let ovf := w.gsatI || w.gsatQ || out
    let member := decide (s.getL Fld.demix.demixEn (c.val / 16) = 1) && bit (s.getL Fld.demix.member (c.val / 16)) (c.val % 16)
    let p := fun (z : Iq) (o held : Bool) =>
      (⟨c.val, z, o, held, w.e + (if member then 46 else 42), w.e, w.s, w.shot, member, s.liveObj 0x09 (c.val / 16), held,
        false⟩ : Pt)
    let t := fun (z : Iq) (o held : Bool) => (({ s with rd := { s.rd with
      wins := dropWin c.val w.e s.rd.wins, pts := s.rd.pts ++ [p z o held] } }).setF Fld.rdch.lastEndTick c.val w.e).count
        0x06 c.val 1
    (w.held = false →
      let t1 := t ⟨sat 32 a, sat 32 b⟩ ovf false
      let t2 := if out then (t1.raise Fld.rdch.outSat c.val).count 0x06 c.val 6 else t1
      let t3 := if ovf then t2.count 0x06 c.val 5 else t2
      (member = true → exec (.pointFormed c) s = .next t3) ∧
      (member = false → exec (.pointFormed c) s =
        .next ((t3.setF Fld.rdch.lastI c.val (ofS 32 (sat 32 a))).setF Fld.rdch.lastQ c.val (ofS 32 (sat 32 b))))) ∧
    (w.held = true → exec (.pointFormed c) s =
      .next (((t ⟨s.getSF Fld.rdch.lastI c.val, s.getSF Fld.rdch.lastQ c.val⟩ false true).raise Fld.rdch.held c.val).count
        0x06 c.val 2))) ∧
  (∀ (p : Pt) (s : State), s.rd.pts = [p] → p.member = true → p.demixed = false → p.stale = false → p.e + 42 ≤ s.tick →
    let d := demixCoef p.demix (p.rc % 16) (p.rc % 16)
    let i := rshift (d.i * p.z.i - d.q * p.z.q) 16
    let q := rshift (d.i * p.z.q + d.q * p.z.i) 16
    let clip := saturates 32 i || saturates 32 q
    let u := (s.setF Fld.rdch.lastI p.rc (ofS 32 (sat 32 i))).setF Fld.rdch.lastQ p.rc (ofS 32 (sat 32 q))
    let u1 := if clip && !p.ovf then u.count 0x06 p.rc 5 else u
    let u2 := if clip then
        (u1.raiseWith Fld.demix.demixSat (p.rc / 16) Fld.demix.satTick (p.e + 42)).count 0x07 (p.rc / 16) 1
      else u1
    s.demixBegin = { u2 with rd := { u2.rd with pts :=
      [{ p with z := ⟨sat 32 i, sat 32 q⟩, ovf := p.ovf || clip, demixMark := false, demixed := true }] } }) ∧
  (∀ (p x : Pt), p.member = true → x.member = true → p.rc / 16 = x.rc / 16 → p.rc ≠ x.rc → p.e = x.e → p.stale = false →
    x.stale = false → p.demixed = false → x.demixed = false →
    let d := demixCoef p.demix (p.rc % 16) (p.rc % 16)
    let m := demixCoef p.demix (p.rc % 16) (x.rc % 16)
    let i := rshift (d.i * p.z.i - d.q * p.z.q + (m.i * x.z.i - m.q * x.z.q)) 16
    let q := rshift (d.i * p.z.q + d.q * p.z.i + (m.i * x.z.q + m.q * x.z.i)) 16
    let clip := saturates 32 i || saturates 32 q
    (m ≠ ⟨0, 0⟩ → demixPoint [p, x] p = (⟨sat 32 i, sat 32 q⟩, clip, p.ovf || clip || x.ovf, true)) ∧
    (m = ⟨0, 0⟩ → demixPoint [p, x] p = (⟨sat 32 i, sat 32 q⟩, clip, p.ovf || clip, false)))

/-- A point with OVF gives an erasure of reason 3 at its production tick, delivered 16 ticks later; any other is classified
over the live centroids, and a confident, fresh one moves the centroid it is nearest to by its distance over 2^K, or latches
DRIFT where that would leave the seed's neighbourhood (R191, R193 to R198, R200). The nearest centroid of the first NCENT, the
lowest index among equals, is the state, unless the point is outside its RADIUS or nearer than MARGIN to the boundary with the
second nearest (R194, R196). A delivered local verdict
is written into its entry and counted, and reaches its tile's appraiser and the vitrines; a record block that is due goes to
ring 6 whole or is lost whole (R206, R208, R212, R213). That an unpowered hub discards what is due to it, and that a verdict not
yet due waits, is the model's choice (log 30). -/
def Obligations.VerdictsAreProducedDeliveredAndRecorded : Prop :=
  (∀ (c : Fin 512) (pt : Pt) (s : State), s.verdictDue c.val = some pt → pt.ovf = true →
    let s0 := { s with rd := { s.rd with pts := dropPt c.val pt.p s.rd.pts } }
    let v : Verdict := ⟨true, 3, true, pt.stale, bit s.vd.drift c.val, pt.demixMark, s.tick, s.tick + 16⟩
    let s1 := ((s0.setF Fld.disc.lastProdTick c.val s.tick).setF Fld.disc.lastCode c.val 3).erasureEvent c.val 3
    let s3 := ({ s1 with vd := { s1.vd with
      flight := s1.vd.flight ++ [(⟨c.val, v, 0, 3, pt.z, pt.shot, pt.s⟩ : VPend)] } }).exportVerdict c.val v
    (s3.getL Fld.disc.recordEn c.val ≠ 1 → exec (.verdictProduced c) s = .next s3) ∧
    (s3.getL Fld.disc.recordEn c.val = 1 → exec (.verdictProduced c) s =
      .next (s3.addRecord ⟨s.tick, c.val, codeFlags v 3 0, pt.shot % 2 ^ 32, pt.s⟩))) ∧
  (∀ (c : Fin 512) (pt : Pt) (s : State), s.verdictDue c.val = some pt → pt.ovf = false →
    let s0 := { s with rd := { s.rd with pts := dropPt c.val pt.p s.rd.pts } }
    let j := judge (s.liveObj 0x08 c.val) [s.centroid c.val 0, s.centroid c.val 1, s.centroid c.val 2] pt.z
    let moves := j.code ≠ 3 ∧ j.conf = true ∧ pt.stale = false ∧ bit s.vd.drift c.val = false ∧
      s.getL Fld.disc.adaptEn c.val ≠ 0
    let s' := if moves then s0.adapt c.val j.nearest pt.z s.tick else s0
    let v : Verdict := ⟨true, j.code, false, pt.stale, bit s'.vd.drift c.val, pt.demixMark, s.tick, s.tick + 16⟩
    let s1 := ((s'.setF Fld.disc.lastProdTick c.val s.tick).setF Fld.disc.lastCode c.val j.code).erasureEvent c.val j.code
    let s3 := ({ s1 with vd := { s1.vd with
      flight := s1.vd.flight ++ [(⟨c.val, v, 0, j.why, pt.z, pt.shot, pt.s⟩ : VPend)] } }).exportVerdict c.val v
    (s3.getL Fld.disc.recordEn c.val ≠ 1 → exec (.verdictProduced c) s = .next s3) ∧
    (s3.getL Fld.disc.recordEn c.val = 1 → exec (.verdictProduced c) s =
      .next (s3.addRecord ⟨s.tick, c.val, codeFlags v j.why j.nearest, pt.shot % 2 ^ 32, pt.s⟩))) ∧
  (∀ (cfg n m : Nat) (c0 c1 c2 z : Iq),
    let c := fun (k : Nat) => ([c0, c1, c2] : List Iq).getD k ⟨0, 0⟩
    let d := fun (k : Nat) => (65536 * z.i - (c k).i) ^ 2 + (65536 * z.q - (c k).q) ^ 2
    let radius := 65536 * cfgRadius cfg n
    let margin := 65536 * cfgMargin cfg
    let conf := 65536 * cfgConf cfg
    let g := d m - d n
    let l := ((c m).i - (c n).i) ^ 2 + ((c m).q - (c n).q) ^ 2
    n < cfgNcent cfg → (∀ k, k < cfgNcent cfg → d n ≤ d k) → (∀ k, k < n → d n < d k) →
    (radius ^ 2 < d n → judge cfg [c0, c1, c2] z = ⟨3, 1, n, false⟩) ∧
    (d n ≤ radius ^ 2 → cfgNcent cfg = 1 → judge cfg [c0, c1, c2] z = ⟨n, 0, n, true⟩) ∧
    (d n ≤ radius ^ 2 → m < cfgNcent cfg → m ≠ n → (∀ k, k < cfgNcent cfg → k ≠ n → d m ≤ d k) →
      (∀ k, k < m → k ≠ n → d m < d k) →
      (g ^ 2 < 4 * margin ^ 2 * l ∨ (l = 0 ∧ 0 < margin) → judge cfg [c0, c1, c2] z = ⟨3, 2, n, false⟩) ∧
      (4 * margin ^ 2 * l ≤ g ^ 2 → (l ≠ 0 ∨ margin ≤ 0) →
        judge cfg [c0, c1, c2] z = ⟨n, 0, n, decide (conf = 0 ∨ 0 < l ∧ 4 * conf ^ 2 * l ≤ g ^ 2)⟩))) ∧
  (∀ (c n p : Nat) (z : Iq) (s : State),
    let cfg := s.liveObj 0x08 c
    let o := s.centroid c n
    let v : Iq := ⟨o.i + rshift (65536 * z.i - o.i) (cfgK cfg), o.q + rshift (65536 * z.q - o.q) (cfgK cfg)⟩
    let far := (65536 * (cfgSeed cfg n).i - v.i) ^ 2 + (65536 * (cfgSeed cfg n).q - v.q) ^ 2
    (far ≤ (65536 * cfgDriftLim cfg) ^ 2 → s.adapt c n z p = (s.setCentroid c n v).count 0x06 c 20) ∧
    ((65536 * cfgDriftLim cfg) ^ 2 < far → s.adapt c n z p =
      ({ s.raiseWith Fld.disc.drift c Fld.disc.driftTick p with vd := { s.vd with
        drift := s.vd.drift ||| (1 <<< c) } }).count 0x06 c 21)) ∧
  (∀ (f : VPend) (s : State), s.vd.flight = [f] → f.idx < 512 →
    (s.tick < f.v.deliv → s.powered domMGMT1 = true → exec .verdictDelivery s = .next s) ∧
    (f.v.deliv ≤ s.tick → s.powered domMGMT1 = true →
      let t := (({ s with vd := { s.vd with flight := [] } }).writeEntry f).countVerdict f
      exec .verdictDelivery s = .next ((t.apDeliver f).viVerdicts [f]) ∧
      (s.powered domVIT = false → s.apState (f.idx / 64) ≠ 2 → exec .verdictDelivery s = .next t)) ∧
    (f.v.deliv ≤ s.tick → s.powered domMGMT1 = false →
      exec .verdictDelivery s = .next { s with vd := { s.vd with flight := [] } })) ∧
  (∀ (r : VRec) (rest : List VRec) (s : State), s.vd.block = r :: rest →
    (s.tick < r.p + 1000 → exec .recordBlockClose s = .next s) ∧
    (r.p + 1000 ≤ s.tick → s.ringRoom 6 = false →
      exec .recordBlockClose s =
        .next ((({ s with vd := { s.vd with block := [] } }).ringLost 6 (r :: rest).length).markLost 0)) ∧
    (r.p + 1000 ≤ s.tick → s.ringRoom 6 = true → exec .recordBlockClose s = .next s.closeRecords))

/-- A survey stream starts at its tick from its configuration, or halts at once where its input does not run; it stops at its
stop tick; 120 samples make a block, and a stopped stream with nothing left ends (R229, R231, R235, R236). An armed appraiser
starts at its tick and counts the run; an armed run whose bound has come, and a running one that has taken all before its
bound, is DONE (R242, R255, R256). A point that is excluded is only counted; an accepted one is counted, goes into its cell by
the recipe, and ends the run with the POINT_LIMIT it reaches (R243 to R249, R256): AVERAGE and SWEEP add it to the cell of its
channel's rank and its shot's bin, each component saturating at 48 bits for good; HISTOGRAM2D counts its bin or OUTSIDE;
POPULATION counts its code; CORRELATE adds a pair's product with the conjugate, shifted and saturated to 40 bits (R245 to R251).
When a survey stream's first sample is due and when an appraiser's run ends is in part the model's choice (logs 32, 33). -/
def Obligations.SurveyAndAppraiserRuns : Prop :=
  ((∀ (n : Fin 64) (s : State), s.svState n.val = 1 → s.getF Fld.survey.startTick n.val ≤ s.tick →
     s.surveyStopDue n.val = false →
     let c := s.obj 0x0A n.val
     let t := (s.setF Fld.survey.state n.val 2).setSvRun n.val { SvRun.none with
       cfg := c, a := s.tick + fieldOf Fld.survey.delayInt c
       intI := List.replicate (svOrder c) 0, intQ := List.replicate (svOrder c) 0
       combI := List.replicate (svOrder c) [], combQ := List.replicate (svOrder c) [] }
     (s.inputState (svInput c) = 3 →
       exec (.surveyRunStart n) s = .next t) ∧
     (s.inputState (svInput c) ≠ 3 → s.inputState (svInput c) ≠ 4 →
       exec (.surveyRunStart n) s = .next (t.svHalt n.val 2))) ∧
   (∀ (n : Fin 64) (s : State), s.svState n.val ≠ 0 → (sget (fun _ => (0, 0)) s.sv.stop n.val).1 ≠ 0 →
     (sget (fun _ => (0, 0)) s.sv.stop n.val).1 ≤ s.tick + 1 →
     exec (.surveyStopTick n) s = .next (s.svHalt n.val 1)) ∧
   (∀ (n : Fin 64) (s : State), (s.svRun n.val).cfg ≠ 0 →
     (120 ≤ (s.svRun n.val).block.length → exec (.surveyBlock n) s = .next (s.closeBlock n.val)) ∧
     (∀ t, (s.svRun n.val).tp = some t → t + 35 ≤ s.tick → (s.svRun n.val).block = [] →
       exec (.surveyBlock n) s = .next (((s.setF Fld.survey.lastCount n.val
         (if (s.svRun n.val).delivered = 0 then 0 else 120)).svSend n.val).setSvRun n.val SvRun.none)) ∧
     (∀ t, (s.svRun n.val).tp = some t → t + 35 ≤ s.tick → (s.svRun n.val).block ≠ [] → (s.svRun n.val).block.length < 120 →
       exec (.surveyBlock n) s = .next ((((s.closeBlock n.val).setF Fld.survey.lastCount n.val
         (s.svRun n.val).block.length).svSend n.val).setSvRun n.val SvRun.none)) ∧
     ((s.svRun n.val).tp = none → (s.svRun n.val).block.length < 120 → exec (.surveyBlock n) s = .next s))) ∧
  ((∀ (n : Fin 8) (s : State), s.apState n.val = 1 → s.getF Fld.appraiser.startTick n.val ≤ s.tick →
     apTrig s n.val = false →
     ((s.apRun n.val).bound = none → exec (.appRunStart n) s =
       .next (((s.setF Fld.appraiser.startTick n.val s.tick).setF Fld.appraiser.state n.val 2).count 0x0A n.val 0)) ∧
     (∀ b, (s.apRun n.val).bound = some b → b ≤ s.tick → exec (.appRunStart n) s =
       .next ((s.setF Fld.appraiser.startTick n.val s.tick).apFinish n.val))) ∧
   (∀ (n : Fin 8) (x : ApPt) (rest : List ApPt) (s : State), (s.apRun n.val).queue = x :: rest → s.apState n.val = 2 →
     x.ready ≤ s.tick →
     let r := { s.apRun n.val with queue := rest, seen := (s.apRun n.val).seen.filter (fun y => decide (y.p = x.p)) }
     let t := (s.setApRun n.val { r with
       seen := r.seen ++ [x], first := if r.first.isSome then r.first else some x.s, erased := r.erased || decide (x.code = 3) }).apOperate
         n.val (s.getF Fld.appraiser.accepted n.val) x
     (apExcluded r x = true → exec (.appPoint n) s = .next (((s.bump Fld.appraiser.excluded n.val).count 0x0A n.val 2).setApRun
       n.val { r with seen := r.seen ++ [x], staleEx := r.staleEx || x.stale })) ∧
     (apExcluded r x = false → exec (.appPoint n) s =
       .next (((t.bump Fld.appraiser.accepted n.val).count 0x0A n.val 1).apLimit n.val x))) ∧
   (∀ (r : ApRun) (x : ApPt),
     let filt := fieldOf Fld.appraiser.stateFilt r.cfg
     (x.stale = true ∨ (x.ovf = true ∧ apRecipe r.cfg ≠ 4) ∨ (apRecipe r.cfg < 3 ∧ 4 ≤ filt ∧ x.code ≠ filt % 4) →
       apExcluded r x = true) ∧
     (x.stale = false → x.ovf = false → apRecipe r.cfg = 3 → apExcluded r x = !apPaired r x) ∧
     (x.stale = false → apRecipe r.cfg = 4 → apExcluded r x = false) ∧
     (x.stale = false → x.ovf = false → apRecipe r.cfg < 3 → filt < 4 ∨ x.code = filt % 4 → apExcluded r x = false)) ∧
   (∀ (n before : Nat) (x : ApPt) (s : State),
     let r := s.apRun n
     let m := x.rc % 64
     let cell := apRank r.cfg m * apNbins r.cfg + apBin r.cfg x.shot
     let w := sget (fun _ => Cell.zero) r.cells cell
     let put := fun (k : Nat) (w' : Cell) => { r with cells := sset (fun _ => Cell.zero) r.cells k w' }
     let h := (2 : Int) ^ fieldOf Fld.appraiser.hShift r.cfg
     let bx := (x.z.i - toS 32 (fieldOf Fld.appraiser.hOriginI r.cfg)) / h
     let yb := (x.z.q - toS 32 (fieldOf Fld.appraiser.hOriginQ r.cfg)) / h
     let bin := apRank r.cfg m * 4096 + 64 * yb.toNat + bx.toNat
     let inside := 0 ≤ bx ∧ bx < 64 ∧ 0 ≤ yb ∧ yb < 64
     (apRecipe r.cfg = 0 ∨ apRecipe r.cfg = 2 → w.satI = false → w.satQ = false →
       (saturates 48 (w.i + x.z.i) = false → saturates 48 (w.q + x.z.q) = false →
         s.apOperate n before x = s.setApRun n (put cell { w with i := w.i + x.z.i, q := w.q + x.z.q, n := w.n + 1 })) ∧
       (saturates 48 (w.i + x.z.i) = true → saturates 48 (w.q + x.z.q) = false →
         s.apOperate n before x = (s.setApRun n { put cell { w with
           i := sat 48 (w.i + x.z.i), q := w.q + x.z.q, n := w.n + 1, satI := true } with ovf := true }).apOverflow n x.shot
             before cell)) ∧
     (apRecipe r.cfg = 0 ∨ apRecipe r.cfg = 2 → w.satI = true → w.satQ = false → saturates 48 (w.q + x.z.q) = false →
       s.apOperate n before x = s.setApRun n (put cell { w with q := w.q + x.z.q, n := w.n + 1 })) ∧
     (apRecipe r.cfg = 1 → inside → s.apOperate n before x = s.setApRun n
       (put bin { sget (fun _ => Cell.zero) r.cells bin with n := (sget (fun _ => Cell.zero) r.cells bin).n + 1 })) ∧
     (apRecipe r.cfg = 1 → ¬ inside → s.apOperate n before x = s.setApRun n { r with
       outside := sset (fun _ => 0) r.outside (apRank r.cfg m) (sget (fun _ => 0) r.outside (apRank r.cfg m) + 1) }) ∧
     (apRecipe r.cfg = 4 →
       (x.code = 0 → s.apOperate n before x = s.setApRun n (put cell { w with i := w.i + 1 })) ∧
       (x.code = 1 → s.apOperate n before x = s.setApRun n (put cell { w with q := w.q + 1 })) ∧
       (x.code = 2 → s.apOperate n before x = s.setApRun n (put cell { w with n := w.n + 1 })) ∧
       (x.code = 3 → s.apOperate n before x = s.setApRun n (put cell { w with m := w.m + 1 }))) ∧
     (apRecipe r.cfg = 3 → ∀ q a b, apPairs r.cfg = [(q, a, b)] →
       (m = a → m = b → s.apOperate n before x = s.apCorrelate n q before x x) ∧
       (∀ y, m = a → m ≠ b → apOther r x b = some y → s.apOperate n before x = s.apCorrelate n q before x y) ∧
       (∀ y, m ≠ a → m = b → apOther r x a = some y → s.apOperate n before x = s.apCorrelate n q before y x)) ∧
     (let lim := fieldOf Fld.appraiser.pointLimit r.cfg
      (lim ≠ 0 → s.getF Fld.appraiser.accepted n = lim → s.apLimit n x =
        (s.setF Fld.appraiser.stopTick n (x.p + 1)).setApRun n { r with
          bound := some (x.p + 1), reason := 1, queue := [], doneAt := some (s.tick + apSearch r.cfg) }) ∧
      (s.getF Fld.appraiser.accepted n ≠ 2 ^ 32 - 1 → s.getF Fld.appraiser.accepted n ≠ lim → s.apLimit n x = s))) ∧
   (∀ (n q before : Nat) (a b : ApPt) (s : State),
     let c := (s.apRun n).cfg
     let k := fieldOf Fld.appraiser.prodShift c
     let i := rshift (a.z.i * b.z.i + a.z.q * b.z.q) k
     let j := rshift (a.z.q * b.z.i - a.z.i * b.z.q) k
     let cell := q * apNbins c + apBin c a.shot
     let u := fun (hits : Nat) => ((s.raise Fld.appraiser.prodSat n).countN 0x0A n 5 hits).setApRun n
       { s.apRun n with prodSat := true }
     (saturates 40 i = false → saturates 40 j = false → s.apCorrelate n q before a b = s.apAdd n cell a.shot before ⟨i, j⟩) ∧
     (saturates 40 i = true → saturates 40 j = false →
       s.apCorrelate n q before a b = (u 1).apAdd n cell a.shot before ⟨sat 40 i, j⟩) ∧
     (saturates 40 i = true → saturates 40 j = true →
       s.apCorrelate n q before a b = (u 2).apAdd n cell a.shot before ⟨sat 40 i, sat 40 j⟩)) ∧
   (∀ (n : Fin 8) (b : Nat) (s : State), (s.apRun n.val).bound = some b →
     (s.apState n.val = 1 → b ≤ s.tick → (apTrig s n.val && s.apEvent n.val) = false →
       exec (.appRunEnd n) s = .next (s.apFinish n.val)) ∧
     (s.apState n.val = 2 → b + 15 ≤ s.tick → (s.apRun n.val).queue = [] → (s.apRun n.val).doneAt = none →
       apRecipe (s.apRun n.val).cfg ≠ 2 → exec (.appRunEnd n) s = .next (s.apFinish n.val))))

/-- An armed vitrine starts to capture at its arm tick. A level crossing, the time-base tick and an event with their sources
enabled trigger it: armed, it takes the first trigger that its PRE_FULL lets it take; a further source of the tick of the
trigger taken adds its cause; a level crossing that lies before the trigger taken takes its place; every other trigger is
ignored, counted once for its tick whatever its sources, and an event that gave it is dropped as busy (R268, R269, R271, R277).
The trigger taken, and an event that gave it, count once no earlier crossing can take its place: that, and which one stands, is
the model's choice (log 35).
A vitrine's fill ends when its last sample is in, at a mask violation, or when its samples stay out; its record is then
scanned and written block by block to its ring, in order, while the ring has room (R274 to R276, R280). -/
def Obligations.VitrineRuns : Prop :=
  ((∀ (v : Fin 8) (s : State), s.viState v.val = 1 → (s.viRun v.val).ta ≤ s.tick → (s.viRun v.val).started = false →
     exec (.vitCaptureStart v) s = .next (s.setViRun v.val { s.viRun v.val with started := true })) ∧
   (∀ (v : Fin 8) (n k : Nat) (l : List (Nat × Nat)) (s : State), (s.viRun v.val).lvl = (n, k) :: l →
     let r := { s.viRun v.val with lvl := l }
     let s0 := s.setViRun v.val r
     (s.tick < n → exec (.levelTrigger v) s = .next s) ∧
     (n ≤ s.tick → s.viState v.val = 1 → viTakes r n = true → exec (.levelTrigger v) s =
       .next (((s0.setViRun v.val { r with before := s.obj 0x0C v.val, byEvt := false, unsettled := true }).setF
         Fld.vitrine.state v.val 2).viGeometry v.val n k 2)) ∧
     (n ≤ s.tick → s.viState v.val = 1 → viTakes r n = false → exec (.levelTrigger v) s = .next (s0.viIgnored v.val n)) ∧
     (n ≤ s.tick → s.viState v.val = 2 → r.trig = n → exec (.levelTrigger v) s =
       .next ((s0.setViRun v.val { r with byEvt := r.byEvt || false }).setF Fld.vitrine.trigCause v.val
         (s.getF Fld.vitrine.trigCause v.val ||| 4))) ∧
     (n ≤ s.tick → s.viState v.val = 2 → n < r.trig → viTakes r n = true →
       exec (.levelTrigger v) s = .next ((s0.viIgnoreTaken v.val).viGeometry v.val n k 2)) ∧
     (n ≤ s.tick → s.viState v.val = 2 → r.trig < n ∨ (n < r.trig ∧ viTakes r n = false) →
       exec (.levelTrigger v) s = .next (s0.viIgnored v.val n)) ∧
     (n ≤ s.tick → s.viState v.val ≠ 1 → s.viState v.val ≠ 2 →
       exec (.levelTrigger v) s = .next (s0.viIgnored v.val n))) ∧
   (∀ (v : Fin 8) (s : State), s.powered domVIT = true → s.viState v.val = 1 →
     bit (fieldOf Fld.vitrine.trigEn (s.viRun v.val).cfg) 3 = true →
     fieldOf Fld.vitrine.tbTick (s.viRun v.val).cfg = s.tick →
     (viTakes (s.viRun v.val) s.tick = true → exec (.tbTick v) s =
       .next (((s.setViRun v.val { s.viRun v.val with before := s.obj 0x0C v.val, byEvt := false, unsettled := true }).setF
         Fld.vitrine.state v.val 2).viGeometry v.val s.tick 0 3)) ∧
     (viTakes (s.viRun v.val) s.tick = false → exec (.tbTick v) s = .next (s.viIgnored v.val s.tick))) ∧
   (∀ (v : Fin 8) (s : State),
     (s.powered domVIT = false → exec (.evtVitrineTrigger v) s = .next (s.absentDrop (128 + v.val))) ∧
     (s.powered domVIT = true → s.viState v.val = 1 → bit (fieldOf Fld.vitrine.trigEn (s.viRun v.val).cfg) 0 = false →
       exec (.evtVitrineTrigger v) s = .next (s.busyDrop (128 + v.val))) ∧
     (s.powered domVIT = true → s.viState v.val = 1 → bit (fieldOf Fld.vitrine.trigEn (s.viRun v.val).cfg) 0 = true →
       viTakes (s.viRun v.val) s.tick = true → exec (.evtVitrineTrigger v) s =
         .next (((s.setViRun v.val { s.viRun v.val with before := s.obj 0x0C v.val, byEvt := true, unsettled := true }).setF
           Fld.vitrine.state v.val 2).viGeometry v.val s.tick 0 0)) ∧
     (s.powered domVIT = true → s.viState v.val = 1 → bit (fieldOf Fld.vitrine.trigEn (s.viRun v.val).cfg) 0 = true →
       viTakes (s.viRun v.val) s.tick = false → exec (.evtVitrineTrigger v) s =
         .next ((s.viIgnored v.val s.tick).busyDrop (128 + v.val)))) ∧
   (∀ (v t : Nat) (s : State),
     (t ∈ (s.viRun v).ignored → s.viIgnored v t = s) ∧
     (t ∉ (s.viRun v).ignored → s.viIgnored v t = (s.setViRun v { s.viRun v with
       ignored := t :: (s.viRun v).ignored.filter (fun x => decide (s.tick < x + 128)) }).count 0x0B v 2)) ∧
   (∀ (v : Nat) (s : State), s.vitClocked = false → (s.viRun v).unsettled = true → (s.viRun v).final = true →
     let t := (s.setViRun v { s.viRun v with unsettled := false }).count 0x0B v 1
     ((s.viRun v).byEvt = false → s.viTick v = t) ∧ ((s.viRun v).byEvt = true → s.viTick v = t.count 0x12 (128 + v) 0))) ∧
  ((∀ (v : Fin 8) (t n : Nat) (s : State), s.viState v.val = 2 → (s.viRun v.val).doneAt = none →
     (s.viRun v.val).viol = some (t, n) → t ≤ s.tick →
     let u := (((s.setF Fld.vitrine.violIndex v.val n).raise Fld.vitrine.violation v.val).setF Fld.vitrine.endReason v.val
       2).count 0x0B v.val 4
     exec (.maskViolation v) s = .next ((u.setViRun v.val { s.viRun v.val with
       cutAt := some (n + 1), doneAt := some (s.tick + 2) }).fire (168 + v.val))) ∧
   (∀ (v : Fin 8) (s : State), s.viState v.val = 2 → (s.viRun v.val).doneAt = none → (s.viRun v.val).viol = none →
     ((s.viRun v.val).full = true → s.viArrival (s.viRun v.val).cfg (s.viRun v.val).nlast + 2 ≤ s.tick →
       exec (.fillEnd v) s = .next (s.viFillOver v.val 1)) ∧
     ((s.viRun v.val).full = false → (s.viRun v.val).nlast + 40 ≤ s.tick →
       exec (.postTriggerWaitLimit v) s = .next (((s.raise Fld.vitrine.srcLost v.val).count 0x0B v.val 5).viFillOver v.val 3))) ∧
   (∀ (v : Fin 8) (t : Nat) (s : State), s.viState v.val = 3 → (s.viRun v.val).doneAt = some t → t ≤ s.tick →
     let b := s.viBlocks v.val
     let u := ((b.2.setF Fld.vitrine.state v.val 4).setF Fld.vitrine.nsamples v.val (viRecord (s.viRun v.val)).length).raise
       Fld.vitrine.done v.val
     exec (.vitrineDone v) s = .next (((u.setViRun v.val { s.viRun v.val with
       blocks := b.1, cap := [], doneAt := none }).count 0x0B v.val 3).fire (160 + v.val))) ∧
   (∀ (v : Fin 8) (b : Nat × Nat × List Byte) (rest : List (Nat × Nat × List Byte)) (s : State), s.viState v.val = 4 →
     (s.viRun v.val).blocks = b :: rest → s.powered domVIT = true →
     (s.ringRoom (viRing (s.viRun v.val).cfg) = false → exec (.vitrineBlockWrite v) s = .next s) ∧
     (s.ringRoom (viRing (s.viRun v.val).cfg) = true →
       let q := s.nextSeq (65 + v.val)
       let u := ((q.2.setViRun v.val { s.viRun v.val with blocks := rest }).clearLost (65 + v.val)).count 0x0B v.val 6
       let d := if rest = [] then u.setF Fld.vitrine.delivered v.val 1 else u
       let o := d.ringProduce (viRing (s.viRun v.val).cfg)
         (q.2.tag 0x03 v.val (b.2.1 + s.lostFlag (65 + v.val)) b.1 (q.1 % 65536) ++ b.2.2) (d.viTag v.val)
       exec (.vitrineBlockWrite v) s = .next (o.1.viEntriesLost (viRing (s.viRun v.val).cfg) o.2))))

/-! ### Bias, catalogue and time: their events -/

/-- At its update edge a strobe of an ACTIVE bank without limiter loads its code into its output and no other; a deglitcher
hold ends at its end; a new limiter setting governs the bank at a bank-clock edge with every output steady (R290, R292, R294).
One step of the slew limiter moves the output code toward the register by at most its step, and never past it (R293). -/
def Obligations.BiasEdgesAndSlewing : Prop :=
  ((∀ (k : Fin 4) (b : Fin 128) (code t u : Nat) (s : State), s.Canonical → b.val / 32 = k.val →
     s.bi.upd = [⟨k.val, t, u, false, [(b.val, code)], false⟩] → u ≤ s.tick → s.powered (domBB k.val) = true →
     s.bankState k.val = 3 → s.slewOn k.val = false → code < 2 ^ 20 →
     (∀ j : Fin 128, s.flag Fld.bias.slewing j.val = false) →
     ∃ n, exec (.biasUpdateEdge k) s = .next n ∧ n.getF Fld.bias.dacCode b.val = code ∧
       n.getF Fld.bias.effCode b.val = code ∧
       n.flag Fld.bias.deglitch b.val =
         (s.flag Fld.bias.deglitch b.val || decide (s.getF Fld.bias.dacCode b.val / 65536 ≠ code / 65536)) ∧
       (∀ j : Fin 128, j ≠ b → n.obj 0x0D j.val = s.obj 0x0D j.val) ∧ n.bi.upd = [] ∧ n.drv = s.drv ∧ n.rd = s.rd ∧
       n.cmd = s.cmd) ∧
   (∀ (b : Fin 128) (s : State), sget (fun _ => 0) s.bi.holdEnd b.val ≠ 0 → sget (fun _ => 0) s.bi.holdEnd b.val ≤ s.tick →
     exec (.deglitchEnd b) s = .next { s.setF Fld.bias.deglitch b.val 0 with
       bi := { s.bi with holdEnd := sset (fun _ => 0) s.bi.holdEnd b.val 0 } }) ∧
   (∀ (k : Fin 4) (s : State), s.powered (domBB k.val) = true → s.tick % 8 = 0 → s.slewOn k.val = false →
     s.flag Fld.biasbank.slewEn k.val = true →
     (∀ j : Fin 128, j.val / 32 = k.val → s.flag Fld.bias.slewing j.val = false ∧ s.flag Fld.bias.deglitch j.val = false) →
     exec (.slewEnApply k) s = .next { s with bi := { s.bi with slewGov := s.bi.slewGov ||| (1 <<< k.val) } })) ∧
  (∀ (eff dac step : Nat), 1 ≤ step →
     (eff ≤ dac → eff ≤ slewStep eff dac step ∧ slewStep eff dac step ≤ dac ∧ slewStep eff dac step ≤ eff + step) ∧
     (dac ≤ eff → dac ≤ slewStep eff dac step ∧ slewStep eff dac step ≤ eff ∧ eff ≤ slewStep eff dac step + step) ∧
     (slewStep eff dac step = eff → eff = dac))

/-- LDAC_B and an event strobe their bank with its LOAD_MASK where the source is enabled, and an LDAC_B is else noted to be
ignored, as is an event from a source that is not; CLR_B clears every powered bank at its update edge and shows in CLR_ACTIVE
until its release; a bank that is enabled in OFF enters WAIT_STROBE when the supplies become good, unless ordering error 5
keeps the banks OFF, and one outside OFF goes there, disabled, when they are lost; with every
bank off the pins and the supplies only record their levels; an overload of a buffer that is on is flagged and counted (R289,
R296, R298, R302, R306, R444). -/
def Obligations.BiasPinsStrobeClearAndSupply : Prop :=
  (∀ (k : Fin 4) (s : State),
    (s.powered (domBB k.val) = false → exec (.ldacB k) s = .next s ∧
      exec (.evtBiasStrobe k) s = .next (s.absentDrop (144 + k.val))) ∧
    (s.powered (domBB k.val) = true → bit (s.getF Fld.biasbank.srcEn k.val) 0 = true →
      exec (.ldacB k) s = .next (s.orStrobe k.val (s.getF Fld.biasbank.loadMask k.val ||| 2 ^ 32 ||| 0))) ∧
    (s.powered (domBB k.val) = true → bit (s.getF Fld.biasbank.srcEn k.val) 0 = false →
      exec (.ldacB k) s = .next (s.orStrobe k.val (2 ^ 34 ||| 0))) ∧
    (s.powered (domBB k.val) = true → bit (s.getF Fld.biasbank.srcEn k.val) 2 = true →
      exec (.evtBiasStrobe k) s =
        .next (s.orStrobe k.val (s.getF Fld.biasbank.loadMask k.val ||| 2 ^ 32 ||| 2 ^ 33))) ∧
    (s.powered (domBB k.val) = true → bit (s.getF Fld.biasbank.srcEn k.val) 2 = false →
      exec (.evtBiasStrobe k) s = .next (s.orStrobe k.val (2 ^ 34 ||| 2 ^ 33)))) ∧
  (∀ (s : State), (∀ k : Fin 4, s.powered (domBB k.val) = false) →
    (s.bi.clrLow = false → exec .clrB s = .next { s with bi := { s.bi with clrLow := true } }) ∧
    exec .clrBRelease s = .next { s with bi := { s.bi with clrLow := false } } ∧
    exec .supplyGood s = .next { s with bi := { s.bi with supplyGood := true } } ∧
    exec .supplyLoss s = .next { s with bi := { s.bi with supplyGood := false } }) ∧
  (∀ (s : State), s.bi.clrLow = true → exec .clrB s = .next s) ∧
  (∀ (s : State), s.bi.clrLow = false → (∀ k : Fin 4, s.powered (domBB k.val) = true) →
    ∃ n, exec .clrB s = .next n ∧ n.bi.clrLow = true ∧
      n.bi.upd = s.bi.upd ++ [0, 1, 2, 3].map (fun k => (⟨k, s.tick, updateEdge s.tick, true, [], false⟩ : BiUpd)) ∧
      n.drv = s.drv ∧ n.cmd = s.cmd) ∧
  (∀ (k : Fin 4) (s : State), s.powered (domBB k.val) = true → (∀ j : Fin 4, j ≠ k → s.powered (domBB j.val) = false) →
    let good := ({ s with bi := { s.bi with supplyGood := true } }).setF Fld.biasbank.supplyGood k.val 1
    let lost := ({ s with bi := { s.bi with supplyGood := false } }).setF Fld.biasbank.supplyGood k.val 0
    exec .clrBRelease s =
      .next (({ s with bi := { s.bi with clrLow := false } }).setF Fld.biasbank.clrActive k.val 0) ∧
    let held := s.pw.orderHolds.any (fun h => decide (h.1 = 5))
    (good.bankState k.val = 1 → good.flag Fld.biasbank.bankEn k.val = true → held = false →
      exec .supplyGood s = .next (good.enterWait k.val)) ∧
    (good.bankState k.val ≠ 1 ∨ good.flag Fld.biasbank.bankEn k.val = false ∨ held = true →
      exec .supplyGood s = .next good) ∧
    (lost.bankState k.val = 1 → exec .supplyLoss s = .next lost) ∧
    (lost.bankState k.val ≠ 1 → exec .supplyLoss s =
      .next ((((lost.bankOff k.val).setF Fld.biasbank.bankEn k.val 0).raise Fld.biasbank.supplyLoss k.val).count
        0x0D k.val 5))) ∧
  (∀ (b : Fin 128) (s : State),
    (s.powered (domBB (b.val / 32)) = true → s.bankState (b.val / 32) ≠ 1 →
      exec (.overload b) s = .next ((s.raise Fld.bias.overload b.val).count 0x0E b.val 2)) ∧
    (s.powered (domBB (b.val / 32)) = false ∨ s.bankState (b.val / 32) = 1 → exec (.overload b) s = .next s))

/-- A GPIO ball driven to its present level changes nothing but the outside level; a changed one is presented 8 to 12 ticks
after its edge (a free value), with an event that carries the ball's instant where both edges are enabled. GPIO and cue outputs
act, or drop the event where they are no output or busy; a cue word leaves as K28.1 and two bytes, the low one first. Pulses
and words end at their ends; a LUT cell's changed output fires on a rise, at the instant of the change; a group event enables
or disables its group; a word with a code error is only counted (R347, R349, R351 to R353). When a cell's output fires, what becomes of
an event on its way at a group's change, and which inputs are ABSENT, is in part the model's choice (logs 47, 48, 49). -/
def Obligations.CatalogueInputsAndOutputsAct : Prop :=
  (∀ (g : Fin 16) (lv : Bool) (f : BitVec 4) (s : State),
    let t := { s with cat := { s.cat with
      gpioIn := if lv then s.cat.gpioIn ||| (1 <<< g.val) else clearMask s.cat.gpioIn (1 <<< g.val) } }
    let ball := s.now + f.toNat
    let at_ := s.now / 16 + (if f.toNat = 0 then 8 + Config.delay s.free % 5 else 9 + Config.delay s.free % 4)
    (t.gpioLevel g.val = s.gpioLevel g.val → exec (.gpioEdge g ⟨lv, f⟩) s = .next t) ∧
    (t.gpioLevel g.val ≠ s.gpioLevel g.val → (∀ e ∈ s.cat.due, e.2.1 ≠ 512 + g.val) →
      (bits (s.gpioByte g.val) 4 2 = 0 → exec (.gpioEdge g ⟨lv, f⟩) s = .next { t with
        free := s.free + 1
        cat := { t.cat with due := s.cat.due ++ [(at_, 512 + g.val, 2 * ball + (if lv then 1 else 0))] } }) ∧
      (bits (s.gpioByte g.val) 4 2 = 3 → exec (.gpioEdge g ⟨lv, f⟩) s = .next { t with
        free := s.free + 1
        cat := { t.cat with due := s.cat.due ++
          [(at_, 512 + g.val, 2 * ball + (if lv then 1 else 0)), (at_, 200 + g.val, ball)] } }))) ∧
  (∀ (g : Fin 16) (s : State),
    (bit (s.gpioByte g.val) 0 = false → exec (.evtGpioOutput g) s = .next (s.busyDrop (164 + g.val))) ∧
    (bit (s.gpioByte g.val) 0 = true → bit (s.gpioByte g.val) 3 = true →
      exec (.evtGpioOutput g) s = .next (((s.draw.2).gpioLater (s.now / 16 + 2 + Config.delay s.free % 4) g.val 0).count 0x12
        (164 + g.val) 0)) ∧
    (bit (s.gpioByte g.val) 0 = true → bit (s.gpioByte g.val) 3 = false → sget (fun _ => 0) s.cat.gpioEnd g.val ≠ 0 →
      exec (.evtGpioOutput g) s = .next (s.busyDrop (164 + g.val))) ∧
    (bit (s.gpioByte g.val) 0 = true → bit (s.gpioByte g.val) 3 = false → sget (fun _ => 0) s.cat.gpioEnd g.val = 0 →
      let at_ := s.now / 16 + 2 + Config.delay s.free % 4
      let t := ((s.draw.2).gpioLater at_ g.val 1).count 0x12 (164 + g.val) 0
      exec (.evtGpioOutput g) s = .next { t with cat := { t.cat with
        gpioEnd := sset (fun _ => 0) t.cat.gpioEnd g.val (at_ + gpioWidth (bits (s.gpioByte g.val) 1 2)) } }) ∧
    (sget (fun _ => 0) s.cat.gpioEnd g.val ≠ 0 → sget (fun _ => 0) s.cat.gpioEnd g.val ≤ s.now / 16 →
      exec (.gpioPulseEnd g) s = .next (({ s with cat := { s.cat with
        gpioEnd := sset (fun _ => 0) s.cat.gpioEnd g.val 0 } }).gpioDrive g.val false))) ∧
  (∀ (n : Fin 8) (w : BitVec 16) (err : Bool) (s : State),
    (s.powered domMGMT1 = true → sget (fun _ => 0) s.cat.cueEnd n.val = 0 → s.pw.tripGated = false →
      let r := roundUp (16 * (s.tick + 4)) 640
      let o := bits (s.obj 0x10 0) (4608 + 16 * n.val) 16
      let t := (s.emit (.cue n.val [(true, 0x3C), (false, o % 256), (false, o / 256 % 256)] r)).count 0x12 (180 + n.val) 0
      exec (.evtCueOutput n) s = .next { t with cat := { t.cat with
        cueEnd := sset (fun _ => 0) s.cat.cueEnd n.val (r / 16 + 120)
        cueWord := sset (fun _ => 0) s.cat.cueWord n.val o } }) ∧
    (s.powered domMGMT1 = true → sget (fun _ => 0) s.cat.cueEnd n.val ≠ 0 ∨ s.pw.tripGated = true →
      exec (.evtCueOutput n) s = .next (s.busyDrop (180 + n.val))) ∧
    (s.powered domMGMT1 = false → exec (.evtCueOutput n) s = .next (s.absentDrop (180 + n.val)) ∧
      exec (.cueWord n w err) s = .next s) ∧
    (s.pw.tripGated = true → exec (.cueWord n w err) s = .next s) ∧
    (s.powered domMGMT1 = true → s.pw.tripGated = false → exec (.cueWord n w true) s = .next (s.count 0x0C n.val 0) ∧
      exec (.cueWord n w false) s =
        .next (((s.matchCue n.val w.toNat).viCue n.val w.toNat).forwardCue n.val w.toNat)) ∧
    (sget (fun _ => 0) s.cat.cueEnd n.val ≠ 0 → sget (fun _ => 0) s.cat.cueEnd n.val ≤ s.tick →
      exec (.cueOutputWordEnd n) s = .next { s with cat := { s.cat with
        cueEnd := sset (fun _ => 0) s.cat.cueEnd n.val 0 } })) ∧
  (∀ (j : Fin 32) (r : Nat) (v : Bool) (rest : List (Nat × Bool)) (s : State),
    (s.lutRt j.val).queue = (r, v) :: rest → r < s.now → (∀ e ∈ rest, s.now ≤ e.1) →
    let t := s.setLut j.val { s.lutRt j.val with out := v, queue := rest }
    exec (.lutCellOutput j) s = .next (if v then t.fireAt (224 + j.val) r none else t)) ∧
  (∀ (g : Fin 16) (s : State), s.cat.groupEv = [] → s.cat.flight = [] →
    let was := bit (s.getF Fld.catalogue.groupLive 0) g.val
    exec (.groupEnable g) s = .next (((({ s with cat := { s.cat with groupEv :=
      [(g.val, s.now, if was then 2 else 3)] } }).count 0x13 g.val 0).count 0x12 (220 + g.val) 0).setGroup g.val true) ∧
    exec (.groupDisable g) s = .next (((({ s with cat := { s.cat with groupEv :=
      [(g.val, s.now, if was then 1 else 0)] } }).count 0x13 g.val 1).count 0x12 (236 + g.val) 0).setGroup g.val false))

/-- A producer's event less than 8 ticks (128 fine slots) after its previous fired event is dropped: it sets LOOP_DROP, is
counted, and leaves the interval as it was; one 8 ticks or more after it, and a producer's first, fires: it is counted,
restarts the interval, and forks to its row's inputs unless its group is disabled (R340, R346). An event that reaches the gate at the
instant of its group's change, which R347 does not order, is gated or forked by a free value: the model's choice (log 48). -/
def Obligations.ProducersFireAtMostOnceInEightTicks : Prop :=
  ∀ (p r : Nat) (ball : Option Nat) (s : State), s.powered (producerDom p) = true →
    let x := s.lift r
    let last := sget (fun _ => 0) s.cat.last p
    let f := ({ s with cat := { s.cat with last := sset (fun _ => 0) s.cat.last p (x + 1) } }).count 0x11 p 0
    (∀ l, last = l + 1 → x < l + 128 → s.fireAt p r ball = (s.raise Fld.catalogue.loopDrop 0).count 0x11 p 1) ∧
    (∀ l, last = 0 ∨ last = l + 1 ∧ l + 128 ≤ x →
      (f.gateUnsure p x = false → bit (s.getF Fld.catalogue.groupLive 0) (s.rowGroup p) = false →
        s.fireAt p r ball = f.count 0x11 p 2) ∧
      (f.gateUnsure p x = false → bit (s.getF Fld.catalogue.groupLive 0) (s.rowGroup p) = true →
        s.fireAt p r ball = f.forkEvent (s.matrixRow p) x ball) ∧
      (f.gateUnsure p x = true → s.fireAt p r ball =
        if Config.choice s.free then ({ f with free := s.free + 1 }).forkEvent (s.matrixRow p) x ball
        else ({ f with free := s.free + 1 }).count 0x11 p 2))

/-- An edge moves a LOST domain to ACQUIRING and restarts its count, one of an ACQUIRING domain is counted toward its lock, one in
the window of a LOCKED domain steers its loop, is counted and fires its producer, one outside the window is rejected, and a
disabled domain takes none; a first miss is counted; a decided lock and a loop update happen at their ticks; a switch
waits for its tick and then acts, or is refused where the domain is not LOCKED; an epoch step moves both domains by whole
seconds (R315 to R322). The instant from which a change holds, and the second that a lock counts on from, are the model's choice
(logs 42, 99). -/
def Obligations.DomainsAcquireLockMissAndSwitch : Prop :=
  (∀ (b : Bool) (f : BitVec 4) (s : State),
    let q := s.raw + f.toNat
    let r : Int := q - s.ppsDelay b
    (s.follower = true ∨ s.domState b = 0 → exec (.ppsEdge b f) s = .next s) ∧
    (s.follower = false → s.domState b = 1 → exec (.ppsEdge b f) s = .next (s.acquire b r)) ∧
    (s.follower = false → s.domState b = 2 → (r - s.expectedEdge b).natAbs ≤ s.pulseWin.toNat → exec (.ppsEdge b f) s =
      .next (((s.onPulse b r).count 0x0F 0 (if b then 5 else 0)).fireAt (if b then 182 else 181) q none)) ∧
    (s.follower = false → s.domState b = 3 → exec (.ppsEdge b f) s =
      .next ((s.setDomState b 1).setDom b { s.dom b with edges := [r], misses := 0, lockAt := none })) ∧
    (s.follower = false → s.domState b = 2 → s.pulseWin.toNat < (r - s.expectedEdge b).natAbs → exec (.ppsEdge b f) s =
      .next ((s.raise Fld.time.pulseReject 0).count 0x0F 0 (if b then 6 else 1)))) ∧
  (∀ (b : Bool) (s : State), s.domState b = 2 → s.follower = false → s.missTick b ≤ s.tick → (s.dom b).misses = 0 →
    exec (.pulseMiss b) s = .next ((s.setDom b { s.dom b with misses := 1, expect := (s.dom b).expect + 1 }).count 0x0F 0
      (if b then 7 else 2))) ∧
  (∀ (b : Bool) (t : Nat) (rate r4 : Int) (s : State), (s.dom b).lockAt = some (t, rate, r4) →
    (s.tick < t → exec (.domainLock b) s = .next s) ∧
    (t ≤ s.tick → s.domState b = 1 → s.follower = false → s.tm.now.act ≠ b → s.domState (!b) ≠ 3 → s.Canonical →
      let n := roundDiv (s.sysAt r4.toNat) sysSecond + (s.tm.now.steps - (s.setAtRaw r4.toNat).steps)
      let off := n * sysSecond - (r4 * 2 ^ 12 + r4 * rate / 2 ^ 36)
      exec (.domainLock b) s = .next ((((s.changeTime s.changeInstant (fun q => withDom q b rate off)).setDomState b 2).setDom b
        { s.dom b with
          edges := [], rf := rate, rprev := r4, everLocked := true, misses := 0, lockAt := none, updates := []
          expect := n + 1 }).count 0x0F 0 (if b then 9 else 4)))) ∧
  (∀ (b : Bool) (w : Nat × Int) (rest : List (Nat × Int)) (s : State), (s.dom b).updates = w :: rest →
    (s.tick < w.1 → exec (.loopUpdate b) s = .next s) ∧
    (w.1 ≤ s.tick → s.domState b ≠ 2 → exec (.loopUpdate b) s = .next (s.setDom b { s.dom b with updates := rest })) ∧
    (w.1 ≤ s.tick → s.domState b = 2 → exec (.loopUpdate b) s =
      .next ((s.setDom b { s.dom b with updates := rest }).changeTime s.now (fun q => withDom q b w.2
        (offOf q b + (s.raw : Int) * rateOf q b / 2 ^ 36 - (s.raw : Int) * w.2 / 2 ^ 36))))) ∧
  (∀ (t id : Nat) (b step : Bool) (s : State), s.tm.switches = [(t, b, step, id)] →
    (s.tick < t → exec .domainSwitch s = .next s) ∧
    (t ≤ s.tick →
      let u := { s with tm := { s.tm with switches := [] } }
      (s.domState b ≠ 2 → exec .domainSwitch s = .next (u.completeId id (Reply.fail .state))) ∧
      (s.domState b = 2 → s.tm.now.act = b → exec .domainSwitch s = .next (u.completeId id Reply.ok)) ∧
      (s.domState b = 2 → s.tm.now.act ≠ b → exec .domainSwitch s =
        .next ((u.switchTo b step).completeId id (Reply.ok64 s.tick))))) ∧
  (∀ (s : State) (t e id r : Nat), s.tm.epoch = [(t, e, id)] → s.secondSlot (s.lift (16 * t)) = some r →
    let d : Int := e - sysTime (s.setAtRaw r) r / sysSecond
    let u := s.changeTime r (fun q => { q with
      offA := q.offA + d * sysSecond, offB := q.offB + d * sysSecond, steps := q.steps + d })
    let v := { u with tm := { u.tm with
      epoch := []
      domA := { s.tm.domA with expect := s.tm.domA.expect + d }, domB := { s.tm.domB with expect := s.tm.domB.expect + d } } }
    exec .epochStep s = .next ((((v.setF Fld.time.epochSet 0 1).raise Fld.time.timeStepped 0).count 0x0F 0 11).completeId id
      (Reply.ok64 (w64 r / 16))))

/-- A switch of the domain without STEP keeps system time continuous at the instant of the switch (R323). -/
def Obligations.SwitchKeepsSystemTimeContinuous : Prop :=
  ∀ (s : State) (b : Bool),
    sysTime (s.switchTo b false).tm.now s.changeInstant = sysTime s.tm.now s.changeInstant

/-- Time pulses and PPS_OUT rise and fall at their instants, a pulse that ends by the next rise before it, fire their producers and count; a single pulse clears TP_EN; a
capture unit stamps an event, or loses it where 64 wait (R325 to R328). -/
def Obligations.TimePulsesAndStampsFollowTheirInstants : Prop :=
  (∀ (n : Fin 4) (r k : Nat) (s : State),
    (s.tpDue n.val = none → exec (.tpEdge n) s = .next s) ∧
    (s.tpDue n.val = some (some r, k) →
      exec (.tpEdge n) s = .next ((((s.tpRise n.val r).tpOnce n.val).tpOnce n.val).tpOnce n.val)) ∧
    (s.tpDue n.val = some (none, k) →
      exec (.tpEdge n) s = .next ((((s.tpSkip n.val k).tpOnce n.val).tpOnce n.val).tpOnce n.val)) ∧
    (s.tpEndDue n.val = true → s.getF (tpF n.val Fld.tp.period) 0 ≠ 0 → s.Canonical →
      exec (.tpPulseEnd n) s = .next (s.tpFall n.val (sget (fun _ => 0) s.tm.tpEnd n.val))) ∧
    (s.tpEndDue n.val = true → s.getF (tpF n.val Fld.tp.period) 0 = 0 → s.Canonical →
      exec (.tpPulseEnd n) s = .next ((s.tpFall n.val (sget (fun _ => 0) s.tm.tpEnd n.val)).setF (tpF n.val Fld.tp.tpEn)
        0 0))) ∧
  (∀ (s : State) (r : Nat),
    (s.flag Fld.time.ppsOutEn 0 = false → exec .ppsOutEdge s = .next s) ∧
    (s.ppsOutSlot = some r →
      let u := if s.tm.ppsFall ≠ 0 ∧ s.tm.ppsFall ≤ r then s.emit (.edge 4 false (w64 s.tm.ppsFall)) else s
      let t := { u with tm := { s.tm with
        ppsLast := s.ppsSecond (s.setAtRaw r) r + 1, ppsFall := r + 16 * s.getF Fld.time.ppsOutWidth 0
        ppsSpan := (r + 1, r + 16 * s.getF Fld.time.ppsOutWidth 0) } }
      exec .ppsOutEdge s = .next ((t.emit (.edge 4 true (w64 r))).fireAt 180 r none)) ∧
    (s.tm.ppsFall ≠ 0 → s.tm.ppsFall < s.tm.lookTo → exec .ppsOutFall s =
      .next (({ s with tm := { s.tm with ppsFall := 0 } }).emit (.edge 4 false (w64 s.tm.ppsFall))))) ∧
  (∀ (n : Fin 16) (f : BitVec 64) (s : State),
    let t := s.count 0x12 (148 + n.val) 0
    let l := (s.tm.stamps.filter (fun e => decide (e.1 = n.val))).length
    let c := sget (fun _ => 0) s.tm.stampCount n.val + 1
    (l < 64 → exec (.timestampCapture n f) s = .next (({ t with tm := { s.tm with
      stamps := s.tm.stamps ++ [(n.val, f.toNat, c)]
      stampCount := sset (fun _ => 0) s.tm.stampCount n.val c } }).count 0x10 n.val 0)) ∧
    (64 ≤ l → exec (.timestampCapture n f) s = .next ((t.markLost (82 + n.val)).count 0x10 n.val 1)))

/-! ### Ethernet, courier links and the ledger: their events -/

/-- The port takes frames without an error, of at most 9,000 bytes and with the tag that its VLAN needs; it answers what its own
addresses let it, to the address that asked, drops and counts the rest, honours a PAUSE in bit times of its mode, and has a link
only in a mode. A PTP message for another domain is ignored and counted, an Announce that counts is remembered, and a master
sends its Announce when it is due (R330, R331, R400, R401, R404; the length of a quantum is IEEE 802.3's, log entry 56; the
layout of a PTP message is IEEE 1588's, log entry 46). -/
def Obligations.EthernetPortAnswersPausesAndLinks : Prop :=
  (∀ (rx : EthRx) (k : EthTraffic) (q : BitVec 16) (msg : List Byte) (s : State), s.ethUp = false →
    exec (.ethRequest ⟨rx, k⟩) s = .next s ∧ exec (.pauseFrame q) s = .next s ∧ exec (.ptpMessage ⟨rx, msg⟩) s = .next s ∧
      exec .ptpMessageInterval s = .next s) ∧
  (∀ (rx : EthRx) (k : EthTraffic) (q : BitVec 16) (msg : List Byte) (s : State), s.ethUp = true →
    let drop := { s with eth := { s.eth with drops := s.eth.drops + 1 } }
    let t := s.raise Fld.eth.rxErr 0
    let err := { t with eth := { s.eth with rxErrs := s.eth.rxErrs + 1 } }
    (rx.bad = true ∨ 9000 < rx.size.toNat →
      exec (.ethRequest ⟨rx, k⟩) s = .next err ∧ exec (.ptpMessage ⟨rx, msg⟩) s = .next err) ∧
    (rx.bad = false → rx.size.toNat ≤ 9000 → s.vlanOk rx = false →
      exec (.ethRequest ⟨rx, k⟩) s = .next drop ∧ exec (.ptpMessage ⟨rx, msg⟩) s = .next drop) ∧
    (rx.bad = false → rx.size.toNat ≤ 9000 → s.vlanOk rx = true →
      (s.ethAnswers rx.target.toNat k = true → s.eth.pauseEnd ≤ s.tick → s.eth.txq = [] → exec (.ethRequest ⟨rx, k⟩) s =
        .next (s.emit (.ethAnswer (s.ethTx rx.mac.toNat) rx.ip.toNat k))) ∧
      (s.ethAnswers rx.target.toNat k = false → exec (.ethRequest ⟨rx, k⟩) s = .next drop) ∧
      (s.ptpOn = false → exec (.ptpMessage ⟨rx, msg⟩) s = .next drop)) ∧
    (s.getF Fld.eth.ethMode 0 = 2 → exec (.pauseFrame q) s =
      .next { s with eth := { s.eth with pauseEnd := s.tick + (512 * q.toNat + 24) / 25 } })) ∧
  (∀ (s : State),
    (s.powered domETH = true → s.getF Fld.eth.ethMode 0 ≠ 0 → exec .ethLinkUp s = .next (s.setF Fld.eth.linkUp 0 1)) ∧
    (s.powered domETH = false ∨ s.getF Fld.eth.ethMode 0 = 0 → exec .ethLinkUp s = .next s) ∧
    (s.powered domETH = true → s.eth.txq = [] → exec .ethLinkDown s =
      .next { s.setF Fld.eth.linkUp 0 0 with eth := { s.eth with txq := [], pauseEnd := 0 } })) ∧
  (∀ (rx : EthRx) (msg : List Byte) (s : State), s.ethUp = true → rx.bad = false → rx.size.toNat ≤ 9000 →
    s.vlanOk rx = true → s.ptpOn = true → rx.target.toNat = (ptpGroup (s.getF Fld.time.ptpTransport 0) false).1 →
    let t := { s.count 0x0F 0 22 with free := s.free + 1 }
    (beNat (sub msg 4 1) ≠ s.getF Fld.time.ptpDomain 0 → exec (.ptpMessage ⟨rx, msg⟩) s = .next (t.count 0x0F 0 24)) ∧
    (64 ≤ msg.length → beNat (sub msg 1 1) % 16 = 2 → beNat (sub msg 4 1) = s.getF Fld.time.ptpDomain 0 →
      beNat (sub msg 0 1) % 16 = 0xB → s.flag Fld.time.ptpMasterOnly 0 = false →
      let old := (s.eth.foreign.find? (fun f => decide (f.port = beNat (sub msg 20 10)))).map Foreign.last
      exec (.ptpMessage ⟨rx, msg⟩) s = .next (
        if announceTaken msg = true then { t with eth := { s.eth with
          foreign := ⟨beNat (sub msg 20 10), beNat (sub msg 47 14), beNat (sub msg 61 2), s.tick + 1, old.getD 0⟩ ::
            s.eth.foreign.filter (fun f => decide (f.port ≠ beNat (sub msg 20 10))) } }
        else t.count 0x0F 0 24))) ∧
  (∀ (s : State), s.ethUp = true → s.ptpOn = true → s.ptpState = 6 → s.tick < s.eth.syncAt →
    s.eth.announceAt ≤ s.tick → s.flag Fld.time.ptpP2p 0 = false → s.eth.pauseEnd ≤ s.tick → s.eth.txq = [] →
    let g := ptpGroup (s.getF Fld.time.ptpTransport 0) false
    let t := { s with eth := { s.eth with
      announceAt := s.tick + logTicks (toS 4 (s.getF Fld.time.logAnnounce 0))
      ptp := { s.eth.ptp with announceSeq := (s.eth.ptp.announceSeq + 1) % 2 ^ 16 } } }
    exec .ptpMessageInterval s = .next ((t.emit (.ptp (s.ethTx g.2) g.1 (s.ptpBytes 0xB
      (if s.flag Fld.time.epochArb 0 then 0 else 8) 0 s.eth.ptp.announceSeq
      (ptpField 0 ++ beBytes 2 (s.getF Fld.time.utcOffset 0) ++ beBytes 1 0 ++ beBytes 14 s.ownWord ++ beBytes 2 0 ++
        beBytes 1 (s.getF Fld.time.timeSource 0))))).count 0x0F 0 21))

/-- A courier port: a frame with a wrong CRC is counted and flagged, and the eighth in a row takes the port out of UP; a good
frame is counted, and gives the port its marks and echoes in MEASURE, its verdicts, its cue and its time-sync word in UP; a mark is owed an echo, and an echo measures the round trip in fine slots; frame
lock starts a measurement at the next frame boundary, whose end fits the hop or fails the budget; a training of generation 2
falls back where GEN_FALLBACK is 1 and the peer, which is outside the device, agrees; the bound of a training ends it with
TRAIN_FAIL, before a frame lock that comes later, and a CP_LINK that waits times out at its own bound; each cause of R440 takes a
port out of UP (R432 to R436, R440). A lane's scrambler runs on whatever the lane carries, and scrambling what it has scrambled
gives the lane's bits back (R431). The reference sends
TIME every 1,024 ticks and PARAM at every change to the ports that are UP; without one nothing is sent (R438). Which tick is the
last of a bound, how PARAM messages are ordered and what seeds a retraining's scramblers are the model's choice (logs 60, 61, 131). -/
def Obligations.CourierLinks : Prop :=
  ((∀ (p : Fin 4) (f : LinkFrame) (s : State),
     let w := f.frame.toNat
     (s.powered (domCP p.val) = false ∨ s.linkState p.val < 2 → exec (.courierFrame p f) s = .next s) ∧
     (s.powered (domCP p.val) = true → 2 ≤ s.linkState p.val → frameGood w = false →
       let t := ((s.count 0x17 p.val 1).errFrame p.val).raise Fld.courier.crcErr p.val
       let u := t.setCpRt p.val { t.cpRt p.val with crcRun := (t.cpRt p.val).crcRun + 1 }
       ((s.cpRt p.val).crcRun < 7 → exec (.courierFrame p f) s = .next u) ∧
       (7 ≤ (s.cpRt p.val).crcRun → exec (.courierFrame p f) s = .next (u.mustLeave p.val))) ∧
     (s.powered (domCP p.val) = true → 2 ≤ s.linkState p.val → frameGood w = true →
       let ls := bits w 8 3
       let kind := bits w 4 2
       let c := s.count 0x17 p.val 1
       let g := c.setCpRt p.val { c.cpRt p.val with crcRun := 0, peerUp := decide (ls = 3) }
       let v := g.takeVerdicts p.val w
       let cue := bit w 6 && decide (v.getL Fld.courier.cueRxEn p.val = 1) && v.powered domMGMT1 && !v.pw.tripGated
       let stay := fun (u : State) => if ls = 3 then u else u.mustLeave p.val
       (s.linkState p.val = 2 → ls = 0 → exec (.courierFrame p f) s = .next (g.goDown p.val)) ∧
       (s.linkState p.val = 2 → ls ≠ 0 → exec (.courierFrame p f) s =
         .next (if kind = 2 then g.takeBulk p.val (s.raw + f.fine.toNat) (bits w 208 32) else g)) ∧
       (s.linkState p.val ≠ 2 → kind ≠ 0 → exec (.courierFrame p f) s =
         .next (stay g)) ∧
       (s.linkState p.val ≠ 2 → kind = 0 → cue = false →
         exec (.courierFrame p f) s = .next (stay (v.takeTsync p.val (bits w 144 64)))) ∧
       (s.linkState p.val ≠ 2 → kind = 0 → cue = true → exec (.courierFrame p f) s =
         .next (stay ((v.matchCue (v.getL Fld.courier.cueDst p.val) (bits w 128 16)).takeTsync p.val
           (bits w 144 64)))))) ∧
   (∀ (p at_ w : Nat) (s : State),
     (bits w 28 4 = 1 → s.takeBulk p at_ w = s.setCpRt p { s.cpRt p with owed := some at_ }) ∧
     (∀ m l, bits w 28 4 = 2 → (s.cpRt p).marks = m :: l → s.takeBulk p at_ w = s.setCpRt p { s.cpRt p with
       marks := l, echoes := (s.cpRt p).echoes + 1, maxR := max (s.cpRt p).maxR (at_ - m - bits w 0 28) })) ∧
   (∀ (a b x : Nat) (scram : List Nat), (scramble a 64 x).1 = (scramble b 64 x).1 ∧
     (scramble (scramble a 64 x).2 64 x).2 = a % 2 ^ 64 ∧
     (∀ k, k < 4 → ((laneBits scram a).map Prod.snd)[k]? = some (scramble (bits a (64 * k) 64) 64 (scram.getD k 0)).2)) ∧
   (∀ (p : Fin 4) (s : State), s.fallbackDue p.val = false → s.linkTimeoutDue p.val = false →
     (s.powered (domCP p.val) = true → s.linkState p.val = 1 →
       let b := roundUp s.tick (s.framePeriod p.val)
       exec (.frameLock p) s = .next (((s.setF Fld.courier.linkState p.val 2).setF Fld.courier.laneOk p.val 15).setCpRt p.val
         { s.cpRt p.val with
           measStart := b, measEnd := b + 1024 * s.framePeriod p.val, fallAt := 0, echoes := 0, maxR := 0, marks := []
           owed := none, ready := false, peerUp := false, crcRun := 0 })) ∧
     (s.powered (domCP p.val) = false ∨ s.linkState p.val ≠ 1 → exec (.frameLock p) s = .next s)) ∧
   (∀ (p : Fin 4) (s : State), s.cmd.open_ = [] → s.linkState p.val = 1 → (s.cpRt p.val).boundAt ≠ 0 →
     (s.cpRt p.val).boundAt < s.tick → (s.cpRt p.val).fallAt = 0 →
     let t := (s.goDown p.val).raise Fld.courier.trainFail p.val
     exec (.frameLock p) s = .next (t.setCpRt p.val { t.cpRt p.val with boundAt := 0, fallAt := 0, want := false })) ∧
   (∀ (p : Fin 4) (s : State), s.powered (domCP p.val) = true → s.linkState p.val = 2 → (s.cpRt p.val).measEnd ≤ s.tick →
     (s.cpRt p.val).ready = false →
     let h := ((s.cpRt p.val).maxR + 1) / 2
     ((s.cpRt p.val).echoes < 16 ∨ 800 < h → exec (.measureEnd p) s =
       .next (((s.setF Fld.courier.hopMeas p.val h).goDown p.val).raise Fld.courier.budget p.val)) ∧
     (16 ≤ (s.cpRt p.val).echoes → h ≤ 800 → exec (.measureEnd p) s =
       .next (((s.setF Fld.courier.hopMeas p.val h).setF Fld.courier.pad p.val (832 - h)).setCpRt p.val
         { s.cpRt p.val with ready := true }))) ∧
   (∀ (p : Fin 4) (s : State), s.powered (domCP p.val) = true → s.linkState p.val = 1 → (s.cpRt p.val).fallAt ≠ 0 →
     (s.cpRt p.val).fallAt < s.tick →
     let t := ({ s with free := s.free + 1 }).setCpRt p.val { s.cpRt p.val with fallAt := 0 }
     exec (.trainingFallback p) s = .next (
       if s.flag Fld.courier.genFallback p.val = true ∧ Config.choice s.free = true then
         ((t.setCpRt p.val { t.cpRt p.val with scram := [0, 1, 2, 3].map (fun k =>
           Config.scramblerSeed (4 * s.free + k) % 2 ^ 31) }).setF Fld.courier.liveGen p.val 0).raise Fld.courier.fellBack p.val
       else t)) ∧
   (∀ (p : Fin 4) (s : State), (s.cpRt p.val).boundAt ≠ 0 → (s.cpRt p.val).boundAt < s.tick → s.linkState p.val = 1 →
     s.cmd.open_ = [] →
     let t := (s.goDown p.val).raise Fld.courier.trainFail p.val
     exec (.cpLinkTimeout p) s = .next (t.setCpRt p.val { t.cpRt p.val with boundAt := 0, fallAt := 0, want := false })) ∧
   (∀ (p : Fin 4) (h : Hdr) (m g : BitVec 8) (c : Cmd) (s : State), s.cmd.open_ = [c] → c.instr = .cpLink h m g →
     c.st = .waiting → bit c.mask p.val = true → c.res < s.tick → (s.cpRt p.val).boundAt = 0 → s.linkState p.val ≠ 2 →
     exec (.cpLinkTimeout p) s = .next (s.completeId c.id { Reply.fail .timeout with r0 := s.upMask })) ∧
   (∀ (p : Fin 4) (c : DownCause) (s : State),
     (s.linkState p.val ≠ 3 → exec (.linkDown p c) s = .next s) ∧
     (s.linkState p.val = 3 →
       exec (.linkDown p .laneLoss) s = .next (s.leaveUp p.val) ∧
       ((s.cpRt p.val).want = false → exec (.linkDown p .command) s = .next (s.leaveUp p.val)) ∧
       (s.powered (domCP p.val) = false → exec (.linkDown p .powerOff) s = .next (s.leaveUp p.val)) ∧
       ((s.cpRt p.val).measEnd ≠ 0 → s.frameBoundary p.val = true →
         exec (.linkDown p (if 8 ≤ (s.cpRt p.val).crcRun then .crcRun else .peerDown)) s = .next (s.leaveUp p.val))))) ∧
  (∀ (s : State), s.follower = false →
     (s.upMask = 0 → exec .timeMessage s = .next s ∧ exec .paramMessage s = .next s) ∧
     (s.upMask ≠ 0 → s.cp.timeAt ≤ s.tick →
       let t := (setPositions s.upMask 4).foldl (fun t p => t.sendMsg p 0 [tsWord 1 0]) s
       exec .timeMessage s = .next { t with cp := { t.cp with timeAt := s.tick + 1024 } }) ∧
     (s.upMask ≠ 0 → s.cp.paramAt ≤ s.tick →
       let t := (setPositions s.upMask 4).foldl
         (fun t p => (s.futureSets.map paramMsg).foldl (fun u m => u.sendMsg p 1 m) t) s
       exec .paramMessage s = .next { t with cp := { t.cp with paramAt := s.tick + 1000000 } }))

/-! ### Power, temperature, calibration and resets: their events -/

/-- A reading of a supply below its sag threshold is a sag, and no other is; the first of a span fires EVP218 and sets SAG_SEEN,
and its notice, at the end of the tick, names the lowest supply that fell in it; VBP and VBN stop being good for the banks, and
VAUX below 2.45 V asks for the brown-out reset (R442, R446, R448). A sag of VAUX or VDD_CORE inhibits writing until both have been good for
10 ms (R447). The first ordering error stands in ORDER_CODE, one before VAUX is good waits for it, one of steps 1 to 4 holds
unpowered what waits for its supplies, and code 6 takes the power of what a removed supply feeds (R444, R450). A lost PLL keeps raw
time, and a relock puts it, at the end of the tick, on the first multiple of
16 at or above the value it has reached; the first lock since reset is no relock; an unplanned loss of a domain is LOSSY (R27,
R310, R450). What a reading is read as, when its notice goes out and what an ordering error holds is the model's choice (logs 116, 117,
118), and so are the clock's course while the PLL is unlocked, what its loss does to what runs, and what a power loss takes with it
(logs 8, 69, 89, 111). -/
def Obligations.SuppliesOrderAndPllEventsAreRecorded : Prop :=
  (∀ (n : BitVec 6) (v : BitVec 32) (s : State),
    let k := n.toNat
    let low := if k = 10 then -5500000 < v.toInt else v.toInt <
      ([2600000, 620000, 760000, 950000, 950000, 810000, 1140000, 1710000, 1710000, 5500000] : List Int).getD k 0
    (10 < k ∨ ¬ low → exec (.supplySag n v) s = .next s) ∧
    (k ≤ 10 → low → s.Canonical →
      let t := { s with pw := { s.pw with
        sagged := s.pw.sagged ||| (1 <<< k)
        sagOnset := if s.pw.sagged = 0 ∨ (s.pw.sagOnset ≠ 0 ∧ bit s.pw.sagged k = false) then s.pw.sagOnset ||| (1 <<< k)
          else s.pw.sagOnset
        readings := s.pw.readings.set k v.toInt } }
      let u := if k < 2 then
          ({ t.setF Fld.thermal.nvInhibit 0 1 with pw := { t.pw with nvClear := 0 } } : State).cutUpdate
        else t
      let w := if s.pw.sagged = 0 then (u.fire 218).raise Fld.thermal.sagSeen 0 else u
      let x := if 9 ≤ k then w.supplyLost else w
      exec (.supplySag n v) s = .next (if k = 0 ∧ v.toInt < 2450000 then x.askReset .cold else x))) ∧
  (∀ (n : Fin 11) (s : State), bit s.pw.sagOnset n.val = true → (∀ m, m < n.val → bit s.pw.sagOnset m = false) →
    s.sagNotice = ({ s with pw := { s.pw with sagOnset := 0 } }).notice 0x08 n.val (ofS 32 (s.pw.readings.getD n.val 0)) 0) ∧
  (∀ (s : State),
    (s.pw.sagged = 0 → exec .supplySagEnd s = .next s) ∧
    (s.pw.sagged ≠ 0 → s.pw.sagged < 2 ^ 11 → (∀ n ∈ s.sagList, goodReading n (s.pw.readings.getD n 0) = true) →
      s.pw.orderWait = 0 → s.pw.orderHolds = [] →
      (s.flag Fld.thermal.nvInhibit 0 = false → exec .supplySagEnd s = .next { s with pw := { s.pw with sagged := 0 } }) ∧
      (s.flag Fld.thermal.nvInhibit 0 = true → exec .supplySagEnd s = .next { s with pw := { s.pw with
        sagged := 0, nvClear := if s.pw.nvClear = 0 then s.tick + 10000000 else s.pw.nvClear } })) ∧
    (s.pw.nvClear ≠ 0 → s.pw.nvClear ≤ s.tick →
      exec .nvInhibitClear s = .next (({ s with pw := { s.pw with nvClear := 0 } }).setF Fld.thermal.nvInhibit 0 0)) ∧
    (s.pw.nvClear = 0 ∨ s.tick < s.pw.nvClear → exec .nvInhibitClear s = .next s)) ∧
  (∀ (c : BitVec 8) (s : State),
    (c.toNat = 0 ∨ 6 < c.toNat → exec (.orderErr c) s = .next s) ∧
    (1 ≤ c.toNat → c.toNat ≤ 5 → s.pw.sagged = 0 → s.getF Fld.thermal.orderCode 0 = 0 → exec (.orderErr c) s =
      .next ((s.setF Fld.thermal.orderCode 0 c.toNat).raise Fld.thermal.orderErr 0)) ∧
    (1 ≤ c.toNat → c.toNat ≤ 5 → s.pw.sagged = 0 → s.getF Fld.thermal.orderCode 0 ≠ 0 → exec (.orderErr c) s =
      .next (s.raise Fld.thermal.orderErr 0)) ∧
    (1 ≤ c.toNat → c.toNat ≤ 5 → (∃ n ∈ orderNeeds c.toNat, bit s.pw.sagged n = true) →
      ∃ t, exec (.orderErr c) s = .next t ∧ ∀ d, d < 56 → bit (orderMask c.toNat) d = true → t.powered d = false) ∧
    (c.toNat = 6 → ∃ t, exec (.orderErr c) s = .next t ∧
      ∀ d, 0 < d → d < 56 → (∃ n ∈ railsOf d, bit s.pw.sagged n = true) → t.powered d = false)) ∧
  (∀ (f : BitVec 64) (s : State),
    (s.tm.unlocked = true → exec .pllUnlock s = .next s) ∧
    (s.tm.unlocked = false → ∃ t, exec .pllUnlock s = .next t ∧ t.tm.unlocked = true ∧ t.raw = s.raw) ∧
    (s.tm.unlocked = false → exec (.pllRelock f) s = .next s) ∧
    (s.tm.unlocked = true →
      let r := roundUp (s.raw + f.toNat % 320) 16
      let t := { s with tm := { s.tm with unlocked := false, everLocked := true, span := max 16 (r - s.raw) } }
      (r % 16 = 0 ∧ s.raw + f.toNat % 320 ≤ r ∧ r < s.raw + f.toNat % 320 + 16 ∧
        (s.raw % 16 = 0 → 0 < f.toNat % 320 → t.nextTick.raw = w64 r)) ∧
      (s.tm.everLocked = false → exec (.pllRelock f) s = .next t) ∧
      (s.tm.everLocked = true →
        exec (.pllRelock f) s = .next ((t.setF Fld.time.relockRaw 0 (w64 r)).notice 0x06 0 0 0)))) ∧
  (∀ (d : Fin 56) (s : State),
    (s.powered d.val = false ∨ d.val = 0 → exec (.powerLoss d) s = .next s) ∧
    (s.powered d.val = true → d.val ≠ 0 → ∃ t, exec (.powerLoss d) s = .next t ∧ t.powered d.val = false ∧
      bit t.ldg.lossy d.val = true))

/-- A scan comes once every 1,000,000 ticks, and one below the thresholds records its readings and the hottest sensor (a sensor it
gives no reading of keeps its last one: the model's choice, log entry 84), moves the temperature trims, and sets BAND_REQ outside
Idle where the tuning control, a free value, is far out (the model's choice, log 119); a trip holds and gates the device, and in a
grace marks the curators that still run; the tiles lose power 1,000 ticks after the mute
point or the trip's even tick, whichever comes first; Dormant follows its command; the core voltage follows a free target in Idle,
in whole millivolts (R453, R455, R459, R460, R462 to R465). -/
def Obligations.TemperatureStopsTripsAndPowersDown : Prop :=
  (∀ (l : List (BitVec 16)) (s : State),
    let temps := (l.map BitVec.toNat).take 48 ++ s.pw.temps.drop l.length
    let vals := temps.map (toS 16)
    let b := ({ s with free := s.free + 1 }).setTrims [0x3000, 0x3001, 0x3002, 0x3003] (Config.trimValue s.free)
    let c := if Config.choice s.free = true ∧ s.powerState ≠ 1 then b.setF Fld.thermal.bandReq 0 1 else b
    let due := roundUp s.tm.lookFrom 16000000 < s.tm.lookTo ∧ s.pw.scanRaw ≠ s.raw
    (¬ due → exec (.thermalScan l) s = .next s) ∧
    (due → s.thermalState = 0 → (∀ x ∈ vals, x < 95 * 256) → s.flag Fld.thermal.warnActive 0 = false →
      95 ≤ s.getF Fld.thermal.stopT 0 → s.Canonical →
      let h := hottest 1 (vals.drop 1) (vals.headD 0, 0)
      exec (.thermalScan l) s = .next ((({ c with pw := { s.pw with temps := temps, scanRaw := s.raw } }).setF
        Fld.thermal.tjMax 0 (ofS 16 h.1)).setF Fld.thermal.tjMaxSensor 0 h.2))) ∧
  (∀ (n : BitVec 6) (v : BitVec 16) (s : State),
    (s.thermalState = 3 → exec (.thermalTrip n v) s = .next s) ∧
    (s.thermalState ≠ 3 → ∃ t, exec (.thermalTrip n v) s = .next t ∧ t.pw.hold = true ∧ t.pw.tripGated = true ∧
      t.pw.tileOff = (if s.pw.tileOff = 0 then roundUp s.tick 2 + 1000 else min s.pw.tileOff (roundUp s.tick 2 + 1000)) ∧
      (s.thermalState = 1 → s.pw.muteAt = 0 → s.running ≠ [] → s.Canonical → t.flag Fld.thermal.graceExpired 0 = true))) ∧
  (∀ (s : State),
    (s.muteDue = false → exec .mutePoint s = .next s) ∧
    (s.muteDue = true → ∃ t, exec .mutePoint s = .next t ∧ t.pw.muteAt = s.tick ∧ t.pw.tileOff = s.tick + 1000) ∧
    (s.tileOffDue = false → exec .tilePowerDown s = .next s) ∧
    (s.tileOffDue = true → ∃ t, exec .tilePowerDown s = .next t ∧ t.pw.tileOff = 0 ∧
      ∀ d : Fin 32, t.powered (9 + d.val) = false) ∧
    (s.dormantDue = false → exec .dormantEntry s = .next s) ∧
    (s.dormantDue = true → ∃ t, exec .dormantEntry s = .next t ∧ t.bt.ready = false ∧ t.pw.dormantAt = 0 ∧
      ∀ d : Fin 55, t.powered (1 + d.val) = false)) ∧
  (∀ (s : State),
    let due := roundUp s.tm.lookFrom 16000000 < s.tm.lookTo
    let v := s.clampVcore (Config.vcoreTarget s.free)
    (¬ due → exec .avsTarget s = .next s) ∧
    (due → s.Canonical → s.powerState = 1 → s.flag Fld.thermal.avsEn 0 = true →
      exec .avsTarget s = .next (((s.draw.2).setF Fld.thermal.vcoreTarget 0 v).avsWrite (10 * ((v + 5) / 10)))))

/-- A calibration that reaches its end draws which units pass (free values), sets the trims of those, returns its inputs and banks
from CAL, and completes with the mask; a system measurement returns its appraiser to IDLE: of a zero that passes it keeps the input's
setting and its offset, of a full one within 3.00 dB it moves the gain and offset trims the other way, and one that fails
completes with CAL_FAIL; background tracking moves a slice trim of a RUNNING input by at most one LSB, once per 1,000,000 ticks,
and no other trim; a rotation of an output is noted (R304, R468, R470, R472 to R481). -/
def Obligations.CalibrationsEndAndBackgroundWorkIsNoted : Prop :=
  (∀ (j : CalJob) (s : State), s.cal.jobs = [j] → j.endAt ≤ s.tick →
    let us := setPositions (clearMask j.mask j.fail) 96
    let done := fun (t : State) => let p := t.drawPasses us
      (((setPositions p.1 96).foldl (fun u k => u.passItem j.kind k) p.2).dropJob j.id).completeId j.id (Reply.mask (if p.1 = j.mask then .ok else .calFail) p.1)
    (j.kind = 0 → exec .calOutputEnd s = .next (done s)) ∧
    (j.kind = 1 → exec .calInputEnd s = .next (done ((setPositions (clearMask j.mask j.fail) 32).foldl
      (fun t i => if t.inputState i = 4 then t.setF Fld.input.state i 3 else t) s))) ∧
    (j.kind = 2 → exec .calBiasEnd s = .next (done ((setPositions (clearMask j.mask j.fail) 4).foldl State.bankCalEnd s))) ∧
    (let i := (setPositions j.mask 32).headD 0
     let t := ((s.setF Fld.appraiser.state (atOfInput i) 0).dropJob j.id).draw.2
     let z := t.dropZero i
     let d := Config.calDifference s.free
     let off := Config.calOffset s.free
     (j.kind = 3 → exec .sysMeasurementEnd s = .next (
       if s.inputState i = 3 ∧ Config.calPasses s.free = true ∧ off.natAbs ≤ 100 then
         ({ z with cal := { z.cal with zeros := (i, s.inputSet i, off) :: z.cal.zeros } }).completeId j.id Reply.ok
       else t.completeId j.id (Reply.fail .calFail))) ∧
     (j.kind = 4 → exec .sysMeasurementEnd s = .next (
       if s.inputState i = 3 ∧ d.natAbs ≤ 300 then
         (z.setCorrection i d (((s.zeroOf i).map (fun e => e.2.2)).getD 0)).completeId j.id Reply.ok
       else z.completeId j.id (Reply.fail .calFail))))) ∧
  (∀ (i : Nat) (diff off : Int) (s : State),
    let w := sget (fun _ => 0) s.cal.trim i
    let g := toS 32 (bits w 0 32) - diff
    let o := toS 32 (bits w 32 32) - off
    let t := s.setCorrection i diff off
    t.cal.trim = sset (fun _ => 0) s.cal.trim i (ofS 32 g + 2 ^ 32 * ofS 32 o) ∧
      (i, (s.inputSet i).2.1, g, o) ∈ t.cal.corr ∧ t.cal.trims = s.cal.trims ∧ t.objs = s.objs ∧ t.live = s.live) ∧
  (∀ (s : State), (∀ j ∈ s.cal.jobs, s.tick < j.endAt) →
    exec .calOutputEnd s = .next s ∧ exec .calInputEnd s = .next s ∧ exec .calBiasEnd s = .next s ∧
      exec .sysMeasurementEnd s = .next s) ∧
  (∀ (i : Fin 32) (s : State),
    (s.powered (domAT (i.val / 4)) = false ∨ s.inputState i.val ≠ 3 → exec (.interleaveTracking i) s = .next s) ∧
    (s.powered (domAT (i.val / 4)) = true → s.inputState i.val = 3 →
      (Config.choice s.free = false → exec (.interleaveTracking i) s = .next s.draw.2) ∧
      (Config.choice s.free = true → exec (.interleaveTracking i) s =
        .next (((List.range 48).map (fun k => 0x1000 + 64 * i.val + k)).foldl State.trackTrim s.draw.2)))) ∧
  (∀ (k : Nat) (s : State), swf (fun _ => 0) s.cal.trims = true →
    let last := sget (fun _ => 0) s.cal.lastTrack k
    let t := s.trackTrim k
    (last ≠ 0 → s.tick < last - 1 + 1000000 → t = s) ∧
    (t.trimOf k = s.trimOf k ∨ t.trimOf k = (s.trimOf k + 1) % 2 ^ 16 ∨ t.trimOf k = (s.trimOf k + (2 ^ 16 - 1)) % 2 ^ 16) ∧
    (∀ m, m ≠ k → t.trimOf m = s.trimOf m)) ∧
  (∀ (o : Fin 96) (s : State), s.powered (domDT (o.val / 4)) = true → s.getF Fld.output.state o.val = 2 →
    sget (fun _ => 0) s.drv.lastRot o.val = 0 → sget (fun _ => 0) s.drv.lastPlaying o.val = 0 → s.drv.plays = [] →
    exec (.sourceRotation o) s = .next { s with drv := { s.drv with
      lastRot := sset (fun _ => 0) s.drv.lastRot o.val (s.tick + 1)
      rotations := sset (fun _ => 0) s.drv.rotations o.val (sget (fun _ => 0) s.drv.rotations o.val + 1) } })

/-- A reset from outside is requested, and of the requests of a tick the widest class acts at the end of its work; one that comes
after that acts at once unless one as wide has acted (R487). A cold reset leaves raw time 0, no open command, every counter at 0 and
the power of reset, and keeps the strongroom, the
fuses and the flash; a warm reset ends every open command, switch and epoch step and keeps raw time, the bias banks and, where it
discards no record, block, frame or message, every counter; a function-level reset clears the function's catalogue bits and MSI-X
table and changes no object; a link reset is that of both functions, with their payload sizes back at 128 bytes; without PD_PCIE
neither changes anything (R397, R487, R488). A
Docent restart, where its cause is there, stops the device's taking of commands, notes its cause and keeps objects and commits; a
wake from Dormant, by EVT252 or WAKE_B, powers Quiet's domains and starts the boot, and elsewhere EVT252 is dropped; a warm reset
in Dormant powers the banks too (R421, R454, R489, R490). The boot ROM waits for VAUX and the root PLL; then it boots a good
image in its first valid slot, the higher SEQ first, waits for one, or
halts, as its straps say, and an image that boots finds Quiet's domains powered (R492 to R496). When a tick's requests act, what
the sampled straps are and how a boot meets a power loss is the model's choice (logs 121, 122, 123). -/
def Obligations.ResetsAndRestarts : Prop :=
  ((∀ (f : Fn) (c : BitVec 8) (s : State), s.phase ≤ 10 →
     let ask := fun (a : ResetAsk) => { s with bt := { s.bt with asked := s.bt.asked ++ [a] } }
     exec .warmReset s = .next (ask .warm) ∧ exec .linkReset s = .next (ask .link) ∧ exec (.flr f) s = .next (ask (.function f)) ∧
       (s.restartCause c.toNat = true → exec (.docentRestart c) s = .next (ask (.docent c.toNat)))) ∧
   (∀ (f : Fn) (c : BitVec 8) (s : State), 10 < s.phase →
     (3 ≤ s.bt.widest → exec .warmReset s = .next s) ∧
     (2 ≤ s.bt.widest → exec (.docentRestart c) s = .next s ∧ exec (.flr f) s = .next s ∧ exec .linkReset s = .next s)) ∧
   (∀ (s : State), s.warmDue = false → s.restartDue = false → s.watchdogDue = false →
     (.cold ∈ s.bt.asked → s.resetEvents = [.coldReset]) ∧
     (.cold ∉ s.bt.asked → .warm ∈ s.bt.asked → s.resetEvents = [.warmReset]) ∧
     (∀ c, s.bt.asked = [.link, .docent c] → c < 256 → s.resetEvents = [.docentRestart (BitVec.ofNat 8 c)]) ∧
     (s.bt.asked = [.function .pf0, .link] → s.resetEvents = [.linkReset]) ∧
     (s.bt.asked = [.function .pf1, .function .pf0] → s.resetEvents = [.flr .pf0, .flr .pf1]))) ∧
  ((∀ (s : State), ∃ t, exec .coldReset s = .next t ∧ t.raw = 0 ∧ t.cmd.open_ = [] ∧ t.ldg.cnt = [] ∧
     t.pw.on = State.reset.pw.on ∧ ((∀ w ∈ s.cmd.timed, w.nv = false) → t.bt.nv = s.bt.nv) ∧
     t.bt.fk = s.bt.fk ∧ t.bt.slotA = s.bt.slotA ∧ t.bt.slotB = s.bt.slotB ∧ t.bt.ready = false ∧ t.bt.booting = true ∧
     t.port = State.reset.port ∧ t.pending = s.pending) ∧
   (∀ (s : State), 10 < s.phase → s.bt.widest < 3 → ∃ t, exec .warmReset s = .next t ∧ t.raw = s.raw ∧ t.cmd.open_ = [] ∧
     (s.vd.block = [] → s.sv.run = [] → s.vi.run = [] → s.eth.txq = [] → s.cmd.outbox = [] → s.host.mbq = [] →
       s.powerState ≠ 3 → (∀ w ∈ s.cmd.timed, w.nv = false) → (∀ p : Fin 4, s.linkState p.val ≠ 3) →
       (∀ m : Fin 8, (s.mbox m.val).h2dFull = false ∧ (s.mbox m.val).d2hFull = false) → t.ldg.cnt = s.supplied) ∧
     t.ldg.st = 0 ∧ t.tm.now = s.tm.now ∧ t.tm.switches = [] ∧ t.tm.epoch = [] ∧ t.bt.ready = false ∧ t.bt.booting = true ∧
     t.host.rings = [] ∧ (s.powerState ≠ 3 → t.bi = s.bi) ∧ t.bt.widest = 3) ∧
   (∀ (f : Fn) (s : State), 10 < s.phase → s.bt.widest < 2 →
     let acted := fun (t : State) => { t with bt := { t.bt with widest := 1 } }
     (s.powered domPCIE = false → exec (.flr f) s = .next (acted s) ∧ exec .linkReset s = .next (acted s)) ∧
     (s.powered domPCIE = true → ∃ t, exec (.flr f) s = .next t ∧ (t.fnRegs f).catPending = 0 ∧
       (t.fnRegs f).msix = [] ∧ t.objs = s.objs ∧ t.live = s.live ∧ t.raw = s.raw) ∧
     (s.powered domPCIE = true → ∃ t, exec .linkReset s = .next t ∧ (t.fnRegs f).catPending = 0 ∧ t.objs = s.objs ∧
       (t.cfg f).maxPayload = 128))) ∧
  ((∀ (c : BitVec 8) (s : State), s.restartCause c.toNat = false → exec (.docentRestart c) s = .next s) ∧
   (∀ (c : BitVec 8) (s : State), s.restartCause c.toNat = true → 10 < s.phase → s.bt.widest < 2 → s.powerState ≠ 3 →
     s.restartDue = false → s.bt.booting = false → s.cmd.open_ = [] →
     ∃ t, exec (.docentRestart c) s = .next t ∧ t.bt.ready = false ∧ t.bt.booting = true ∧ t.bt.cause = c.toNat ∧
       t.objs = s.objs ∧ t.live = s.live ∧ t.cmd.commits = s.cmd.commits) ∧
   (∀ (s : State),
     (s.powerState ≠ 3 → exec (.wake .evt252) s = .next (s.busyDrop 252) ∧ exec (.wake .wakeB) s = .next s) ∧
     (s.powerState = 3 → exec (.wake .wakeB) s =
         .next (((setPositions quietOn 56).foldl State.powerOn s).setPower 2 |>.docentDown 3) ∧
       exec (.wake .evt252) s =
         .next (((setPositions quietOn 56).foldl State.powerOn (s.count 0x12 252 0)).setPower 2 |>.docentDown 3))) ∧
   (∀ (s : State), s.powerState = 3 → 10 < s.phase → s.bt.widest < 3 →
     ∃ t, exec .warmReset s = .next t ∧ t.bt.booting = true ∧
       ((∀ n, bit s.pw.sagged n = false) → s.pw.orderHolds = [] → ∀ k : Fin 4, t.powered (49 + k.val) = true))) ∧
  ((∀ (s : State), s.bt.booting = false ∨ s.bt.waitGo = true ∨ s.tm.everLocked = false ∨ bit s.pw.sagged 0 = true →
     exec .boot s = .next s) ∧
   (∀ (s : State), s.bt.booting = true → s.bt.waitGo = false → s.tm.everLocked = true → bit s.pw.sagged 0 = false →
     let b := (s.powerOn domMGMT0).powerOn domMGMT1
     (bit s.pw.straps 3 = true → exec .boot s = .next ((b.bootAlt false).bootHalt 0x30)) ∧
     (bit s.pw.straps 3 = false → bits s.pw.straps 1 2 = 3 → exec .boot s = .next ((b.bootAlt false).bootHalt 0x15)) ∧
     (bit s.pw.straps 3 = false → bits s.pw.straps 1 2 = 1 → exec .boot s = .next ((b.bootAlt false).bootWait
       (if 0x10 ≤ s.bt.code ∧ s.bt.code ≤ 0x15 then s.bt.code else 0x20))) ∧
     (bit s.pw.straps 3 = false → bits s.pw.straps 1 2 = 0 → s.bt.slotA.valid = false → s.bt.slotB.valid = false →
       exec .boot s = .next ((b.bootAlt false).bootHalt 0x10)) ∧
     (bit s.pw.straps 3 = false → bits s.pw.straps 1 2 = 0 → s.bt.slotA.valid = true →
       s.bt.slotB.valid = false ∨ s.bt.slotB.seq ≤ s.bt.slotA.seq → b.imageCode s.bt.slotA.content = 1 →
       exec .boot s = .next (b.booted s.bt.slotA.content 0 false)) ∧
     (bit s.pw.straps 3 = false → bits s.pw.straps 1 2 = 0 → s.bt.slotB.valid = true →
       s.bt.slotA.valid = false ∨ s.bt.slotA.seq < s.bt.slotB.seq → b.imageCode s.bt.slotB.content = 1 →
       exec .boot s = .next (b.booted s.bt.slotB.content 1 false))) ∧
   (∀ (img : List Byte) (n : Nat) (alt : Bool) (s : State), (∀ n, bit s.pw.sagged n = false) → s.pw.orderHolds = [] →
     ∀ d, d < 56 → bit quietOn d = true → (s.booted img n alt).powered d = true))

/-- Every well-formed command of the table has its effect: it is neither refused nor a fault (R419). -/
def Obligations.WellFormedCommandsAlwaysAnswer : Prop :=
  ∀ (i : Instr) (s : State), i.wf = true → ∃ t, exec i s = .next t

/-- A command whose own checks refuse it changes no object, live copy, memory, ring, mailbox or unit: whatever the command, an
answer other than OK at once leaves all of them as they were (R151, R391, R414). What it may still do: a LDG_SNAP that finds the
ledger HELD and a CAT_COMMIT that finds a loop are counted, and no other part of the ledger changes (R354, R372); a
SEC_DEBUG_UNLOCK whose signature is wrong uses up the nonce, and nothing else of the boot unit changes (R499). -/
def Obligations.RefusedCommandsChangeNoUnit : Prop :=
  ∀ (i : Instr) (id : Nat) (s : State),
    let r := runCommand i id s
    r.2.later = false → r.2.status ≠ .ok →
      r.1.objs = s.objs ∧ r.1.live = s.live ∧ r.1.arc = s.arc ∧ r.1.host = s.host ∧ r.1.cur = s.cur ∧ r.1.drv = s.drv ∧
        r.1.rd = s.rd ∧ r.1.vd = s.vd ∧ r.1.sv = s.sv ∧ r.1.ap = s.ap ∧ r.1.vi = s.vi ∧ r.1.bi = s.bi ∧ r.1.cal = s.cal ∧
        r.1.tm = s.tm ∧ r.1.pw = s.pw ∧ r.1.cmd = s.cmd ∧ r.1.cp = s.cp ∧ r.1.cat = s.cat ∧ r.1.eth = s.eth ∧
        r.1.port = s.port ∧ r.1.raw = s.raw ∧ r.1.sent = s.sent ∧ r.1.pending = s.pending ∧
        r.1.ldg = { s.ldg with cnt := r.1.ldg.cnt } ∧ (i.opcode ≠ 0x0D01 → i.opcode ≠ 0x0901 → r.1.ldg = s.ldg) ∧
        r.1.bt = { s.bt with nonce := r.1.bt.nonce } ∧ (i.opcode ≠ 0x1004 → r.1.bt = s.bt)

/-- From every state whose stores of objects, live copies and counters are canonical, one step, be it any command or the
clock's tick, leaves them canonical, so that equal contents stay equal data. The stores' form is the model's own (log entry 5). -/
def Obligations.StepsKeepTheStoresCanonical : Prop :=
  ∀ (s t : State), s.Canonical → step s = .next t → t.Canonical

/-- In each dither period of 256 bank-clock cycles the main DAC of an output that presents one code is at level m + 1 for f
cycles and at level m for the other 256 − f, where m is the code's bits [19:8] and f its bits [7:0], in whatever order the
cycles come (R287). Which cycle of a bank clock a period begins with is the model's choice (log 83). -/
def Obligations.DitherPeriodHoldsTheFineCode : Prop :=
  ∀ (b code p : Nat), code < 2 ^ 20 →
    let m := bits code 8 12
    let f := bits code 0 8
    let level := fun (c : Nat) => mainLevel b code (256 * p + c)
    ((List.range 256).filter (fun c => decide (level c = m + 1))).length = f ∧
      ((List.range 256).filter (fun c => decide (level c = m))).length = 256 - f ∧
      ∀ s : State, s.getF Fld.bias.effCode b = code → s.tick / 8 / 256 = p → s.biasLevel b = level (s.tick / 8 % 256)
end

