-- ==== Sys2Proof/Laws/Arith.lean ====
section
/-! SUPPORT. Bits of the operations on images: which bits a field write changes, and to what. -/

namespace Sys2Proof.Machine

/-- A bit of an image after a field write. -/
theorem testBit_setBits (x lsb w v k : Nat) :
    (setBits x lsb w v).testBit k = if lsb ≤ k ∧ k < lsb + w then v.testBit (k - lsb) else x.testBit k := by
  have hlow : v % 2 ^ w * 2 ^ lsb + x % 2 ^ lsb < 2 ^ (lsb + w) := by
    have h1 : v % 2 ^ w < 2 ^ w := Nat.mod_lt _ (Nat.two_pow_pos w)
    have h2 : x % 2 ^ lsb < 2 ^ lsb := Nat.mod_lt _ (Nat.two_pow_pos lsb)
    have h3 : (v % 2 ^ w + 1) * 2 ^ lsb ≤ 2 ^ w * 2 ^ lsb := Nat.mul_le_mul_right _ h1
    rw [Nat.add_mul, Nat.one_mul] at h3
    rw [Nat.pow_add, Nat.mul_comm (2 ^ lsb) (2 ^ w)]
    omega
  have hsum : setBits x lsb w v = 2 ^ (lsb + w) * (x >>> (lsb + w)) + (2 ^ lsb * (v % 2 ^ w) + x % 2 ^ lsb) := by
    unfold setBits
    rw [Nat.mul_comm (x >>> (lsb + w)), Nat.mul_comm (v % 2 ^ w), Nat.add_assoc]
  rw [hsum, Nat.testBit_two_pow_mul_add _ (by rw [Nat.mul_comm]; exact hlow),
    Nat.testBit_two_pow_mul_add _ (Nat.mod_lt _ (Nat.two_pow_pos lsb))]
  simp only [Nat.testBit_shiftRight, Nat.testBit_mod_two_pow]
  by_cases h1 : k < lsb + w
  · by_cases h2 : k < lsb
    · have : ¬ lsb ≤ k := by omega
      simp [h1, h2, this]
    · have h3 : lsb ≤ k := by omega
      have h4 : k - lsb < w := by omega
      simp [h1, h2, h3, h4]
  · have h5 : lsb + w + (k - (lsb + w)) = k := by omega
    simp [h1, h5]

/-- A bit of an image with a mask taken out. -/
theorem testBit_clearMask (x m k : Nat) : (clearMask x m).testBit k = (x.testBit k && !m.testBit k) := by
  simp only [clearMask, Nat.testBit_xor, Nat.testBit_and]
  cases x.testBit k <;> cases m.testBit k <;> rfl

/-- A bit of a mask of ones. -/
theorem testBit_ones (lsb w k : Nat) : (ones lsb w).testBit k = decide (lsb ≤ k ∧ k < lsb + w) := by
  simp only [ones, Nat.testBit_shiftLeft, Nat.testBit_two_pow_sub_one]
  by_cases h : lsb ≤ k
  · simp [h]; omega
  · simp [h]

/-- A bit of a field. -/
theorem testBit_bits (x lsb w k : Nat) : (bits x lsb w).testBit k = (decide (k < w) && x.testBit (lsb + k)) := by
  simp [bits, Nat.testBit_mod_two_pow, Nat.testBit_shiftRight]

/-- Reading the field just written. -/
theorem bits_setBits_same (x lsb w v : Nat) : bits (setBits x lsb w v) lsb w = v % 2 ^ w := by
  apply Nat.eq_of_testBit_eq
  intro k
  rw [testBit_bits, testBit_setBits, Nat.testBit_mod_two_pow]
  by_cases h : k < w
  · have h1 : lsb ≤ lsb + k ∧ lsb + k < lsb + w := by omega
    have h2 : lsb + k - lsb = k := by omega
    simp [h, h2]
  · simp [h]

/-- A field write leaves every field apart from it. -/
theorem bits_setBits_other (x lsb w v l n : Nat) (h : l + n ≤ lsb ∨ lsb + w ≤ l) : bits (setBits x lsb w v) l n = bits x l n := by
  apply Nat.eq_of_testBit_eq
  intro k
  rw [testBit_bits, testBit_bits, testBit_setBits]
  by_cases hk : k < n
  · have h1 : ¬ (lsb ≤ l + k ∧ l + k < lsb + w) := by omega
    rw [if_neg h1]
  · simp [hk]

/-- A field write as masks: the field's bits are taken out and the value's bits put in. -/
theorem setBits_eq_masks (x lsb w v : Nat) :
    setBits x lsb w v = clearMask x (ones lsb w) ||| ((v % 2 ^ w) <<< lsb) := by
  apply Nat.eq_of_testBit_eq
  intro k
  rw [testBit_setBits, Nat.testBit_or, testBit_clearMask, testBit_ones, Nat.testBit_shiftLeft, Nat.testBit_mod_two_pow]
  by_cases h : lsb ≤ k ∧ k < lsb + w
  · have h2 : k - lsb < w := by omega
    simp [h, h2]
  · by_cases h1 : lsb ≤ k
    · have h2 : ¬ k - lsb < w := by omega
      have h3 : ¬ k < lsb + w := by omega
      simp [h1, h2, h3]
    · simp [h1]

end Sys2Proof.Machine
end

