-- ==== Sys2Proof/Laws/Commands.lean ====
section
/-! SUPPORT. What the shared operation `run` does with a host command: an admitted command makes its own checks in the state
`State.accepted` and answers, or waits. -/

namespace Sys2Proof.Machine

/-- Every host command's row is `run` of its own checks and effect. -/
theorem exec_host {i : Instr} {h : Hdr} (hi : i.hdr = some h) (s : State) : exec i s = run i h (runCommand i) s := by
  cases i <;> first
    | (simp only [Instr.hdr, Option.some.injEq] at hi; subst hi; rfl)
    | (simp [Instr.hdr] at hi)

/-- The own checks of an admitted command are all that is left of `State.issue`. -/
theorem issue_admitted {i : Instr} {h : Hdr} {s : State} (own : Own) (a : Admitted i h s) :
    s.issue i h own = (s.accepted i h).execute s.cmd.nextId i h own := by
  have hr : ¬ 64 ≤ s.openOn h.path := by have := a.room; omega
  have hq : (s.opened i h).placedOn h.path = s.placedOn h.path := by
    simp [State.placedOn, State.opened, State.newId, State.openCmd, List.foldl_append]
  have hp : (s.opened i h).place h.path i = none := by
    rw [← a.placed]
    simp only [State.place, hq]
    cases i <;> rfl
  have hs : (s.opened i h).startCmd s.cmd.nextId i h own =
      (s.accepted i h).execute s.cmd.nextId i h own := by
    simp [State.startCmd, State.scheduleCheck, a.now, hp, State.accepted]
  unfold State.opened at hs
  unfold State.issue
  simp only [a.alive, a.sound]
  rcases a.free with hc | ⟨h1, h3⟩
  · simp [hr, hc, State.newId, State.scheduleCheck, a.now] at hs ⊢
    exact hs
  · simp [hr, h1, h3, State.newId, State.scheduleCheck, a.now] at hs ⊢
    exact hs

/-- An admitted command passes the power-state gate, and its answer's data, when it fits, leave it as it is. -/
theorem gated_admitted {i : Instr} {h : Hdr} {s t : State} {own : Own} {rep : Reply} (a : Admitted i h s)
    (e : own s.cmd.nextId (s.accepted i h) = (t, rep)) (hd : s.dataFits h rep.data.length = true) :
    gated i h own s.cmd.nextId (s.accepted i h) = (t, rep) := by
  have hb : bit (powerMask i.opcode) (s.accepted i h).powerState = true := a.power
  have hf : (s.accepted i h).dataFits h rep.data.length = true := hd
  simp only [gated, e]
  simp only [hb, hf]
  simp

/-- An admitted command that answers at once. -/
theorem run_answers {i : Instr} {h : Hdr} {s t : State} {own : Own} {rep : Reply} (a : Admitted i h s)
    (e : own s.cmd.nextId (s.accepted i h) = (t, rep)) (hl : rep.later = false)
    (hd : s.dataFits h rep.data.length = true) :
    run i h own s = .next (s.answered t i h rep) := by
  simp only [run, issue_admitted own a, State.execute, gated_admitted a e hd, hl, State.answered]
  simp

/-- An admitted command whose completion comes later. -/
theorem run_waits {i : Instr} {h : Hdr} {s t : State} {own : Own} {rep : Reply} (a : Admitted i h s)
    (e : own s.cmd.nextId (s.accepted i h) = (t, rep)) (hl : rep.later = true) (hd : rep.data = []) :
    run i h own s = .next t := by
  have hf : s.dataFits h rep.data.length = true := by rw [hd]; exact a.fits
  simp only [run, issue_admitted own a, State.execute, gated_admitted a e hf, hl]
  simp

/-- An admitted command with an answer and no data. -/
theorem run_answers_plain {i : Instr} {h : Hdr} {s t : State} {own : Own} {rep : Reply} (a : Admitted i h s)
    (e : own s.cmd.nextId (s.accepted i h) = (t, rep)) (hl : rep.later = false) (hd : rep.data = []) :
    run i h own s = .next (s.answered t i h rep) :=
  run_answers a e hl (by rw [hd]; exact a.fits)

end Sys2Proof.Machine
end

