-- ==== Sys2Proof/Laws/HostLink.lean ====
section
/-! SUPPORT. Where a write of BAR0 goes: a ring's register set, a mailbox's registers. -/

namespace Sys2Proof.Machine

/-- A write inside ring n's register set is that ring's (R386). -/
theorem barWrite_ring (s : State) (f : Fn) (n k v : Nat) (hp : s.powered domPCIE = true) (hn : n < 80) (hk : k < 0x40)
    (ha : k % 4 = 0) : s.barWrite f (0x8000 + k + 0x40 * n) v = s.ringWrite f n k v := by
  have h4 : (0x8000 + k + 0x40 * n) % 4 = 0 := by omega
  have hd : (0x8000 + k + 0x40 * n - 0x8000) / 0x40 = n := by omega
  have hm : (0x8000 + k + 0x40 * n - 0x8000) % 0x40 = k := by omega
  unfold State.barWrite
  rw [hd, hm]
  have e1 : ¬ (0x8000 + k + 0x40 * n = 0x00C) := by omega
  have e2 : ¬ (0x1000 ≤ 0x8000 + k + 0x40 * n ∧ 0x8000 + k + 0x40 * n < 0x1200) := by omega
  have e3 : ¬ (0x8000 + k + 0x40 * n = 0x1900) := by omega
  have e4 : ¬ (0x8000 + k + 0x40 * n = 0x1904) := by omega
  have e5 : ¬ (0x8000 + k + 0x40 * n = 0x1908) := by omega
  have e6 : ¬ (0x8000 + k + 0x40 * n = 0x190C) := by omega
  have e7 : ¬ (0x8000 + k + 0x40 * n = 0x1910) := by omega
  have e8 : ¬ (0x8000 + k + 0x40 * n = 0x1914) := by omega
  have e9 : 0x8000 ≤ 0x8000 + k + 0x40 * n ∧ 0x8000 + k + 0x40 * n < 0x8000 + 0x40 * 80 := by omega
  rw [if_neg (by simp [hp, h4]), if_neg e1, if_neg e2, if_neg e3, if_neg e4, if_neg e5, if_neg e6, if_neg e7, if_neg e8,
    if_pos e9]

/-- A write inside the registers of a mailbox of the function is that mailbox's (R392). -/
theorem barWrite_mailbox (s : State) (m : Fin 8) (k v : Nat) (hp : s.powered domPCIE = true) (hk : k < 0x400)
    (ha : k % 4 = 0) : s.barWrite (mbFn m.val) (0xC000 + k + 0x400 * (m.val % 4)) v = s.mbWrite m.val k v := by
  have h4 : (0xC000 + k + 0x400 * (m.val % 4)) % 4 = 0 := by omega
  have hd : (0xC000 + k + 0x400 * (m.val % 4) - 0xC000) / 0x400 = m.val % 4 := by omega
  have hm : (0xC000 + k + 0x400 * (m.val % 4) - 0xC000) % 0x400 = k := by omega
  have hf : 4 * fnNum (mbFn m.val) + m.val % 4 = m.val := by
    unfold mbFn
    by_cases h : m.val < 4 <;> simp only [h, if_true, if_false, fnNum] <;> omega
  unfold State.barWrite
  rw [hd, hm, hf]
  have e1 : ¬ (0xC000 + k + 0x400 * (m.val % 4) = 0x00C) := by omega
  have e2 : ¬ (0x1000 ≤ 0xC000 + k + 0x400 * (m.val % 4) ∧ 0xC000 + k + 0x400 * (m.val % 4) < 0x1200) := by omega
  have e3 : ¬ (0xC000 + k + 0x400 * (m.val % 4) = 0x1900) := by omega
  have e4 : ¬ (0xC000 + k + 0x400 * (m.val % 4) = 0x1904) := by omega
  have e5 : ¬ (0xC000 + k + 0x400 * (m.val % 4) = 0x1908) := by omega
  have e6 : ¬ (0xC000 + k + 0x400 * (m.val % 4) = 0x190C) := by omega
  have e7 : ¬ (0xC000 + k + 0x400 * (m.val % 4) = 0x1910) := by omega
  have e8 : ¬ (0xC000 + k + 0x400 * (m.val % 4) = 0x1914) := by omega
  have e9 : ¬ (0x8000 ≤ 0xC000 + k + 0x400 * (m.val % 4) ∧ 0xC000 + k + 0x400 * (m.val % 4) < 0x8000 + 0x40 * 80) := by omega
  have e10 : 0xC000 ≤ 0xC000 + k + 0x400 * (m.val % 4) ∧ 0xC000 + k + 0x400 * (m.val % 4) < 0xD000 := by omega
  rw [if_neg (by simp [hp, h4]), if_neg e1, if_neg e2, if_neg e3, if_neg e4, if_neg e5, if_neg e6, if_neg e7, if_neg e8,
    if_neg e9, if_pos e10]

end Sys2Proof.Machine
end

