-- ==== Sys2Proof/Laws/PerInstr.lean ====
section
/-! SUPPORT. The family `opcodeRow`: what the columns of the command table say of each row's opcode, one lemma per row. -/

/-- A row of the command catalogue: its opcode lies in the catalogue's range, Run accepts it, the power states that accept it are
among Run, Idle and Quiet, and a secure one cannot be scheduled (R415, R421, R429, R430). -/
def Sys2Proof.Laws.opcodeRow.Listed (op : Nat) : Bool :=
  decide (0x0100 ≤ op ∧ op < 0x1200) && decide (Sys2Proof.powerMask op % 2 = 1) && decide (Sys2Proof.powerMask op < 8) &&
    (!Sys2Proof.secureOpcode op || !Sys2Proof.schedulable op)

/-- A command that comes in a packet is listed; a happening has no opcode and no packet. -/
def Sys2Proof.Laws.opcodeRow.Statement (i : Sys2Proof.Instr) : Prop :=
  match i.hdr with
  | some _ => ∃ n, i.opcode = n ∧ Sys2Proof.Laws.opcodeRow.Listed n = true
  | none => i.opcode = 0 ∧ i.writeRow = false ∧ Sys2Proof.encodePacket i = none

namespace Sys2Proof.Laws

theorem opcodeRow.sysNop (h : Hdr) : opcodeRow.Statement (.sysNop h) := ⟨0x0100, rfl, by decide⟩
theorem opcodeRow.sysIdentify (h : Hdr) : opcodeRow.Statement (.sysIdentify h) := ⟨0x0101, rfl, by decide⟩
theorem opcodeRow.objRead (h : Hdr) (cls : BitVec 8) (inst : BitVec 16) (offset len : BitVec 32) : opcodeRow.Statement (.objRead h cls inst offset len) := ⟨0x0102, rfl, by decide⟩
theorem opcodeRow.objWrite (h : Hdr) (cls : BitVec 8) (inst : BitVec 16) (offset len : BitVec 32) (data : BitVec 128) : opcodeRow.Statement (.objWrite h cls inst offset len data) := ⟨0x0103, rfl, by decide⟩
theorem opcodeRow.sysReset (h : Hdr) (kind : BitVec 8) : opcodeRow.Statement (.sysReset h kind) := ⟨0x0104, rfl, by decide⟩
theorem opcodeRow.sysNotify (h : Hdr) (route : BitVec 8) : opcodeRow.Statement (.sysNotify h route) := ⟨0x0105, rfl, by decide⟩
theorem opcodeRow.sysCancel (h : Hdr) (tag : BitVec 16) : opcodeRow.Statement (.sysCancel h tag) := ⟨0x0106, rfl, by decide⟩
theorem opcodeRow.ringAssign (h : Hdr) (ring owner : BitVec 8) : opcodeRow.Statement (.ringAssign h ring owner) := ⟨0x0110, rfl, by decide⟩
theorem opcodeRow.pwrState (h : Hdr) (target : BitVec 8) : opcodeRow.Statement (.pwrState h target) := ⟨0x0201, rfl, by decide⟩
theorem opcodeRow.pwrDomain (h : Hdr) (domains on : BitVec 64) : opcodeRow.Statement (.pwrDomain h domains on) := ⟨0x0202, rfl, by decide⟩
theorem opcodeRow.timeRead (h : Hdr) : opcodeRow.Statement (.timeRead h) := ⟨0x0301, rfl, by decide⟩
theorem opcodeRow.timeSetEpoch (h : Hdr) (secs : BitVec 64) : opcodeRow.Statement (.timeSetEpoch h secs) := ⟨0x0302, rfl, by decide⟩
theorem opcodeRow.timeSwitch (h : Hdr) (dom : BitVec 8) (step : Bool) (tick : BitVec 64) : opcodeRow.Statement (.timeSwitch h dom step tick) := ⟨0x0303, rfl, by decide⟩
theorem opcodeRow.timeCaptureRead (h : Hdr) (units : BitVec 16) : opcodeRow.Statement (.timeCaptureRead h units) := ⟨0x0304, rfl, by decide⟩
theorem opcodeRow.archiveLoad (h : Hdr) (bank : BitVec 8) (start count : BitVec 32) : opcodeRow.Statement (.archiveLoad h bank start count) := ⟨0x0401, rfl, by decide⟩
theorem opcodeRow.archiveRead (h : Hdr) (bank : BitVec 8) (start count : BitVec 32) : opcodeRow.Statement (.archiveRead h bank start count) := ⟨0x0402, rfl, by decide⟩
theorem opcodeRow.kernelLoad (h : Hdr) (start count : BitVec 32) : opcodeRow.Statement (.kernelLoad h start count) := ⟨0x0403, rfl, by decide⟩
theorem opcodeRow.kernelRead (h : Hdr) (start count : BitVec 32) : opcodeRow.Statement (.kernelRead h start count) := ⟨0x0404, rfl, by decide⟩
theorem opcodeRow.outputEnable (h : Hdr) (mask : BitVec 96) : opcodeRow.Statement (.outputEnable h mask) := ⟨0x0405, rfl, by decide⟩
theorem opcodeRow.outputDisable (h : Hdr) (mask : BitVec 96) : opcodeRow.Statement (.outputDisable h mask) := ⟨0x0406, rfl, by decide⟩
theorem opcodeRow.outputCommit (h : Hdr) (tick : BitVec 64) : opcodeRow.Statement (.outputCommit h tick) := ⟨0x0407, rfl, by decide⟩
theorem opcodeRow.curAccession (h : Hdr) : opcodeRow.Statement (.curAccession h) := ⟨0x0501, rfl, by decide⟩
theorem opcodeRow.curReadback (h : Hdr) (cur addr count : BitVec 16) : opcodeRow.Statement (.curReadback h cur addr count) := ⟨0x0502, rfl, by decide⟩
theorem opcodeRow.curStart (h : Hdr) (mask : BitVec 128) (tick : BitVec 64) : opcodeRow.Statement (.curStart h mask tick) := ⟨0x0503, rfl, by decide⟩
theorem opcodeRow.curStop (h : Hdr) (mask : BitVec 128) (tick : BitVec 64) (atShot : Bool) : opcodeRow.Statement (.curStop h mask tick atShot) := ⟨0x0504, rfl, by decide⟩
theorem opcodeRow.curBarrier (h : Hdr) (b : BitVec 8) (mask : BitVec 128) : opcodeRow.Statement (.curBarrier h b mask) := ⟨0x0505, rfl, by decide⟩
theorem opcodeRow.frameOp (h : Hdr) (frame : BitVec 16) (fop : BitVec 8) (farg : BitVec 16) : opcodeRow.Statement (.frameOp h frame fop farg) := ⟨0x0601, rfl, by decide⟩
theorem opcodeRow.frameCommit (h : Hdr) (tick : BitVec 64) (keepPhase : Bool) : opcodeRow.Statement (.frameCommit h tick keepPhase) := ⟨0x0602, rfl, by decide⟩
theorem opcodeRow.readoutCommit (h : Hdr) (tick : BitVec 64) : opcodeRow.Statement (.readoutCommit h tick) := ⟨0x0701, rfl, by decide⟩
theorem opcodeRow.discRebase (h : Hdr) (tick : BitVec 64) : opcodeRow.Statement (.discRebase h tick) := ⟨0x0702, rfl, by decide⟩
theorem opcodeRow.discSeedStore (h : Hdr) : opcodeRow.Statement (.discSeedStore h) := ⟨0x0703, rfl, by decide⟩
theorem opcodeRow.discSeedRestore (h : Hdr) : opcodeRow.Statement (.discSeedRestore h) := ⟨0x0704, rfl, by decide⟩
theorem opcodeRow.biasWrite (h : Hdr) (bank first : BitVec 8) (count : BitVec 8) (strobeAfter : Bool) : opcodeRow.Statement (.biasWrite h bank first count strobeAfter) := ⟨0x0801, rfl, by decide⟩
theorem opcodeRow.biasStrobe (h : Hdr) (masks : BitVec 128) : opcodeRow.Statement (.biasStrobe h masks) := ⟨0x0802, rfl, by decide⟩
theorem opcodeRow.biasClear (h : Hdr) (banks : BitVec 8) : opcodeRow.Statement (.biasClear h banks) := ⟨0x0803, rfl, by decide⟩
theorem opcodeRow.biasCommit (h : Hdr) (tick : BitVec 64) : opcodeRow.Statement (.biasCommit h tick) := ⟨0x0804, rfl, by decide⟩
theorem opcodeRow.catCommit (h : Hdr) (tick : BitVec 64) : opcodeRow.Statement (.catCommit h tick) := ⟨0x0901, rfl, by decide⟩
theorem opcodeRow.catGroup (h : Hdr) (mask : BitVec 16) : opcodeRow.Statement (.catGroup h mask) := ⟨0x0902, rfl, by decide⟩
theorem opcodeRow.vitArm (h : Hdr) (mask : BitVec 8) (tick : BitVec 64) : opcodeRow.Statement (.vitArm h mask tick) := ⟨0x0A01, rfl, by decide⟩
theorem opcodeRow.vitTrigger (h : Hdr) (mask : BitVec 8) : opcodeRow.Statement (.vitTrigger h mask) := ⟨0x0A02, rfl, by decide⟩
theorem opcodeRow.vitAbort (h : Hdr) (mask : BitVec 8) : opcodeRow.Statement (.vitAbort h mask) := ⟨0x0A03, rfl, by decide⟩
theorem opcodeRow.calOutput (h : Hdr) (mask : BitVec 96) : opcodeRow.Statement (.calOutput h mask) := ⟨0x0B01, rfl, by decide⟩
theorem opcodeRow.calInput (h : Hdr) (mask : BitVec 32) : opcodeRow.Statement (.calInput h mask) := ⟨0x0B02, rfl, by decide⟩
theorem opcodeRow.calBias (h : Hdr) (banks : BitVec 8) : opcodeRow.Statement (.calBias h banks) := ⟨0x0B03, rfl, by decide⟩
theorem opcodeRow.calSysZero (h : Hdr) (input : BitVec 8) : opcodeRow.Statement (.calSysZero h input) := ⟨0x0B04, rfl, by decide⟩
theorem opcodeRow.calSysFull (h : Hdr) (input : BitVec 8) (ampl : BitVec 16) (freq : BitVec 48) : opcodeRow.Statement (.calSysFull h input ampl freq) := ⟨0x0B05, rfl, by decide⟩
theorem opcodeRow.calSysStore (h : Hdr) (mask : BitVec 32) : opcodeRow.Statement (.calSysStore h mask) := ⟨0x0B06, rfl, by decide⟩
theorem opcodeRow.resume (h : Hdr) : opcodeRow.Statement (.resume h) := ⟨0x0C01, rfl, by decide⟩
theorem opcodeRow.ldgSnap (h : Hdr) (tick : BitVec 64) (peers : Bool) : opcodeRow.Statement (.ldgSnap h tick peers) := ⟨0x0D01, rfl, by decide⟩
theorem opcodeRow.ldgRead (h : Hdr) (cls : BitVec 8) (first count : BitVec 16) : opcodeRow.Statement (.ldgRead h cls first count) := ⟨0x0D02, rfl, by decide⟩
theorem opcodeRow.ldgRelease (h : Hdr) : opcodeRow.Statement (.ldgRelease h) := ⟨0x0D03, rfl, by decide⟩
theorem opcodeRow.ldgStatus (h : Hdr) : opcodeRow.Statement (.ldgStatus h) := ⟨0x0D04, rfl, by decide⟩
theorem opcodeRow.surveyStart (h : Hdr) (mask tick : BitVec 64) : opcodeRow.Statement (.surveyStart h mask tick) := ⟨0x0E01, rfl, by decide⟩
theorem opcodeRow.surveyStop (h : Hdr) (mask tick : BitVec 64) : opcodeRow.Statement (.surveyStop h mask tick) := ⟨0x0E02, rfl, by decide⟩
theorem opcodeRow.cpLink (h : Hdr) (ports up : BitVec 8) : opcodeRow.Statement (.cpLink h ports up) := ⟨0x0F01, rfl, by decide⟩
theorem opcodeRow.cpCommit (h : Hdr) (tick : BitVec 64) : opcodeRow.Statement (.cpCommit h tick) := ⟨0x0F02, rfl, by decide⟩
theorem opcodeRow.secPolicy (h : Hdr) (policy : Bool) : opcodeRow.Statement (.secPolicy h policy) := ⟨0x1001, rfl, by decide⟩
theorem opcodeRow.secKeyLoad (h : Hdr) (slot : BitVec 8) : opcodeRow.Statement (.secKeyLoad h slot) := ⟨0x1002, rfl, by decide⟩
theorem opcodeRow.secFwUpdate (h : Hdr) : opcodeRow.Statement (.secFwUpdate h) := ⟨0x1003, rfl, by decide⟩
theorem opcodeRow.secDebugUnlock (h : Hdr) : opcodeRow.Statement (.secDebugUnlock h) := ⟨0x1004, rfl, by decide⟩
theorem opcodeRow.appStart (h : Hdr) (app : BitVec 8) (start stop : BitVec 64) : opcodeRow.Statement (.appStart h app start stop) := ⟨0x1101, rfl, by decide⟩
theorem opcodeRow.appStop (h : Hdr) (app : BitVec 8) (stop : BitVec 64) : opcodeRow.Statement (.appStop h app stop) := ⟨0x1102, rfl, by decide⟩
theorem opcodeRow.appRead (h : Hdr) (app : BitVec 8) : opcodeRow.Statement (.appRead h app) := ⟨0x1103, rfl, by decide⟩
theorem opcodeRow.inputEn (h : Hdr) (i : Fin 32) (v : Bool) : opcodeRow.Statement (.inputEn h i v) := ⟨0x0103, rfl, by decide⟩
theorem opcodeRow.fsc (h : Hdr) (o : Fin 96) (v : BitVec 8) : opcodeRow.Statement (.fsc h o v) := ⟨0x0103, rfl, by decide⟩
theorem opcodeRow.bankEn (h : Hdr) (k : Fin 4) (v : Bool) : opcodeRow.Statement (.bankEn h k v) := ⟨0x0103, rfl, by decide⟩
theorem opcodeRow.tpEn (h : Hdr) (n : Fin 4) (v : Bool) : opcodeRow.Statement (.tpEn h n v) := ⟨0x0103, rfl, by decide⟩
theorem opcodeRow.slewEn (h : Hdr) (k : Fin 4) (v : Bool) : opcodeRow.Statement (.slewEn h k v) := ⟨0x0103, rfl, by decide⟩
theorem opcodeRow.domEn (h : Hdr) (b : Bool) (v : Bool) : opcodeRow.Statement (.domEn h b v) := ⟨0x0103, rfl, by decide⟩
theorem opcodeRow.ethMode (h : Hdr) (mode : BitVec 2) (fec : Bool) : opcodeRow.Statement (.ethMode h mode fec) := ⟨0x0103, rfl, by decide⟩
theorem opcodeRow.inputCode (h : Hdr) (b : Fin 128) (code : BitVec 20) : opcodeRow.Statement (.inputCode h b code) := ⟨0x0103, rfl, by decide⟩
theorem opcodeRow.ringLength (f : Fn) (n : Fin 80) (v : BitVec 32) : opcodeRow.Statement (.ringLength f n v) := ⟨rfl, rfl, rfl⟩
theorem opcodeRow.ringProd (f : Fn) (n : Fin 80) (v : BitVec 32) : opcodeRow.Statement (.ringProd f n v) := ⟨rfl, rfl, rfl⟩
theorem opcodeRow.ringCons (f : Fn) (n : Fin 80) (v : BitVec 32) : opcodeRow.Statement (.ringCons f n v) := ⟨rfl, rfl, rfl⟩
theorem opcodeRow.ringEn (f : Fn) (n : Fin 80) (v : BitVec 32) : opcodeRow.Statement (.ringEn f n v) := ⟨rfl, rfl, rfl⟩
theorem opcodeRow.doorbell (m : Fin 8) (v : BitVec 32) : opcodeRow.Statement (.doorbell m v) := ⟨rfl, rfl, rfl⟩
theorem opcodeRow.take (m : Fin 8) : opcodeRow.Statement (.take m) := ⟨rfl, rfl, rfl⟩
theorem opcodeRow.d2hLastWordRead (m : Fin 8) : opcodeRow.Statement (.d2hLastWordRead m) := ⟨rfl, rfl, rfl⟩
theorem opcodeRow.rawLo (f : Fn) : opcodeRow.Statement (.rawLo f) := ⟨rfl, rfl, rfl⟩
theorem opcodeRow.bootGo (v : BitVec 32) (image : Option (List Byte)) : opcodeRow.Statement (.bootGo v image) := ⟨rfl, rfl, rfl⟩
theorem opcodeRow.msixMaskClear (f : Fn) (v : Fin 32) : opcodeRow.Statement (.msixMaskClear f v) := ⟨rfl, rfl, rfl⟩
theorem opcodeRow.registerWrite (f : Fn) (off : BitVec 16) (w : BusWrite) : opcodeRow.Statement (.registerWrite f off w) := ⟨rfl, rfl, rfl⟩
theorem opcodeRow.d2hDoorbell (m : Fin 8) (msg : List Byte) (tmoUs : BitVec 24) : opcodeRow.Statement (.d2hDoorbell m msg tmoUs) := ⟨rfl, rfl, rfl⟩
theorem opcodeRow.h2dTake (m : Fin 8) : opcodeRow.Statement (.h2dTake m) := ⟨rfl, rfl, rfl⟩
theorem opcodeRow.h2dTimeout (m : Fin 8) : opcodeRow.Statement (.h2dTimeout m) := ⟨rfl, rfl, rfl⟩
theorem opcodeRow.d2hTimeout (m : Fin 8) : opcodeRow.Statement (.d2hTimeout m) := ⟨rfl, rfl, rfl⟩
theorem opcodeRow.commandFetch (k : Fin 3) (packet : BitVec 512) (ext : Option (List Byte)) : opcodeRow.Statement (.commandFetch k packet ext) := ⟨rfl, rfl, rfl⟩
theorem opcodeRow.commandDatagram (rx : EthRx) (port : BitVec 16) (payload : List Byte) : opcodeRow.Statement (.commandDatagram rx port payload) := ⟨rfl, rfl, rfl⟩
theorem opcodeRow.chainedCommandStart (p : Path) : opcodeRow.Statement (.chainedCommandStart p) := ⟨rfl, rfl, rfl⟩
theorem opcodeRow.scheduledExecution : opcodeRow.Statement .scheduledExecution := ⟨rfl, rfl, rfl⟩
theorem opcodeRow.deferredExecution : opcodeRow.Statement .deferredExecution := ⟨rfl, rfl, rfl⟩
theorem opcodeRow.deferredTimeout : opcodeRow.Statement .deferredTimeout := ⟨rfl, rfl, rfl⟩
theorem opcodeRow.heldCompletionWrite (k : Fin 3) : opcodeRow.Statement (.heldCompletionWrite k) := ⟨rfl, rfl, rfl⟩
theorem opcodeRow.ringIrqTime (n : Fin 80) : opcodeRow.Statement (.ringIrqTime n) := ⟨rfl, rfl, rfl⟩
theorem opcodeRow.commitApply : opcodeRow.Statement .commitApply := ⟨rfl, rfl, rfl⟩
theorem opcodeRow.curatorStart (c : Fin 128) : opcodeRow.Statement (.curatorStart c) := ⟨rfl, rfl, rfl⟩
theorem opcodeRow.wordStart (c : Fin 128) : opcodeRow.Statement (.wordStart c) := ⟨rfl, rfl, rfl⟩
theorem opcodeRow.waitTimeout (c : Fin 128) : opcodeRow.Statement (.waitTimeout c) := ⟨rfl, rfl, rfl⟩
theorem opcodeRow.barrierRelease (b : Fin 16) : opcodeRow.Statement (.barrierRelease b) := ⟨rfl, rfl, rfl⟩
theorem opcodeRow.barrierTimeout (c : Fin 128) : opcodeRow.Statement (.barrierTimeout c) := ⟨rfl, rfl, rfl⟩
theorem opcodeRow.curatorHalt (c : Fin 128) : opcodeRow.Statement (.curatorHalt c) := ⟨rfl, rfl, rfl⟩
theorem opcodeRow.fscMuteEnd (o : Fin 96) : opcodeRow.Statement (.fscMuteEnd o) := ⟨rfl, rfl, rfl⟩
theorem opcodeRow.startingEnd (i : Fin 32) : opcodeRow.Statement (.startingEnd i) := ⟨rfl, rfl, rfl⟩
theorem opcodeRow.pointFormed (c : Fin 512) : opcodeRow.Statement (.pointFormed c) := ⟨rfl, rfl, rfl⟩
theorem opcodeRow.verdictProduced (c : Fin 512) : opcodeRow.Statement (.verdictProduced c) := ⟨rfl, rfl, rfl⟩
theorem opcodeRow.verdictDelivery : opcodeRow.Statement .verdictDelivery := ⟨rfl, rfl, rfl⟩
theorem opcodeRow.recordBlockClose : opcodeRow.Statement .recordBlockClose := ⟨rfl, rfl, rfl⟩
theorem opcodeRow.surveyRunStart (n : Fin 64) : opcodeRow.Statement (.surveyRunStart n) := ⟨rfl, rfl, rfl⟩
theorem opcodeRow.surveyBlock (n : Fin 64) : opcodeRow.Statement (.surveyBlock n) := ⟨rfl, rfl, rfl⟩
theorem opcodeRow.surveyStopTick (n : Fin 64) : opcodeRow.Statement (.surveyStopTick n) := ⟨rfl, rfl, rfl⟩
theorem opcodeRow.appRunStart (n : Fin 8) : opcodeRow.Statement (.appRunStart n) := ⟨rfl, rfl, rfl⟩
theorem opcodeRow.appPoint (n : Fin 8) : opcodeRow.Statement (.appPoint n) := ⟨rfl, rfl, rfl⟩
theorem opcodeRow.appRunEnd (n : Fin 8) : opcodeRow.Statement (.appRunEnd n) := ⟨rfl, rfl, rfl⟩
theorem opcodeRow.vitCaptureStart (v : Fin 8) : opcodeRow.Statement (.vitCaptureStart v) := ⟨rfl, rfl, rfl⟩
theorem opcodeRow.levelTrigger (v : Fin 8) : opcodeRow.Statement (.levelTrigger v) := ⟨rfl, rfl, rfl⟩
theorem opcodeRow.tbTick (v : Fin 8) : opcodeRow.Statement (.tbTick v) := ⟨rfl, rfl, rfl⟩
theorem opcodeRow.maskViolation (v : Fin 8) : opcodeRow.Statement (.maskViolation v) := ⟨rfl, rfl, rfl⟩
theorem opcodeRow.fillEnd (v : Fin 8) : opcodeRow.Statement (.fillEnd v) := ⟨rfl, rfl, rfl⟩
theorem opcodeRow.postTriggerWaitLimit (v : Fin 8) : opcodeRow.Statement (.postTriggerWaitLimit v) := ⟨rfl, rfl, rfl⟩
theorem opcodeRow.vitrineDone (v : Fin 8) : opcodeRow.Statement (.vitrineDone v) := ⟨rfl, rfl, rfl⟩
theorem opcodeRow.vitrineBlockWrite (v : Fin 8) : opcodeRow.Statement (.vitrineBlockWrite v) := ⟨rfl, rfl, rfl⟩
theorem opcodeRow.biasUpdateEdge (k : Fin 4) : opcodeRow.Statement (.biasUpdateEdge k) := ⟨rfl, rfl, rfl⟩
theorem opcodeRow.deglitchEnd (b : Fin 128) : opcodeRow.Statement (.deglitchEnd b) := ⟨rfl, rfl, rfl⟩
theorem opcodeRow.slewEnApply (k : Fin 4) : opcodeRow.Statement (.slewEnApply k) := ⟨rfl, rfl, rfl⟩
theorem opcodeRow.ldacB (k : Fin 4) : opcodeRow.Statement (.ldacB k) := ⟨rfl, rfl, rfl⟩
theorem opcodeRow.clrB : opcodeRow.Statement .clrB := ⟨rfl, rfl, rfl⟩
theorem opcodeRow.supplyGood : opcodeRow.Statement .supplyGood := ⟨rfl, rfl, rfl⟩
theorem opcodeRow.supplyLoss : opcodeRow.Statement .supplyLoss := ⟨rfl, rfl, rfl⟩
theorem opcodeRow.gpioEdge (g : Fin 16) (edge : PinEdge) : opcodeRow.Statement (.gpioEdge g edge) := ⟨rfl, rfl, rfl⟩
theorem opcodeRow.gpioPulseEnd (g : Fin 16) : opcodeRow.Statement (.gpioPulseEnd g) := ⟨rfl, rfl, rfl⟩
theorem opcodeRow.cueWord (n : Fin 8) (w : BitVec 16) (err : Bool) : opcodeRow.Statement (.cueWord n w err) := ⟨rfl, rfl, rfl⟩
theorem opcodeRow.lutCellOutput (j : Fin 32) : opcodeRow.Statement (.lutCellOutput j) := ⟨rfl, rfl, rfl⟩
theorem opcodeRow.evtCuratorFlag (c : Fin 128) : opcodeRow.Statement (.evtCuratorFlag c) := ⟨rfl, rfl, rfl⟩
theorem opcodeRow.evtVitrineTrigger (v : Fin 8) : opcodeRow.Statement (.evtVitrineTrigger v) := ⟨rfl, rfl, rfl⟩
theorem opcodeRow.evtAppraiserStart (n : Fin 8) : opcodeRow.Statement (.evtAppraiserStart n) := ⟨rfl, rfl, rfl⟩
theorem opcodeRow.evtBiasStrobe (k : Fin 4) : opcodeRow.Statement (.evtBiasStrobe k) := ⟨rfl, rfl, rfl⟩
theorem opcodeRow.timestampCapture (n : Fin 16) (fine : BitVec 64) : opcodeRow.Statement (.timestampCapture n fine) := ⟨rfl, rfl, rfl⟩
theorem opcodeRow.evtGpioOutput (g : Fin 16) : opcodeRow.Statement (.evtGpioOutput g) := ⟨rfl, rfl, rfl⟩
theorem opcodeRow.evtCueOutput (n : Fin 8) : opcodeRow.Statement (.evtCueOutput n) := ⟨rfl, rfl, rfl⟩
theorem opcodeRow.hostInterrupt (j : Fin 32) : opcodeRow.Statement (.hostInterrupt j) := ⟨rfl, rfl, rfl⟩
theorem opcodeRow.groupEnable (g : Fin 16) : opcodeRow.Statement (.groupEnable g) := ⟨rfl, rfl, rfl⟩
theorem opcodeRow.groupDisable (g : Fin 16) : opcodeRow.Statement (.groupDisable g) := ⟨rfl, rfl, rfl⟩
theorem opcodeRow.evtLedgerSnapshot : opcodeRow.Statement .evtLedgerSnapshot := ⟨rfl, rfl, rfl⟩
theorem opcodeRow.wake (cause : WakeCause) : opcodeRow.Statement (.wake cause) := ⟨rfl, rfl, rfl⟩
theorem opcodeRow.ppsEdge (b : Bool) (fine : BitVec 4) : opcodeRow.Statement (.ppsEdge b fine) := ⟨rfl, rfl, rfl⟩
theorem opcodeRow.pulseMiss (b : Bool) : opcodeRow.Statement (.pulseMiss b) := ⟨rfl, rfl, rfl⟩
theorem opcodeRow.domainLock (b : Bool) : opcodeRow.Statement (.domainLock b) := ⟨rfl, rfl, rfl⟩
theorem opcodeRow.loopUpdate (b : Bool) : opcodeRow.Statement (.loopUpdate b) := ⟨rfl, rfl, rfl⟩
theorem opcodeRow.epochStep : opcodeRow.Statement .epochStep := ⟨rfl, rfl, rfl⟩
theorem opcodeRow.domainSwitch : opcodeRow.Statement .domainSwitch := ⟨rfl, rfl, rfl⟩
theorem opcodeRow.tpEdge (n : Fin 4) : opcodeRow.Statement (.tpEdge n) := ⟨rfl, rfl, rfl⟩
theorem opcodeRow.tpPulseEnd (n : Fin 4) : opcodeRow.Statement (.tpPulseEnd n) := ⟨rfl, rfl, rfl⟩
theorem opcodeRow.ppsOutEdge : opcodeRow.Statement .ppsOutEdge := ⟨rfl, rfl, rfl⟩
theorem opcodeRow.ppsOutFall : opcodeRow.Statement .ppsOutFall := ⟨rfl, rfl, rfl⟩
theorem opcodeRow.ptpMessage (frame : PtpFrame) : opcodeRow.Statement (.ptpMessage frame) := ⟨rfl, rfl, rfl⟩
theorem opcodeRow.ethRequest (req : EthRequest) : opcodeRow.Statement (.ethRequest req) := ⟨rfl, rfl, rfl⟩
theorem opcodeRow.courierFrame (p : Fin 4) (frame : LinkFrame) : opcodeRow.Statement (.courierFrame p frame) := ⟨rfl, rfl, rfl⟩
theorem opcodeRow.trainingFallback (p : Fin 4) : opcodeRow.Statement (.trainingFallback p) := ⟨rfl, rfl, rfl⟩
theorem opcodeRow.measureEnd (p : Fin 4) : opcodeRow.Statement (.measureEnd p) := ⟨rfl, rfl, rfl⟩
theorem opcodeRow.cpLinkTimeout (p : Fin 4) : opcodeRow.Statement (.cpLinkTimeout p) := ⟨rfl, rfl, rfl⟩
theorem opcodeRow.linkDown (p : Fin 4) (cause : DownCause) : opcodeRow.Statement (.linkDown p cause) := ⟨rfl, rfl, rfl⟩
theorem opcodeRow.timeMessage : opcodeRow.Statement .timeMessage := ⟨rfl, rfl, rfl⟩
theorem opcodeRow.paramMessage : opcodeRow.Statement .paramMessage := ⟨rfl, rfl, rfl⟩
theorem opcodeRow.ledgerSnapshot : opcodeRow.Statement .ledgerSnapshot := ⟨rfl, rfl, rfl⟩
theorem opcodeRow.ledgerMirror : opcodeRow.Statement .ledgerMirror := ⟨rfl, rfl, rfl⟩
theorem opcodeRow.pllUnlock : opcodeRow.Statement .pllUnlock := ⟨rfl, rfl, rfl⟩
theorem opcodeRow.pllRelock (fine : BitVec 64) : opcodeRow.Statement (.pllRelock fine) := ⟨rfl, rfl, rfl⟩
theorem opcodeRow.supplySag (supply : BitVec 6) (reading : BitVec 32) : opcodeRow.Statement (.supplySag supply reading) := ⟨rfl, rfl, rfl⟩
theorem opcodeRow.nvInhibitClear : opcodeRow.Statement .nvInhibitClear := ⟨rfl, rfl, rfl⟩
theorem opcodeRow.orderErr (code : BitVec 8) : opcodeRow.Statement (.orderErr code) := ⟨rfl, rfl, rfl⟩
theorem opcodeRow.powerLoss (d : Fin 56) : opcodeRow.Statement (.powerLoss d) := ⟨rfl, rfl, rfl⟩
theorem opcodeRow.thermalScan (temps : List (BitVec 16)) : opcodeRow.Statement (.thermalScan temps) := ⟨rfl, rfl, rfl⟩
theorem opcodeRow.thermalTrip (sensor : BitVec 6) (temp : BitVec 16) : opcodeRow.Statement (.thermalTrip sensor temp) := ⟨rfl, rfl, rfl⟩
theorem opcodeRow.mutePoint : opcodeRow.Statement .mutePoint := ⟨rfl, rfl, rfl⟩
theorem opcodeRow.tilePowerDown : opcodeRow.Statement .tilePowerDown := ⟨rfl, rfl, rfl⟩
theorem opcodeRow.avsTarget : opcodeRow.Statement .avsTarget := ⟨rfl, rfl, rfl⟩
theorem opcodeRow.interleaveTracking (i : Fin 32) : opcodeRow.Statement (.interleaveTracking i) := ⟨rfl, rfl, rfl⟩
theorem opcodeRow.sourceRotation (o : Fin 96) : opcodeRow.Statement (.sourceRotation o) := ⟨rfl, rfl, rfl⟩
theorem opcodeRow.calOutputEnd : opcodeRow.Statement .calOutputEnd := ⟨rfl, rfl, rfl⟩
theorem opcodeRow.calInputEnd : opcodeRow.Statement .calInputEnd := ⟨rfl, rfl, rfl⟩
theorem opcodeRow.calBiasEnd : opcodeRow.Statement .calBiasEnd := ⟨rfl, rfl, rfl⟩
theorem opcodeRow.sysMeasurementEnd : opcodeRow.Statement .sysMeasurementEnd := ⟨rfl, rfl, rfl⟩
theorem opcodeRow.dormantEntry : opcodeRow.Statement .dormantEntry := ⟨rfl, rfl, rfl⟩
theorem opcodeRow.coldReset : opcodeRow.Statement .coldReset := ⟨rfl, rfl, rfl⟩
theorem opcodeRow.warmReset : opcodeRow.Statement .warmReset := ⟨rfl, rfl, rfl⟩
theorem opcodeRow.docentRestart (cause : BitVec 8) : opcodeRow.Statement (.docentRestart cause) := ⟨rfl, rfl, rfl⟩
theorem opcodeRow.flr (f : Fn) : opcodeRow.Statement (.flr f) := ⟨rfl, rfl, rfl⟩
theorem opcodeRow.linkReset : opcodeRow.Statement .linkReset := ⟨rfl, rfl, rfl⟩
theorem opcodeRow.boot : opcodeRow.Statement .boot := ⟨rfl, rfl, rfl⟩
theorem opcodeRow.clrBRelease : opcodeRow.Statement .clrBRelease := ⟨rfl, rfl, rfl⟩
theorem opcodeRow.frameLock (p : Fin 4) : opcodeRow.Statement (.frameLock p) := ⟨rfl, rfl, rfl⟩
theorem opcodeRow.ethLinkUp : opcodeRow.Statement .ethLinkUp := ⟨rfl, rfl, rfl⟩
theorem opcodeRow.ethLinkDown : opcodeRow.Statement .ethLinkDown := ⟨rfl, rfl, rfl⟩
theorem opcodeRow.cueOutputWordEnd (n : Fin 8) : opcodeRow.Statement (.cueOutputWordEnd n) := ⟨rfl, rfl, rfl⟩
theorem opcodeRow.supplySagEnd : opcodeRow.Statement .supplySagEnd := ⟨rfl, rfl, rfl⟩
theorem opcodeRow.adcOvr (i : Fin 32) : opcodeRow.Statement (.adcOvr i) := ⟨rfl, rfl, rfl⟩
theorem opcodeRow.overload (b : Fin 128) : opcodeRow.Statement (.overload b) := ⟨rfl, rfl, rfl⟩
theorem opcodeRow.ptpMessageInterval : opcodeRow.Statement .ptpMessageInterval := ⟨rfl, rfl, rfl⟩
theorem opcodeRow.pauseFrame (quanta : BitVec 16) : opcodeRow.Statement (.pauseFrame quanta) := ⟨rfl, rfl, rfl⟩

end Sys2Proof.Laws
end

