-- ==== Sys2Proof/Laws/Store.lean ====
section
/-! SUPPORT. The sparse stores: a read after a write, and that every write keeps the canonical form. -/

namespace Sys2Proof.Machine

variable {α : Type}

/-- A store that rises from a bound rises from any lower one. -/
theorem risesFrom_mono (m : Sparse α) (a b : Nat) (hab : a ≤ b) (h : risesFrom b m = true) : risesFrom a m = true := by
  cases m with
  | nil => rfl
  | cons e m =>
    simp only [risesFrom, Bool.and_eq_true, decide_eq_true_eq] at h ⊢
    exact ⟨by omega, h.2⟩

/-- Reading the key just entered. -/
theorem sget_sput_same (d : Nat → α) (m : Sparse α) (k : Nat) (v : α) : sget d (sput m k v) k = v := by
  induction m with
  | nil => simp [sput, sget]
  | cons e m ih =>
    obtain ⟨a, w⟩ := e
    by_cases h1 : a = k
    · simp [sput, h1, sget]
    · by_cases h2 : k < a
      · simp [sput, h1, h2, sget]
      · simp [sput, h1, h2, sget, ih]

/-- Entering one key leaves every other. -/
theorem sget_sput_other (d : Nat → α) (m : Sparse α) (k j : Nat) (v : α) (hj : j ≠ k) :
    sget d (sput m k v) j = sget d m j := by
  induction m with
  | nil => simp [sput, sget, hj.symm]
  | cons e m ih =>
    obtain ⟨a, w⟩ := e
    by_cases h1 : a = k
    · subst h1
      simp [sput, sget, hj.symm]
    · by_cases h2 : k < a
      · simp [sput, h1, h2, sget, hj.symm]
      · simp [sput, h1, h2, sget, ih]

/-- Removing a key makes it read as its default. -/
theorem sget_sdel_same (d : Nat → α) (m : Sparse α) (k : Nat) : sget d (sdel m k) k = d k := by
  induction m with
  | nil => rfl
  | cons e m ih =>
    by_cases h1 : e.1 = k
    · simpa [sdel, h1] using ih
    · simpa [sdel, h1, sget] using ih

/-- Removing one key leaves every other. -/
theorem sget_sdel_other (d : Nat → α) (m : Sparse α) (k j : Nat) (hj : j ≠ k) : sget d (sdel m k) j = sget d m j := by
  induction m with
  | nil => rfl
  | cons e m ih =>
    by_cases h1 : e.1 = k
    · simpa [sdel, h1, sget, hj.symm] using ih
    · simpa [sdel, h1, sget] using congrArg (fun x => if e.1 = j then e.2 else x) ih

/-- Entering a key at or above the bound keeps a store rising. -/
theorem risesFrom_sput (m : Sparse α) (b k : Nat) (v : α) (hb : b ≤ k) (h : risesFrom b m = true) :
    risesFrom b (sput m k v) = true := by
  induction m generalizing b with
  | nil => simp [sput, risesFrom, hb]
  | cons e m ih =>
    obtain ⟨a, w⟩ := e
    have h' := h
    simp only [risesFrom, Bool.and_eq_true, decide_eq_true_eq] at h
    by_cases h1 : a = k
    · subst h1
      simp [sput, risesFrom, h.1, h.2]
    · by_cases h2 : k < a
      · have h3 : k + 1 ≤ a := by omega
        simp [sput, h1, h2, risesFrom, hb, h3, h.2]
      · simp [sput, h1, h2, risesFrom, h.1, ih (a + 1) (by omega) h.2]

theorem mem_sput (m : Sparse α) (k : Nat) (v : α) (e : Nat × α) (h : e ∈ sput m k v) : e = (k, v) ∨ e ∈ m := by
  induction m with
  | nil => simp only [sput, List.mem_singleton] at h; exact .inl h
  | cons x m ih =>
    obtain ⟨a, w⟩ := x
    by_cases h1 : a = k
    · simp only [sput, h1, if_true, List.mem_cons] at h ⊢
      rcases h with h | h
      · exact .inl h
      · exact .inr (.inr h)
    · by_cases h2 : k < a
      · simp only [sput, h1, h2, if_false, if_true, List.mem_cons] at h ⊢
        exact h
      · simp only [sput, h1, h2, if_false, List.mem_cons] at h ⊢
        rcases h with h | h
        · exact .inr (.inl h)
        · rcases ih h with h | h
          · exact .inl h
          · exact .inr (.inr h)

/-- Filtering keeps a store rising. -/
theorem risesFrom_filter (p : Nat × α → Bool) (m : Sparse α) (b : Nat) (h : risesFrom b m = true) :
    risesFrom b (m.filter p) = true := by
  induction m generalizing b with
  | nil => rfl
  | cons e m ih =>
    simp only [risesFrom, Bool.and_eq_true, decide_eq_true_eq] at h
    by_cases hp : p e = true
    · simp [hp, risesFrom, h.1, ih (e.1 + 1) h.2]
    · simp only [List.filter_cons, hp]
      exact ih b (risesFrom_mono m b (e.1 + 1) (by omega) h.2)

variable [DecidableEq α]

/-- The canonical form in two parts: keys rise, and no entry equals its default. -/
theorem swf_iff (d : Nat → α) (m : Sparse α) : swf d m = true ↔ risesFrom 0 m = true ∧ ∀ e ∈ m, e.2 ≠ d e.1 := by
  simp [swf, List.all_eq_true]

/-- A read of the key just written gives the value written. -/
theorem sget_sset_same (d : Nat → α) (m : Sparse α) (k : Nat) (v : α) : sget d (sset d m k v) k = v := by
  unfold sset
  by_cases hv : v = d k
  · rw [if_pos hv, sget_sdel_same, hv]
  · rw [if_neg hv, sget_sput_same]

/-- A write leaves every other key. -/
theorem sget_sset_other (d : Nat → α) (m : Sparse α) (k j : Nat) (v : α) (hj : j ≠ k) :
    sget d (sset d m k v) j = sget d m j := by
  unfold sset
  by_cases hv : v = d k
  · rw [if_pos hv, sget_sdel_other d m k j hj]
  · rw [if_neg hv, sget_sput_other d m k j v hj]

/-- A write keeps the canonical form. -/
theorem swf_sset (d : Nat → α) (m : Sparse α) (k : Nat) (v : α) (h : swf d m = true) : swf d (sset d m k v) = true := by
  rw [swf_iff] at h ⊢
  unfold sset
  by_cases hv : v = d k
  · rw [if_pos hv]
    exact ⟨risesFrom_filter _ m 0 h.1, fun e he => h.2 e (List.mem_filter.1 he).1⟩
  · rw [if_neg hv]
    refine ⟨risesFrom_sput m 0 k v (Nat.zero_le k) h.1, fun e he => ?_⟩
    rcases mem_sput m k v e he with rfl | he
    · exact hv
    · exact h.2 e he

/-- Filtering keeps the canonical form. -/
theorem swf_filter (d : Nat → α) (p : Nat × α → Bool) (m : Sparse α) (h : swf d m = true) : swf d (m.filter p) = true := by
  rw [swf_iff] at h ⊢
  exact ⟨risesFrom_filter p m 0 h.1, fun e he => h.2 e (List.mem_filter.1 he).1⟩

/-- Clearing a range of keys keeps the canonical form. -/
theorem swf_sclear (d : Nat → α) (m : Sparse α) (lo n : Nat) (h : swf d m = true) : swf d (sclear m lo n) = true :=
  swf_filter d _ m h

end Sys2Proof.Machine
end

