-- ==== Sys2Proof/Laws/State.lean ====
section
/-! SUPPORT. One lemma per field and shared update of the state: what an update leaves alone. No later proof unfolds a record
update for it. -/

namespace Sys2Proof.Machine

/-! ### `setObj` -/

@[simp] theorem State.setObj_raw (s : State) (c n v : Nat) : (s.setObj c n v).raw = s.raw := rfl
@[simp] theorem State.setObj_wraps (s : State) (c n v : Nat) : (s.setObj c n v).wraps = s.wraps := rfl
@[simp] theorem State.setObj_phase (s : State) (c n v : Nat) : (s.setObj c n v).phase = s.phase := rfl
@[simp] theorem State.setObj_free (s : State) (c n v : Nat) : (s.setObj c n v).free = s.free := rfl
@[simp] theorem State.setObj_pending (s : State) (c n v : Nat) : (s.setObj c n v).pending = s.pending := rfl
@[simp] theorem State.setObj_sent (s : State) (c n v : Nat) : (s.setObj c n v).sent = s.sent := rfl
@[simp] theorem State.setObj_live (s : State) (c n v : Nat) : (s.setObj c n v).live = s.live := rfl
@[simp] theorem State.setObj_undo (s : State) (c n v : Nat) : (s.setObj c n v).undo = s.undo := rfl
@[simp] theorem State.setObj_setNow (s : State) (c n v : Nat) : (s.setObj c n v).setNow = s.setNow := rfl
@[simp] theorem State.setObj_drv (s : State) (c n v : Nat) : (s.setObj c n v).drv = s.drv := rfl
@[simp] theorem State.setObj_arc (s : State) (c n v : Nat) : (s.setObj c n v).arc = s.arc := rfl
@[simp] theorem State.setObj_cur (s : State) (c n v : Nat) : (s.setObj c n v).cur = s.cur := rfl
@[simp] theorem State.setObj_rd (s : State) (c n v : Nat) : (s.setObj c n v).rd = s.rd := rfl
@[simp] theorem State.setObj_vd (s : State) (c n v : Nat) : (s.setObj c n v).vd = s.vd := rfl
@[simp] theorem State.setObj_sv (s : State) (c n v : Nat) : (s.setObj c n v).sv = s.sv := rfl
@[simp] theorem State.setObj_ap (s : State) (c n v : Nat) : (s.setObj c n v).ap = s.ap := rfl
@[simp] theorem State.setObj_vi (s : State) (c n v : Nat) : (s.setObj c n v).vi = s.vi := rfl
@[simp] theorem State.setObj_bi (s : State) (c n v : Nat) : (s.setObj c n v).bi = s.bi := rfl
@[simp] theorem State.setObj_tm (s : State) (c n v : Nat) : (s.setObj c n v).tm = s.tm := rfl
@[simp] theorem State.setObj_cat (s : State) (c n v : Nat) : (s.setObj c n v).cat = s.cat := rfl
@[simp] theorem State.setObj_ldg (s : State) (c n v : Nat) : (s.setObj c n v).ldg = s.ldg := rfl
@[simp] theorem State.setObj_host (s : State) (c n v : Nat) : (s.setObj c n v).host = s.host := rfl
@[simp] theorem State.setObj_cmd (s : State) (c n v : Nat) : (s.setObj c n v).cmd = s.cmd := rfl
@[simp] theorem State.setObj_cp (s : State) (c n v : Nat) : (s.setObj c n v).cp = s.cp := rfl
@[simp] theorem State.setObj_pw (s : State) (c n v : Nat) : (s.setObj c n v).pw = s.pw := rfl
@[simp] theorem State.setObj_cal (s : State) (c n v : Nat) : (s.setObj c n v).cal = s.cal := rfl
@[simp] theorem State.setObj_bt (s : State) (c n v : Nat) : (s.setObj c n v).bt = s.bt := rfl
@[simp] theorem State.setObj_eth (s : State) (c n v : Nat) : (s.setObj c n v).eth = s.eth := rfl
@[simp] theorem State.setObj_port (s : State) (c n v : Nat) : (s.setObj c n v).port = s.port := rfl

/-! ### `setF` -/

@[simp] theorem State.setF_raw (s : State) (f : Field) (n v : Nat) : (s.setF f n v).raw = s.raw := rfl
@[simp] theorem State.setF_wraps (s : State) (f : Field) (n v : Nat) : (s.setF f n v).wraps = s.wraps := rfl
@[simp] theorem State.setF_phase (s : State) (f : Field) (n v : Nat) : (s.setF f n v).phase = s.phase := rfl
@[simp] theorem State.setF_free (s : State) (f : Field) (n v : Nat) : (s.setF f n v).free = s.free := rfl
@[simp] theorem State.setF_pending (s : State) (f : Field) (n v : Nat) : (s.setF f n v).pending = s.pending := rfl
@[simp] theorem State.setF_sent (s : State) (f : Field) (n v : Nat) : (s.setF f n v).sent = s.sent := rfl
@[simp] theorem State.setF_live (s : State) (f : Field) (n v : Nat) : (s.setF f n v).live = s.live := rfl
@[simp] theorem State.setF_undo (s : State) (f : Field) (n v : Nat) : (s.setF f n v).undo = s.undo := rfl
@[simp] theorem State.setF_setNow (s : State) (f : Field) (n v : Nat) : (s.setF f n v).setNow = s.setNow := rfl
@[simp] theorem State.setF_drv (s : State) (f : Field) (n v : Nat) : (s.setF f n v).drv = s.drv := rfl
@[simp] theorem State.setF_arc (s : State) (f : Field) (n v : Nat) : (s.setF f n v).arc = s.arc := rfl
@[simp] theorem State.setF_cur (s : State) (f : Field) (n v : Nat) : (s.setF f n v).cur = s.cur := rfl
@[simp] theorem State.setF_rd (s : State) (f : Field) (n v : Nat) : (s.setF f n v).rd = s.rd := rfl
@[simp] theorem State.setF_vd (s : State) (f : Field) (n v : Nat) : (s.setF f n v).vd = s.vd := rfl
@[simp] theorem State.setF_sv (s : State) (f : Field) (n v : Nat) : (s.setF f n v).sv = s.sv := rfl
@[simp] theorem State.setF_ap (s : State) (f : Field) (n v : Nat) : (s.setF f n v).ap = s.ap := rfl
@[simp] theorem State.setF_vi (s : State) (f : Field) (n v : Nat) : (s.setF f n v).vi = s.vi := rfl
@[simp] theorem State.setF_bi (s : State) (f : Field) (n v : Nat) : (s.setF f n v).bi = s.bi := rfl
@[simp] theorem State.setF_tm (s : State) (f : Field) (n v : Nat) : (s.setF f n v).tm = s.tm := rfl
@[simp] theorem State.setF_cat (s : State) (f : Field) (n v : Nat) : (s.setF f n v).cat = s.cat := rfl
@[simp] theorem State.setF_ldg (s : State) (f : Field) (n v : Nat) : (s.setF f n v).ldg = s.ldg := rfl
@[simp] theorem State.setF_host (s : State) (f : Field) (n v : Nat) : (s.setF f n v).host = s.host := rfl
@[simp] theorem State.setF_cmd (s : State) (f : Field) (n v : Nat) : (s.setF f n v).cmd = s.cmd := rfl
@[simp] theorem State.setF_cp (s : State) (f : Field) (n v : Nat) : (s.setF f n v).cp = s.cp := rfl
@[simp] theorem State.setF_pw (s : State) (f : Field) (n v : Nat) : (s.setF f n v).pw = s.pw := rfl
@[simp] theorem State.setF_cal (s : State) (f : Field) (n v : Nat) : (s.setF f n v).cal = s.cal := rfl
@[simp] theorem State.setF_bt (s : State) (f : Field) (n v : Nat) : (s.setF f n v).bt = s.bt := rfl
@[simp] theorem State.setF_eth (s : State) (f : Field) (n v : Nat) : (s.setF f n v).eth = s.eth := rfl
@[simp] theorem State.setF_port (s : State) (f : Field) (n v : Nat) : (s.setF f n v).port = s.port := rfl

/-! ### `setLiveObj` -/

@[simp] theorem State.setLiveObj_raw (s : State) (c n v : Nat) : (s.setLiveObj c n v).raw = s.raw := rfl
@[simp] theorem State.setLiveObj_wraps (s : State) (c n v : Nat) : (s.setLiveObj c n v).wraps = s.wraps := rfl
@[simp] theorem State.setLiveObj_phase (s : State) (c n v : Nat) : (s.setLiveObj c n v).phase = s.phase := rfl
@[simp] theorem State.setLiveObj_free (s : State) (c n v : Nat) : (s.setLiveObj c n v).free = s.free := rfl
@[simp] theorem State.setLiveObj_pending (s : State) (c n v : Nat) : (s.setLiveObj c n v).pending = s.pending := rfl
@[simp] theorem State.setLiveObj_sent (s : State) (c n v : Nat) : (s.setLiveObj c n v).sent = s.sent := rfl
@[simp] theorem State.setLiveObj_objs (s : State) (c n v : Nat) : (s.setLiveObj c n v).objs = s.objs := rfl
@[simp] theorem State.setLiveObj_undo (s : State) (c n v : Nat) : (s.setLiveObj c n v).undo = s.undo := rfl
@[simp] theorem State.setLiveObj_setNow (s : State) (c n v : Nat) : (s.setLiveObj c n v).setNow = s.setNow := rfl
@[simp] theorem State.setLiveObj_drv (s : State) (c n v : Nat) : (s.setLiveObj c n v).drv = s.drv := rfl
@[simp] theorem State.setLiveObj_arc (s : State) (c n v : Nat) : (s.setLiveObj c n v).arc = s.arc := rfl
@[simp] theorem State.setLiveObj_cur (s : State) (c n v : Nat) : (s.setLiveObj c n v).cur = s.cur := rfl
@[simp] theorem State.setLiveObj_rd (s : State) (c n v : Nat) : (s.setLiveObj c n v).rd = s.rd := rfl
@[simp] theorem State.setLiveObj_vd (s : State) (c n v : Nat) : (s.setLiveObj c n v).vd = s.vd := rfl
@[simp] theorem State.setLiveObj_sv (s : State) (c n v : Nat) : (s.setLiveObj c n v).sv = s.sv := rfl
@[simp] theorem State.setLiveObj_ap (s : State) (c n v : Nat) : (s.setLiveObj c n v).ap = s.ap := rfl
@[simp] theorem State.setLiveObj_vi (s : State) (c n v : Nat) : (s.setLiveObj c n v).vi = s.vi := rfl
@[simp] theorem State.setLiveObj_bi (s : State) (c n v : Nat) : (s.setLiveObj c n v).bi = s.bi := rfl
@[simp] theorem State.setLiveObj_tm (s : State) (c n v : Nat) : (s.setLiveObj c n v).tm = s.tm := rfl
@[simp] theorem State.setLiveObj_cat (s : State) (c n v : Nat) : (s.setLiveObj c n v).cat = s.cat := rfl
@[simp] theorem State.setLiveObj_ldg (s : State) (c n v : Nat) : (s.setLiveObj c n v).ldg = s.ldg := rfl
@[simp] theorem State.setLiveObj_host (s : State) (c n v : Nat) : (s.setLiveObj c n v).host = s.host := rfl
@[simp] theorem State.setLiveObj_cmd (s : State) (c n v : Nat) : (s.setLiveObj c n v).cmd = s.cmd := rfl
@[simp] theorem State.setLiveObj_cp (s : State) (c n v : Nat) : (s.setLiveObj c n v).cp = s.cp := rfl
@[simp] theorem State.setLiveObj_pw (s : State) (c n v : Nat) : (s.setLiveObj c n v).pw = s.pw := rfl
@[simp] theorem State.setLiveObj_cal (s : State) (c n v : Nat) : (s.setLiveObj c n v).cal = s.cal := rfl
@[simp] theorem State.setLiveObj_bt (s : State) (c n v : Nat) : (s.setLiveObj c n v).bt = s.bt := rfl
@[simp] theorem State.setLiveObj_eth (s : State) (c n v : Nat) : (s.setLiveObj c n v).eth = s.eth := rfl
@[simp] theorem State.setLiveObj_port (s : State) (c n v : Nat) : (s.setLiveObj c n v).port = s.port := rfl

/-! ### `setL` -/

@[simp] theorem State.setL_raw (s : State) (f : Field) (n v : Nat) : (s.setL f n v).raw = s.raw := rfl
@[simp] theorem State.setL_wraps (s : State) (f : Field) (n v : Nat) : (s.setL f n v).wraps = s.wraps := rfl
@[simp] theorem State.setL_phase (s : State) (f : Field) (n v : Nat) : (s.setL f n v).phase = s.phase := rfl
@[simp] theorem State.setL_free (s : State) (f : Field) (n v : Nat) : (s.setL f n v).free = s.free := rfl
@[simp] theorem State.setL_pending (s : State) (f : Field) (n v : Nat) : (s.setL f n v).pending = s.pending := rfl
@[simp] theorem State.setL_sent (s : State) (f : Field) (n v : Nat) : (s.setL f n v).sent = s.sent := rfl
@[simp] theorem State.setL_objs (s : State) (f : Field) (n v : Nat) : (s.setL f n v).objs = s.objs := rfl
@[simp] theorem State.setL_undo (s : State) (f : Field) (n v : Nat) : (s.setL f n v).undo = s.undo := rfl
@[simp] theorem State.setL_setNow (s : State) (f : Field) (n v : Nat) : (s.setL f n v).setNow = s.setNow := rfl
@[simp] theorem State.setL_drv (s : State) (f : Field) (n v : Nat) : (s.setL f n v).drv = s.drv := rfl
@[simp] theorem State.setL_arc (s : State) (f : Field) (n v : Nat) : (s.setL f n v).arc = s.arc := rfl
@[simp] theorem State.setL_cur (s : State) (f : Field) (n v : Nat) : (s.setL f n v).cur = s.cur := rfl
@[simp] theorem State.setL_rd (s : State) (f : Field) (n v : Nat) : (s.setL f n v).rd = s.rd := rfl
@[simp] theorem State.setL_vd (s : State) (f : Field) (n v : Nat) : (s.setL f n v).vd = s.vd := rfl
@[simp] theorem State.setL_sv (s : State) (f : Field) (n v : Nat) : (s.setL f n v).sv = s.sv := rfl
@[simp] theorem State.setL_ap (s : State) (f : Field) (n v : Nat) : (s.setL f n v).ap = s.ap := rfl
@[simp] theorem State.setL_vi (s : State) (f : Field) (n v : Nat) : (s.setL f n v).vi = s.vi := rfl
@[simp] theorem State.setL_bi (s : State) (f : Field) (n v : Nat) : (s.setL f n v).bi = s.bi := rfl
@[simp] theorem State.setL_tm (s : State) (f : Field) (n v : Nat) : (s.setL f n v).tm = s.tm := rfl
@[simp] theorem State.setL_cat (s : State) (f : Field) (n v : Nat) : (s.setL f n v).cat = s.cat := rfl
@[simp] theorem State.setL_ldg (s : State) (f : Field) (n v : Nat) : (s.setL f n v).ldg = s.ldg := rfl
@[simp] theorem State.setL_host (s : State) (f : Field) (n v : Nat) : (s.setL f n v).host = s.host := rfl
@[simp] theorem State.setL_cmd (s : State) (f : Field) (n v : Nat) : (s.setL f n v).cmd = s.cmd := rfl
@[simp] theorem State.setL_cp (s : State) (f : Field) (n v : Nat) : (s.setL f n v).cp = s.cp := rfl
@[simp] theorem State.setL_pw (s : State) (f : Field) (n v : Nat) : (s.setL f n v).pw = s.pw := rfl
@[simp] theorem State.setL_cal (s : State) (f : Field) (n v : Nat) : (s.setL f n v).cal = s.cal := rfl
@[simp] theorem State.setL_bt (s : State) (f : Field) (n v : Nat) : (s.setL f n v).bt = s.bt := rfl
@[simp] theorem State.setL_eth (s : State) (f : Field) (n v : Nat) : (s.setL f n v).eth = s.eth := rfl
@[simp] theorem State.setL_port (s : State) (f : Field) (n v : Nat) : (s.setL f n v).port = s.port := rfl

/-! ### `changeLive` -/

@[simp] theorem State.changeLive_raw (s : State) (c n v : Nat) (b : Bool) : (s.changeLive c n v b).raw = s.raw := rfl
@[simp] theorem State.changeLive_wraps (s : State) (c n v : Nat) (b : Bool) : (s.changeLive c n v b).wraps = s.wraps := rfl
@[simp] theorem State.changeLive_phase (s : State) (c n v : Nat) (b : Bool) : (s.changeLive c n v b).phase = s.phase := rfl
@[simp] theorem State.changeLive_free (s : State) (c n v : Nat) (b : Bool) : (s.changeLive c n v b).free = s.free := rfl
@[simp] theorem State.changeLive_pending (s : State) (c n v : Nat) (b : Bool) : (s.changeLive c n v b).pending = s.pending := rfl
@[simp] theorem State.changeLive_sent (s : State) (c n v : Nat) (b : Bool) : (s.changeLive c n v b).sent = s.sent := rfl
@[simp] theorem State.changeLive_objs (s : State) (c n v : Nat) (b : Bool) : (s.changeLive c n v b).objs = s.objs := rfl
@[simp] theorem State.changeLive_setNow (s : State) (c n v : Nat) (b : Bool) : (s.changeLive c n v b).setNow = s.setNow := rfl
@[simp] theorem State.changeLive_drv (s : State) (c n v : Nat) (b : Bool) : (s.changeLive c n v b).drv = s.drv := rfl
@[simp] theorem State.changeLive_arc (s : State) (c n v : Nat) (b : Bool) : (s.changeLive c n v b).arc = s.arc := rfl
@[simp] theorem State.changeLive_cur (s : State) (c n v : Nat) (b : Bool) : (s.changeLive c n v b).cur = s.cur := rfl
@[simp] theorem State.changeLive_rd (s : State) (c n v : Nat) (b : Bool) : (s.changeLive c n v b).rd = s.rd := rfl
@[simp] theorem State.changeLive_vd (s : State) (c n v : Nat) (b : Bool) : (s.changeLive c n v b).vd = s.vd := rfl
@[simp] theorem State.changeLive_sv (s : State) (c n v : Nat) (b : Bool) : (s.changeLive c n v b).sv = s.sv := rfl
@[simp] theorem State.changeLive_ap (s : State) (c n v : Nat) (b : Bool) : (s.changeLive c n v b).ap = s.ap := rfl
@[simp] theorem State.changeLive_vi (s : State) (c n v : Nat) (b : Bool) : (s.changeLive c n v b).vi = s.vi := rfl
@[simp] theorem State.changeLive_bi (s : State) (c n v : Nat) (b : Bool) : (s.changeLive c n v b).bi = s.bi := rfl
@[simp] theorem State.changeLive_tm (s : State) (c n v : Nat) (b : Bool) : (s.changeLive c n v b).tm = s.tm := rfl
@[simp] theorem State.changeLive_cat (s : State) (c n v : Nat) (b : Bool) : (s.changeLive c n v b).cat = s.cat := rfl
@[simp] theorem State.changeLive_ldg (s : State) (c n v : Nat) (b : Bool) : (s.changeLive c n v b).ldg = s.ldg := rfl
@[simp] theorem State.changeLive_host (s : State) (c n v : Nat) (b : Bool) : (s.changeLive c n v b).host = s.host := rfl
@[simp] theorem State.changeLive_cmd (s : State) (c n v : Nat) (b : Bool) : (s.changeLive c n v b).cmd = s.cmd := rfl
@[simp] theorem State.changeLive_cp (s : State) (c n v : Nat) (b : Bool) : (s.changeLive c n v b).cp = s.cp := rfl
@[simp] theorem State.changeLive_pw (s : State) (c n v : Nat) (b : Bool) : (s.changeLive c n v b).pw = s.pw := rfl
@[simp] theorem State.changeLive_cal (s : State) (c n v : Nat) (b : Bool) : (s.changeLive c n v b).cal = s.cal := rfl
@[simp] theorem State.changeLive_bt (s : State) (c n v : Nat) (b : Bool) : (s.changeLive c n v b).bt = s.bt := rfl
@[simp] theorem State.changeLive_eth (s : State) (c n v : Nat) (b : Bool) : (s.changeLive c n v b).eth = s.eth := rfl
@[simp] theorem State.changeLive_port (s : State) (c n v : Nat) (b : Bool) : (s.changeLive c n v b).port = s.port := rfl

/-! ### `markNow` -/

@[simp] theorem State.markNow_raw (s : State) (k m : Nat) : (s.markNow k m).raw = s.raw := rfl
@[simp] theorem State.markNow_wraps (s : State) (k m : Nat) : (s.markNow k m).wraps = s.wraps := rfl
@[simp] theorem State.markNow_phase (s : State) (k m : Nat) : (s.markNow k m).phase = s.phase := rfl
@[simp] theorem State.markNow_free (s : State) (k m : Nat) : (s.markNow k m).free = s.free := rfl
@[simp] theorem State.markNow_pending (s : State) (k m : Nat) : (s.markNow k m).pending = s.pending := rfl
@[simp] theorem State.markNow_sent (s : State) (k m : Nat) : (s.markNow k m).sent = s.sent := rfl
@[simp] theorem State.markNow_objs (s : State) (k m : Nat) : (s.markNow k m).objs = s.objs := rfl
@[simp] theorem State.markNow_live (s : State) (k m : Nat) : (s.markNow k m).live = s.live := rfl
@[simp] theorem State.markNow_undo (s : State) (k m : Nat) : (s.markNow k m).undo = s.undo := rfl
@[simp] theorem State.markNow_drv (s : State) (k m : Nat) : (s.markNow k m).drv = s.drv := rfl
@[simp] theorem State.markNow_arc (s : State) (k m : Nat) : (s.markNow k m).arc = s.arc := rfl
@[simp] theorem State.markNow_cur (s : State) (k m : Nat) : (s.markNow k m).cur = s.cur := rfl
@[simp] theorem State.markNow_rd (s : State) (k m : Nat) : (s.markNow k m).rd = s.rd := rfl
@[simp] theorem State.markNow_vd (s : State) (k m : Nat) : (s.markNow k m).vd = s.vd := rfl
@[simp] theorem State.markNow_sv (s : State) (k m : Nat) : (s.markNow k m).sv = s.sv := rfl
@[simp] theorem State.markNow_ap (s : State) (k m : Nat) : (s.markNow k m).ap = s.ap := rfl
@[simp] theorem State.markNow_vi (s : State) (k m : Nat) : (s.markNow k m).vi = s.vi := rfl
@[simp] theorem State.markNow_bi (s : State) (k m : Nat) : (s.markNow k m).bi = s.bi := rfl
@[simp] theorem State.markNow_tm (s : State) (k m : Nat) : (s.markNow k m).tm = s.tm := rfl
@[simp] theorem State.markNow_cat (s : State) (k m : Nat) : (s.markNow k m).cat = s.cat := rfl
@[simp] theorem State.markNow_ldg (s : State) (k m : Nat) : (s.markNow k m).ldg = s.ldg := rfl
@[simp] theorem State.markNow_host (s : State) (k m : Nat) : (s.markNow k m).host = s.host := rfl
@[simp] theorem State.markNow_cmd (s : State) (k m : Nat) : (s.markNow k m).cmd = s.cmd := rfl
@[simp] theorem State.markNow_cp (s : State) (k m : Nat) : (s.markNow k m).cp = s.cp := rfl
@[simp] theorem State.markNow_pw (s : State) (k m : Nat) : (s.markNow k m).pw = s.pw := rfl
@[simp] theorem State.markNow_cal (s : State) (k m : Nat) : (s.markNow k m).cal = s.cal := rfl
@[simp] theorem State.markNow_bt (s : State) (k m : Nat) : (s.markNow k m).bt = s.bt := rfl
@[simp] theorem State.markNow_eth (s : State) (k m : Nat) : (s.markNow k m).eth = s.eth := rfl
@[simp] theorem State.markNow_port (s : State) (k m : Nat) : (s.markNow k m).port = s.port := rfl

/-! ### `raise` -/

@[simp] theorem State.raise_raw (s : State) (f : Field) (n : Nat) : (s.raise f n).raw = s.raw := rfl
@[simp] theorem State.raise_wraps (s : State) (f : Field) (n : Nat) : (s.raise f n).wraps = s.wraps := rfl
@[simp] theorem State.raise_phase (s : State) (f : Field) (n : Nat) : (s.raise f n).phase = s.phase := rfl
@[simp] theorem State.raise_free (s : State) (f : Field) (n : Nat) : (s.raise f n).free = s.free := rfl
@[simp] theorem State.raise_pending (s : State) (f : Field) (n : Nat) : (s.raise f n).pending = s.pending := rfl
@[simp] theorem State.raise_sent (s : State) (f : Field) (n : Nat) : (s.raise f n).sent = s.sent := rfl
@[simp] theorem State.raise_live (s : State) (f : Field) (n : Nat) : (s.raise f n).live = s.live := rfl
@[simp] theorem State.raise_undo (s : State) (f : Field) (n : Nat) : (s.raise f n).undo = s.undo := rfl
@[simp] theorem State.raise_drv (s : State) (f : Field) (n : Nat) : (s.raise f n).drv = s.drv := rfl
@[simp] theorem State.raise_arc (s : State) (f : Field) (n : Nat) : (s.raise f n).arc = s.arc := rfl
@[simp] theorem State.raise_cur (s : State) (f : Field) (n : Nat) : (s.raise f n).cur = s.cur := rfl
@[simp] theorem State.raise_rd (s : State) (f : Field) (n : Nat) : (s.raise f n).rd = s.rd := rfl
@[simp] theorem State.raise_vd (s : State) (f : Field) (n : Nat) : (s.raise f n).vd = s.vd := rfl
@[simp] theorem State.raise_sv (s : State) (f : Field) (n : Nat) : (s.raise f n).sv = s.sv := rfl
@[simp] theorem State.raise_ap (s : State) (f : Field) (n : Nat) : (s.raise f n).ap = s.ap := rfl
@[simp] theorem State.raise_vi (s : State) (f : Field) (n : Nat) : (s.raise f n).vi = s.vi := rfl
@[simp] theorem State.raise_bi (s : State) (f : Field) (n : Nat) : (s.raise f n).bi = s.bi := rfl
@[simp] theorem State.raise_tm (s : State) (f : Field) (n : Nat) : (s.raise f n).tm = s.tm := rfl
@[simp] theorem State.raise_cat (s : State) (f : Field) (n : Nat) : (s.raise f n).cat = s.cat := rfl
@[simp] theorem State.raise_ldg (s : State) (f : Field) (n : Nat) : (s.raise f n).ldg = s.ldg := rfl
@[simp] theorem State.raise_host (s : State) (f : Field) (n : Nat) : (s.raise f n).host = s.host := rfl
@[simp] theorem State.raise_cmd (s : State) (f : Field) (n : Nat) : (s.raise f n).cmd = s.cmd := rfl
@[simp] theorem State.raise_cp (s : State) (f : Field) (n : Nat) : (s.raise f n).cp = s.cp := rfl
@[simp] theorem State.raise_pw (s : State) (f : Field) (n : Nat) : (s.raise f n).pw = s.pw := rfl
@[simp] theorem State.raise_cal (s : State) (f : Field) (n : Nat) : (s.raise f n).cal = s.cal := rfl
@[simp] theorem State.raise_bt (s : State) (f : Field) (n : Nat) : (s.raise f n).bt = s.bt := rfl
@[simp] theorem State.raise_eth (s : State) (f : Field) (n : Nat) : (s.raise f n).eth = s.eth := rfl
@[simp] theorem State.raise_port (s : State) (f : Field) (n : Nat) : (s.raise f n).port = s.port := rfl

/-! ### `countN` -/

@[simp] theorem State.countN_raw (s : State) (c n e k : Nat) : (s.countN c n e k).raw = s.raw := rfl
@[simp] theorem State.countN_wraps (s : State) (c n e k : Nat) : (s.countN c n e k).wraps = s.wraps := rfl
@[simp] theorem State.countN_phase (s : State) (c n e k : Nat) : (s.countN c n e k).phase = s.phase := rfl
@[simp] theorem State.countN_free (s : State) (c n e k : Nat) : (s.countN c n e k).free = s.free := rfl
@[simp] theorem State.countN_pending (s : State) (c n e k : Nat) : (s.countN c n e k).pending = s.pending := rfl
@[simp] theorem State.countN_sent (s : State) (c n e k : Nat) : (s.countN c n e k).sent = s.sent := rfl
@[simp] theorem State.countN_objs (s : State) (c n e k : Nat) : (s.countN c n e k).objs = s.objs := rfl
@[simp] theorem State.countN_live (s : State) (c n e k : Nat) : (s.countN c n e k).live = s.live := rfl
@[simp] theorem State.countN_undo (s : State) (c n e k : Nat) : (s.countN c n e k).undo = s.undo := rfl
@[simp] theorem State.countN_setNow (s : State) (c n e k : Nat) : (s.countN c n e k).setNow = s.setNow := rfl
@[simp] theorem State.countN_drv (s : State) (c n e k : Nat) : (s.countN c n e k).drv = s.drv := rfl
@[simp] theorem State.countN_arc (s : State) (c n e k : Nat) : (s.countN c n e k).arc = s.arc := rfl
@[simp] theorem State.countN_cur (s : State) (c n e k : Nat) : (s.countN c n e k).cur = s.cur := rfl
@[simp] theorem State.countN_rd (s : State) (c n e k : Nat) : (s.countN c n e k).rd = s.rd := rfl
@[simp] theorem State.countN_vd (s : State) (c n e k : Nat) : (s.countN c n e k).vd = s.vd := rfl
@[simp] theorem State.countN_sv (s : State) (c n e k : Nat) : (s.countN c n e k).sv = s.sv := rfl
@[simp] theorem State.countN_ap (s : State) (c n e k : Nat) : (s.countN c n e k).ap = s.ap := rfl
@[simp] theorem State.countN_vi (s : State) (c n e k : Nat) : (s.countN c n e k).vi = s.vi := rfl
@[simp] theorem State.countN_bi (s : State) (c n e k : Nat) : (s.countN c n e k).bi = s.bi := rfl
@[simp] theorem State.countN_tm (s : State) (c n e k : Nat) : (s.countN c n e k).tm = s.tm := rfl
@[simp] theorem State.countN_cat (s : State) (c n e k : Nat) : (s.countN c n e k).cat = s.cat := rfl
@[simp] theorem State.countN_host (s : State) (c n e k : Nat) : (s.countN c n e k).host = s.host := rfl
@[simp] theorem State.countN_cmd (s : State) (c n e k : Nat) : (s.countN c n e k).cmd = s.cmd := rfl
@[simp] theorem State.countN_cp (s : State) (c n e k : Nat) : (s.countN c n e k).cp = s.cp := rfl
@[simp] theorem State.countN_pw (s : State) (c n e k : Nat) : (s.countN c n e k).pw = s.pw := rfl
@[simp] theorem State.countN_cal (s : State) (c n e k : Nat) : (s.countN c n e k).cal = s.cal := rfl
@[simp] theorem State.countN_bt (s : State) (c n e k : Nat) : (s.countN c n e k).bt = s.bt := rfl
@[simp] theorem State.countN_eth (s : State) (c n e k : Nat) : (s.countN c n e k).eth = s.eth := rfl
@[simp] theorem State.countN_port (s : State) (c n e k : Nat) : (s.countN c n e k).port = s.port := rfl

/-! ### `count` -/

@[simp] theorem State.count_raw (s : State) (c n e : Nat) : (s.count c n e).raw = s.raw := rfl
@[simp] theorem State.count_wraps (s : State) (c n e : Nat) : (s.count c n e).wraps = s.wraps := rfl
@[simp] theorem State.count_phase (s : State) (c n e : Nat) : (s.count c n e).phase = s.phase := rfl
@[simp] theorem State.count_free (s : State) (c n e : Nat) : (s.count c n e).free = s.free := rfl
@[simp] theorem State.count_pending (s : State) (c n e : Nat) : (s.count c n e).pending = s.pending := rfl
@[simp] theorem State.count_sent (s : State) (c n e : Nat) : (s.count c n e).sent = s.sent := rfl
@[simp] theorem State.count_objs (s : State) (c n e : Nat) : (s.count c n e).objs = s.objs := rfl
@[simp] theorem State.count_live (s : State) (c n e : Nat) : (s.count c n e).live = s.live := rfl
@[simp] theorem State.count_undo (s : State) (c n e : Nat) : (s.count c n e).undo = s.undo := rfl
@[simp] theorem State.count_setNow (s : State) (c n e : Nat) : (s.count c n e).setNow = s.setNow := rfl
@[simp] theorem State.count_drv (s : State) (c n e : Nat) : (s.count c n e).drv = s.drv := rfl
@[simp] theorem State.count_arc (s : State) (c n e : Nat) : (s.count c n e).arc = s.arc := rfl
@[simp] theorem State.count_cur (s : State) (c n e : Nat) : (s.count c n e).cur = s.cur := rfl
@[simp] theorem State.count_rd (s : State) (c n e : Nat) : (s.count c n e).rd = s.rd := rfl
@[simp] theorem State.count_vd (s : State) (c n e : Nat) : (s.count c n e).vd = s.vd := rfl
@[simp] theorem State.count_sv (s : State) (c n e : Nat) : (s.count c n e).sv = s.sv := rfl
@[simp] theorem State.count_ap (s : State) (c n e : Nat) : (s.count c n e).ap = s.ap := rfl
@[simp] theorem State.count_vi (s : State) (c n e : Nat) : (s.count c n e).vi = s.vi := rfl
@[simp] theorem State.count_bi (s : State) (c n e : Nat) : (s.count c n e).bi = s.bi := rfl
@[simp] theorem State.count_tm (s : State) (c n e : Nat) : (s.count c n e).tm = s.tm := rfl
@[simp] theorem State.count_cat (s : State) (c n e : Nat) : (s.count c n e).cat = s.cat := rfl
@[simp] theorem State.count_host (s : State) (c n e : Nat) : (s.count c n e).host = s.host := rfl
@[simp] theorem State.count_cmd (s : State) (c n e : Nat) : (s.count c n e).cmd = s.cmd := rfl
@[simp] theorem State.count_cp (s : State) (c n e : Nat) : (s.count c n e).cp = s.cp := rfl
@[simp] theorem State.count_pw (s : State) (c n e : Nat) : (s.count c n e).pw = s.pw := rfl
@[simp] theorem State.count_cal (s : State) (c n e : Nat) : (s.count c n e).cal = s.cal := rfl
@[simp] theorem State.count_bt (s : State) (c n e : Nat) : (s.count c n e).bt = s.bt := rfl
@[simp] theorem State.count_eth (s : State) (c n e : Nat) : (s.count c n e).eth = s.eth := rfl
@[simp] theorem State.count_port (s : State) (c n e : Nat) : (s.count c n e).port = s.port := rfl

/-! ### `setRaw` -/

@[simp] theorem State.setRaw_phase (s : State) (r : Nat) : (s.setRaw r).phase = s.phase := rfl
@[simp] theorem State.setRaw_free (s : State) (r : Nat) : (s.setRaw r).free = s.free := rfl
@[simp] theorem State.setRaw_pending (s : State) (r : Nat) : (s.setRaw r).pending = s.pending := rfl
@[simp] theorem State.setRaw_sent (s : State) (r : Nat) : (s.setRaw r).sent = s.sent := rfl
@[simp] theorem State.setRaw_objs (s : State) (r : Nat) : (s.setRaw r).objs = s.objs := rfl
@[simp] theorem State.setRaw_live (s : State) (r : Nat) : (s.setRaw r).live = s.live := rfl
@[simp] theorem State.setRaw_undo (s : State) (r : Nat) : (s.setRaw r).undo = s.undo := rfl
@[simp] theorem State.setRaw_setNow (s : State) (r : Nat) : (s.setRaw r).setNow = s.setNow := rfl
@[simp] theorem State.setRaw_drv (s : State) (r : Nat) : (s.setRaw r).drv = s.drv := rfl
@[simp] theorem State.setRaw_arc (s : State) (r : Nat) : (s.setRaw r).arc = s.arc := rfl
@[simp] theorem State.setRaw_cur (s : State) (r : Nat) : (s.setRaw r).cur = s.cur := rfl
@[simp] theorem State.setRaw_rd (s : State) (r : Nat) : (s.setRaw r).rd = s.rd := rfl
@[simp] theorem State.setRaw_vd (s : State) (r : Nat) : (s.setRaw r).vd = s.vd := rfl
@[simp] theorem State.setRaw_sv (s : State) (r : Nat) : (s.setRaw r).sv = s.sv := rfl
@[simp] theorem State.setRaw_ap (s : State) (r : Nat) : (s.setRaw r).ap = s.ap := rfl
@[simp] theorem State.setRaw_vi (s : State) (r : Nat) : (s.setRaw r).vi = s.vi := rfl
@[simp] theorem State.setRaw_bi (s : State) (r : Nat) : (s.setRaw r).bi = s.bi := rfl
@[simp] theorem State.setRaw_tm (s : State) (r : Nat) : (s.setRaw r).tm = s.tm := rfl
@[simp] theorem State.setRaw_cat (s : State) (r : Nat) : (s.setRaw r).cat = s.cat := rfl
@[simp] theorem State.setRaw_ldg (s : State) (r : Nat) : (s.setRaw r).ldg = s.ldg := rfl
@[simp] theorem State.setRaw_host (s : State) (r : Nat) : (s.setRaw r).host = s.host := rfl
@[simp] theorem State.setRaw_cmd (s : State) (r : Nat) : (s.setRaw r).cmd = s.cmd := rfl
@[simp] theorem State.setRaw_cp (s : State) (r : Nat) : (s.setRaw r).cp = s.cp := rfl
@[simp] theorem State.setRaw_pw (s : State) (r : Nat) : (s.setRaw r).pw = s.pw := rfl
@[simp] theorem State.setRaw_cal (s : State) (r : Nat) : (s.setRaw r).cal = s.cal := rfl
@[simp] theorem State.setRaw_bt (s : State) (r : Nat) : (s.setRaw r).bt = s.bt := rfl
@[simp] theorem State.setRaw_eth (s : State) (r : Nat) : (s.setRaw r).eth = s.eth := rfl
@[simp] theorem State.setRaw_port (s : State) (r : Nat) : (s.setRaw r).port = s.port := rfl

/-! ### `markLost` -/

@[simp] theorem State.markLost_raw (s : State) (k : Nat) : (s.markLost k).raw = s.raw := rfl
@[simp] theorem State.markLost_wraps (s : State) (k : Nat) : (s.markLost k).wraps = s.wraps := rfl
@[simp] theorem State.markLost_phase (s : State) (k : Nat) : (s.markLost k).phase = s.phase := rfl
@[simp] theorem State.markLost_free (s : State) (k : Nat) : (s.markLost k).free = s.free := rfl
@[simp] theorem State.markLost_pending (s : State) (k : Nat) : (s.markLost k).pending = s.pending := rfl
@[simp] theorem State.markLost_sent (s : State) (k : Nat) : (s.markLost k).sent = s.sent := rfl
@[simp] theorem State.markLost_objs (s : State) (k : Nat) : (s.markLost k).objs = s.objs := rfl
@[simp] theorem State.markLost_live (s : State) (k : Nat) : (s.markLost k).live = s.live := rfl
@[simp] theorem State.markLost_undo (s : State) (k : Nat) : (s.markLost k).undo = s.undo := rfl
@[simp] theorem State.markLost_setNow (s : State) (k : Nat) : (s.markLost k).setNow = s.setNow := rfl
@[simp] theorem State.markLost_drv (s : State) (k : Nat) : (s.markLost k).drv = s.drv := rfl
@[simp] theorem State.markLost_arc (s : State) (k : Nat) : (s.markLost k).arc = s.arc := rfl
@[simp] theorem State.markLost_cur (s : State) (k : Nat) : (s.markLost k).cur = s.cur := rfl
@[simp] theorem State.markLost_rd (s : State) (k : Nat) : (s.markLost k).rd = s.rd := rfl
@[simp] theorem State.markLost_vd (s : State) (k : Nat) : (s.markLost k).vd = s.vd := rfl
@[simp] theorem State.markLost_sv (s : State) (k : Nat) : (s.markLost k).sv = s.sv := rfl
@[simp] theorem State.markLost_ap (s : State) (k : Nat) : (s.markLost k).ap = s.ap := rfl
@[simp] theorem State.markLost_vi (s : State) (k : Nat) : (s.markLost k).vi = s.vi := rfl
@[simp] theorem State.markLost_bi (s : State) (k : Nat) : (s.markLost k).bi = s.bi := rfl
@[simp] theorem State.markLost_tm (s : State) (k : Nat) : (s.markLost k).tm = s.tm := rfl
@[simp] theorem State.markLost_cat (s : State) (k : Nat) : (s.markLost k).cat = s.cat := rfl
@[simp] theorem State.markLost_host (s : State) (k : Nat) : (s.markLost k).host = s.host := rfl
@[simp] theorem State.markLost_cmd (s : State) (k : Nat) : (s.markLost k).cmd = s.cmd := rfl
@[simp] theorem State.markLost_cp (s : State) (k : Nat) : (s.markLost k).cp = s.cp := rfl
@[simp] theorem State.markLost_pw (s : State) (k : Nat) : (s.markLost k).pw = s.pw := rfl
@[simp] theorem State.markLost_cal (s : State) (k : Nat) : (s.markLost k).cal = s.cal := rfl
@[simp] theorem State.markLost_bt (s : State) (k : Nat) : (s.markLost k).bt = s.bt := rfl
@[simp] theorem State.markLost_eth (s : State) (k : Nat) : (s.markLost k).eth = s.eth := rfl
@[simp] theorem State.markLost_port (s : State) (k : Nat) : (s.markLost k).port = s.port := rfl

/-! ### `clearLost` -/

@[simp] theorem State.clearLost_raw (s : State) (k : Nat) : (s.clearLost k).raw = s.raw := rfl
@[simp] theorem State.clearLost_wraps (s : State) (k : Nat) : (s.clearLost k).wraps = s.wraps := rfl
@[simp] theorem State.clearLost_phase (s : State) (k : Nat) : (s.clearLost k).phase = s.phase := rfl
@[simp] theorem State.clearLost_free (s : State) (k : Nat) : (s.clearLost k).free = s.free := rfl
@[simp] theorem State.clearLost_pending (s : State) (k : Nat) : (s.clearLost k).pending = s.pending := rfl
@[simp] theorem State.clearLost_sent (s : State) (k : Nat) : (s.clearLost k).sent = s.sent := rfl
@[simp] theorem State.clearLost_objs (s : State) (k : Nat) : (s.clearLost k).objs = s.objs := rfl
@[simp] theorem State.clearLost_live (s : State) (k : Nat) : (s.clearLost k).live = s.live := rfl
@[simp] theorem State.clearLost_undo (s : State) (k : Nat) : (s.clearLost k).undo = s.undo := rfl
@[simp] theorem State.clearLost_setNow (s : State) (k : Nat) : (s.clearLost k).setNow = s.setNow := rfl
@[simp] theorem State.clearLost_drv (s : State) (k : Nat) : (s.clearLost k).drv = s.drv := rfl
@[simp] theorem State.clearLost_arc (s : State) (k : Nat) : (s.clearLost k).arc = s.arc := rfl
@[simp] theorem State.clearLost_cur (s : State) (k : Nat) : (s.clearLost k).cur = s.cur := rfl
@[simp] theorem State.clearLost_rd (s : State) (k : Nat) : (s.clearLost k).rd = s.rd := rfl
@[simp] theorem State.clearLost_vd (s : State) (k : Nat) : (s.clearLost k).vd = s.vd := rfl
@[simp] theorem State.clearLost_sv (s : State) (k : Nat) : (s.clearLost k).sv = s.sv := rfl
@[simp] theorem State.clearLost_ap (s : State) (k : Nat) : (s.clearLost k).ap = s.ap := rfl
@[simp] theorem State.clearLost_vi (s : State) (k : Nat) : (s.clearLost k).vi = s.vi := rfl
@[simp] theorem State.clearLost_bi (s : State) (k : Nat) : (s.clearLost k).bi = s.bi := rfl
@[simp] theorem State.clearLost_tm (s : State) (k : Nat) : (s.clearLost k).tm = s.tm := rfl
@[simp] theorem State.clearLost_cat (s : State) (k : Nat) : (s.clearLost k).cat = s.cat := rfl
@[simp] theorem State.clearLost_host (s : State) (k : Nat) : (s.clearLost k).host = s.host := rfl
@[simp] theorem State.clearLost_cmd (s : State) (k : Nat) : (s.clearLost k).cmd = s.cmd := rfl
@[simp] theorem State.clearLost_cp (s : State) (k : Nat) : (s.clearLost k).cp = s.cp := rfl
@[simp] theorem State.clearLost_pw (s : State) (k : Nat) : (s.clearLost k).pw = s.pw := rfl
@[simp] theorem State.clearLost_cal (s : State) (k : Nat) : (s.clearLost k).cal = s.cal := rfl
@[simp] theorem State.clearLost_bt (s : State) (k : Nat) : (s.clearLost k).bt = s.bt := rfl
@[simp] theorem State.clearLost_eth (s : State) (k : Nat) : (s.clearLost k).eth = s.eth := rfl
@[simp] theorem State.clearLost_port (s : State) (k : Nat) : (s.clearLost k).port = s.port := rfl

/-! ### `emit` -/

@[simp] theorem State.emit_raw (s : State) (o : Outgoing) : (s.emit o).raw = s.raw := rfl
@[simp] theorem State.emit_wraps (s : State) (o : Outgoing) : (s.emit o).wraps = s.wraps := rfl
@[simp] theorem State.emit_phase (s : State) (o : Outgoing) : (s.emit o).phase = s.phase := rfl
@[simp] theorem State.emit_free (s : State) (o : Outgoing) : (s.emit o).free = s.free := rfl
@[simp] theorem State.emit_pending (s : State) (o : Outgoing) : (s.emit o).pending = s.pending := rfl
@[simp] theorem State.emit_objs (s : State) (o : Outgoing) : (s.emit o).objs = s.objs := rfl
@[simp] theorem State.emit_live (s : State) (o : Outgoing) : (s.emit o).live = s.live := rfl
@[simp] theorem State.emit_undo (s : State) (o : Outgoing) : (s.emit o).undo = s.undo := rfl
@[simp] theorem State.emit_setNow (s : State) (o : Outgoing) : (s.emit o).setNow = s.setNow := rfl
@[simp] theorem State.emit_drv (s : State) (o : Outgoing) : (s.emit o).drv = s.drv := rfl
@[simp] theorem State.emit_arc (s : State) (o : Outgoing) : (s.emit o).arc = s.arc := rfl
@[simp] theorem State.emit_cur (s : State) (o : Outgoing) : (s.emit o).cur = s.cur := rfl
@[simp] theorem State.emit_rd (s : State) (o : Outgoing) : (s.emit o).rd = s.rd := rfl
@[simp] theorem State.emit_vd (s : State) (o : Outgoing) : (s.emit o).vd = s.vd := rfl
@[simp] theorem State.emit_sv (s : State) (o : Outgoing) : (s.emit o).sv = s.sv := rfl
@[simp] theorem State.emit_ap (s : State) (o : Outgoing) : (s.emit o).ap = s.ap := rfl
@[simp] theorem State.emit_vi (s : State) (o : Outgoing) : (s.emit o).vi = s.vi := rfl
@[simp] theorem State.emit_bi (s : State) (o : Outgoing) : (s.emit o).bi = s.bi := rfl
@[simp] theorem State.emit_tm (s : State) (o : Outgoing) : (s.emit o).tm = s.tm := rfl
@[simp] theorem State.emit_cat (s : State) (o : Outgoing) : (s.emit o).cat = s.cat := rfl
@[simp] theorem State.emit_ldg (s : State) (o : Outgoing) : (s.emit o).ldg = s.ldg := rfl
@[simp] theorem State.emit_host (s : State) (o : Outgoing) : (s.emit o).host = s.host := rfl
@[simp] theorem State.emit_cmd (s : State) (o : Outgoing) : (s.emit o).cmd = s.cmd := rfl
@[simp] theorem State.emit_cp (s : State) (o : Outgoing) : (s.emit o).cp = s.cp := rfl
@[simp] theorem State.emit_pw (s : State) (o : Outgoing) : (s.emit o).pw = s.pw := rfl
@[simp] theorem State.emit_cal (s : State) (o : Outgoing) : (s.emit o).cal = s.cal := rfl
@[simp] theorem State.emit_bt (s : State) (o : Outgoing) : (s.emit o).bt = s.bt := rfl
@[simp] theorem State.emit_eth (s : State) (o : Outgoing) : (s.emit o).eth = s.eth := rfl
@[simp] theorem State.emit_port (s : State) (o : Outgoing) : (s.emit o).port = s.port := rfl

/-! ### `setRing` -/

@[simp] theorem State.setRing_raw (s : State) (n : Nat) (r : Ring) : (s.setRing n r).raw = s.raw := rfl
@[simp] theorem State.setRing_wraps (s : State) (n : Nat) (r : Ring) : (s.setRing n r).wraps = s.wraps := rfl
@[simp] theorem State.setRing_phase (s : State) (n : Nat) (r : Ring) : (s.setRing n r).phase = s.phase := rfl
@[simp] theorem State.setRing_free (s : State) (n : Nat) (r : Ring) : (s.setRing n r).free = s.free := rfl
@[simp] theorem State.setRing_pending (s : State) (n : Nat) (r : Ring) : (s.setRing n r).pending = s.pending := rfl
@[simp] theorem State.setRing_sent (s : State) (n : Nat) (r : Ring) : (s.setRing n r).sent = s.sent := rfl
@[simp] theorem State.setRing_objs (s : State) (n : Nat) (r : Ring) : (s.setRing n r).objs = s.objs := rfl
@[simp] theorem State.setRing_live (s : State) (n : Nat) (r : Ring) : (s.setRing n r).live = s.live := rfl
@[simp] theorem State.setRing_undo (s : State) (n : Nat) (r : Ring) : (s.setRing n r).undo = s.undo := rfl
@[simp] theorem State.setRing_setNow (s : State) (n : Nat) (r : Ring) : (s.setRing n r).setNow = s.setNow := rfl
@[simp] theorem State.setRing_drv (s : State) (n : Nat) (r : Ring) : (s.setRing n r).drv = s.drv := rfl
@[simp] theorem State.setRing_arc (s : State) (n : Nat) (r : Ring) : (s.setRing n r).arc = s.arc := rfl
@[simp] theorem State.setRing_cur (s : State) (n : Nat) (r : Ring) : (s.setRing n r).cur = s.cur := rfl
@[simp] theorem State.setRing_rd (s : State) (n : Nat) (r : Ring) : (s.setRing n r).rd = s.rd := rfl
@[simp] theorem State.setRing_vd (s : State) (n : Nat) (r : Ring) : (s.setRing n r).vd = s.vd := rfl
@[simp] theorem State.setRing_sv (s : State) (n : Nat) (r : Ring) : (s.setRing n r).sv = s.sv := rfl
@[simp] theorem State.setRing_ap (s : State) (n : Nat) (r : Ring) : (s.setRing n r).ap = s.ap := rfl
@[simp] theorem State.setRing_vi (s : State) (n : Nat) (r : Ring) : (s.setRing n r).vi = s.vi := rfl
@[simp] theorem State.setRing_bi (s : State) (n : Nat) (r : Ring) : (s.setRing n r).bi = s.bi := rfl
@[simp] theorem State.setRing_tm (s : State) (n : Nat) (r : Ring) : (s.setRing n r).tm = s.tm := rfl
@[simp] theorem State.setRing_cat (s : State) (n : Nat) (r : Ring) : (s.setRing n r).cat = s.cat := rfl
@[simp] theorem State.setRing_ldg (s : State) (n : Nat) (r : Ring) : (s.setRing n r).ldg = s.ldg := rfl
@[simp] theorem State.setRing_cmd (s : State) (n : Nat) (r : Ring) : (s.setRing n r).cmd = s.cmd := rfl
@[simp] theorem State.setRing_cp (s : State) (n : Nat) (r : Ring) : (s.setRing n r).cp = s.cp := rfl
@[simp] theorem State.setRing_pw (s : State) (n : Nat) (r : Ring) : (s.setRing n r).pw = s.pw := rfl
@[simp] theorem State.setRing_cal (s : State) (n : Nat) (r : Ring) : (s.setRing n r).cal = s.cal := rfl
@[simp] theorem State.setRing_bt (s : State) (n : Nat) (r : Ring) : (s.setRing n r).bt = s.bt := rfl
@[simp] theorem State.setRing_eth (s : State) (n : Nat) (r : Ring) : (s.setRing n r).eth = s.eth := rfl
@[simp] theorem State.setRing_port (s : State) (n : Nat) (r : Ring) : (s.setRing n r).port = s.port := rfl

/-! ### `setMbox` -/

@[simp] theorem State.setMbox_raw (s : State) (m : Nat) (b : Mbox) : (s.setMbox m b).raw = s.raw := rfl
@[simp] theorem State.setMbox_wraps (s : State) (m : Nat) (b : Mbox) : (s.setMbox m b).wraps = s.wraps := rfl
@[simp] theorem State.setMbox_phase (s : State) (m : Nat) (b : Mbox) : (s.setMbox m b).phase = s.phase := rfl
@[simp] theorem State.setMbox_free (s : State) (m : Nat) (b : Mbox) : (s.setMbox m b).free = s.free := rfl
@[simp] theorem State.setMbox_pending (s : State) (m : Nat) (b : Mbox) : (s.setMbox m b).pending = s.pending := rfl
@[simp] theorem State.setMbox_sent (s : State) (m : Nat) (b : Mbox) : (s.setMbox m b).sent = s.sent := rfl
@[simp] theorem State.setMbox_objs (s : State) (m : Nat) (b : Mbox) : (s.setMbox m b).objs = s.objs := rfl
@[simp] theorem State.setMbox_live (s : State) (m : Nat) (b : Mbox) : (s.setMbox m b).live = s.live := rfl
@[simp] theorem State.setMbox_undo (s : State) (m : Nat) (b : Mbox) : (s.setMbox m b).undo = s.undo := rfl
@[simp] theorem State.setMbox_setNow (s : State) (m : Nat) (b : Mbox) : (s.setMbox m b).setNow = s.setNow := rfl
@[simp] theorem State.setMbox_drv (s : State) (m : Nat) (b : Mbox) : (s.setMbox m b).drv = s.drv := rfl
@[simp] theorem State.setMbox_arc (s : State) (m : Nat) (b : Mbox) : (s.setMbox m b).arc = s.arc := rfl
@[simp] theorem State.setMbox_cur (s : State) (m : Nat) (b : Mbox) : (s.setMbox m b).cur = s.cur := rfl
@[simp] theorem State.setMbox_rd (s : State) (m : Nat) (b : Mbox) : (s.setMbox m b).rd = s.rd := rfl
@[simp] theorem State.setMbox_vd (s : State) (m : Nat) (b : Mbox) : (s.setMbox m b).vd = s.vd := rfl
@[simp] theorem State.setMbox_sv (s : State) (m : Nat) (b : Mbox) : (s.setMbox m b).sv = s.sv := rfl
@[simp] theorem State.setMbox_ap (s : State) (m : Nat) (b : Mbox) : (s.setMbox m b).ap = s.ap := rfl
@[simp] theorem State.setMbox_vi (s : State) (m : Nat) (b : Mbox) : (s.setMbox m b).vi = s.vi := rfl
@[simp] theorem State.setMbox_bi (s : State) (m : Nat) (b : Mbox) : (s.setMbox m b).bi = s.bi := rfl
@[simp] theorem State.setMbox_tm (s : State) (m : Nat) (b : Mbox) : (s.setMbox m b).tm = s.tm := rfl
@[simp] theorem State.setMbox_cat (s : State) (m : Nat) (b : Mbox) : (s.setMbox m b).cat = s.cat := rfl
@[simp] theorem State.setMbox_ldg (s : State) (m : Nat) (b : Mbox) : (s.setMbox m b).ldg = s.ldg := rfl
@[simp] theorem State.setMbox_cmd (s : State) (m : Nat) (b : Mbox) : (s.setMbox m b).cmd = s.cmd := rfl
@[simp] theorem State.setMbox_cp (s : State) (m : Nat) (b : Mbox) : (s.setMbox m b).cp = s.cp := rfl
@[simp] theorem State.setMbox_pw (s : State) (m : Nat) (b : Mbox) : (s.setMbox m b).pw = s.pw := rfl
@[simp] theorem State.setMbox_cal (s : State) (m : Nat) (b : Mbox) : (s.setMbox m b).cal = s.cal := rfl
@[simp] theorem State.setMbox_bt (s : State) (m : Nat) (b : Mbox) : (s.setMbox m b).bt = s.bt := rfl
@[simp] theorem State.setMbox_eth (s : State) (m : Nat) (b : Mbox) : (s.setMbox m b).eth = s.eth := rfl
@[simp] theorem State.setMbox_port (s : State) (m : Nat) (b : Mbox) : (s.setMbox m b).port = s.port := rfl

/-! ### `setFn` -/

@[simp] theorem State.setFn_raw (s : State) (f : Fn) (r : FnRegs) : (s.setFn f r).raw = s.raw := by cases f <;> rfl
@[simp] theorem State.setFn_wraps (s : State) (f : Fn) (r : FnRegs) : (s.setFn f r).wraps = s.wraps := by cases f <;> rfl
@[simp] theorem State.setFn_phase (s : State) (f : Fn) (r : FnRegs) : (s.setFn f r).phase = s.phase := by cases f <;> rfl
@[simp] theorem State.setFn_free (s : State) (f : Fn) (r : FnRegs) : (s.setFn f r).free = s.free := by cases f <;> rfl
@[simp] theorem State.setFn_pending (s : State) (f : Fn) (r : FnRegs) : (s.setFn f r).pending = s.pending := by cases f <;> rfl
@[simp] theorem State.setFn_sent (s : State) (f : Fn) (r : FnRegs) : (s.setFn f r).sent = s.sent := by cases f <;> rfl
@[simp] theorem State.setFn_objs (s : State) (f : Fn) (r : FnRegs) : (s.setFn f r).objs = s.objs := by cases f <;> rfl
@[simp] theorem State.setFn_live (s : State) (f : Fn) (r : FnRegs) : (s.setFn f r).live = s.live := by cases f <;> rfl
@[simp] theorem State.setFn_undo (s : State) (f : Fn) (r : FnRegs) : (s.setFn f r).undo = s.undo := by cases f <;> rfl
@[simp] theorem State.setFn_setNow (s : State) (f : Fn) (r : FnRegs) : (s.setFn f r).setNow = s.setNow := by cases f <;> rfl
@[simp] theorem State.setFn_drv (s : State) (f : Fn) (r : FnRegs) : (s.setFn f r).drv = s.drv := by cases f <;> rfl
@[simp] theorem State.setFn_arc (s : State) (f : Fn) (r : FnRegs) : (s.setFn f r).arc = s.arc := by cases f <;> rfl
@[simp] theorem State.setFn_cur (s : State) (f : Fn) (r : FnRegs) : (s.setFn f r).cur = s.cur := by cases f <;> rfl
@[simp] theorem State.setFn_rd (s : State) (f : Fn) (r : FnRegs) : (s.setFn f r).rd = s.rd := by cases f <;> rfl
@[simp] theorem State.setFn_vd (s : State) (f : Fn) (r : FnRegs) : (s.setFn f r).vd = s.vd := by cases f <;> rfl
@[simp] theorem State.setFn_sv (s : State) (f : Fn) (r : FnRegs) : (s.setFn f r).sv = s.sv := by cases f <;> rfl
@[simp] theorem State.setFn_ap (s : State) (f : Fn) (r : FnRegs) : (s.setFn f r).ap = s.ap := by cases f <;> rfl
@[simp] theorem State.setFn_vi (s : State) (f : Fn) (r : FnRegs) : (s.setFn f r).vi = s.vi := by cases f <;> rfl
@[simp] theorem State.setFn_bi (s : State) (f : Fn) (r : FnRegs) : (s.setFn f r).bi = s.bi := by cases f <;> rfl
@[simp] theorem State.setFn_tm (s : State) (f : Fn) (r : FnRegs) : (s.setFn f r).tm = s.tm := by cases f <;> rfl
@[simp] theorem State.setFn_cat (s : State) (f : Fn) (r : FnRegs) : (s.setFn f r).cat = s.cat := by cases f <;> rfl
@[simp] theorem State.setFn_ldg (s : State) (f : Fn) (r : FnRegs) : (s.setFn f r).ldg = s.ldg := by cases f <;> rfl
@[simp] theorem State.setFn_cmd (s : State) (f : Fn) (r : FnRegs) : (s.setFn f r).cmd = s.cmd := by cases f <;> rfl
@[simp] theorem State.setFn_cp (s : State) (f : Fn) (r : FnRegs) : (s.setFn f r).cp = s.cp := by cases f <;> rfl
@[simp] theorem State.setFn_pw (s : State) (f : Fn) (r : FnRegs) : (s.setFn f r).pw = s.pw := by cases f <;> rfl
@[simp] theorem State.setFn_cal (s : State) (f : Fn) (r : FnRegs) : (s.setFn f r).cal = s.cal := by cases f <;> rfl
@[simp] theorem State.setFn_bt (s : State) (f : Fn) (r : FnRegs) : (s.setFn f r).bt = s.bt := by cases f <;> rfl
@[simp] theorem State.setFn_eth (s : State) (f : Fn) (r : FnRegs) : (s.setFn f r).eth = s.eth := by cases f <;> rfl
@[simp] theorem State.setFn_port (s : State) (f : Fn) (r : FnRegs) : (s.setFn f r).port = s.port := by cases f <;> rfl

/-! ### `openCmd` -/

@[simp] theorem State.openCmd_raw (s : State) (k : Nat) (i : Instr) (h : Hdr) (st : CmdState) : (s.openCmd k i h st).raw = s.raw := rfl
@[simp] theorem State.openCmd_wraps (s : State) (k : Nat) (i : Instr) (h : Hdr) (st : CmdState) : (s.openCmd k i h st).wraps = s.wraps := rfl
@[simp] theorem State.openCmd_phase (s : State) (k : Nat) (i : Instr) (h : Hdr) (st : CmdState) : (s.openCmd k i h st).phase = s.phase := rfl
@[simp] theorem State.openCmd_free (s : State) (k : Nat) (i : Instr) (h : Hdr) (st : CmdState) : (s.openCmd k i h st).free = s.free := rfl
@[simp] theorem State.openCmd_pending (s : State) (k : Nat) (i : Instr) (h : Hdr) (st : CmdState) : (s.openCmd k i h st).pending = s.pending := rfl
@[simp] theorem State.openCmd_sent (s : State) (k : Nat) (i : Instr) (h : Hdr) (st : CmdState) : (s.openCmd k i h st).sent = s.sent := rfl
@[simp] theorem State.openCmd_objs (s : State) (k : Nat) (i : Instr) (h : Hdr) (st : CmdState) : (s.openCmd k i h st).objs = s.objs := rfl
@[simp] theorem State.openCmd_live (s : State) (k : Nat) (i : Instr) (h : Hdr) (st : CmdState) : (s.openCmd k i h st).live = s.live := rfl
@[simp] theorem State.openCmd_undo (s : State) (k : Nat) (i : Instr) (h : Hdr) (st : CmdState) : (s.openCmd k i h st).undo = s.undo := rfl
@[simp] theorem State.openCmd_setNow (s : State) (k : Nat) (i : Instr) (h : Hdr) (st : CmdState) : (s.openCmd k i h st).setNow = s.setNow := rfl
@[simp] theorem State.openCmd_drv (s : State) (k : Nat) (i : Instr) (h : Hdr) (st : CmdState) : (s.openCmd k i h st).drv = s.drv := rfl
@[simp] theorem State.openCmd_arc (s : State) (k : Nat) (i : Instr) (h : Hdr) (st : CmdState) : (s.openCmd k i h st).arc = s.arc := rfl
@[simp] theorem State.openCmd_cur (s : State) (k : Nat) (i : Instr) (h : Hdr) (st : CmdState) : (s.openCmd k i h st).cur = s.cur := rfl
@[simp] theorem State.openCmd_rd (s : State) (k : Nat) (i : Instr) (h : Hdr) (st : CmdState) : (s.openCmd k i h st).rd = s.rd := rfl
@[simp] theorem State.openCmd_vd (s : State) (k : Nat) (i : Instr) (h : Hdr) (st : CmdState) : (s.openCmd k i h st).vd = s.vd := rfl
@[simp] theorem State.openCmd_sv (s : State) (k : Nat) (i : Instr) (h : Hdr) (st : CmdState) : (s.openCmd k i h st).sv = s.sv := rfl
@[simp] theorem State.openCmd_ap (s : State) (k : Nat) (i : Instr) (h : Hdr) (st : CmdState) : (s.openCmd k i h st).ap = s.ap := rfl
@[simp] theorem State.openCmd_vi (s : State) (k : Nat) (i : Instr) (h : Hdr) (st : CmdState) : (s.openCmd k i h st).vi = s.vi := rfl
@[simp] theorem State.openCmd_bi (s : State) (k : Nat) (i : Instr) (h : Hdr) (st : CmdState) : (s.openCmd k i h st).bi = s.bi := rfl
@[simp] theorem State.openCmd_tm (s : State) (k : Nat) (i : Instr) (h : Hdr) (st : CmdState) : (s.openCmd k i h st).tm = s.tm := rfl
@[simp] theorem State.openCmd_cat (s : State) (k : Nat) (i : Instr) (h : Hdr) (st : CmdState) : (s.openCmd k i h st).cat = s.cat := rfl
@[simp] theorem State.openCmd_ldg (s : State) (k : Nat) (i : Instr) (h : Hdr) (st : CmdState) : (s.openCmd k i h st).ldg = s.ldg := rfl
@[simp] theorem State.openCmd_host (s : State) (k : Nat) (i : Instr) (h : Hdr) (st : CmdState) : (s.openCmd k i h st).host = s.host := rfl
@[simp] theorem State.openCmd_cp (s : State) (k : Nat) (i : Instr) (h : Hdr) (st : CmdState) : (s.openCmd k i h st).cp = s.cp := rfl
@[simp] theorem State.openCmd_pw (s : State) (k : Nat) (i : Instr) (h : Hdr) (st : CmdState) : (s.openCmd k i h st).pw = s.pw := rfl
@[simp] theorem State.openCmd_cal (s : State) (k : Nat) (i : Instr) (h : Hdr) (st : CmdState) : (s.openCmd k i h st).cal = s.cal := rfl
@[simp] theorem State.openCmd_bt (s : State) (k : Nat) (i : Instr) (h : Hdr) (st : CmdState) : (s.openCmd k i h st).bt = s.bt := rfl
@[simp] theorem State.openCmd_eth (s : State) (k : Nat) (i : Instr) (h : Hdr) (st : CmdState) : (s.openCmd k i h st).eth = s.eth := rfl
@[simp] theorem State.openCmd_port (s : State) (k : Nat) (i : Instr) (h : Hdr) (st : CmdState) : (s.openCmd k i h st).port = s.port := rfl

/-! ### `restate` -/

@[simp] theorem State.restate_raw (s : State) (k : Nat) (st : CmdState) : (s.restate k st).raw = s.raw := rfl
@[simp] theorem State.restate_wraps (s : State) (k : Nat) (st : CmdState) : (s.restate k st).wraps = s.wraps := rfl
@[simp] theorem State.restate_phase (s : State) (k : Nat) (st : CmdState) : (s.restate k st).phase = s.phase := rfl
@[simp] theorem State.restate_free (s : State) (k : Nat) (st : CmdState) : (s.restate k st).free = s.free := rfl
@[simp] theorem State.restate_pending (s : State) (k : Nat) (st : CmdState) : (s.restate k st).pending = s.pending := rfl
@[simp] theorem State.restate_sent (s : State) (k : Nat) (st : CmdState) : (s.restate k st).sent = s.sent := rfl
@[simp] theorem State.restate_objs (s : State) (k : Nat) (st : CmdState) : (s.restate k st).objs = s.objs := rfl
@[simp] theorem State.restate_live (s : State) (k : Nat) (st : CmdState) : (s.restate k st).live = s.live := rfl
@[simp] theorem State.restate_undo (s : State) (k : Nat) (st : CmdState) : (s.restate k st).undo = s.undo := rfl
@[simp] theorem State.restate_setNow (s : State) (k : Nat) (st : CmdState) : (s.restate k st).setNow = s.setNow := rfl
@[simp] theorem State.restate_drv (s : State) (k : Nat) (st : CmdState) : (s.restate k st).drv = s.drv := rfl
@[simp] theorem State.restate_arc (s : State) (k : Nat) (st : CmdState) : (s.restate k st).arc = s.arc := rfl
@[simp] theorem State.restate_cur (s : State) (k : Nat) (st : CmdState) : (s.restate k st).cur = s.cur := rfl
@[simp] theorem State.restate_rd (s : State) (k : Nat) (st : CmdState) : (s.restate k st).rd = s.rd := rfl
@[simp] theorem State.restate_vd (s : State) (k : Nat) (st : CmdState) : (s.restate k st).vd = s.vd := rfl
@[simp] theorem State.restate_sv (s : State) (k : Nat) (st : CmdState) : (s.restate k st).sv = s.sv := rfl
@[simp] theorem State.restate_ap (s : State) (k : Nat) (st : CmdState) : (s.restate k st).ap = s.ap := rfl
@[simp] theorem State.restate_vi (s : State) (k : Nat) (st : CmdState) : (s.restate k st).vi = s.vi := rfl
@[simp] theorem State.restate_bi (s : State) (k : Nat) (st : CmdState) : (s.restate k st).bi = s.bi := rfl
@[simp] theorem State.restate_tm (s : State) (k : Nat) (st : CmdState) : (s.restate k st).tm = s.tm := rfl
@[simp] theorem State.restate_cat (s : State) (k : Nat) (st : CmdState) : (s.restate k st).cat = s.cat := rfl
@[simp] theorem State.restate_ldg (s : State) (k : Nat) (st : CmdState) : (s.restate k st).ldg = s.ldg := rfl
@[simp] theorem State.restate_host (s : State) (k : Nat) (st : CmdState) : (s.restate k st).host = s.host := rfl
@[simp] theorem State.restate_cp (s : State) (k : Nat) (st : CmdState) : (s.restate k st).cp = s.cp := rfl
@[simp] theorem State.restate_pw (s : State) (k : Nat) (st : CmdState) : (s.restate k st).pw = s.pw := rfl
@[simp] theorem State.restate_cal (s : State) (k : Nat) (st : CmdState) : (s.restate k st).cal = s.cal := rfl
@[simp] theorem State.restate_bt (s : State) (k : Nat) (st : CmdState) : (s.restate k st).bt = s.bt := rfl
@[simp] theorem State.restate_eth (s : State) (k : Nat) (st : CmdState) : (s.restate k st).eth = s.eth := rfl
@[simp] theorem State.restate_port (s : State) (k : Nat) (st : CmdState) : (s.restate k st).port = s.port := rfl

/-! ### `setCmd` -/

@[simp] theorem State.setCmd_raw (s : State) (k m r : Nat) : (s.setCmd k m r).raw = s.raw := rfl
@[simp] theorem State.setCmd_wraps (s : State) (k m r : Nat) : (s.setCmd k m r).wraps = s.wraps := rfl
@[simp] theorem State.setCmd_phase (s : State) (k m r : Nat) : (s.setCmd k m r).phase = s.phase := rfl
@[simp] theorem State.setCmd_free (s : State) (k m r : Nat) : (s.setCmd k m r).free = s.free := rfl
@[simp] theorem State.setCmd_pending (s : State) (k m r : Nat) : (s.setCmd k m r).pending = s.pending := rfl
@[simp] theorem State.setCmd_sent (s : State) (k m r : Nat) : (s.setCmd k m r).sent = s.sent := rfl
@[simp] theorem State.setCmd_objs (s : State) (k m r : Nat) : (s.setCmd k m r).objs = s.objs := rfl
@[simp] theorem State.setCmd_live (s : State) (k m r : Nat) : (s.setCmd k m r).live = s.live := rfl
@[simp] theorem State.setCmd_undo (s : State) (k m r : Nat) : (s.setCmd k m r).undo = s.undo := rfl
@[simp] theorem State.setCmd_setNow (s : State) (k m r : Nat) : (s.setCmd k m r).setNow = s.setNow := rfl
@[simp] theorem State.setCmd_drv (s : State) (k m r : Nat) : (s.setCmd k m r).drv = s.drv := rfl
@[simp] theorem State.setCmd_arc (s : State) (k m r : Nat) : (s.setCmd k m r).arc = s.arc := rfl
@[simp] theorem State.setCmd_cur (s : State) (k m r : Nat) : (s.setCmd k m r).cur = s.cur := rfl
@[simp] theorem State.setCmd_rd (s : State) (k m r : Nat) : (s.setCmd k m r).rd = s.rd := rfl
@[simp] theorem State.setCmd_vd (s : State) (k m r : Nat) : (s.setCmd k m r).vd = s.vd := rfl
@[simp] theorem State.setCmd_sv (s : State) (k m r : Nat) : (s.setCmd k m r).sv = s.sv := rfl
@[simp] theorem State.setCmd_ap (s : State) (k m r : Nat) : (s.setCmd k m r).ap = s.ap := rfl
@[simp] theorem State.setCmd_vi (s : State) (k m r : Nat) : (s.setCmd k m r).vi = s.vi := rfl
@[simp] theorem State.setCmd_bi (s : State) (k m r : Nat) : (s.setCmd k m r).bi = s.bi := rfl
@[simp] theorem State.setCmd_tm (s : State) (k m r : Nat) : (s.setCmd k m r).tm = s.tm := rfl
@[simp] theorem State.setCmd_cat (s : State) (k m r : Nat) : (s.setCmd k m r).cat = s.cat := rfl
@[simp] theorem State.setCmd_ldg (s : State) (k m r : Nat) : (s.setCmd k m r).ldg = s.ldg := rfl
@[simp] theorem State.setCmd_host (s : State) (k m r : Nat) : (s.setCmd k m r).host = s.host := rfl
@[simp] theorem State.setCmd_cp (s : State) (k m r : Nat) : (s.setCmd k m r).cp = s.cp := rfl
@[simp] theorem State.setCmd_pw (s : State) (k m r : Nat) : (s.setCmd k m r).pw = s.pw := rfl
@[simp] theorem State.setCmd_cal (s : State) (k m r : Nat) : (s.setCmd k m r).cal = s.cal := rfl
@[simp] theorem State.setCmd_bt (s : State) (k m r : Nat) : (s.setCmd k m r).bt = s.bt := rfl
@[simp] theorem State.setCmd_eth (s : State) (k m r : Nat) : (s.setCmd k m r).eth = s.eth := rfl
@[simp] theorem State.setCmd_port (s : State) (k m r : Nat) : (s.setCmd k m r).port = s.port := rfl

/-! ### `addCommit` -/

@[simp] theorem State.addCommit_raw (s : State) (c : Commit) : (s.addCommit c).raw = s.raw := rfl
@[simp] theorem State.addCommit_wraps (s : State) (c : Commit) : (s.addCommit c).wraps = s.wraps := rfl
@[simp] theorem State.addCommit_phase (s : State) (c : Commit) : (s.addCommit c).phase = s.phase := rfl
@[simp] theorem State.addCommit_free (s : State) (c : Commit) : (s.addCommit c).free = s.free := rfl
@[simp] theorem State.addCommit_pending (s : State) (c : Commit) : (s.addCommit c).pending = s.pending := rfl
@[simp] theorem State.addCommit_sent (s : State) (c : Commit) : (s.addCommit c).sent = s.sent := rfl
@[simp] theorem State.addCommit_objs (s : State) (c : Commit) : (s.addCommit c).objs = s.objs := rfl
@[simp] theorem State.addCommit_live (s : State) (c : Commit) : (s.addCommit c).live = s.live := rfl
@[simp] theorem State.addCommit_undo (s : State) (c : Commit) : (s.addCommit c).undo = s.undo := rfl
@[simp] theorem State.addCommit_setNow (s : State) (c : Commit) : (s.addCommit c).setNow = s.setNow := rfl
@[simp] theorem State.addCommit_drv (s : State) (c : Commit) : (s.addCommit c).drv = s.drv := rfl
@[simp] theorem State.addCommit_arc (s : State) (c : Commit) : (s.addCommit c).arc = s.arc := rfl
@[simp] theorem State.addCommit_cur (s : State) (c : Commit) : (s.addCommit c).cur = s.cur := rfl
@[simp] theorem State.addCommit_rd (s : State) (c : Commit) : (s.addCommit c).rd = s.rd := rfl
@[simp] theorem State.addCommit_vd (s : State) (c : Commit) : (s.addCommit c).vd = s.vd := rfl
@[simp] theorem State.addCommit_sv (s : State) (c : Commit) : (s.addCommit c).sv = s.sv := rfl
@[simp] theorem State.addCommit_ap (s : State) (c : Commit) : (s.addCommit c).ap = s.ap := rfl
@[simp] theorem State.addCommit_vi (s : State) (c : Commit) : (s.addCommit c).vi = s.vi := rfl
@[simp] theorem State.addCommit_bi (s : State) (c : Commit) : (s.addCommit c).bi = s.bi := rfl
@[simp] theorem State.addCommit_tm (s : State) (c : Commit) : (s.addCommit c).tm = s.tm := rfl
@[simp] theorem State.addCommit_cat (s : State) (c : Commit) : (s.addCommit c).cat = s.cat := rfl
@[simp] theorem State.addCommit_ldg (s : State) (c : Commit) : (s.addCommit c).ldg = s.ldg := rfl
@[simp] theorem State.addCommit_host (s : State) (c : Commit) : (s.addCommit c).host = s.host := rfl
@[simp] theorem State.addCommit_cp (s : State) (c : Commit) : (s.addCommit c).cp = s.cp := rfl
@[simp] theorem State.addCommit_pw (s : State) (c : Commit) : (s.addCommit c).pw = s.pw := rfl
@[simp] theorem State.addCommit_cal (s : State) (c : Commit) : (s.addCommit c).cal = s.cal := rfl
@[simp] theorem State.addCommit_bt (s : State) (c : Commit) : (s.addCommit c).bt = s.bt := rfl
@[simp] theorem State.addCommit_eth (s : State) (c : Commit) : (s.addCommit c).eth = s.eth := rfl
@[simp] theorem State.addCommit_port (s : State) (c : Commit) : (s.addCommit c).port = s.port := rfl

/-! ### `setCurRt` -/

@[simp] theorem State.setCurRt_raw (s : State) (c : Nat) (r : CurRt) : (s.setCurRt c r).raw = s.raw := rfl
@[simp] theorem State.setCurRt_wraps (s : State) (c : Nat) (r : CurRt) : (s.setCurRt c r).wraps = s.wraps := rfl
@[simp] theorem State.setCurRt_phase (s : State) (c : Nat) (r : CurRt) : (s.setCurRt c r).phase = s.phase := rfl
@[simp] theorem State.setCurRt_free (s : State) (c : Nat) (r : CurRt) : (s.setCurRt c r).free = s.free := rfl
@[simp] theorem State.setCurRt_pending (s : State) (c : Nat) (r : CurRt) : (s.setCurRt c r).pending = s.pending := rfl
@[simp] theorem State.setCurRt_sent (s : State) (c : Nat) (r : CurRt) : (s.setCurRt c r).sent = s.sent := rfl
@[simp] theorem State.setCurRt_objs (s : State) (c : Nat) (r : CurRt) : (s.setCurRt c r).objs = s.objs := rfl
@[simp] theorem State.setCurRt_live (s : State) (c : Nat) (r : CurRt) : (s.setCurRt c r).live = s.live := rfl
@[simp] theorem State.setCurRt_undo (s : State) (c : Nat) (r : CurRt) : (s.setCurRt c r).undo = s.undo := rfl
@[simp] theorem State.setCurRt_setNow (s : State) (c : Nat) (r : CurRt) : (s.setCurRt c r).setNow = s.setNow := rfl
@[simp] theorem State.setCurRt_drv (s : State) (c : Nat) (r : CurRt) : (s.setCurRt c r).drv = s.drv := rfl
@[simp] theorem State.setCurRt_arc (s : State) (c : Nat) (r : CurRt) : (s.setCurRt c r).arc = s.arc := rfl
@[simp] theorem State.setCurRt_rd (s : State) (c : Nat) (r : CurRt) : (s.setCurRt c r).rd = s.rd := rfl
@[simp] theorem State.setCurRt_vd (s : State) (c : Nat) (r : CurRt) : (s.setCurRt c r).vd = s.vd := rfl
@[simp] theorem State.setCurRt_sv (s : State) (c : Nat) (r : CurRt) : (s.setCurRt c r).sv = s.sv := rfl
@[simp] theorem State.setCurRt_ap (s : State) (c : Nat) (r : CurRt) : (s.setCurRt c r).ap = s.ap := rfl
@[simp] theorem State.setCurRt_vi (s : State) (c : Nat) (r : CurRt) : (s.setCurRt c r).vi = s.vi := rfl
@[simp] theorem State.setCurRt_bi (s : State) (c : Nat) (r : CurRt) : (s.setCurRt c r).bi = s.bi := rfl
@[simp] theorem State.setCurRt_tm (s : State) (c : Nat) (r : CurRt) : (s.setCurRt c r).tm = s.tm := rfl
@[simp] theorem State.setCurRt_cat (s : State) (c : Nat) (r : CurRt) : (s.setCurRt c r).cat = s.cat := rfl
@[simp] theorem State.setCurRt_ldg (s : State) (c : Nat) (r : CurRt) : (s.setCurRt c r).ldg = s.ldg := rfl
@[simp] theorem State.setCurRt_host (s : State) (c : Nat) (r : CurRt) : (s.setCurRt c r).host = s.host := rfl
@[simp] theorem State.setCurRt_cmd (s : State) (c : Nat) (r : CurRt) : (s.setCurRt c r).cmd = s.cmd := rfl
@[simp] theorem State.setCurRt_cp (s : State) (c : Nat) (r : CurRt) : (s.setCurRt c r).cp = s.cp := rfl
@[simp] theorem State.setCurRt_pw (s : State) (c : Nat) (r : CurRt) : (s.setCurRt c r).pw = s.pw := rfl
@[simp] theorem State.setCurRt_cal (s : State) (c : Nat) (r : CurRt) : (s.setCurRt c r).cal = s.cal := rfl
@[simp] theorem State.setCurRt_bt (s : State) (c : Nat) (r : CurRt) : (s.setCurRt c r).bt = s.bt := rfl
@[simp] theorem State.setCurRt_eth (s : State) (c : Nat) (r : CurRt) : (s.setCurRt c r).eth = s.eth := rfl
@[simp] theorem State.setCurRt_port (s : State) (c : Nat) (r : CurRt) : (s.setCurRt c r).port = s.port := rfl

/-! ### `setSvRun` -/

@[simp] theorem State.setSvRun_raw (s : State) (n : Nat) (r : SvRun) : (s.setSvRun n r).raw = s.raw := rfl
@[simp] theorem State.setSvRun_wraps (s : State) (n : Nat) (r : SvRun) : (s.setSvRun n r).wraps = s.wraps := rfl
@[simp] theorem State.setSvRun_phase (s : State) (n : Nat) (r : SvRun) : (s.setSvRun n r).phase = s.phase := rfl
@[simp] theorem State.setSvRun_free (s : State) (n : Nat) (r : SvRun) : (s.setSvRun n r).free = s.free := rfl
@[simp] theorem State.setSvRun_pending (s : State) (n : Nat) (r : SvRun) : (s.setSvRun n r).pending = s.pending := rfl
@[simp] theorem State.setSvRun_sent (s : State) (n : Nat) (r : SvRun) : (s.setSvRun n r).sent = s.sent := rfl
@[simp] theorem State.setSvRun_objs (s : State) (n : Nat) (r : SvRun) : (s.setSvRun n r).objs = s.objs := rfl
@[simp] theorem State.setSvRun_live (s : State) (n : Nat) (r : SvRun) : (s.setSvRun n r).live = s.live := rfl
@[simp] theorem State.setSvRun_undo (s : State) (n : Nat) (r : SvRun) : (s.setSvRun n r).undo = s.undo := rfl
@[simp] theorem State.setSvRun_setNow (s : State) (n : Nat) (r : SvRun) : (s.setSvRun n r).setNow = s.setNow := rfl
@[simp] theorem State.setSvRun_drv (s : State) (n : Nat) (r : SvRun) : (s.setSvRun n r).drv = s.drv := rfl
@[simp] theorem State.setSvRun_arc (s : State) (n : Nat) (r : SvRun) : (s.setSvRun n r).arc = s.arc := rfl
@[simp] theorem State.setSvRun_cur (s : State) (n : Nat) (r : SvRun) : (s.setSvRun n r).cur = s.cur := rfl
@[simp] theorem State.setSvRun_rd (s : State) (n : Nat) (r : SvRun) : (s.setSvRun n r).rd = s.rd := rfl
@[simp] theorem State.setSvRun_vd (s : State) (n : Nat) (r : SvRun) : (s.setSvRun n r).vd = s.vd := rfl
@[simp] theorem State.setSvRun_ap (s : State) (n : Nat) (r : SvRun) : (s.setSvRun n r).ap = s.ap := rfl
@[simp] theorem State.setSvRun_vi (s : State) (n : Nat) (r : SvRun) : (s.setSvRun n r).vi = s.vi := rfl
@[simp] theorem State.setSvRun_bi (s : State) (n : Nat) (r : SvRun) : (s.setSvRun n r).bi = s.bi := rfl
@[simp] theorem State.setSvRun_tm (s : State) (n : Nat) (r : SvRun) : (s.setSvRun n r).tm = s.tm := rfl
@[simp] theorem State.setSvRun_cat (s : State) (n : Nat) (r : SvRun) : (s.setSvRun n r).cat = s.cat := rfl
@[simp] theorem State.setSvRun_ldg (s : State) (n : Nat) (r : SvRun) : (s.setSvRun n r).ldg = s.ldg := rfl
@[simp] theorem State.setSvRun_host (s : State) (n : Nat) (r : SvRun) : (s.setSvRun n r).host = s.host := rfl
@[simp] theorem State.setSvRun_cmd (s : State) (n : Nat) (r : SvRun) : (s.setSvRun n r).cmd = s.cmd := rfl
@[simp] theorem State.setSvRun_cp (s : State) (n : Nat) (r : SvRun) : (s.setSvRun n r).cp = s.cp := rfl
@[simp] theorem State.setSvRun_pw (s : State) (n : Nat) (r : SvRun) : (s.setSvRun n r).pw = s.pw := rfl
@[simp] theorem State.setSvRun_cal (s : State) (n : Nat) (r : SvRun) : (s.setSvRun n r).cal = s.cal := rfl
@[simp] theorem State.setSvRun_bt (s : State) (n : Nat) (r : SvRun) : (s.setSvRun n r).bt = s.bt := rfl
@[simp] theorem State.setSvRun_eth (s : State) (n : Nat) (r : SvRun) : (s.setSvRun n r).eth = s.eth := rfl
@[simp] theorem State.setSvRun_port (s : State) (n : Nat) (r : SvRun) : (s.setSvRun n r).port = s.port := rfl

/-! ### `setApRun` -/

@[simp] theorem State.setApRun_raw (s : State) (n : Nat) (r : ApRun) : (s.setApRun n r).raw = s.raw := rfl
@[simp] theorem State.setApRun_wraps (s : State) (n : Nat) (r : ApRun) : (s.setApRun n r).wraps = s.wraps := rfl
@[simp] theorem State.setApRun_phase (s : State) (n : Nat) (r : ApRun) : (s.setApRun n r).phase = s.phase := rfl
@[simp] theorem State.setApRun_free (s : State) (n : Nat) (r : ApRun) : (s.setApRun n r).free = s.free := rfl
@[simp] theorem State.setApRun_pending (s : State) (n : Nat) (r : ApRun) : (s.setApRun n r).pending = s.pending := rfl
@[simp] theorem State.setApRun_sent (s : State) (n : Nat) (r : ApRun) : (s.setApRun n r).sent = s.sent := rfl
@[simp] theorem State.setApRun_objs (s : State) (n : Nat) (r : ApRun) : (s.setApRun n r).objs = s.objs := rfl
@[simp] theorem State.setApRun_live (s : State) (n : Nat) (r : ApRun) : (s.setApRun n r).live = s.live := rfl
@[simp] theorem State.setApRun_undo (s : State) (n : Nat) (r : ApRun) : (s.setApRun n r).undo = s.undo := rfl
@[simp] theorem State.setApRun_setNow (s : State) (n : Nat) (r : ApRun) : (s.setApRun n r).setNow = s.setNow := rfl
@[simp] theorem State.setApRun_drv (s : State) (n : Nat) (r : ApRun) : (s.setApRun n r).drv = s.drv := rfl
@[simp] theorem State.setApRun_arc (s : State) (n : Nat) (r : ApRun) : (s.setApRun n r).arc = s.arc := rfl
@[simp] theorem State.setApRun_cur (s : State) (n : Nat) (r : ApRun) : (s.setApRun n r).cur = s.cur := rfl
@[simp] theorem State.setApRun_rd (s : State) (n : Nat) (r : ApRun) : (s.setApRun n r).rd = s.rd := rfl
@[simp] theorem State.setApRun_vd (s : State) (n : Nat) (r : ApRun) : (s.setApRun n r).vd = s.vd := rfl
@[simp] theorem State.setApRun_sv (s : State) (n : Nat) (r : ApRun) : (s.setApRun n r).sv = s.sv := rfl
@[simp] theorem State.setApRun_vi (s : State) (n : Nat) (r : ApRun) : (s.setApRun n r).vi = s.vi := rfl
@[simp] theorem State.setApRun_bi (s : State) (n : Nat) (r : ApRun) : (s.setApRun n r).bi = s.bi := rfl
@[simp] theorem State.setApRun_tm (s : State) (n : Nat) (r : ApRun) : (s.setApRun n r).tm = s.tm := rfl
@[simp] theorem State.setApRun_cat (s : State) (n : Nat) (r : ApRun) : (s.setApRun n r).cat = s.cat := rfl
@[simp] theorem State.setApRun_ldg (s : State) (n : Nat) (r : ApRun) : (s.setApRun n r).ldg = s.ldg := rfl
@[simp] theorem State.setApRun_host (s : State) (n : Nat) (r : ApRun) : (s.setApRun n r).host = s.host := rfl
@[simp] theorem State.setApRun_cmd (s : State) (n : Nat) (r : ApRun) : (s.setApRun n r).cmd = s.cmd := rfl
@[simp] theorem State.setApRun_cp (s : State) (n : Nat) (r : ApRun) : (s.setApRun n r).cp = s.cp := rfl
@[simp] theorem State.setApRun_pw (s : State) (n : Nat) (r : ApRun) : (s.setApRun n r).pw = s.pw := rfl
@[simp] theorem State.setApRun_cal (s : State) (n : Nat) (r : ApRun) : (s.setApRun n r).cal = s.cal := rfl
@[simp] theorem State.setApRun_bt (s : State) (n : Nat) (r : ApRun) : (s.setApRun n r).bt = s.bt := rfl
@[simp] theorem State.setApRun_eth (s : State) (n : Nat) (r : ApRun) : (s.setApRun n r).eth = s.eth := rfl
@[simp] theorem State.setApRun_port (s : State) (n : Nat) (r : ApRun) : (s.setApRun n r).port = s.port := rfl

/-! ### `setViRun` -/

@[simp] theorem State.setViRun_raw (s : State) (v : Nat) (r : ViRun) : (s.setViRun v r).raw = s.raw := rfl
@[simp] theorem State.setViRun_wraps (s : State) (v : Nat) (r : ViRun) : (s.setViRun v r).wraps = s.wraps := rfl
@[simp] theorem State.setViRun_phase (s : State) (v : Nat) (r : ViRun) : (s.setViRun v r).phase = s.phase := rfl
@[simp] theorem State.setViRun_free (s : State) (v : Nat) (r : ViRun) : (s.setViRun v r).free = s.free := rfl
@[simp] theorem State.setViRun_pending (s : State) (v : Nat) (r : ViRun) : (s.setViRun v r).pending = s.pending := rfl
@[simp] theorem State.setViRun_sent (s : State) (v : Nat) (r : ViRun) : (s.setViRun v r).sent = s.sent := rfl
@[simp] theorem State.setViRun_objs (s : State) (v : Nat) (r : ViRun) : (s.setViRun v r).objs = s.objs := rfl
@[simp] theorem State.setViRun_live (s : State) (v : Nat) (r : ViRun) : (s.setViRun v r).live = s.live := rfl
@[simp] theorem State.setViRun_undo (s : State) (v : Nat) (r : ViRun) : (s.setViRun v r).undo = s.undo := rfl
@[simp] theorem State.setViRun_setNow (s : State) (v : Nat) (r : ViRun) : (s.setViRun v r).setNow = s.setNow := rfl
@[simp] theorem State.setViRun_drv (s : State) (v : Nat) (r : ViRun) : (s.setViRun v r).drv = s.drv := rfl
@[simp] theorem State.setViRun_arc (s : State) (v : Nat) (r : ViRun) : (s.setViRun v r).arc = s.arc := rfl
@[simp] theorem State.setViRun_cur (s : State) (v : Nat) (r : ViRun) : (s.setViRun v r).cur = s.cur := rfl
@[simp] theorem State.setViRun_rd (s : State) (v : Nat) (r : ViRun) : (s.setViRun v r).rd = s.rd := rfl
@[simp] theorem State.setViRun_vd (s : State) (v : Nat) (r : ViRun) : (s.setViRun v r).vd = s.vd := rfl
@[simp] theorem State.setViRun_sv (s : State) (v : Nat) (r : ViRun) : (s.setViRun v r).sv = s.sv := rfl
@[simp] theorem State.setViRun_ap (s : State) (v : Nat) (r : ViRun) : (s.setViRun v r).ap = s.ap := rfl
@[simp] theorem State.setViRun_bi (s : State) (v : Nat) (r : ViRun) : (s.setViRun v r).bi = s.bi := rfl
@[simp] theorem State.setViRun_tm (s : State) (v : Nat) (r : ViRun) : (s.setViRun v r).tm = s.tm := rfl
@[simp] theorem State.setViRun_cat (s : State) (v : Nat) (r : ViRun) : (s.setViRun v r).cat = s.cat := rfl
@[simp] theorem State.setViRun_ldg (s : State) (v : Nat) (r : ViRun) : (s.setViRun v r).ldg = s.ldg := rfl
@[simp] theorem State.setViRun_host (s : State) (v : Nat) (r : ViRun) : (s.setViRun v r).host = s.host := rfl
@[simp] theorem State.setViRun_cmd (s : State) (v : Nat) (r : ViRun) : (s.setViRun v r).cmd = s.cmd := rfl
@[simp] theorem State.setViRun_cp (s : State) (v : Nat) (r : ViRun) : (s.setViRun v r).cp = s.cp := rfl
@[simp] theorem State.setViRun_pw (s : State) (v : Nat) (r : ViRun) : (s.setViRun v r).pw = s.pw := rfl
@[simp] theorem State.setViRun_cal (s : State) (v : Nat) (r : ViRun) : (s.setViRun v r).cal = s.cal := rfl
@[simp] theorem State.setViRun_bt (s : State) (v : Nat) (r : ViRun) : (s.setViRun v r).bt = s.bt := rfl
@[simp] theorem State.setViRun_eth (s : State) (v : Nat) (r : ViRun) : (s.setViRun v r).eth = s.eth := rfl
@[simp] theorem State.setViRun_port (s : State) (v : Nat) (r : ViRun) : (s.setViRun v r).port = s.port := rfl

/-! ### `setLut` -/

@[simp] theorem State.setLut_raw (s : State) (j : Nat) (r : LutRt) : (s.setLut j r).raw = s.raw := rfl
@[simp] theorem State.setLut_wraps (s : State) (j : Nat) (r : LutRt) : (s.setLut j r).wraps = s.wraps := rfl
@[simp] theorem State.setLut_phase (s : State) (j : Nat) (r : LutRt) : (s.setLut j r).phase = s.phase := rfl
@[simp] theorem State.setLut_free (s : State) (j : Nat) (r : LutRt) : (s.setLut j r).free = s.free := rfl
@[simp] theorem State.setLut_pending (s : State) (j : Nat) (r : LutRt) : (s.setLut j r).pending = s.pending := rfl
@[simp] theorem State.setLut_sent (s : State) (j : Nat) (r : LutRt) : (s.setLut j r).sent = s.sent := rfl
@[simp] theorem State.setLut_objs (s : State) (j : Nat) (r : LutRt) : (s.setLut j r).objs = s.objs := rfl
@[simp] theorem State.setLut_live (s : State) (j : Nat) (r : LutRt) : (s.setLut j r).live = s.live := rfl
@[simp] theorem State.setLut_undo (s : State) (j : Nat) (r : LutRt) : (s.setLut j r).undo = s.undo := rfl
@[simp] theorem State.setLut_setNow (s : State) (j : Nat) (r : LutRt) : (s.setLut j r).setNow = s.setNow := rfl
@[simp] theorem State.setLut_drv (s : State) (j : Nat) (r : LutRt) : (s.setLut j r).drv = s.drv := rfl
@[simp] theorem State.setLut_arc (s : State) (j : Nat) (r : LutRt) : (s.setLut j r).arc = s.arc := rfl
@[simp] theorem State.setLut_cur (s : State) (j : Nat) (r : LutRt) : (s.setLut j r).cur = s.cur := rfl
@[simp] theorem State.setLut_rd (s : State) (j : Nat) (r : LutRt) : (s.setLut j r).rd = s.rd := rfl
@[simp] theorem State.setLut_vd (s : State) (j : Nat) (r : LutRt) : (s.setLut j r).vd = s.vd := rfl
@[simp] theorem State.setLut_sv (s : State) (j : Nat) (r : LutRt) : (s.setLut j r).sv = s.sv := rfl
@[simp] theorem State.setLut_ap (s : State) (j : Nat) (r : LutRt) : (s.setLut j r).ap = s.ap := rfl
@[simp] theorem State.setLut_vi (s : State) (j : Nat) (r : LutRt) : (s.setLut j r).vi = s.vi := rfl
@[simp] theorem State.setLut_bi (s : State) (j : Nat) (r : LutRt) : (s.setLut j r).bi = s.bi := rfl
@[simp] theorem State.setLut_tm (s : State) (j : Nat) (r : LutRt) : (s.setLut j r).tm = s.tm := rfl
@[simp] theorem State.setLut_ldg (s : State) (j : Nat) (r : LutRt) : (s.setLut j r).ldg = s.ldg := rfl
@[simp] theorem State.setLut_host (s : State) (j : Nat) (r : LutRt) : (s.setLut j r).host = s.host := rfl
@[simp] theorem State.setLut_cmd (s : State) (j : Nat) (r : LutRt) : (s.setLut j r).cmd = s.cmd := rfl
@[simp] theorem State.setLut_cp (s : State) (j : Nat) (r : LutRt) : (s.setLut j r).cp = s.cp := rfl
@[simp] theorem State.setLut_pw (s : State) (j : Nat) (r : LutRt) : (s.setLut j r).pw = s.pw := rfl
@[simp] theorem State.setLut_cal (s : State) (j : Nat) (r : LutRt) : (s.setLut j r).cal = s.cal := rfl
@[simp] theorem State.setLut_bt (s : State) (j : Nat) (r : LutRt) : (s.setLut j r).bt = s.bt := rfl
@[simp] theorem State.setLut_eth (s : State) (j : Nat) (r : LutRt) : (s.setLut j r).eth = s.eth := rfl
@[simp] theorem State.setLut_port (s : State) (j : Nat) (r : LutRt) : (s.setLut j r).port = s.port := rfl

/-! ### `setCpRt` -/

@[simp] theorem State.setCpRt_raw (s : State) (p : Nat) (r : CpRt) : (s.setCpRt p r).raw = s.raw := rfl
@[simp] theorem State.setCpRt_wraps (s : State) (p : Nat) (r : CpRt) : (s.setCpRt p r).wraps = s.wraps := rfl
@[simp] theorem State.setCpRt_phase (s : State) (p : Nat) (r : CpRt) : (s.setCpRt p r).phase = s.phase := rfl
@[simp] theorem State.setCpRt_free (s : State) (p : Nat) (r : CpRt) : (s.setCpRt p r).free = s.free := rfl
@[simp] theorem State.setCpRt_pending (s : State) (p : Nat) (r : CpRt) : (s.setCpRt p r).pending = s.pending := rfl
@[simp] theorem State.setCpRt_sent (s : State) (p : Nat) (r : CpRt) : (s.setCpRt p r).sent = s.sent := rfl
@[simp] theorem State.setCpRt_objs (s : State) (p : Nat) (r : CpRt) : (s.setCpRt p r).objs = s.objs := rfl
@[simp] theorem State.setCpRt_live (s : State) (p : Nat) (r : CpRt) : (s.setCpRt p r).live = s.live := rfl
@[simp] theorem State.setCpRt_undo (s : State) (p : Nat) (r : CpRt) : (s.setCpRt p r).undo = s.undo := rfl
@[simp] theorem State.setCpRt_setNow (s : State) (p : Nat) (r : CpRt) : (s.setCpRt p r).setNow = s.setNow := rfl
@[simp] theorem State.setCpRt_drv (s : State) (p : Nat) (r : CpRt) : (s.setCpRt p r).drv = s.drv := rfl
@[simp] theorem State.setCpRt_arc (s : State) (p : Nat) (r : CpRt) : (s.setCpRt p r).arc = s.arc := rfl
@[simp] theorem State.setCpRt_cur (s : State) (p : Nat) (r : CpRt) : (s.setCpRt p r).cur = s.cur := rfl
@[simp] theorem State.setCpRt_rd (s : State) (p : Nat) (r : CpRt) : (s.setCpRt p r).rd = s.rd := rfl
@[simp] theorem State.setCpRt_vd (s : State) (p : Nat) (r : CpRt) : (s.setCpRt p r).vd = s.vd := rfl
@[simp] theorem State.setCpRt_sv (s : State) (p : Nat) (r : CpRt) : (s.setCpRt p r).sv = s.sv := rfl
@[simp] theorem State.setCpRt_ap (s : State) (p : Nat) (r : CpRt) : (s.setCpRt p r).ap = s.ap := rfl
@[simp] theorem State.setCpRt_vi (s : State) (p : Nat) (r : CpRt) : (s.setCpRt p r).vi = s.vi := rfl
@[simp] theorem State.setCpRt_bi (s : State) (p : Nat) (r : CpRt) : (s.setCpRt p r).bi = s.bi := rfl
@[simp] theorem State.setCpRt_tm (s : State) (p : Nat) (r : CpRt) : (s.setCpRt p r).tm = s.tm := rfl
@[simp] theorem State.setCpRt_cat (s : State) (p : Nat) (r : CpRt) : (s.setCpRt p r).cat = s.cat := rfl
@[simp] theorem State.setCpRt_ldg (s : State) (p : Nat) (r : CpRt) : (s.setCpRt p r).ldg = s.ldg := rfl
@[simp] theorem State.setCpRt_host (s : State) (p : Nat) (r : CpRt) : (s.setCpRt p r).host = s.host := rfl
@[simp] theorem State.setCpRt_cmd (s : State) (p : Nat) (r : CpRt) : (s.setCpRt p r).cmd = s.cmd := rfl
@[simp] theorem State.setCpRt_pw (s : State) (p : Nat) (r : CpRt) : (s.setCpRt p r).pw = s.pw := rfl
@[simp] theorem State.setCpRt_cal (s : State) (p : Nat) (r : CpRt) : (s.setCpRt p r).cal = s.cal := rfl
@[simp] theorem State.setCpRt_bt (s : State) (p : Nat) (r : CpRt) : (s.setCpRt p r).bt = s.bt := rfl
@[simp] theorem State.setCpRt_eth (s : State) (p : Nat) (r : CpRt) : (s.setCpRt p r).eth = s.eth := rfl
@[simp] theorem State.setCpRt_port (s : State) (p : Nat) (r : CpRt) : (s.setCpRt p r).port = s.port := rfl

/-! ### `setCfg` -/

@[simp] theorem State.setCfg_raw (s : State) (f : Fn) (c : CfgSpace) : (s.setCfg f c).raw = s.raw := by cases f <;> rfl
@[simp] theorem State.setCfg_wraps (s : State) (f : Fn) (c : CfgSpace) : (s.setCfg f c).wraps = s.wraps := by cases f <;> rfl
@[simp] theorem State.setCfg_phase (s : State) (f : Fn) (c : CfgSpace) : (s.setCfg f c).phase = s.phase := by cases f <;> rfl
@[simp] theorem State.setCfg_free (s : State) (f : Fn) (c : CfgSpace) : (s.setCfg f c).free = s.free := by cases f <;> rfl
@[simp] theorem State.setCfg_pending (s : State) (f : Fn) (c : CfgSpace) : (s.setCfg f c).pending = s.pending := by cases f <;> rfl
@[simp] theorem State.setCfg_sent (s : State) (f : Fn) (c : CfgSpace) : (s.setCfg f c).sent = s.sent := by cases f <;> rfl
@[simp] theorem State.setCfg_objs (s : State) (f : Fn) (c : CfgSpace) : (s.setCfg f c).objs = s.objs := by cases f <;> rfl
@[simp] theorem State.setCfg_live (s : State) (f : Fn) (c : CfgSpace) : (s.setCfg f c).live = s.live := by cases f <;> rfl
@[simp] theorem State.setCfg_undo (s : State) (f : Fn) (c : CfgSpace) : (s.setCfg f c).undo = s.undo := by cases f <;> rfl
@[simp] theorem State.setCfg_setNow (s : State) (f : Fn) (c : CfgSpace) : (s.setCfg f c).setNow = s.setNow := by cases f <;> rfl
@[simp] theorem State.setCfg_drv (s : State) (f : Fn) (c : CfgSpace) : (s.setCfg f c).drv = s.drv := by cases f <;> rfl
@[simp] theorem State.setCfg_arc (s : State) (f : Fn) (c : CfgSpace) : (s.setCfg f c).arc = s.arc := by cases f <;> rfl
@[simp] theorem State.setCfg_cur (s : State) (f : Fn) (c : CfgSpace) : (s.setCfg f c).cur = s.cur := by cases f <;> rfl
@[simp] theorem State.setCfg_rd (s : State) (f : Fn) (c : CfgSpace) : (s.setCfg f c).rd = s.rd := by cases f <;> rfl
@[simp] theorem State.setCfg_vd (s : State) (f : Fn) (c : CfgSpace) : (s.setCfg f c).vd = s.vd := by cases f <;> rfl
@[simp] theorem State.setCfg_sv (s : State) (f : Fn) (c : CfgSpace) : (s.setCfg f c).sv = s.sv := by cases f <;> rfl
@[simp] theorem State.setCfg_ap (s : State) (f : Fn) (c : CfgSpace) : (s.setCfg f c).ap = s.ap := by cases f <;> rfl
@[simp] theorem State.setCfg_vi (s : State) (f : Fn) (c : CfgSpace) : (s.setCfg f c).vi = s.vi := by cases f <;> rfl
@[simp] theorem State.setCfg_bi (s : State) (f : Fn) (c : CfgSpace) : (s.setCfg f c).bi = s.bi := by cases f <;> rfl
@[simp] theorem State.setCfg_tm (s : State) (f : Fn) (c : CfgSpace) : (s.setCfg f c).tm = s.tm := by cases f <;> rfl
@[simp] theorem State.setCfg_cat (s : State) (f : Fn) (c : CfgSpace) : (s.setCfg f c).cat = s.cat := by cases f <;> rfl
@[simp] theorem State.setCfg_ldg (s : State) (f : Fn) (c : CfgSpace) : (s.setCfg f c).ldg = s.ldg := by cases f <;> rfl
@[simp] theorem State.setCfg_host (s : State) (f : Fn) (c : CfgSpace) : (s.setCfg f c).host = s.host := by cases f <;> rfl
@[simp] theorem State.setCfg_cmd (s : State) (f : Fn) (c : CfgSpace) : (s.setCfg f c).cmd = s.cmd := by cases f <;> rfl
@[simp] theorem State.setCfg_cp (s : State) (f : Fn) (c : CfgSpace) : (s.setCfg f c).cp = s.cp := by cases f <;> rfl
@[simp] theorem State.setCfg_pw (s : State) (f : Fn) (c : CfgSpace) : (s.setCfg f c).pw = s.pw := by cases f <;> rfl
@[simp] theorem State.setCfg_cal (s : State) (f : Fn) (c : CfgSpace) : (s.setCfg f c).cal = s.cal := by cases f <;> rfl
@[simp] theorem State.setCfg_bt (s : State) (f : Fn) (c : CfgSpace) : (s.setCfg f c).bt = s.bt := by cases f <;> rfl
@[simp] theorem State.setCfg_eth (s : State) (f : Fn) (c : CfgSpace) : (s.setCfg f c).eth = s.eth := by cases f <;> rfl

/-! ### `setJtag` -/

@[simp] theorem State.setJtag_raw (s : State) (j : JtagRt) : (s.setJtag j).raw = s.raw := rfl
@[simp] theorem State.setJtag_wraps (s : State) (j : JtagRt) : (s.setJtag j).wraps = s.wraps := rfl
@[simp] theorem State.setJtag_phase (s : State) (j : JtagRt) : (s.setJtag j).phase = s.phase := rfl
@[simp] theorem State.setJtag_free (s : State) (j : JtagRt) : (s.setJtag j).free = s.free := rfl
@[simp] theorem State.setJtag_pending (s : State) (j : JtagRt) : (s.setJtag j).pending = s.pending := rfl
@[simp] theorem State.setJtag_sent (s : State) (j : JtagRt) : (s.setJtag j).sent = s.sent := rfl
@[simp] theorem State.setJtag_objs (s : State) (j : JtagRt) : (s.setJtag j).objs = s.objs := rfl
@[simp] theorem State.setJtag_live (s : State) (j : JtagRt) : (s.setJtag j).live = s.live := rfl
@[simp] theorem State.setJtag_undo (s : State) (j : JtagRt) : (s.setJtag j).undo = s.undo := rfl
@[simp] theorem State.setJtag_setNow (s : State) (j : JtagRt) : (s.setJtag j).setNow = s.setNow := rfl
@[simp] theorem State.setJtag_drv (s : State) (j : JtagRt) : (s.setJtag j).drv = s.drv := rfl
@[simp] theorem State.setJtag_arc (s : State) (j : JtagRt) : (s.setJtag j).arc = s.arc := rfl
@[simp] theorem State.setJtag_cur (s : State) (j : JtagRt) : (s.setJtag j).cur = s.cur := rfl
@[simp] theorem State.setJtag_rd (s : State) (j : JtagRt) : (s.setJtag j).rd = s.rd := rfl
@[simp] theorem State.setJtag_vd (s : State) (j : JtagRt) : (s.setJtag j).vd = s.vd := rfl
@[simp] theorem State.setJtag_sv (s : State) (j : JtagRt) : (s.setJtag j).sv = s.sv := rfl
@[simp] theorem State.setJtag_ap (s : State) (j : JtagRt) : (s.setJtag j).ap = s.ap := rfl
@[simp] theorem State.setJtag_vi (s : State) (j : JtagRt) : (s.setJtag j).vi = s.vi := rfl
@[simp] theorem State.setJtag_bi (s : State) (j : JtagRt) : (s.setJtag j).bi = s.bi := rfl
@[simp] theorem State.setJtag_tm (s : State) (j : JtagRt) : (s.setJtag j).tm = s.tm := rfl
@[simp] theorem State.setJtag_cat (s : State) (j : JtagRt) : (s.setJtag j).cat = s.cat := rfl
@[simp] theorem State.setJtag_ldg (s : State) (j : JtagRt) : (s.setJtag j).ldg = s.ldg := rfl
@[simp] theorem State.setJtag_host (s : State) (j : JtagRt) : (s.setJtag j).host = s.host := rfl
@[simp] theorem State.setJtag_cmd (s : State) (j : JtagRt) : (s.setJtag j).cmd = s.cmd := rfl
@[simp] theorem State.setJtag_cp (s : State) (j : JtagRt) : (s.setJtag j).cp = s.cp := rfl
@[simp] theorem State.setJtag_pw (s : State) (j : JtagRt) : (s.setJtag j).pw = s.pw := rfl
@[simp] theorem State.setJtag_cal (s : State) (j : JtagRt) : (s.setJtag j).cal = s.cal := rfl
@[simp] theorem State.setJtag_bt (s : State) (j : JtagRt) : (s.setJtag j).bt = s.bt := rfl
@[simp] theorem State.setJtag_eth (s : State) (j : JtagRt) : (s.setJtag j).eth = s.eth := rfl

/-! ### `askReset` -/

@[simp] theorem State.askReset_raw (s : State) (r : ResetAsk) : (s.askReset r).raw = s.raw := rfl
@[simp] theorem State.askReset_wraps (s : State) (r : ResetAsk) : (s.askReset r).wraps = s.wraps := rfl
@[simp] theorem State.askReset_phase (s : State) (r : ResetAsk) : (s.askReset r).phase = s.phase := rfl
@[simp] theorem State.askReset_free (s : State) (r : ResetAsk) : (s.askReset r).free = s.free := rfl
@[simp] theorem State.askReset_pending (s : State) (r : ResetAsk) : (s.askReset r).pending = s.pending := rfl
@[simp] theorem State.askReset_sent (s : State) (r : ResetAsk) : (s.askReset r).sent = s.sent := rfl
@[simp] theorem State.askReset_objs (s : State) (r : ResetAsk) : (s.askReset r).objs = s.objs := rfl
@[simp] theorem State.askReset_live (s : State) (r : ResetAsk) : (s.askReset r).live = s.live := rfl
@[simp] theorem State.askReset_undo (s : State) (r : ResetAsk) : (s.askReset r).undo = s.undo := rfl
@[simp] theorem State.askReset_setNow (s : State) (r : ResetAsk) : (s.askReset r).setNow = s.setNow := rfl
@[simp] theorem State.askReset_drv (s : State) (r : ResetAsk) : (s.askReset r).drv = s.drv := rfl
@[simp] theorem State.askReset_arc (s : State) (r : ResetAsk) : (s.askReset r).arc = s.arc := rfl
@[simp] theorem State.askReset_cur (s : State) (r : ResetAsk) : (s.askReset r).cur = s.cur := rfl
@[simp] theorem State.askReset_rd (s : State) (r : ResetAsk) : (s.askReset r).rd = s.rd := rfl
@[simp] theorem State.askReset_vd (s : State) (r : ResetAsk) : (s.askReset r).vd = s.vd := rfl
@[simp] theorem State.askReset_sv (s : State) (r : ResetAsk) : (s.askReset r).sv = s.sv := rfl
@[simp] theorem State.askReset_ap (s : State) (r : ResetAsk) : (s.askReset r).ap = s.ap := rfl
@[simp] theorem State.askReset_vi (s : State) (r : ResetAsk) : (s.askReset r).vi = s.vi := rfl
@[simp] theorem State.askReset_bi (s : State) (r : ResetAsk) : (s.askReset r).bi = s.bi := rfl
@[simp] theorem State.askReset_tm (s : State) (r : ResetAsk) : (s.askReset r).tm = s.tm := rfl
@[simp] theorem State.askReset_cat (s : State) (r : ResetAsk) : (s.askReset r).cat = s.cat := rfl
@[simp] theorem State.askReset_ldg (s : State) (r : ResetAsk) : (s.askReset r).ldg = s.ldg := rfl
@[simp] theorem State.askReset_host (s : State) (r : ResetAsk) : (s.askReset r).host = s.host := rfl
@[simp] theorem State.askReset_cmd (s : State) (r : ResetAsk) : (s.askReset r).cmd = s.cmd := rfl
@[simp] theorem State.askReset_cp (s : State) (r : ResetAsk) : (s.askReset r).cp = s.cp := rfl
@[simp] theorem State.askReset_pw (s : State) (r : ResetAsk) : (s.askReset r).pw = s.pw := rfl
@[simp] theorem State.askReset_cal (s : State) (r : ResetAsk) : (s.askReset r).cal = s.cal := rfl
@[simp] theorem State.askReset_eth (s : State) (r : ResetAsk) : (s.askReset r).eth = s.eth := rfl
@[simp] theorem State.askReset_port (s : State) (r : ResetAsk) : (s.askReset r).port = s.port := rfl

/-! ### `setSlot` -/

@[simp] theorem State.setSlot_raw (s : State) (n : Nat) (o : Slot) : (s.setSlot n o).raw = s.raw := rfl
@[simp] theorem State.setSlot_wraps (s : State) (n : Nat) (o : Slot) : (s.setSlot n o).wraps = s.wraps := rfl
@[simp] theorem State.setSlot_phase (s : State) (n : Nat) (o : Slot) : (s.setSlot n o).phase = s.phase := rfl
@[simp] theorem State.setSlot_free (s : State) (n : Nat) (o : Slot) : (s.setSlot n o).free = s.free := rfl
@[simp] theorem State.setSlot_pending (s : State) (n : Nat) (o : Slot) : (s.setSlot n o).pending = s.pending := rfl
@[simp] theorem State.setSlot_sent (s : State) (n : Nat) (o : Slot) : (s.setSlot n o).sent = s.sent := rfl
@[simp] theorem State.setSlot_objs (s : State) (n : Nat) (o : Slot) : (s.setSlot n o).objs = s.objs := rfl
@[simp] theorem State.setSlot_live (s : State) (n : Nat) (o : Slot) : (s.setSlot n o).live = s.live := rfl
@[simp] theorem State.setSlot_undo (s : State) (n : Nat) (o : Slot) : (s.setSlot n o).undo = s.undo := rfl
@[simp] theorem State.setSlot_setNow (s : State) (n : Nat) (o : Slot) : (s.setSlot n o).setNow = s.setNow := rfl
@[simp] theorem State.setSlot_drv (s : State) (n : Nat) (o : Slot) : (s.setSlot n o).drv = s.drv := rfl
@[simp] theorem State.setSlot_arc (s : State) (n : Nat) (o : Slot) : (s.setSlot n o).arc = s.arc := rfl
@[simp] theorem State.setSlot_cur (s : State) (n : Nat) (o : Slot) : (s.setSlot n o).cur = s.cur := rfl
@[simp] theorem State.setSlot_rd (s : State) (n : Nat) (o : Slot) : (s.setSlot n o).rd = s.rd := rfl
@[simp] theorem State.setSlot_vd (s : State) (n : Nat) (o : Slot) : (s.setSlot n o).vd = s.vd := rfl
@[simp] theorem State.setSlot_sv (s : State) (n : Nat) (o : Slot) : (s.setSlot n o).sv = s.sv := rfl
@[simp] theorem State.setSlot_ap (s : State) (n : Nat) (o : Slot) : (s.setSlot n o).ap = s.ap := rfl
@[simp] theorem State.setSlot_vi (s : State) (n : Nat) (o : Slot) : (s.setSlot n o).vi = s.vi := rfl
@[simp] theorem State.setSlot_bi (s : State) (n : Nat) (o : Slot) : (s.setSlot n o).bi = s.bi := rfl
@[simp] theorem State.setSlot_tm (s : State) (n : Nat) (o : Slot) : (s.setSlot n o).tm = s.tm := rfl
@[simp] theorem State.setSlot_cat (s : State) (n : Nat) (o : Slot) : (s.setSlot n o).cat = s.cat := rfl
@[simp] theorem State.setSlot_ldg (s : State) (n : Nat) (o : Slot) : (s.setSlot n o).ldg = s.ldg := rfl
@[simp] theorem State.setSlot_host (s : State) (n : Nat) (o : Slot) : (s.setSlot n o).host = s.host := rfl
@[simp] theorem State.setSlot_cmd (s : State) (n : Nat) (o : Slot) : (s.setSlot n o).cmd = s.cmd := rfl
@[simp] theorem State.setSlot_cp (s : State) (n : Nat) (o : Slot) : (s.setSlot n o).cp = s.cp := rfl
@[simp] theorem State.setSlot_pw (s : State) (n : Nat) (o : Slot) : (s.setSlot n o).pw = s.pw := rfl
@[simp] theorem State.setSlot_cal (s : State) (n : Nat) (o : Slot) : (s.setSlot n o).cal = s.cal := rfl
@[simp] theorem State.setSlot_eth (s : State) (n : Nat) (o : Slot) : (s.setSlot n o).eth = s.eth := rfl
@[simp] theorem State.setSlot_port (s : State) (n : Nat) (o : Slot) : (s.setSlot n o).port = s.port := rfl

/-! ### `setDom` -/

@[simp] theorem State.setDom_raw (s : State) (b : Bool) (d : DomRt) : (s.setDom b d).raw = s.raw := by cases b <;> rfl
@[simp] theorem State.setDom_wraps (s : State) (b : Bool) (d : DomRt) : (s.setDom b d).wraps = s.wraps := by cases b <;> rfl
@[simp] theorem State.setDom_phase (s : State) (b : Bool) (d : DomRt) : (s.setDom b d).phase = s.phase := by cases b <;> rfl
@[simp] theorem State.setDom_free (s : State) (b : Bool) (d : DomRt) : (s.setDom b d).free = s.free := by cases b <;> rfl
@[simp] theorem State.setDom_pending (s : State) (b : Bool) (d : DomRt) : (s.setDom b d).pending = s.pending := by cases b <;> rfl
@[simp] theorem State.setDom_sent (s : State) (b : Bool) (d : DomRt) : (s.setDom b d).sent = s.sent := by cases b <;> rfl
@[simp] theorem State.setDom_objs (s : State) (b : Bool) (d : DomRt) : (s.setDom b d).objs = s.objs := by cases b <;> rfl
@[simp] theorem State.setDom_live (s : State) (b : Bool) (d : DomRt) : (s.setDom b d).live = s.live := by cases b <;> rfl
@[simp] theorem State.setDom_undo (s : State) (b : Bool) (d : DomRt) : (s.setDom b d).undo = s.undo := by cases b <;> rfl
@[simp] theorem State.setDom_setNow (s : State) (b : Bool) (d : DomRt) : (s.setDom b d).setNow = s.setNow := by cases b <;> rfl
@[simp] theorem State.setDom_drv (s : State) (b : Bool) (d : DomRt) : (s.setDom b d).drv = s.drv := by cases b <;> rfl
@[simp] theorem State.setDom_arc (s : State) (b : Bool) (d : DomRt) : (s.setDom b d).arc = s.arc := by cases b <;> rfl
@[simp] theorem State.setDom_cur (s : State) (b : Bool) (d : DomRt) : (s.setDom b d).cur = s.cur := by cases b <;> rfl
@[simp] theorem State.setDom_rd (s : State) (b : Bool) (d : DomRt) : (s.setDom b d).rd = s.rd := by cases b <;> rfl
@[simp] theorem State.setDom_vd (s : State) (b : Bool) (d : DomRt) : (s.setDom b d).vd = s.vd := by cases b <;> rfl
@[simp] theorem State.setDom_sv (s : State) (b : Bool) (d : DomRt) : (s.setDom b d).sv = s.sv := by cases b <;> rfl
@[simp] theorem State.setDom_ap (s : State) (b : Bool) (d : DomRt) : (s.setDom b d).ap = s.ap := by cases b <;> rfl
@[simp] theorem State.setDom_vi (s : State) (b : Bool) (d : DomRt) : (s.setDom b d).vi = s.vi := by cases b <;> rfl
@[simp] theorem State.setDom_bi (s : State) (b : Bool) (d : DomRt) : (s.setDom b d).bi = s.bi := by cases b <;> rfl
@[simp] theorem State.setDom_cat (s : State) (b : Bool) (d : DomRt) : (s.setDom b d).cat = s.cat := by cases b <;> rfl
@[simp] theorem State.setDom_ldg (s : State) (b : Bool) (d : DomRt) : (s.setDom b d).ldg = s.ldg := by cases b <;> rfl
@[simp] theorem State.setDom_host (s : State) (b : Bool) (d : DomRt) : (s.setDom b d).host = s.host := by cases b <;> rfl
@[simp] theorem State.setDom_cmd (s : State) (b : Bool) (d : DomRt) : (s.setDom b d).cmd = s.cmd := by cases b <;> rfl
@[simp] theorem State.setDom_cp (s : State) (b : Bool) (d : DomRt) : (s.setDom b d).cp = s.cp := by cases b <;> rfl
@[simp] theorem State.setDom_pw (s : State) (b : Bool) (d : DomRt) : (s.setDom b d).pw = s.pw := by cases b <;> rfl
@[simp] theorem State.setDom_cal (s : State) (b : Bool) (d : DomRt) : (s.setDom b d).cal = s.cal := by cases b <;> rfl
@[simp] theorem State.setDom_bt (s : State) (b : Bool) (d : DomRt) : (s.setDom b d).bt = s.bt := by cases b <;> rfl
@[simp] theorem State.setDom_eth (s : State) (b : Bool) (d : DomRt) : (s.setDom b d).eth = s.eth := by cases b <;> rfl
@[simp] theorem State.setDom_port (s : State) (b : Bool) (d : DomRt) : (s.setDom b d).port = s.port := by cases b <;> rfl

/-! ### `newId` and `draw` -/

@[simp] theorem State.newId_raw (s : State) (p : Path) : (s.newId p).2.raw = s.raw := rfl
@[simp] theorem State.newId_wraps (s : State) (p : Path) : (s.newId p).2.wraps = s.wraps := rfl
@[simp] theorem State.newId_phase (s : State) (p : Path) : (s.newId p).2.phase = s.phase := rfl
@[simp] theorem State.newId_free (s : State) (p : Path) : (s.newId p).2.free = s.free := rfl
@[simp] theorem State.newId_pending (s : State) (p : Path) : (s.newId p).2.pending = s.pending := rfl
@[simp] theorem State.newId_sent (s : State) (p : Path) : (s.newId p).2.sent = s.sent := rfl
@[simp] theorem State.newId_objs (s : State) (p : Path) : (s.newId p).2.objs = s.objs := rfl
@[simp] theorem State.newId_live (s : State) (p : Path) : (s.newId p).2.live = s.live := rfl
@[simp] theorem State.newId_undo (s : State) (p : Path) : (s.newId p).2.undo = s.undo := rfl
@[simp] theorem State.newId_setNow (s : State) (p : Path) : (s.newId p).2.setNow = s.setNow := rfl
@[simp] theorem State.newId_drv (s : State) (p : Path) : (s.newId p).2.drv = s.drv := rfl
@[simp] theorem State.newId_arc (s : State) (p : Path) : (s.newId p).2.arc = s.arc := rfl
@[simp] theorem State.newId_cur (s : State) (p : Path) : (s.newId p).2.cur = s.cur := rfl
@[simp] theorem State.newId_rd (s : State) (p : Path) : (s.newId p).2.rd = s.rd := rfl
@[simp] theorem State.newId_vd (s : State) (p : Path) : (s.newId p).2.vd = s.vd := rfl
@[simp] theorem State.newId_sv (s : State) (p : Path) : (s.newId p).2.sv = s.sv := rfl
@[simp] theorem State.newId_ap (s : State) (p : Path) : (s.newId p).2.ap = s.ap := rfl
@[simp] theorem State.newId_vi (s : State) (p : Path) : (s.newId p).2.vi = s.vi := rfl
@[simp] theorem State.newId_bi (s : State) (p : Path) : (s.newId p).2.bi = s.bi := rfl
@[simp] theorem State.newId_tm (s : State) (p : Path) : (s.newId p).2.tm = s.tm := rfl
@[simp] theorem State.newId_cat (s : State) (p : Path) : (s.newId p).2.cat = s.cat := rfl
@[simp] theorem State.newId_ldg (s : State) (p : Path) : (s.newId p).2.ldg = s.ldg := rfl
@[simp] theorem State.newId_host (s : State) (p : Path) : (s.newId p).2.host = s.host := rfl
@[simp] theorem State.newId_cp (s : State) (p : Path) : (s.newId p).2.cp = s.cp := rfl
@[simp] theorem State.newId_pw (s : State) (p : Path) : (s.newId p).2.pw = s.pw := rfl
@[simp] theorem State.newId_cal (s : State) (p : Path) : (s.newId p).2.cal = s.cal := rfl
@[simp] theorem State.newId_bt (s : State) (p : Path) : (s.newId p).2.bt = s.bt := rfl
@[simp] theorem State.newId_eth (s : State) (p : Path) : (s.newId p).2.eth = s.eth := rfl
@[simp] theorem State.newId_port (s : State) (p : Path) : (s.newId p).2.port = s.port := rfl
@[simp] theorem State.draw_raw (s : State) : s.draw.2.raw = s.raw := rfl
@[simp] theorem State.draw_wraps (s : State) : s.draw.2.wraps = s.wraps := rfl
@[simp] theorem State.draw_phase (s : State) : s.draw.2.phase = s.phase := rfl
@[simp] theorem State.draw_pending (s : State) : s.draw.2.pending = s.pending := rfl
@[simp] theorem State.draw_sent (s : State) : s.draw.2.sent = s.sent := rfl
@[simp] theorem State.draw_objs (s : State) : s.draw.2.objs = s.objs := rfl
@[simp] theorem State.draw_live (s : State) : s.draw.2.live = s.live := rfl
@[simp] theorem State.draw_undo (s : State) : s.draw.2.undo = s.undo := rfl
@[simp] theorem State.draw_setNow (s : State) : s.draw.2.setNow = s.setNow := rfl
@[simp] theorem State.draw_drv (s : State) : s.draw.2.drv = s.drv := rfl
@[simp] theorem State.draw_arc (s : State) : s.draw.2.arc = s.arc := rfl
@[simp] theorem State.draw_cur (s : State) : s.draw.2.cur = s.cur := rfl
@[simp] theorem State.draw_rd (s : State) : s.draw.2.rd = s.rd := rfl
@[simp] theorem State.draw_vd (s : State) : s.draw.2.vd = s.vd := rfl
@[simp] theorem State.draw_sv (s : State) : s.draw.2.sv = s.sv := rfl
@[simp] theorem State.draw_ap (s : State) : s.draw.2.ap = s.ap := rfl
@[simp] theorem State.draw_vi (s : State) : s.draw.2.vi = s.vi := rfl
@[simp] theorem State.draw_bi (s : State) : s.draw.2.bi = s.bi := rfl
@[simp] theorem State.draw_tm (s : State) : s.draw.2.tm = s.tm := rfl
@[simp] theorem State.draw_cat (s : State) : s.draw.2.cat = s.cat := rfl
@[simp] theorem State.draw_ldg (s : State) : s.draw.2.ldg = s.ldg := rfl
@[simp] theorem State.draw_host (s : State) : s.draw.2.host = s.host := rfl
@[simp] theorem State.draw_cmd (s : State) : s.draw.2.cmd = s.cmd := rfl
@[simp] theorem State.draw_cp (s : State) : s.draw.2.cp = s.cp := rfl
@[simp] theorem State.draw_pw (s : State) : s.draw.2.pw = s.pw := rfl
@[simp] theorem State.draw_cal (s : State) : s.draw.2.cal = s.cal := rfl
@[simp] theorem State.draw_bt (s : State) : s.draw.2.bt = s.bt := rfl
@[simp] theorem State.draw_eth (s : State) : s.draw.2.eth = s.eth := rfl
@[simp] theorem State.draw_port (s : State) : s.draw.2.port = s.port := rfl

/-! ### Reading back -/

@[simp] theorem State.obj_setObj_same (s : State) (c n v : Nat) : (s.setObj c n v).obj c n = v :=
  sget_sset_same objDefault s.objs (okey c n) v

theorem State.obj_setObj_other (s : State) (c n c' n' v : Nat) (hk : okey c' n' ≠ okey c n) :
    (s.setObj c n v).obj c' n' = s.obj c' n' :=
  sget_sset_other objDefault s.objs (okey c n) (okey c' n') v hk

@[simp] theorem State.liveObj_setLiveObj_same (s : State) (c n v : Nat) : (s.setLiveObj c n v).liveObj c n = v :=
  sget_sset_same objDefault s.live (okey c n) v

theorem State.liveObj_setLiveObj_other (s : State) (c n c' n' v : Nat) (hk : okey c' n' ≠ okey c n) :
    (s.setLiveObj c n v).liveObj c' n' = s.liveObj c' n' :=
  sget_sset_other objDefault s.live (okey c n) (okey c' n') v hk

@[simp] theorem State.viRun_setViRun_same (s : State) (v : Nat) (r : ViRun) : (s.setViRun v r).viRun v = r :=
  sget_sset_same (fun _ => ViRun.none) s.vi.run v r
theorem State.viRun_setViRun_other (s : State) (v k : Nat) (r : ViRun) (h : k ≠ v) : (s.setViRun v r).viRun k = s.viRun k :=
  sget_sset_other (fun _ => ViRun.none) s.vi.run v k r h
@[simp] theorem State.cpRt_setCpRt_same (s : State) (p : Nat) (r : CpRt) : (s.setCpRt p r).cpRt p = r :=
  sget_sset_same (fun _ => CpRt.none) s.cp.rt p r
theorem State.cpRt_setCpRt_other (s : State) (p k : Nat) (r : CpRt) (h : k ≠ p) : (s.setCpRt p r).cpRt k = s.cpRt k :=
  sget_sset_other (fun _ => CpRt.none) s.cp.rt p k r h
@[simp] theorem State.curRt_setCurRt_same (s : State) (c : Nat) (r : CurRt) : (s.setCurRt c r).curRt c = r :=
  sget_sset_same (fun _ => CurRt.idle) s.cur.rt c r
theorem State.curRt_setCurRt_other (s : State) (c k : Nat) (r : CurRt) (h : k ≠ c) : (s.setCurRt c r).curRt k = s.curRt k :=
  sget_sset_other (fun _ => CurRt.idle) s.cur.rt c k r h
@[simp] theorem State.apRun_setApRun_same (s : State) (n : Nat) (r : ApRun) : (s.setApRun n r).apRun n = r :=
  sget_sset_same (fun _ => ApRun.none) s.ap.run n r
theorem State.apRun_setApRun_other (s : State) (n k : Nat) (r : ApRun) (h : k ≠ n) : (s.setApRun n r).apRun k = s.apRun k :=
  sget_sset_other (fun _ => ApRun.none) s.ap.run n k r h
@[simp] theorem State.svRun_setSvRun_same (s : State) (n : Nat) (r : SvRun) : (s.setSvRun n r).svRun n = r :=
  sget_sset_same (fun _ => SvRun.none) s.sv.run n r
theorem State.svRun_setSvRun_other (s : State) (n k : Nat) (r : SvRun) (h : k ≠ n) : (s.setSvRun n r).svRun k = s.svRun k :=
  sget_sset_other (fun _ => SvRun.none) s.sv.run n k r h
@[simp] theorem State.lutRt_setLut_same (s : State) (j : Nat) (r : LutRt) : (s.setLut j r).lutRt j = r :=
  sget_sset_same (fun _ => LutRt.none) s.cat.lut j r
theorem State.lutRt_setLut_other (s : State) (j k : Nat) (r : LutRt) (h : k ≠ j) : (s.setLut j r).lutRt k = s.lutRt k :=
  sget_sset_other (fun _ => LutRt.none) s.cat.lut j k r h
@[simp] theorem State.ring_setRing_same (s : State) (n : Nat) (r : Ring) : (s.setRing n r).ring n = r :=
  sget_sset_same ringReset s.host.rings n r
theorem State.ring_setRing_other (s : State) (n k : Nat) (r : Ring) (h : k ≠ n) : (s.setRing n r).ring k = s.ring k :=
  sget_sset_other ringReset s.host.rings n k r h
@[simp] theorem State.mbox_setMbox_same (s : State) (m : Nat) (r : Mbox) : (s.setMbox m r).mbox m = r :=
  sget_sset_same (fun _ => Mbox.empty) s.host.mbs m r
theorem State.mbox_setMbox_other (s : State) (m k : Nat) (r : Mbox) (h : k ≠ m) : (s.setMbox m r).mbox k = s.mbox k :=
  sget_sset_other (fun _ => Mbox.empty) s.host.mbs m k r h
@[simp] theorem State.nvRec_setNv_same (s : State) (k : Nat) (r : NvRec) : (s.setNv k r).nvRec k = r :=
  sget_sset_same (fun _ => NvRec.erased) s.bt.nv k r
theorem State.nvRec_setNv_other (s : State) (k j : Nat) (r : NvRec) (h : j ≠ k) : (s.setNv k r).nvRec j = s.nvRec j :=
  sget_sset_other (fun _ => NvRec.erased) s.bt.nv k j r h
@[simp] theorem State.fnRegs_setFn_same (s : State) (f : Fn) (r : FnRegs) : (s.setFn f r).fnRegs f = r := by cases f <;> rfl
@[simp] theorem State.cfg_setCfg_same (s : State) (f : Fn) (c : CfgSpace) : (s.setCfg f c).cfg f = c := by cases f <;> rfl
@[simp] theorem State.dom_setDom_same (s : State) (b : Bool) (d : DomRt) : (s.setDom b d).dom b = d := by cases b <;> rfl

theorem State.setObj_objs_wf (s : State) (c n v : Nat) (h : swf objDefault s.objs = true) :
    swf objDefault (s.setObj c n v).objs = true :=
  swf_sset objDefault s.objs (okey c n) v h

theorem State.setLiveObj_live_wf (s : State) (c n v : Nat) (h : swf objDefault s.live = true) :
    swf objDefault (s.setLiveObj c n v).live = true :=
  swf_sset objDefault s.live (okey c n) v h

theorem State.countN_cnt_wf (s : State) (c n e k : Nat) (h : swf (fun _ => 0) s.ldg.cnt = true) :
    swf (fun _ => 0) (s.countN c n e k).ldg.cnt = true :=
  swf_sset (fun _ => 0) s.ldg.cnt (ckey c n e) _ h

@[simp] theorem State.setF_tick (s : State) (f : Field) (n v : Nat) : (s.setF f n v).tick = s.tick := rfl
@[simp] theorem State.setF_powered (s : State) (f : Field) (n v d : Nat) : (s.setF f n v).powered d = s.powered d := rfl
@[simp] theorem State.raise_tick (s : State) (f : Field) (n : Nat) : (s.raise f n).tick = s.tick := rfl
@[simp] theorem State.raise_powered (s : State) (f : Field) (n d : Nat) : (s.raise f n).powered d = s.powered d := rfl
@[simp] theorem State.count_tick (s : State) (c n e : Nat) : (s.count c n e).tick = s.tick := rfl
@[simp] theorem State.count_powered (s : State) (c n e d : Nat) : (s.count c n e).powered d = s.powered d := rfl
@[simp] theorem State.count_obj (s : State) (c n e c' n' : Nat) : (s.count c n e).obj c' n' = s.obj c' n' := rfl
@[simp] theorem State.count_getF (s : State) (c n e : Nat) (f : Field) (m : Nat) : (s.count c n e).getF f m = s.getF f m := rfl

end Sys2Proof.Machine
end

