-- ==== Sys2Proof/Laws/Shared.lean ====
section
/-! SUPPORT. What the shared operations of the host link and of command handling can do: each leaves every unit of the device as
it is and keeps the counters canonical. One lemma per operation, cited instead of unfolding it. -/

namespace Sys2Proof.Machine

/-- `t` differs from `s` at most in the host link, the open commands, the output log, the marks of the tick and the counters,
whose store stays canonical. -/
structure LeavesUnits (s t : State) : Prop where
  raw : t.raw = s.raw
  wraps : t.wraps = s.wraps
  phase : t.phase = s.phase
  free : t.free = s.free
  pending : t.pending = s.pending
  objs : t.objs = s.objs
  live : t.live = s.live
  undo : t.undo = s.undo
  drv : t.drv = s.drv
  arc : t.arc = s.arc
  cur : t.cur = s.cur
  rd : t.rd = s.rd
  vd : t.vd = s.vd
  sv : t.sv = s.sv
  ap : t.ap = s.ap
  vi : t.vi = s.vi
  bi : t.bi = s.bi
  tm : t.tm = s.tm
  cat : t.cat = s.cat
  cp : t.cp = s.cp
  pw : t.pw = s.pw
  cal : t.cal = s.cal
  bt : t.bt = s.bt
  eth : t.eth = s.eth
  port : t.port = s.port
  counters : swf (fun _ => 0) s.ldg.cnt = true → swf (fun _ => 0) t.ldg.cnt = true

theorem leavesUnits_refl (s : State) : LeavesUnits s s := by constructor <;> first | rfl | exact id

theorem leavesUnits_trans {s t u : State} (a : LeavesUnits s t) (b : LeavesUnits t u) : LeavesUnits s u where
  raw := b.raw.trans a.raw
  wraps := b.wraps.trans a.wraps
  phase := b.phase.trans a.phase
  free := b.free.trans a.free
  pending := b.pending.trans a.pending
  objs := b.objs.trans a.objs
  live := b.live.trans a.live
  undo := b.undo.trans a.undo
  drv := b.drv.trans a.drv
  arc := b.arc.trans a.arc
  cur := b.cur.trans a.cur
  rd := b.rd.trans a.rd
  vd := b.vd.trans a.vd
  sv := b.sv.trans a.sv
  ap := b.ap.trans a.ap
  vi := b.vi.trans a.vi
  bi := b.bi.trans a.bi
  tm := b.tm.trans a.tm
  cat := b.cat.trans a.cat
  cp := b.cp.trans a.cp
  pw := b.pw.trans a.pw
  cal := b.cal.trans a.cal
  bt := b.bt.trans a.bt
  eth := b.eth.trans a.eth
  port := b.port.trans a.port
  counters := fun h => b.counters (a.counters h)

/-- An operation that leaves the units alone keeps every store canonical. -/
theorem canonical_of_leavesUnits {s t : State} (a : LeavesUnits s t) (h : s.Canonical) : t.Canonical where
  objs := by rw [a.objs]; exact h.objs
  live := by rw [a.live]; exact h.live
  counters := a.counters h.counters

/-- The same for an operation run over a list. -/
theorem leavesUnits_foldl {α : Type} (f : State → α → State) (hf : ∀ s x, LeavesUnits s (f s x)) (l : List α) (s : State) :
    LeavesUnits s (l.foldl f s) := by
  induction l generalizing s with
  | nil => exact leavesUnits_refl s
  | cons x l ih => exact leavesUnits_trans (hf s x) (ih _)

theorem leavesUnits_setRing (s : State) (n : Nat) (r : Ring) : LeavesUnits s (s.setRing n r) := by constructor <;> first | rfl | exact id

theorem leavesUnits_setMbox (s : State) (m : Nat) (b : Mbox) : LeavesUnits s (s.setMbox m b) := by constructor <;> first | rfl | exact id

theorem leavesUnits_setFn (s : State) (f : Fn) (r : FnRegs) : LeavesUnits s (s.setFn f r) := by
  cases f <;> constructor <;> first | rfl | exact id

theorem leavesUnits_emit (s : State) (o : Outgoing) : LeavesUnits s (s.emit o) := by constructor <;> first | rfl | exact id

theorem leavesUnits_markNow (s : State) (k m : Nat) : LeavesUnits s (s.markNow k m) := by constructor <;> first | rfl | exact id

theorem leavesUnits_openCmd (s : State) (k : Nat) (i : Instr) (h : Hdr) (st : CmdState) : LeavesUnits s (s.openCmd k i h st) := by constructor <;> first | rfl | exact id

theorem leavesUnits_restate (s : State) (k : Nat) (st : CmdState) : LeavesUnits s (s.restate k st) := by constructor <;> first | rfl | exact id

theorem leavesUnits_setCmd (s : State) (k m r : Nat) : LeavesUnits s (s.setCmd k m r) := by constructor <;> first | rfl | exact id

theorem leavesUnits_newId (s : State) (p : Path) : LeavesUnits s (s.newId p).2 := by constructor <;> first | rfl | exact id

theorem leavesUnits_host (s : State) (g : HostGroup) : LeavesUnits s { s with host := g } := by
  constructor <;> first | rfl | exact id

theorem leavesUnits_cmd (s : State) (g : CmdGroup) : LeavesUnits s { s with cmd := g } := by
  constructor <;> first | rfl | exact id

theorem leavesUnits_countN (s : State) (c n e k : Nat) : LeavesUnits s (s.countN c n e k) := by
  constructor <;> first | rfl | exact State.countN_cnt_wf s c n e k

theorem leavesUnits_count (s : State) (c n e : Nat) : LeavesUnits s (s.count c n e) := leavesUnits_countN s c n e 1

theorem leavesUnits_markLost (s : State) (k : Nat) : LeavesUnits s (s.markLost k) := by constructor <;> first | rfl | exact id

theorem leavesUnits_capturesLost (s : State) (m : Nat) : LeavesUnits s (s.capturesLost m) :=
  leavesUnits_foldl _ (fun t u => leavesUnits_markLost t (82 + u)) _ _

theorem leavesUnits_raiseVector (s : State) (f : Fn) (v : Nat) : LeavesUnits s (s.raiseVector f v) := by
  unfold State.raiseVector
  simp only []
  split
  · exact leavesUnits_refl s
  · split
    · exact leavesUnits_setFn _ _ _
    · exact leavesUnits_trans (leavesUnits_setFn _ _ _) (leavesUnits_emit _ _)

theorem leavesUnits_unmaskVector (s : State) (f : Fn) (v : Nat) : LeavesUnits s (s.unmaskVector f v) := by
  unfold State.unmaskVector
  simp only []
  split
  · exact leavesUnits_trans (leavesUnits_setFn _ _ _) (leavesUnits_trans (leavesUnits_setFn _ _ _) (leavesUnits_emit _ _))
  · exact leavesUnits_setFn _ _ _

theorem leavesUnits_setCatPending (s : State) (f : Fn) (j : Nat) : LeavesUnits s (s.setCatPending f j) :=
  leavesUnits_trans (leavesUnits_setFn _ _ _) (leavesUnits_trans (leavesUnits_markNow _ _ _) (leavesUnits_raiseVector _ _ _))

theorem leavesUnits_mbCause (s : State) (m k : Nat) : LeavesUnits s (s.mbCause m k) := by
  unfold State.mbCause
  split
  · exact leavesUnits_refl s
  · simp only []
    split
    · exact leavesUnits_trans (leavesUnits_setFn _ _ _) (leavesUnits_markNow _ _ _)
    · exact leavesUnits_trans (leavesUnits_trans (leavesUnits_setFn _ _ _) (leavesUnits_markNow _ _ _))
        (leavesUnits_raiseVector _ _ _)

theorem leavesUnits_ringCauseSet (s : State) (n : Nat) : LeavesUnits s (s.ringCauseSet n) := by
  unfold State.ringCauseSet
  simp only []
  split
  · exact leavesUnits_trans (leavesUnits_host _ _) (leavesUnits_markNow _ _ _)
  · exact leavesUnits_trans (leavesUnits_trans (leavesUnits_host _ _) (leavesUnits_markNow _ _ _))
      (leavesUnits_raiseVector _ _ _)

theorem leavesUnits_ringIrqCount (s : State) (n : Nat) : LeavesUnits s (s.ringIrqCount n) := by
  unfold State.ringIrqCount
  simp only []
  split
  · exact leavesUnits_trans (leavesUnits_setRing _ _ _) (leavesUnits_ringCauseSet _ _)
  · exact leavesUnits_refl s

theorem leavesUnits_ringCount (s : State) (n : Nat) : LeavesUnits s (s.ringCount n) :=
  leavesUnits_trans (leavesUnits_setRing _ _ _) (leavesUnits_ringIrqCount _ _)

theorem leavesUnits_ringWriteBack (s : State) (n x : Nat) : LeavesUnits s (s.ringWriteBack n x) := by
  unfold State.ringWriteBack
  simp only []
  split
  · exact leavesUnits_emit _ _
  · exact leavesUnits_refl s

theorem leavesUnits_ringLost (s : State) (n k : Nat) : LeavesUnits s (s.ringLost n k) := by
  unfold State.ringLost
  split
  · exact leavesUnits_refl s
  · exact leavesUnits_trans (leavesUnits_trans (leavesUnits_host _ _) (leavesUnits_markNow _ _ _)) (leavesUnits_countN _ _ _ _ _)

theorem leavesUnits_ringProduce (s : State) (n : Nat) (e : List Byte) (tag : Nat) :
    LeavesUnits s (s.ringProduce n e tag).1 := by
  unfold State.ringProduce
  simp only []
  refine leavesUnits_trans ?_ (leavesUnits_ringCount _ _)
  refine leavesUnits_trans ?_ (leavesUnits_ringWriteBack _ _ _)
  refine leavesUnits_trans ?_ (leavesUnits_ringLost _ _ _)
  have h : LeavesUnits s ((s.emit (.dma (s.ring n).fn ((s.ring n).base + (s.ring n).prod * entrySize n) e)).count 0x15 n 0) :=
    leavesUnits_trans (leavesUnits_emit _ _) (leavesUnits_count _ _ _ _)
  split
  · exact leavesUnits_trans h (leavesUnits_trans (leavesUnits_setRing _ _ _) (leavesUnits_count _ _ _ _))
  · exact leavesUnits_trans h (leavesUnits_setRing _ _ _)

theorem leavesUnits_postEntry (s : State) (n : Nat) (b : Bool) (f : Nat) (e : List Byte) :
    LeavesUnits s (s.postEntry n b f e) := by
  unfold State.postEntry
  split
  · exact leavesUnits_ringProduce _ _ _ _
  · exact leavesUnits_host _ _

theorem leavesUnits_heldWrite (s : State) (k : Nat) : LeavesUnits s (s.heldWrite k) := by
  unfold State.heldWrite
  split
  · exact leavesUnits_refl s
  · split
    · exact leavesUnits_trans (leavesUnits_host _ _) (leavesUnits_ringProduce _ _ _ _)
    · exact leavesUnits_refl s

theorem leavesUnits_noticeTo (s : State) (f : Fn) (c a b d : Nat) : LeavesUnits s (s.noticeTo f c a b d) := by
  unfold State.noticeTo
  simp only []
  split
  · exact leavesUnits_refl s
  · split
    · split
      · exact leavesUnits_trans (leavesUnits_setFn _ _ _) (leavesUnits_countN _ _ _ _ _)
      · exact leavesUnits_trans (leavesUnits_setFn _ _ _) (leavesUnits_postEntry _ _ _ _ _)
    · exact leavesUnits_trans (leavesUnits_setFn _ _ _) (leavesUnits_host _ _)

theorem leavesUnits_notice (s : State) (c a b d : Nat) : LeavesUnits s (s.notice c a b d) :=
  leavesUnits_trans (leavesUnits_noticeTo _ _ _ _ _ _) (leavesUnits_noticeTo _ _ _ _ _ _)

theorem leavesUnits_answerCompletion (s : State) (d : Bool) (k : Nat) (i : Instr) (h : Hdr) (rep : Reply) (c : Nat) :
    LeavesUnits s (s.answerCompletion d k i h rep c) := by
  unfold State.answerCompletion
  simp only []
  split
  · refine leavesUnits_trans ?_ (leavesUnits_capturesLost _ _)
    split
    · exact leavesUnits_ringLost _ _ _
    · exact leavesUnits_refl s
  · split
    · exact leavesUnits_cmd _ _
    · split
      · exact leavesUnits_cmd _ _
      · exact leavesUnits_capturesLost _ _

theorem leavesUnits_complete (s : State) (k : Nat) (i : Instr) (h : Hdr) (rep : Reply) (c : Nat) :
    LeavesUnits s (s.complete k i h rep c) :=
  leavesUnits_trans (leavesUnits_cmd s _) (leavesUnits_answerCompletion _ _ _ _ _ _ _)

theorem leavesUnits_completeId (s : State) (k : Nat) (rep : Reply) : LeavesUnits s (s.completeId k rep) := by
  unfold State.completeId
  split
  · exact leavesUnits_complete _ _ _ _ _ _
  · exact leavesUnits_refl s

/-! ### The units' own updates keep the stores canonical -/

theorem canonical_of_stores {s t : State} (h : s.Canonical) (a : t.objs = s.objs) (b : t.live = s.live)
    (c : t.ldg.cnt = s.ldg.cnt) : t.Canonical where
  objs := by rw [a]; exact h.objs
  live := by rw [b]; exact h.live
  counters := by rw [c]; exact h.counters

theorem canonical_setObj {s : State} (h : s.Canonical) (c n v : Nat) : (s.setObj c n v).Canonical where
  objs := State.setObj_objs_wf s c n v h.objs
  live := h.live
  counters := h.counters

theorem canonical_setF {s : State} (h : s.Canonical) (f : Field) (n v : Nat) : (s.setF f n v).Canonical :=
  canonical_setObj h _ _ _

theorem canonical_setLiveObj {s : State} (h : s.Canonical) (c n v : Nat) : (s.setLiveObj c n v).Canonical where
  objs := h.objs
  live := State.setLiveObj_live_wf s c n v h.live
  counters := h.counters

theorem canonical_setL {s : State} (h : s.Canonical) (f : Field) (n v : Nat) : (s.setL f n v).Canonical :=
  canonical_setLiveObj h _ _ _

theorem canonical_changeLive {s : State} (h : s.Canonical) (c n v : Nat) (b : Bool) : (s.changeLive c n v b).Canonical where
  objs := h.objs
  live := State.setLiveObj_live_wf s c n v h.live
  counters := h.counters

theorem canonical_raise {s : State} (h : s.Canonical) (f : Field) (n : Nat) : (s.raise f n).Canonical :=
  canonical_of_leavesUnits (leavesUnits_markNow _ _ _) (canonical_setF h f n 1)

theorem canonical_count {s : State} (h : s.Canonical) (c n e : Nat) : (s.count c n e).Canonical :=
  canonical_of_leavesUnits (leavesUnits_count _ _ _ _) h

theorem canonical_foldl {α : Type} (f : State → α → State) (hf : ∀ s x, s.Canonical → (f s x).Canonical) (l : List α)
    (s : State) (h : s.Canonical) : (l.foldl f s).Canonical := by
  induction l generalizing s with
  | nil => exact h
  | cons x l ih => exact ih _ (hf s x h)

end Sys2Proof.Machine
end

