-- ==== Sys2Proof/Tests/Slice0.lean ====
section
/-! SUPPORT. Tests: ill-formed commands are refused, packets written out from the tables of the spec decode to their commands, single
steps on small states, and for each statement of Certificates/Slice0/Obligations.lean states and operands that meet the hypotheses of
each of its clauses (`witness_…`). Expected values come from the spec's rules and tables. -/

open Sys2Proof Sys2Proof.Machine

namespace Sys2Proof.Tests

set_option Elab.async false

/-! ### Helpers -/

/-- A header on command ring 0 that wants its completion. -/
def hd : Hdr := ⟨.ring 0, 0x0007, 0x0002, 32, 0, 0, 0, 0, [], false, 0, 0, 0⟩
/-- The same on the secure command ring, marked SECURE. -/
def hdS : Hdr := { hd with path := .ring 2, flags := 3 }
/-- With extended parameters. -/
def hdX (l : List Byte) : Hdr := { hd with extptr := 0x1000, extlen := BitVec.ofNat 32 l.length, ext := l }
/-- With room for returned data. -/
def hdR (n : Nat) : Hdr := { hd with extptr := 0x1000, extlen := BitVec.ofNat 32 n }

/-- A device that has booted, in Run, with every domain powered, at tick 10,000. -/
def up : State :=
  let s := { State.reset with
    raw := 160000
    tm := { State.reset.tm with unlocked := false, everLocked := true, span := 16, lookFrom := 160000, lookTo := 160016 }
    pw := { State.reset.pw with on := 2 ^ 56 - 1 }
    bt := { State.reset.bt with ready := true, booting := false } }
  s.setF Fld.thermal.powerState 0 0

def admittedB (i : Instr) (h : Hdr) (s : State) : Bool :=
  s.pathAlive h.path && decide (s.openOn h.path < 64) && decide (commonCheck i h = none) && !h.atTime &&
    (!h.chain || decide (sget (fun _ => 0) s.cmd.last (pathKey h.path) ≠ 1 ∧ sget (fun _ => 0) s.cmd.last (pathKey h.path) ≠ 3)) &&
    decide (s.place h.path i = none) && bit (powerMask i.opcode) s.powerState && s.dataFits h 0

theorem admitted_of {i : Instr} {h : Hdr} {s : State} (e : admittedB i h s = true) : Admitted i h s := by
  simp only [admittedB, Bool.and_eq_true, Bool.or_eq_true, decide_eq_true_eq, Bool.not_eq_true'] at e
  obtain ⟨⟨⟨⟨⟨⟨⟨a, b⟩, c⟩, d⟩, f⟩, g⟩, p⟩, q⟩ := e
  exact ⟨a, b, c, d, f, g, p, q⟩

def writableB (s : State) (h : Hdr) (f : Field) (inst v : Nat) : Bool :=
  s.powered (objDom f.cls inst) &&
    decide (s.writeRefused (pathSecure h.path) f.cls inst (s.obj f.cls inst) ((v % 2 ^ f.width) <<< f.lsb)
      (setBits (s.obj f.cls inst) f.lsb f.width v) (ones f.lsb f.width) = none)

theorem writable_of {s : State} {h : Hdr} {f : Field} {n v : Nat} (e : writableB s h f n v = true) : s.Writable h f n v := by
  simp only [writableB, Bool.and_eq_true, decide_eq_true_eq] at e
  exact ⟨e.1, e.2⟩

def canonicalB (s : State) : Bool :=
  swf objDefault s.objs && swf objDefault s.live && swf (fun _ => 0) s.ldg.cnt

theorem canonical_of {s : State} (e : canonicalB s = true) : s.Canonical := by
  simp only [canonicalB, Bool.and_eq_true] at e
  exact ⟨e.1.1, e.1.2, e.2⟩

/-! ### Well-formedness: an ill-formed term for each check -/

theorem test_wf_scan_of_47 : (Instr.thermalScan (List.replicate 47 0)).wf = false := by decide +kernel
theorem test_wf_scan_of_49 : (Instr.thermalScan (List.replicate 49 0)).wf = false := by decide +kernel
theorem test_wf_scan_of_48 : (Instr.thermalScan (List.replicate 48 0)).wf = true := by decide +kernel
theorem test_wf_empty_message : (Instr.d2hDoorbell 0 [] 0).wf = false := by decide +kernel
theorem test_wf_message_of_257 : (Instr.d2hDoorbell 0 (List.replicate 257 0) 0).wf = false := by decide +kernel
theorem test_wf_reserved_in_a_parameter : (Instr.sysReset { hd with rsv := 1 } 0).wf = false := by decide +kernel
theorem test_wf_reserved_beside_a_parameter : (Instr.sysReset { hd with rsv := 256 } 0).wf = true := by decide +kernel

/-! ### The queue and reset -/

/-- O1: a queue of two commands. -/
theorem witness_StepRunsTheFrontCommand :
    ({ up with pending := [.flr .pf0, .linkReset] }).pending = .flr .pf0 :: [.linkReset] := by decide +kernel

theorem test_up_is_in_run : up.powerState = 0 ∧ up.tick = 10000 ∧ up.pathAlive (.ring 0) = true := by decide +kernel

/-! ### Packets -/

/-- The worked example of the command reference: packet A, its CRC computed by the rule R409. -/
def packetA : BitVec 512 := 0x4000000100185ddeb0900000000000000000000000000000000001e848000006000600420601
def hdA : Hdr := { hd with tag := 0x42, flags := 6, plen := 6, at_ := 32000000 }

theorem test_crc_check_value : crc32c [0x31, 0x32, 0x33, 0x34, 0x35, 0x36, 0x37, 0x38, 0x39] = 0xE3069283 := by decide +kernel
theorem test_packet_A : decodePacket ⟨.ring 0, [], false, 0, 0, 0⟩ packetA = some (.frameOp hdA 24 1 0x4000) := by decide +kernel
theorem test_packet_vit_arm :
    decodePacket ⟨.ring 0, [], false, 0, 0, 0⟩ 0x13880000000000000081d8f0cb1000000000000000000000000000000000000000000010000200090a01 =
      some (.vitArm { hd with tag := 9, plen := 16 } 0x81 5000) := by decide +kernel
theorem test_packet_sec_policy :
    decodePacket ⟨.ring 2, [], false, 0, 0, 0⟩ 0x1f96213c300000000000000000000000000000000000000000001000300091001 =
      some (.secPolicy { hdS with tag := 9, plen := 1 } true) := by decide +kernel
theorem test_packet_obj_read :
    decodePacket ⟨.ring 0, [], false, 0, 0, 0⟩ 0x4000000200003000bbd3e96600000000000000000000000000000000000000000000c000200070102 =
      some (.objRead { hd with plen := 12 } 0x0B 3 0x20 4) := by decide +kernel
theorem test_packet_of_no_opcode :
    decodePacket ⟨.ring 0, [], false, 0, 0, 0⟩ 0x848304e700000000000000000000000000000000000000000000000200090002 = none := by
  decide +kernel
theorem test_the_table_gives_no_bits : decodeTableWord 64 0x0100 = none := rfl

theorem witness_PacketOfACommandDecodesToIt :
    (Instr.frameOp hdA 24 1 0x4000).hdr = some hdA ∧ (Instr.frameOp hdA 24 1 0x4000).wf = true ∧
      encodePacket (.frameOp hdA 24 1 0x4000) = some packetA := by decide +kernel
theorem witness_EveryHostCommandHasAPacket : (Instr.sysNop hd).hdr = some hd ∧ (Instr.sysNop hd).writeRow = false := by
  decide +kernel

/-! ### Acceptance -/

theorem witness_FailedChecksHaveNoEffect :
    ((Instr.sysNop { hd with plen := 33 }).hdr = some { hd with plen := 33 } ∧
      commonCheck (.sysNop { hd with plen := 33 }) { hd with plen := 33 } = some ⟨.badParam, 6, 0, 0, 0, [], false⟩ ∧
      up.pathAlive (.ring 0) = true ∧ up.openOn (.ring 0) < 64) ∧
    (secureOpcode (Instr.sysReset hd 0).opcode = true ∧ (pathSecure hd.path && hd.secure) = false) ∧
    (hdS.secure = true ∧ pathSecure ({ hdS with path := .eth }).path = false ∧ up.openOn .eth < 64 ∧
      ((up.setF Fld.eth.cmdEn 0 1).pathAlive .eth) = true) := by decide +kernel

/-- An open command of another path with every scheduled place taken. -/
def full256 : State :=
  { up with cmd := { up.cmd with
      open_ := List.replicate 256 ⟨0, .sysNop { hd with path := .mb 0 }, { hd with path := .mb 0 }, 0, 0, .sched 20000, 0, 0, false,
        false⟩ } }

def hdT (t : Nat) : Hdr := { hd with flags := 6, at_ := BitVec.ofNat 64 (16 * t) }

def cmdOf1 (st : CmdState) : Cmd := ⟨1, .sysNop hd, hd, 0, 0, st, 0, 0, false, false⟩
def withCmd (st : CmdState) : State := { up with cmd := { up.cmd with open_ := [cmdOf1 st], nextId := 2 } }

theorem witness_ScheduledCommandsWaitExecuteOrTimeOut :
    (commonCheck (.sysNop (hdT 11000)) (hdT 11000) = none ∧ (hdT 11000).atTime = true ∧ (hdT 11000).chain = false ∧
      256 ≤ full256.schedCount ∧ full256.openOn (.ring 0) < 64) ∧
    (up.schedCount < 256 ∧ up.atTick (hdT 10999) < up.tick + 1000) ∧
    (up.schedCount < 256 ∧ up.tick + 1000 ≤ up.atTick (hdT 11000)) ∧
    ((withCmd (.sched 10000)).nextScheduled = some (cmdOf1 (.sched 10000))) ∧
    ((withCmd (.deferred 9999)).cmd.open_.find? (withCmd (.deferred 9999)).deferredReady = some (cmdOf1 (.deferred 9999))) ∧
    ((withCmd (.deferred 0)).cmd.open_.find? (Cmd.deferredOver up.tick) = some (cmdOf1 (.deferred 0))) := by decide +kernel

def hdC : Hdr := { hd with flags := 10 }
def chained (v : Nat) : State := { up with cmd := { up.cmd with last := [(0, v)], lastId := [(0, 1)] } }

theorem witness_ChainedCommandFollowsItsPredecessor :
    (commonCheck (.sysNop hdC) hdC = none ∧ hdC.chain = true ∧ (chained 1).pathAlive (.ring 0) = true ∧
      sget (fun _ => 0) (chained 1).cmd.last (pathKey (.ring 0)) = 1) ∧
    (sget (fun _ => 0) (chained 3).cmd.last (pathKey (.ring 0)) = 3) ∧
    ((withCmd (.ready true)).cmd.open_.find? (Cmd.readyOn (.ring 0)) = some (cmdOf1 (.ready true))) := by decide +kernel

/-- Command ring 0 enabled with one unread entry; Ethernet with an allowed peer; a message in mailbox 0. -/
def oneEntry : State := up.setRing 0 { Ring.fresh 1 with en := true, prod := 1 }
def ethOn : State :=
  ((((up.setF Fld.eth.cmdEn 0 1).setF Fld.eth.linkUp 0 1).setF Fld.eth.ethMode 0 2))
/-- An undamaged frame without a tag, from 10.0.0.2 to the address given. -/
def rxOf (target : BitVec 128) : EthRx := ⟨5, 0xFFFF0A000002, target, none, 64, false, 3⟩
def bytesA : List Byte := leBytes 64 packetA.toNat
def mbA : State := up.setMbox 0 { Mbox.empty with h2d := leNat bytesA, h2dLen := 64, h2dPosted := 64, h2dFull := true }

theorem witness_PacketsArriveAsTheirCommand_1 :
    (oneEntry.fetchReady 0 = true ∧ up.fetchReady 0 = false) ∧
    packetCrcOk 0 = false ∧
    (packetCrcOk 0x848304e700000000000000000000000000000000000000000000000200090002 = true ∧
      decodePacket ⟨.ring 0, [], false, 0, 0, 0⟩ 0x848304e700000000000000000000000000000000000000000000000200090002 = none) ∧
    (packetCrcOk packetA = true ∧ decodePacket ⟨.ring 0, [], false, 0, 0, 0⟩ packetA = some (.frameOp hdA 24 1 0x4000)) := by
  decide +kernel

theorem witness_PacketsArriveAsTheirCommand_2 :
    (let s := (ethOn.setF Fld.eth.cmdPrefix 0 128).setF Fld.eth.ipv4Addr 0 0x0A000001
     s.ethUp = true ∧ s.pathAlive .eth = true ∧ (rxOf 0xFFFF0A000001).bad = false ∧ (rxOf 0xFFFF0A000001).size.toNat ≤ 9000 ∧
       s.vlanOk (rxOf 0xFFFF0A000001) = true ∧ s.ownAddress 0xFFFF0A000003 = false ∧ s.ownAddress 0xFFFF0A000001 = true ∧
       s.peerAllowed 0xFFFF0A000002 = false) ∧
    (let s := (ethOn.setF Fld.eth.cmdPeer 0 0xFFFF0A000002).setF Fld.eth.ipv4Addr 0 0x0A000001
     s.ethUp = true ∧ s.pathAlive .eth = true ∧ s.ownAddress 0xFFFF0A000001 = true ∧ s.peerAllowed 0xFFFF0A000002 = true ∧
      (bytesA.take 63).length < 64 ∧ 64 ≤ bytesA.length ∧ packetCrcOk (packetOf bytesA) = true ∧
      decodePacket ⟨.eth, bytesA.drop 64, false, 0xFFFF0A000002, 700, 5⟩ (packetOf bytesA) =
        some (.frameOp { hdA with path := .eth, peer := 0xFFFF0A000002, peerPort := 700, mac := 5 } 24 1 0x4000)) ∧
    ((mbA.mbox 0).h2dFull = true ∧ mbA.pathAlive (.mb 0) = true ∧ mbA.openOn (.mb 0) < 64 ∧
      decodePacket ⟨.mb 0, [], false, 0, 0, 0⟩ (packetOf (leBytes 64 ((mbA.mbox 0).h2d % 2 ^ 512))) =
        some (.frameOp { hdA with path := .mb 0 } 24 1 0x4000)) := by decide +kernel

/-- A FRAME_OP of F4095 answers STATE, a refusal at once. -/
theorem witness_RefusedCommandsChangeNoUnit :
    (runCommand (.frameOp hd 4095 1 0) 0 up).2.later = false ∧ (runCommand (.frameOp hd 4095 1 0) 0 up).2.status ≠ .ok := by
  decide +kernel

theorem witness_StepsKeepTheStoresCanonical : State.reset.Canonical ∧ step State.reset = .next State.reset.clock :=
  ⟨canonical_of (by decide +kernel), rfl⟩
/-! ### Rings, mailboxes, interrupts and registers -/

def ringIs (n : Nat) (r : Ring) : State := up.setRing n r
def cmdRing : State := ringIs 0 { Ring.fresh 1 with en := true, length := 16, prod := 15, cons := 3 }
def devRing : State := ringIs 10 { Ring.fresh 2 with en := true, length := 16, prod := 2, cons := 9, tags := [(9, 0)] }

theorem witness_RingLengthTakesEffectOrIsStaged :
    (up.powered domPCIE = true ∧ ((ringIs 10 (Ring.fresh 2)).ring 10).ownedBy .pf1 = true) ∧
    (∀ k : Fin 13, (17 : BitVec 32).toNat ≠ 2 ^ (k.val + 4)) ∧
    ((65536 : BitVec 32).toNat = 2 ^ ((12 : Fin 13).val + 4) ∧ (devRing.ring 10).en = true ∧
      (devRing.ring 10).ownedBy .pf1 = true) ∧
    ((16 : BitVec 32).toNat = 2 ^ ((0 : Fin 13).val + 4) ∧ ((ringIs 10 (Ring.fresh 2)).ring 10).en = false) := by decide +kernel

theorem witness_RingIndexesAndControl :
    (cmdRing.powered domPCIE = true ∧ (cmdRing.ring 0).ownedBy .pf0 = true ∧ (cmdRing.ring 0).en = true ∧
      (cmdRing.ring 0).staged = none ∧ (15 : BitVec 32).toNat < (cmdRing.ring 0).length ∧
      (cmdRing.ring 0).length ≤ (16 : BitVec 32).toNat) ∧
    (devRing.powered domPCIE = true ∧ (devRing.ring 10).ownedBy .pf1 = true ∧ (devRing.ring 10).en = true ∧
      (15 : BitVec 32).toNat < (devRing.ring 10).length ∧ (devRing.ring 10).cons ≤ (15 : BitVec 32).toNat ∧
      (0 : BitVec 32).toNat < (devRing.ring 10).cons ∧ (devRing.ring 10).length ≤ (16 : BitVec 32).toNat) ∧
    ((up.ring 0).en = false ∧ 3 ≤ (79 : Fin 80).val ∧ (up.ring 79).en = false ∧ (2 : Fin 80).val < 3) ∧
    ((devRing.ring 10).ownedBy .pf0 = false) := by decide +kernel

def full0 : State := up.setMbox 0 { Mbox.empty with h2dFull := true, h2dPosted := 63, h2dDue := 10000, d2hFull := true, d2hDue := 10000 }

theorem witness_MailboxesPostTakeAndTimeOut :
    (up.powered domPCIE = true ∧ (up.mbox 0).h2dFull = false ∧ 1 ≤ (1 : BitVec 32).toNat % 512 ∧
      (256 : BitVec 32).toNat % 512 ≤ 256) ∧
    (full0.powered domPCIE = true ∧ (full0.mbox 0).h2dFull = true ∧ (full0.mbox 0).h2dDue ≠ 0 ∧
      (full0.mbox 0).h2dDue ≤ full0.tick ∧ full0.pathAlive (.mb 0) = true ∧ full0.openOn (.mb 0) < 64 ∧
      (full0.mbox 0).h2dPosted < 64) ∧
    (1 ≤ ([0] : List Byte).length ∧ (List.replicate 256 (0 : Byte)).length ≤ 256 ∧ (up.mbox 7).d2hFull = false ∧
      256 < (List.replicate 257 (0 : Byte)).length) ∧
    ((full0.mbox 0).d2hFull = true ∧ (full0.mbox 0).d2hDue ≠ 0 ∧ (full0.mbox 0).d2hDue ≤ full0.tick) := by decide +kernel

/-- A Docent image of one byte whose header, key, digest and signature were computed from R495 and FIPS 186-5 for the key 1. -/
def img1 : List Byte := leBytes 193 0xaa9561891bbbf5e2efb0a20d337902e964e7810434fc0e961c403ab12be29cbcd85c4126fca30b172db82961cc70e3deaa7b89ba77c66fc8741a29ab22ffb98b08efec2a7fa5cf90e0243ce5cce3498919de6f6157d7b25086d073406c649eae57f551bf376840b6cbce5e316b5733ce2b169e0f7c4aebe78e9b7f1afee242e34f96c298d84539a1f4a033eb2d817d0377f240a463e5e6bcf847422ce1f2d1176b000000000000000000000000000000000001000200000001000000015a464431
def fuse1 : Nat := 0x1b0ebb6fbde46446d5d8e718d61767d00285eba1fb1e9be49fdadddeb976a1b3f
def waiting : State :=
  { up with bt := { up.bt with waitGo := true, booting := true, addr := 0x1000, len := 193, fk := [(0, fuse1)] } }

theorem test_image_passes_its_checks : waiting.imageCode img1 = 1 := by decide +kernel
theorem test_image_with_a_changed_byte_fails : waiting.imageCode (img1.take 192 ++ [0xAB]) = 0x11 := by decide +kernel

theorem witness_RegistersActAsTheirRulesSay :
    (up.powered domPCIE = true) ∧
    ({ up with pw := { up.pw with on := 1 } }.powered domPCIE = false ∧ 0xD000 ≤ (0xD000 : BitVec 16).toNat) ∧
    ((0 : BitVec 32).getLsbD 0 = false ∧ up.bt.waitGo = false) ∧
    ((1 : BitVec 32).getLsbD 0 = true ∧ waiting.bt.waitGo = true ∧ waiting.powered domPCIE = true ∧ waiting.bt.addr % 4 = 0 ∧
      img1.length = waiting.bt.len ∧ (img1.take 192 ++ [0xAB]).length = waiting.bt.len) ∧
    (waiting.imageCode img1 = 1 ∧ waiting.imageCode (img1.take 192 ++ [0xAB]) ≠ 1) :=
  ⟨by decide +kernel, by decide +kernel, by decide +kernel, by decide +kernel, test_image_passes_its_checks, by
    rw [test_image_with_a_changed_byte_fails]; decide⟩

def masked : State := up.setFn .pf0 { up.fnRegs .pf0 with pba := 1 <<< 31, catPending := 1 }
def holding : State :=
  { up.setRing 3 { Ring.fresh 1 with en := true } with
    host := { (up.setRing 3 { Ring.fresh 1 with en := true }).host with held := [⟨4, false, 0, []⟩, ⟨3, false, 0, []⟩] } }
def irqDue : State :=
  up.setRing 79 { Ring.fresh 1 with irqEn := true, irqTime := 5, counted := 1, firstAt := 5000 }

theorem witness_InterruptsAndHeldCompletions :
    (up.powered domPCIE = true ∧ bit (up.fnRegs .pf0).pba 0 = false ∧ bit (masked.fnRegs .pf0).pba 31 = true ∧
      masked.powered domPCIE = true) ∧
    ({ up with pw := { up.pw with on := 1 } }.powered domPCIE = false ∧ bit (up.getF Fld.catalogue.intPf 0) 0 = false ∧
      bit (masked.fnRegs .pf0).catPending 0 = true ∧ bit (masked.fnRegs .pf0).catPending 31 = false) ∧
    (holding.host.held = [⟨4, false, 0, []⟩] ++ ⟨3, false, 0, []⟩ :: [] ∧ (∀ x ∈ [(⟨4, false, 0, []⟩ : HeldEntry)], x.ring ≠ 3) ∧
      holding.ringRoom 3 = true) ∧
    ((irqDue.ring 79).irqEn = true ∧ (irqDue.ring 79).irqTime ≠ 0 ∧ (irqDue.ring 79).counted ≠ 0 ∧
      (irqDue.ring 79).firstAt + 1000 * (irqDue.ring 79).irqTime ≤ irqDue.tick) := by decide +kernel

/-! ### System commands and objects -/

theorem witness_SystemAndRoutingCommandsAnswer_1 :
    Admitted (.sysNop hd) hd up ∧ Admitted (.sysIdentify hd) hd up ∧ Admitted (.sysReset hdS 1) hdS up ∧
      Admitted (.sysReset hdS 2) hdS up ∧ (1 : BitVec 8).toNat ≤ 1 ∧ 1 < (2 : BitVec 8).toNat :=
  ⟨admitted_of (by decide +kernel), admitted_of (by decide +kernel), admitted_of (by decide +kernel),
    admitted_of (by decide +kernel), by decide +kernel, by decide +kernel⟩

theorem witness_SystemAndRoutingCommandsAnswer_2 :
    Admitted (.sysNotify hd 1) hd up ∧ Admitted (.ringAssign hd 6 0xFF) hd (ringIs 6 (Ring.fresh 1)) ∧
      Admitted (.ringAssign hdS 79 1) hdS up ∧ Admitted (.sysCancel hd 7) hd (withCmd (.sched 20000)) :=
  ⟨admitted_of (by decide +kernel), admitted_of (by decide +kernel), admitted_of (by decide +kernel),
    admitted_of (by decide +kernel)⟩

theorem witness_SystemAndRoutingCommandsAnswer_3 :
    (routeKnown 1 = true ∧ pathFn (.ring 0) = some .pf0 ∧ up.routeOwned .pf0 1 = true) ∧
    ((6 : BitVec 8).toNat = 6 ∧ ((ringIs 6 (Ring.fresh 1)).ring 6).owner ≠ 2 ∧ ((ringIs 6 (Ring.fresh 1)).ring 6).en = false ∧
      (ringIs 6 (Ring.fresh 1)).ringNamed 6 = false) ∧
    (8 ≤ (79 : BitVec 8).toNat ∧ (79 : BitVec 8).toNat ≤ 79 ∧ pathSecure hdS.path = true ∧ (up.ring 79).en = false ∧
      up.ringNamed 79 = false) := by decide +kernel

theorem witness_ObjectReadAndWriteFollowTheirRange :
    Admitted (.objRead hd 0x0B 7 0 16) hd up ∧ Admitted (.objRead (hdR 20) 0x0B 7 0 20) (hdR 20) up ∧
      Admitted (.objWrite hd 0x0F 0 0 4 0) hd up ∧ Admitted (.objWrite hd 0x13 0 0 4 3) hd up ∧
    ((7 : BitVec 16).toNat < objCount 0x0B ∧ up.powered (objDom 0x0B 7) = true ∧ rangeOk 0x0B 0 16 = true ∧
      isInline hd 16 = true ∧ rangeOk 0x0B 0 20 = true ∧ isInline (hdR 20) 20 = false ∧ (hdR 20).extlen = 20 ∧
      up.dataFits (hdR 20) 20 = true) :=
  ⟨admitted_of (by decide +kernel), admitted_of (by decide +kernel), admitted_of (by decide +kernel),
    admitted_of (by decide +kernel), by decide +kernel⟩

/-- The two cases of an OBJ_WRITE: an MTU of 9,001 is refused, one of 9,000 is not (R404). -/
theorem witness_ObjectWriteIsRefusedOrNot :
    let w := fun (v : Nat) =>
      let mask := ones Fld.eth.mtu.lsb 32
      let new := writtenImage 0x13 0 (up.obj 0x13 0) (v <<< Fld.eth.mtu.lsb) mask (up.nowMask (okey 0x13 0))
      (up.accepted (.sysNop hd) hd).writeRefused false 0x13 0 (up.obj 0x13 0) (v <<< Fld.eth.mtu.lsb) new mask
    w 9001 = some .badParam ∧ w 9000 = none := by decide +kernel

theorem witness_WrittenImageHasEveryKindOfBit :
    bit (fieldMask 0x13 0 (fun r => decide (r.acc = .rw))) 0 = true ∧ bit (fieldMask 0x0F 0 (fun r => decide (r.acc = .w1c)))
      Fld.time.pulseReject.lsb = true := by decide +kernel

theorem witness_FieldWritesTakeEffect_1 :
    up.Canonical ∧ Admitted (.inputEn hd 31 true) hd up ∧ up.Writable hd Fld.input.inputEn 31 1 ∧ up.inputState 31 = 1 ∧
      Admitted (.inputEn hd 0 false) hd up ∧ up.Writable hd Fld.input.inputEn 0 0 ∧
      Admitted (.fsc hd 95 240) hd up ∧ up.Writable hd Fld.output.fsc 95 240 :=
  ⟨canonical_of (by decide +kernel), admitted_of (by decide +kernel), writable_of (by decide +kernel), by decide +kernel,
    admitted_of (by decide +kernel), writable_of (by decide +kernel), admitted_of (by decide +kernel),
    writable_of (by decide +kernel)⟩

def bankOn : State := up.setF Fld.biasbank.state 3 3
def tpSet : State := up.setF (tpF 3 Fld.tp.start) 0 50000

theorem witness_FieldWritesTakeEffect_2 :
    Admitted (.bankEn hd 3 true) hd up ∧ up.Writable hd Fld.biasbank.bankEn 3 (b2n true) ∧
      Admitted (.slewEn hd 0 false) hd up ∧ up.Writable hd Fld.biasbank.slewEn 0 (b2n false) ∧
      Admitted (.inputCode hd 127 0xFFFFF) hd bankOn ∧ bankOn.Writable hd Fld.bias.inputCode 127 0xFFFFF ∧ bankOn.Canonical ∧
      Admitted (.tpEn hd 3 true) hd tpSet ∧ tpSet.Writable hd (tpF 3 Fld.tp.tpEn) 0 (b2n true) ∧
      Admitted (.domEn hd true true) hd up ∧ up.Writable hd Fld.time.domEnB 0 (b2n true) ∧
      Admitted (.ethMode hd 2 true) hd up ∧ up.powered domETH = true ∧ badEth (up.obj 0x13 0) = false :=
  ⟨admitted_of (by decide +kernel), writable_of (by decide +kernel), admitted_of (by decide +kernel),
    writable_of (by decide +kernel), admitted_of (by decide +kernel), writable_of (by decide +kernel),
    canonical_of (by decide +kernel), admitted_of (by decide +kernel), writable_of (by decide +kernel),
    admitted_of (by decide +kernel), writable_of (by decide +kernel), admitted_of (by decide +kernel), by decide +kernel,
    by decide +kernel⟩

/-! ### Power, time and memories -/

def inState (v : Nat) : State := up.setF Fld.thermal.powerState 0 v
def quietHold : State := { inState 2 with pw := { up.pw with hold := true } }
def job (k m e : Nat) : CalJob := ⟨k, m, 0, e, 1, 0, 0⟩
def working (k m e : Nat) : State := { up with cal := { up.cal with jobs := [job k m e] } }
def armed : State := up.setF Fld.curator.state 127 2

theorem witness_PowerCommands_1 :
    Admitted (.pwrState hd 0) hd up ∧ Admitted (.pwrState hd 1) hd (working 0 1 20000) ∧ Admitted (.pwrState hd 1) hd armed ∧
      Admitted (.pwrState hd 0) hd quietHold ∧ Admitted (.pwrState hd 1) hd (inState 2) ∧ Admitted (.pwrState hd 1) hd up ∧
      Admitted (.pwrState hd 0) hd (inState 1) ∧ Admitted (.pwrState hd 2) hd (inState 1) ∧ Admitted (.pwrState hd 3) hd up :=
  ⟨admitted_of (by decide +kernel), admitted_of (by decide +kernel), admitted_of (by decide +kernel),
    admitted_of (by decide +kernel), admitted_of (by decide +kernel), admitted_of (by decide +kernel),
    admitted_of (by decide +kernel), admitted_of (by decide +kernel), admitted_of (by decide +kernel)⟩

theorem witness_PowerCommands_2 :
    up.powerState = 0 ∧ ((working 0 1 20000).accepted (.pwrState hd 1) hd).foreground = true ∧
    (armed.powerState ≠ 2 ∧ armed.anyCurator = true ∧ (armed.accepted (.pwrState hd 1) hd).pwrBusy = false ∧
      (armed.accepted (.pwrState hd 1) hd).foreground = false) ∧
    (quietHold.powerState = 2 ∧ quietHold.pw.hold = true) ∧
    ((inState 2).powerState = 2 ∧ (inState 2).pw.hold = false ∧ (inState 2).convGood = true) ∧
    (up.anyCurator = false ∧ (inState 1).powerState = 1 ∧ (inState 1).anyCurator = false ∧ up.banksLive = false) := by
  decide +kernel

/-- A PWR_STATE at work. -/
def pwrWorking : State :=
  { up with cmd := { up.cmd with
      open_ := [⟨1, .pwrState hd 1, hd, 0, 0, .waiting, 0, 0, false, false⟩], timed := [⟨1, 20000, false, [], Reply.ok⟩], nextId := 2 } }

theorem witness_PowerCommands_3 :
    Admitted (.pwrDomain hd (2 ^ 55) 0) hd pwrWorking ∧
    Admitted (.pwrDomain hd (2 ^ 56) 0) hd up ∧ Admitted (.pwrDomain hd 4 0) hd up ∧
      Admitted (.pwrDomain hd (2 ^ 40) (2 ^ 40)) hd (inState 2) ∧ Admitted (.pwrDomain hd 8 0) hd up ∧
      Admitted (.pwrDomain hd (2 ^ 55) 0) hd up ∧ Admitted (.resume hd) hd up ∧
      Admitted (.resume hd) hd ((up.setF Fld.thermal.thermalState 0 2).setF Fld.thermal.tjMax 0 (85 * 256)) ∧
      Admitted (.resume hd) hd ((up.setF Fld.thermal.thermalState 0 3).setF Fld.thermal.tjMax 0 (85 * 256 - 1)) :=
  ⟨admitted_of (by decide +kernel), admitted_of (by decide +kernel), admitted_of (by decide +kernel), admitted_of (by decide +kernel),
    admitted_of (by decide +kernel), admitted_of (by decide +kernel), admitted_of (by decide +kernel),
    admitted_of (by decide +kernel), admitted_of (by decide +kernel)⟩

theorem witness_PowerCommands_4 :
    (2 ^ 56 ≤ (2 ^ 56 : BitVec 64).toNat ∧ (setPositions 4 56).any (fun d => decide (d < 3)) = true) ∧
    ((pwrWorking.accepted (.pwrDomain hd (2 ^ 55) 0) hd).pwrBusy = true) ∧
    ((up.accepted (.pwrDomain hd 8 0) hd).pwrBusy = false ∧ pathLost hd [3] = true ∧ pathLost hd [55] = false ∧
      (setPositions (2 ^ 40) 56).any (fun d => tileDomains.contains d) = true ∧ 1 < (inState 2).powerState) ∧
    (up.thermalState ≤ 1 ∧
      2 ≤ ((up.setF Fld.thermal.thermalState 0 2).setF Fld.thermal.tjMax 0 (85 * 256)).thermalState ∧
      85 * 256 ≤ ((up.setF Fld.thermal.thermalState 0 2).setF Fld.thermal.tjMax 0 (85 * 256)).getSF Fld.thermal.tjMax 0 ∧
      ((up.setF Fld.thermal.thermalState 0 3).setF Fld.thermal.tjMax 0 (85 * 256 - 1)).getSF Fld.thermal.tjMax 0 < 85 * 256) := by
  decide +kernel

theorem witness_PowerOffForgetsTheDomainsObjects :
    65535 < 65536 ∧ objDom 0x13 0 ≠ domAON ∧ up.powered (objDom 0x13 0) = true := by decide +kernel

def bLocked : State := up.setDomState true 2
def stamped : State := { up with tm := { up.tm with stamps := [(15, 160000, 1)] } }

theorem witness_TimeCommandsAnswerOrAreScheduled :
    Admitted (.timeRead hd) hd up ∧ Admitted (.timeSetEpoch hd 5) hd up ∧ Admitted (.timeSwitch hd 1 false 0) hd up ∧
      Admitted (.timeSwitch hd 1 true 1) hd bLocked ∧ Admitted (.timeSwitch hd 1 true 11000) hd bLocked ∧
      Admitted (.timeCaptureRead hd 0x8000) hd stamped ∧ Admitted (.timeCaptureRead (hdR 64) 0x8000) (hdR 64) stamped ∧
    (up.domState true ≠ 2 ∧ bLocked.domState true = 2 ∧ bLocked.tickParam 1 = none ∧ bLocked.tickParam 11000 = some 11000 ∧
      (stamped.stampRecord 15).2.length ≤ 64 ∧ 0 < (stamped.stampRecord 15).2.length ∧
      stamped.dataFits (hdR 64) (stamped.stampRecord 15).2.length = true) :=
  ⟨admitted_of (by decide +kernel), admitted_of (by decide +kernel), admitted_of (by decide +kernel),
    admitted_of (by decide +kernel), admitted_of (by decide +kernel), admitted_of (by decide +kernel),
    admitted_of (by decide +kernel), by decide +kernel⟩

def four : List Byte := [1, 2, 3, 4]

theorem witness_MemoryLoadsAndReadsMoveTheirWords :
    Admitted (.archiveLoad (hdX four) 95 65535 1) (hdX four) up ∧ Admitted (.archiveRead (hdR 4) 0 0 1) (hdR 4) up ∧
      Admitted (.kernelLoad (hdX four) 1048575 1) (hdX four) up ∧ Admitted (.kernelRead (hdR 4) 0 1) (hdR 4) up ∧
    (up.powered (bankDom 95) = true ∧ memBad 65536 65535 1 4 true = false ∧ memBad 65536 0 1 4 false = false ∧
      up.powered domARC1 = true ∧ memBad 1048576 1048575 1 4 true = false ∧ memBad 1048576 0 1 4 false = false ∧
      up.dataFits (hdR 4) 4 = true ∧ (readWords up.arc.words up.arc.wordErr 0 1).length = 4 ∧
      (readWords up.arc.kern up.arc.kernErr 0 1).length = 4) :=
  ⟨admitted_of (by decide +kernel), admitted_of (by decide +kernel), admitted_of (by decide +kernel),
    admitted_of (by decide +kernel), by decide +kernel⟩

theorem witness_ArchiveLoadWritesExactlyItsRange :
    Admitted (.archiveLoad (hdX four) 95 65535 1) (hdX four) up ∧ (hdX four).ext.length = 4 * (1 : BitVec 32).toNat ∧
      swf (fun _ => 0) up.arc.words = true :=
  ⟨admitted_of (by decide +kernel), by decide +kernel, by decide +kernel⟩

/-! ### Outputs, frames and commits -/

/-- The domains that a mask leaves off. -/
def offDoms (m : Nat) : State := { up with pw := { up.pw with on := (2 ^ 56 - 1) - m } }
def fscOver : State := { up.setF Fld.output.state 95 3 with drv := { up.drv with fscEnd := [(95, 10000)] } }

theorem witness_OutputStatesFollowTheirCommands :
    Admitted (.outputEnable hd (2 ^ 95)) hd (offDoms (2 ^ domDT 23)) ∧
      Admitted (.outputEnable hd 1) hd { up with pw := { up.pw with hold := true } } ∧ Admitted (.outputEnable hd 1) hd up ∧
      Admitted (.outputDisable hd (2 ^ 95)) hd up ∧ fscOver.Canonical ∧ fscOver.fscEndDue 95 = true ∧
    ((setPositions (2 ^ 95) 96).any (fun o => !(offDoms (2 ^ domDT 23)).powered (domDT (dtOfOutput o))) = true ∧
      (setPositions 1 96).any (fun o => !up.powered (domDT (dtOfOutput o))) = false ∧ up.pw.hold = false ∧
      (setPositions 1 96).any (fun o => up.tm.unlocked || !carrierOk (up.outMode o) (up.getL Fld.output.carrier o)) = false ∧
      (setPositions 1 96).any up.outputInCal = false ∧
      (setPositions (2 ^ 95) 96).any (fun o => !up.powered (domDT (dtOfOutput o))) = false) :=
  ⟨admitted_of (by decide +kernel), admitted_of (by decide +kernel), admitted_of (by decide +kernel),
    admitted_of (by decide +kernel), canonical_of (by decide +kernel), by decide +kernel, by decide +kernel⟩

def dirtyOut : State := up.setF Fld.output.dirty 0 1
def dirtyOff : State := { dirtyOut with pw := { up.pw with on := (2 ^ 56 - 1) - 2 ^ domDT 0 } }
def commit1 (k t : Nat) (caps : List (Nat × Nat)) : Commit := ⟨t, 1, k, caps, false, [], 0, 0, 0⟩
def withCommits (n : Nat) : State := { up with cmd := { up.cmd with commits := List.replicate n (commit1 2 20000 []) } }

theorem witness_CommitCommandsCaptureAndWait_1 :
    Admitted (.outputCommit hd 0) hd dirtyOff ∧ Admitted (.outputCommit hd 0) hd (withCommits 16) ∧
      Admitted (.outputCommit hd 10999) hd (withCommits 15) ∧ Admitted (.outputCommit hd 11000) hd dirtyOut ∧
      Admitted (.frameCommit hd 11000 true) hd up ∧ Admitted (.biasCommit hd 11000) hd up ∧ Admitted (.catCommit hd 11000) hd up ∧
      Admitted (.readoutCommit hd 11000) hd up ∧ Admitted (.discRebase (hdX (List.replicate 64 255)) 11000) (hdX (List.replicate 64 255)) up ∧
      Admitted (.cpCommit hd 11000) hd up :=
  ⟨admitted_of (by decide +kernel), admitted_of (by decide +kernel), admitted_of (by decide +kernel),
    admitted_of (by decide +kernel), admitted_of (by decide +kernel), admitted_of (by decide +kernel),
    admitted_of (by decide +kernel), admitted_of (by decide +kernel), admitted_of (by decide +kernel),
    admitted_of (by decide +kernel)⟩

theorem witness_CommitCommandsCaptureAndWait_2 :
    (dirtyOff.anyOff (dirtyOff.dirtyKeys Fld.output.dirty ++ dirtyOff.dirtyKeys Fld.slot.dirty) = true) ∧
    ((withCommits 16).anyOff ((withCommits 16).dirtyKeys Fld.output.dirty ++ (withCommits 16).dirtyKeys Fld.slot.dirty) = false ∧
      (withCommits 16).commitsFull = true ∧ (withCommits 15).commitsFull = false ∧ (withCommits 15).tickParam 10999 = none) ∧
    (dirtyOut.anyOff (dirtyOut.dirtyKeys Fld.output.dirty ++ dirtyOut.dirtyKeys Fld.slot.dirty) = false ∧
      dirtyOut.commitsFull = false ∧ dirtyOut.tickParam 11000 = some 11000) ∧
    (up.anyOff (up.dirtyKeys Fld.frame.dirty) = false ∧ up.commitsFull = false ∧ up.tickParam 11000 = some 11000) ∧
    (up.anyOff (up.dirtyKeys Fld.biasbank.dirty) = false ∧
      (up.dirtyKeys Fld.biasbank.dirty).any (fun k => up.spanRefused (k % 65536)) = false) ∧
    ((hdX (List.replicate 64 255)).extlen.toNat = 64 ∧ up.channelOff (channelMask (List.replicate 64 255)) = false ∧
      up.anyOff (up.dirtyKeys Fld.courier.dirty) = false) := by decide +kernel

def dueCommit (k : Nat) (caps : List (Nat × Nat)) : State := { up with cmd := { up.cmd with commits := [commit1 k 10000 caps] } }

theorem witness_DueCommitActsAndCompletes :
    (dueCommit 2 []).cmd.commits.find? (commitDue up.tick) = some (commit1 2 10000 []) ∧ (commit1 2 10000 []).kind = 2 ∧
      (∀ c ∈ (withCommits 1).cmd.commits, (withCommits 1).tick < c.tick) := by decide +kernel

theorem witness_FrameCommitSetsTheLiveFrame :
    (dueCommit 1 [(okey 0x04 4094, 5)]).cmd.commits.find? (commitDue (dueCommit 1 [(okey 0x04 4094, 5)]).tick) =
        some (commit1 1 10000 [(okey 0x04 4094, 5)]) ∧
      4094 < 4095 ∧ swf objDefault (dueCommit 1 [(okey 0x04 4094, 5)]).live = true ∧
      okey 0x04 4093 ≠ okey 0x04 4094 ∧ (commit1 1 10000 [(okey 0x04 4094, 5)]).keep = false ∧
      heldFrame (up.liveObj 0x41 4094) = none ∧ heldFrame ((up.setLiveObj 0x41 4094 (2 ^ 512 + 7)).liveObj 0x41 4094) = some 7 := by
  decide +kernel

/-- A FRAME_OP executes after the scheduled commands of its tick, from phase 8 on. -/
def late8 : State := { up with phase := 8 }

theorem witness_FrameOpAndGroupMaskActAtOnce :
    Admitted (.frameOp hd 0 6 0) hd late8 ∧ Admitted (.frameOp hd 4096 1 0) hd late8 ∧ Admitted (.frameOp hd 4095 5 0) hd late8 ∧
      Admitted (.frameOp hd 4094 0 0) hd late8 ∧ Admitted (.frameOp hd 0 1 0xFFFF) hd late8 ∧ Admitted (.frameOp hd 0 5 1) hd late8 ∧
      Admitted (.catGroup hd 0xFFFF) hd up ∧ Admitted (.frameOp hd 4094 1 0) hd { offDoms (2 ^ domMGMT0) with phase := 8 } ∧
      ({ offDoms (2 ^ domMGMT0) with phase := 8 }).powered domMGMT0 = false ∧ late8.powered domMGMT0 = true :=
  ⟨admitted_of (by decide +kernel), admitted_of (by decide +kernel), admitted_of (by decide +kernel),
    admitted_of (by decide +kernel), admitted_of (by decide +kernel), admitted_of (by decide +kernel),
    admitted_of (by decide +kernel), admitted_of (by decide +kernel), by decide +kernel, by decide +kernel⟩

theorem witness_FrameOperationsSetTheOffset : 2 ^ 256 - 1 < 2 ^ 256 ∧ 0xFFFF < 2 ^ 16 := by decide +kernel

/-- The worked example of the command reference: SHIFT of F24 by +0.25 turn raises its offset by 0x4000_0000 (R54). -/
theorem test_frame_shift_quarter_turn :
    frameOff (frameOpImage (up.liveObj 0x04 24) 1 0x4000 32000000).1 = 0x40000000 := by decide +kernel

def inhibited : State := up.setF Fld.thermal.nvInhibit 0 1
def nvWorking : State := { up with cmd := { up.cmd with timed := [⟨1, 20000, true, [], Reply.ok⟩] } }
def allCh : Hdr := hdX (List.replicate 64 255)
def oneCh : Hdr := hdX (1 :: List.replicate 63 0)

theorem witness_SeedStoreAndRestoreWork :
    Admitted (.discSeedStore allCh) allCh inhibited ∧ Admitted (.discSeedStore oneCh) oneCh nvWorking ∧
      Admitted (.discSeedStore allCh) allCh up ∧ Admitted (.discSeedRestore oneCh) oneCh up ∧
    (allCh.extlen.toNat = 64 ∧ oneCh.extlen.toNat = 64 ∧ inhibited.channelOff (channelMask allCh.ext) = false ∧
      nvWorking.channelOff (channelMask oneCh.ext) = false ∧
      inhibited.flag Fld.thermal.nvInhibit 0 = true ∧ nvWorking.flag Fld.thermal.nvInhibit 0 = false ∧ nvWorking.nvBusy = true ∧
      up.nvBusy = false ∧ up.flag Fld.thermal.nvInhibit 0 = false) :=
  ⟨admitted_of (by decide +kernel), admitted_of (by decide +kernel), admitted_of (by decide +kernel),
    admitted_of (by decide +kernel), by decide +kernel⟩

def code : List Byte := [0xFF, 0xFF, 0x0F, 0]

theorem witness_BiasCommandsWriteStrobeAndClear :
    Admitted (.biasWrite (hdX code) 3 31 1 true) (hdX code) up ∧ Admitted (.biasWrite (hdX code) 3 31 1 false) (hdX code) bankOn ∧
      Admitted (.biasWrite (hdX code) 3 31 1 true) (hdX code) bankOn ∧ Admitted (.biasStrobe hd (2 ^ 127)) hd up ∧
      Admitted (.biasClear hd 16) hd up ∧ Admitted (.biasClear hd 15) hd up ∧
    ((hdX code).extlen.toNat = 4 * (1 : BitVec 8).toNat ∧ (words32 code).any (fun w => decide (2 ^ 20 ≤ w)) = false ∧
      up.powered (domBB 3) = true ∧ up.inputBlocked 3 = true ∧ bankOn.inputBlocked 3 = false ∧
      ([0, 1, 2, 3].filter (fun k => decide (bits (2 ^ 127) (32 * k) 32 ≠ 0))).any (fun k => !up.powered (domBB k)) = false ∧
      (setPositions 15 4).any (fun k => !up.powered (domBB k)) = false) :=
  ⟨admitted_of (by decide +kernel), admitted_of (by decide +kernel), admitted_of (by decide +kernel),
    admitted_of (by decide +kernel), admitted_of (by decide +kernel), admitted_of (by decide +kernel), by decide +kernel⟩

/-! ### Curators: their commands -/

def setCur (c st : Nat) (r : CurRt) : State := (up.setF Fld.curator.state c st).setCurRt c r
def loaded : State := up.setF Fld.curator.state 127 1
def onlyC0 : State := offDoms (2 ^ domCC 7)
def badSig : State := setCur 127 0 { CurRt.idle with verifyFailed := true }
def held : State := { loaded with pw := { up.pw with hold := true } }
def unlocked : State := { loaded with tm := { up.tm with unlocked := true } }

theorem witness_CuratorCommands_1 :
    Admitted (.curStart hd 0 0) hd up ∧ Admitted (.curStart hd 1 1) hd up ∧ Admitted (.curStart hd (2 ^ 127) 0) hd onlyC0 ∧
      Admitted (.curStart hd (2 ^ 127) 0) hd held ∧ Admitted (.curStart hd (2 ^ 127) 0) hd unlocked ∧
      Admitted (.curStart hd (2 ^ 127) 0) hd badSig ∧ Admitted (.curStart hd (2 ^ 127) 0) hd armed ∧
      Admitted (.curStart hd (2 ^ 127) 10998) hd loaded ∧ Admitted (.curStart hd (2 ^ 127) 11000) hd loaded :=
  ⟨admitted_of (by decide +kernel), admitted_of (by decide +kernel), admitted_of (by decide +kernel),
    admitted_of (by decide +kernel), admitted_of (by decide +kernel), admitted_of (by decide +kernel),
    admitted_of (by decide +kernel), admitted_of (by decide +kernel), admitted_of (by decide +kernel)⟩

theorem witness_CuratorCommands_2 :
    let off := fun (s : State) => [127].filter (fun c => !s.powered (domCC (clusterOf c)))
    let sig := fun (s : State) => [127].filter (fun c => decide (s.curState c = 0) && (s.curRt c).verifyFailed)
    let bad := fun (s : State) => [127].filter (fun c => !(s.curState c = 1 || s.curState c = 4 || s.curState c = 5))
    setPositions (2 ^ 127) 128 = [127] ∧ off onlyC0 = [127] ∧ (off held = [] ∧ held.pw.hold = true) ∧
      (off unlocked = [] ∧ unlocked.pw.hold = false ∧ unlocked.tm.unlocked = true) ∧
      (off badSig = [] ∧ badSig.tm.unlocked = false ∧ sig badSig = [127]) ∧ (sig armed = [] ∧ bad armed = [127]) ∧
      (off loaded = [] ∧ sig loaded = [] ∧ bad loaded = [] ∧ loaded.pw.hold = false ∧ loaded.tm.unlocked = false) ∧
      10998 < loaded.tick + 1000 ∧ loaded.tick + 1000 ≤ 11000 := by decide +kernel

/-- An image of one word for curator 0, as R141 lays it out. -/
def accImage (flags : Nat) : List Byte :=
  leBytes 4 0x5A464331 ++ leBytes 2 1 ++ leBytes 2 flags ++ leBytes 16 1 ++ leBytes 2 1 ++ leBytes 2 0 ++ leBytes 100 0 ++ leBytes 20 5
def hdAcc : Hdr := hdX (accImage 0)
def running0 : State := setCur 0 3 { CurRt.idle with nextAt := some 10000 }
def policyOn : State := up.nvWrite nvPolicy 1 1

theorem witness_CuratorCommands_3 :
    Admitted (.curStop hd 1 0 false) hd up ∧ Admitted (.curStop hd 1 0 false) hd running0 ∧ Admitted (.curBarrier hd 0 1) hd up ∧
      Admitted (.curBarrier hd 16 1) hd up ∧ Admitted (.curBarrier hd 15 1) hd running0 ∧ Admitted (.curBarrier hd 1 1) hd up ∧
      Admitted (.curReadback (hdR 20) 127 4095 1) (hdR 20) up ∧ Admitted (.curAccession (hdX four)) (hdX four) up ∧
      Admitted (.curAccession hdAcc) hdAcc running0 ∧ Admitted (.curAccession hdAcc) hdAcc policyOn ∧
      Admitted (.curAccession hdAcc) hdAcc up :=
  ⟨admitted_of (by decide +kernel), admitted_of (by decide +kernel), admitted_of (by decide +kernel),
    admitted_of (by decide +kernel), admitted_of (by decide +kernel), admitted_of (by decide +kernel),
    admitted_of (by decide +kernel), admitted_of (by decide +kernel), admitted_of (by decide +kernel),
    admitted_of (by decide +kernel), admitted_of (by decide +kernel)⟩

theorem witness_CuratorCommands_4 :
    let act := fun (s : State) => (setPositions 1 128).filter (fun c => s.powered (domCC (clusterOf c)) && s.curActive c)
    (act up = [] ∧ act running0 = [0] ∧ running0.curState 0 = 3 ∧ up.barrierMask 1 = 0) ∧
    (20 ≤ (hdR 20).extlen.toNat ∧ up.powered (domCC (clusterOf 127)) = true ∧ up.dataFits (hdR 20) 20 = true) ∧
    (imageOk four 4 = false ∧ imageOk (accImage 0) 148 = true ∧ setPositions (imgLe (accImage 0) 8 16) 128 = [0] ∧
      up.powered (domCC (clusterOf 0)) = true ∧ running0.curActive 0 = true ∧ up.curActive 0 = false ∧
      policyOn.policy = true ∧ up.policy = false ∧ imgLe (accImage 0) 6 2 % 2 = 0 ∧
      (up.accepted (.curAccession hdAcc) hdAcc).accessionBusy = false) := by decide +kernel

/-! ### Observers, calibration, ledger, links and secure commands -/

/-- Vitrine 7 on input 0, which runs, with one tick after its trigger and delivery to ring 72. -/
def vitReady : State :=
  ((up.setF Fld.vitrine.postTicks 7 1).setF Fld.input.state 0 3).setRing 72 { Ring.fresh 1 with en := true }
def vitArmed (r : ViRun) : State := (up.setF Fld.vitrine.state 7 1).setViRun 7 r

theorem witness_VitrineCommandsArmTriggerAndAbort :
    Admitted (.vitArm hd (1 <<< (7 : Fin 8).val) 0) hd (up.setF Fld.vitrine.postTicks 7 0) ∧ Admitted (.vitArm hd (1 <<< (7 : Fin 8).val) 10999) hd vitReady ∧
      Admitted (.vitArm hd (1 <<< (7 : Fin 8).val) 11000) hd vitReady ∧ Admitted (.vitTrigger hd (1 <<< (7 : Fin 8).val)) hd (offDoms (2 ^ domVIT)) ∧
      Admitted (.vitTrigger hd (1 <<< (7 : Fin 8).val)) hd (vitArmed { ViRun.none with started := true }) ∧
      Admitted (.vitTrigger hd (1 <<< (7 : Fin 8).val)) hd up ∧ Admitted (.vitAbort hd 255) hd up ∧
    (let c := vitReady.obj 0x0C 7
     badVitArm ((up.setF Fld.vitrine.postTicks 7 0).obj 0x0C 7) = true ∧ badVitArm c = false ∧ vitReady.powered domVIT = true ∧ vitReady.powered (viDom c) = true ∧
      viMaskEn c = false ∧ vitReady.viSourceOk c = true ∧ vitReady.viState 7 = 0 ∧ (vitReady.ring (viRing c)).owner ≠ 0 ∧
      (vitReady.ring (viRing c)).en = true ∧ (∀ w : Fin 8, w ≠ 7 → vitReady.viState w.val = 0) ∧
      10999 < vitReady.armEarliest [c] ∧ vitReady.armEarliest [c] ≤ 11000) ∧
    ((offDoms (2 ^ domVIT)).powered domVIT = false ∧ (vitArmed { ViRun.none with started := true }).viState 7 = 1 ∧
      viTakes ((vitArmed { ViRun.none with started := true }).viRun 7) 10000 = true ∧ up.viState 7 = 0) :=
  ⟨admitted_of (by decide +kernel), admitted_of (by decide +kernel), admitted_of (by decide +kernel),
    admitted_of (by decide +kernel), admitted_of (by decide +kernel), admitted_of (by decide +kernel),
    admitted_of (by decide +kernel), by decide +kernel, by decide +kernel⟩

/-- Streams on input 0, which runs, to ring 8: at full rate, and reduced. -/
def svReady (d : Nat) : State :=
  (((up.setF Fld.survey.decimM1 63 d).setF Fld.survey.ratio 63 (2 ^ 32)).setF Fld.input.state 0 3).setRing 8 { Ring.fresh 1 with en := true }
def svOn : State := up.setF Fld.survey.state 63 2


theorem witness_SurveyAndAppraiserCommands_1 :
    Admitted (.surveyStart hd 0 0) hd up ∧ Admitted (.surveyStart hd (2 ^ 63) 0) hd (svReady 0) ∧
      Admitted (.surveyStart hd (2 ^ 63) 11000) hd (svReady 3) ∧ Admitted (.surveyStop hd (2 ^ 63) 0) hd up ∧
      Admitted (.surveyStop hd (2 ^ 63) 10001) hd svOn :=
  ⟨admitted_of (by decide +kernel), admitted_of (by decide +kernel), admitted_of (by decide +kernel),
    admitted_of (by decide +kernel), admitted_of (by decide +kernel)⟩

theorem witness_SurveyAndAppraiserCommands_2 :
    let c := fun (d : Nat) => (svReady d).obj 0x0A 63
    let busy := fun (s : State) => (List.range 64).filter (fun n => decide (s.svState n ≠ 0) || bit (2 ^ 63) n)
    let r := fun (d : Nat) => rateSum ((busy (svReady d)).map ((svReady d).obj 0x0A))
    (setPositions (2 ^ 63) 64 = [63] ∧ (svReady 0).powered domVIT = true ∧ (svReady 0).powered (domAT (svInput (c 0) / 4)) = true ∧
      (svReady 0).svState 63 = 0 ∧ (svReady 0).inputState (svInput (c 0)) = 3 ∧ (svReady 0).svDestOk (c 0) = true ∧
      256 * 2 ^ 32 * (r 0).2 < 1000 * (r 0).1) ∧
    (1000 * (r 3).1 ≤ 256 * 2 ^ 32 * (r 3).2 ∧ (svReady 3).svDestOk (c 3) = true ∧ (svReady 3).tickParam 11000 = some 11000) ∧
    ((setPositions (2 ^ 63) 64).filter (fun n => decide (up.svState n ≠ 0)) = [] ∧
      (setPositions (2 ^ 63) 64).filter (fun n => decide (svOn.svState n ≠ 0)) = [63] ∧
      (sget (fun _ => (0, 0)) svOn.sv.stop 63).1 = 0 ∧ svOn.tick < 10001) := by decide +kernel

def apIn (st : Nat) (r : ApRun) : State :=
  ((up.setF Fld.appraiser.recipe 7 3).setF Fld.appraiser.state 7 st).setApRun 7 r
def apTrg : State := (apIn 0 ApRun.none).setF Fld.appraiser.trigEn 7 1

theorem witness_SurveyAndAppraiserCommands_3 :
    Admitted (.appStart hd 7 0 0) hd (apIn 4 ApRun.none) ∧ Admitted (.appStart hd 7 0 0) hd (apIn 2 ApRun.none) ∧
      Admitted (.appStart hd 7 0 0) hd apTrg ∧ Admitted (.appStart hd 7 11000 0) hd (apIn 3 ApRun.none) ∧
      Admitted (.appStop hd 7 0) hd (apIn 0 ApRun.none) ∧ Admitted (.appStop hd 7 0) hd (apIn 1 ApRun.none) ∧
      Admitted (.appRead (hdR 4096) 7) (hdR 4096) (apIn 2 ApRun.none) ∧
      Admitted (.appRead (hdR 4096) 7) (hdR 4096) (apIn 3 ApRun.none) :=
  ⟨admitted_of (by decide +kernel), admitted_of (by decide +kernel), admitted_of (by decide +kernel),
    admitted_of (by decide +kernel), admitted_of (by decide +kernel), admitted_of (by decide +kernel),
    admitted_of (by decide +kernel), admitted_of (by decide +kernel)⟩

theorem witness_SurveyAndAppraiserCommands_4 :
    (badAppStart 7 ((apIn 4 ApRun.none).obj 0x0B 7) = false ∧ (apIn 4 ApRun.none).powered (domAT 7) = true ∧
      (apIn 4 ApRun.none).apState 7 = 4 ∧ (apIn 2 ApRun.none).apState 7 = 2) ∧
    (badAppStart 7 (apTrg.obj 0x0B 7) = false ∧ fieldOf Fld.appraiser.trigEn (apTrg.obj 0x0B 7) = 1 ∧ apTrg.apState 7 = 0 ∧
      fieldOf Fld.appraiser.trigEn ((apIn 3 ApRun.none).obj 0x0B 7) ≠ 1 ∧ (apIn 3 ApRun.none).tickParam 11000 = some 11000) ∧
    ((apIn 1 ApRun.none).apState 7 = 1 ∧ ((apIn 1 ApRun.none).apRun 7).bound = none) ∧
    (apLength ((apIn 3 ApRun.none).apRun 7).cfg ≤ (hdR 4096).extlen.toNat ∧
      (let q := ((apIn 3 ApRun.none).accepted (.appRead (hdR 4096) 7) (hdR 4096)).nextSeq 80
       (apIn 3 ApRun.none).dataFits (hdR 4096) (q.2.apRecord 7 q.1).length = true)) := by decide +kernel

def inputRun (st : Nat) : State := up.setF Fld.input.state 31 st
def corrected : State := { up with cal := { up.cal with corr := [(31, 1, 5, -3)] } }

theorem witness_CalibrationCommands_1 :
    Admitted (.calOutput hd (2 ^ 95)) hd (up.setF Fld.output.fscBusy 95 1) ∧ Admitted (.calOutput hd (2 ^ 95)) hd up ∧
      Admitted (.calInput hd (2 ^ 31)) hd up ∧ Admitted (.calInput hd (2 ^ 31)) hd (inputRun 3) ∧ Admitted (.calBias hd 8) hd up ∧
      Admitted (.calBias hd 8) hd bankOn ∧ Admitted (.calSysZero hd 31) hd up ∧ Admitted (.calSysZero hd 31) hd (inputRun 3) ∧
      Admitted (.calSysStore hd (2 ^ 31)) hd inhibited ∧ Admitted (.calSysStore hd (2 ^ 31)) hd corrected :=
  ⟨admitted_of (by decide +kernel), admitted_of (by decide +kernel), admitted_of (by decide +kernel),
    admitted_of (by decide +kernel), admitted_of (by decide +kernel), admitted_of (by decide +kernel),
    admitted_of (by decide +kernel), admitted_of (by decide +kernel), admitted_of (by decide +kernel),
    admitted_of (by decide +kernel)⟩

theorem witness_CalibrationCommands_2 :
    let os := fun (s : State) => (setPositions (2 ^ 95) 96).any (fun o => s.outputInCal o || s.flag Fld.output.fscBusy o)
    let is := fun (s : State) => (setPositions (2 ^ 31) 32).any (fun i => decide (s.inputState i ≠ 3) || s.inputInJob [1, 3, 4] i)
    (os (up.setF Fld.output.fscBusy 95 1) = true ∧ os up = false ∧ up.powered (domDT (dtOfOutput 95)) = true ∧
      up.getF Fld.output.state 95 = 1) ∧
    (is up = true ∧ is (inputRun 3) = false ∧ up.powered (domAT (atOfInput 31)) = true) ∧
    (up.bankState 3 ≠ 3 ∧ bankOn.bankState 3 = 3 ∧ up.powered (domBB 3) = true) ∧
    (up.sysRefused 31 = some .state ∧ (inputRun 3).sysRefused 31 = none) ∧
    (inhibited.flag Fld.thermal.nvInhibit 0 = true ∧ corrected.flag Fld.thermal.nvInhibit 0 = false ∧ corrected.nvBusy = false) := by
  decide +kernel

def zeroed : State := { inputRun 3 with cal := { up.cal with zeros := [(31, (inputRun 3).inputSet 31, -7)] } }
/-- Amplitudes that give expected levels of -100 and -99 centibels (R481). -/
def ampl (s : State) (l : Int) : BitVec 16 := BitVec.ofInt 16 (l + (97 + 100 * ((s.inputSet 31).2.2 : Int)))
def cw (s : State) : BitVec 48 := BitVec.ofNat 48 (s.inputSet 31).1

theorem witness_CalibrationCommands_3 :
    Admitted (.calSysFull hd 31 (ampl up (-99)) (cw up)) hd up ∧
      Admitted (.calSysFull hd 31 (ampl (inputRun 3) (-100)) (cw (inputRun 3))) hd (inputRun 3) ∧
      Admitted (.calSysFull hd 31 (ampl zeroed (-2000)) (cw zeroed)) hd zeroed ∧
    (up.expectedLevel 31 (ampl up (-99)).toNat = -99 ∧
      (inputRun 3).expectedLevel 31 (ampl (inputRun 3) (-100)).toNat = -100 ∧
      (inputRun 3).toneFar 31 (cw (inputRun 3)).toNat = false ∧
      (inputRun 3).zeroFor 31 = false ∧ (inputRun 3).sysRefused 31 = none ∧ up.toneFar 31 (cw up).toNat = false ∧
        up.sysRefused 31 = some .state ∧
      zeroed.expectedLevel 31 (ampl zeroed (-2000)).toNat = -2000 ∧ zeroed.sysRefused 31 = none ∧
      zeroed.zeroFor 31 = true) :=
  ⟨admitted_of (by decide +kernel), admitted_of (by decide +kernel), admitted_of (by decide +kernel), by decide +kernel⟩

def ldgIs (st : Nat) (w : List (Nat × Nat × Nat × Nat)) : State :=
  { up with ldg := { up.ldg with st := st, tick := 10000, num := 7, waiting := w } }

theorem witness_LedgerCommandsAndSnapshots :
    Admitted (.ldgSnap hd 0 false) hd (ldgIs 2 []) ∧ Admitted (.ldgSnap hd 0 false) hd (ldgIs 1 []) ∧
      Admitted (.ldgSnap hd 11000 false) hd up ∧ Admitted (.ldgRead hd 0x05 0 0) hd up ∧
      Admitted (.ldgRead (hdR 160) 0x05 12 1) (hdR 160) up ∧ Admitted (.ldgRead (hdR 160) 0x05 127 1) (hdR 160) (ldgIs 2 []) ∧
      Admitted (.ldgStatus hd) hd up ∧ Admitted (.ldgStatus hd) hd (ldgIs 2 []) ∧
    (up.tickParam 11000 = some 11000 ∧ up.ldg.st = 0 ∧ unitInstances 0x05 = (0, 128) ∧ recordLength 0x05 1 ≤ 160 ∧
      (let q := ((ldgIs 2 []).accepted (.ldgRead (hdR 160) 0x05 127 1) (hdR 160)).nextSeq 81
       (ldgIs 2 []).dataFits (hdR 160) (q.2.ledgerRecord 0x05 127 1 q.1).length = true)) ∧
    ((ldgIs 1 []).ldg.tick ≤ (ldgIs 1 []).tick ∧ up.ldg.mirrorAt + 1000 ≤ up.tick ∧
      ({ up with ldg := { up.ldg with mirrorAt := 9001 } }).tick < 9001 + 1000 ∧
      ({ ldgIs 2 [] with ldg := { (ldgIs 2 []).ldg with events := 1 } }).ldg.st ≠ 0 ∧
      ({ up with ldg := { up.ldg with events := 1 } }).ldg.st = 0) :=
  ⟨admitted_of (by decide +kernel), admitted_of (by decide +kernel), admitted_of (by decide +kernel),
    admitted_of (by decide +kernel), admitted_of (by decide +kernel), admitted_of (by decide +kernel),
    admitted_of (by decide +kernel), admitted_of (by decide +kernel), by decide +kernel, by decide +kernel⟩

/-- The record of the ledger's worked example is 160 bytes (R373). -/
theorem test_ledger_record_length : recordLength 0x05 1 = 160 := by decide +kernel

theorem witness_LedgerReleaseFreesAHeldLedger :
    Admitted (.ldgRelease hd) hd up ∧ Admitted (.ldgRelease hd) hd (ldgIs 2 []) ∧
      (up.ldg.st = 0 ∧ (ldgIs 2 []).ldg.st = 2 ∧ (ldgIs 2 []).ldg.events = 0) :=
  ⟨admitted_of (by decide +kernel), admitted_of (by decide +kernel), by decide +kernel⟩

def linkIs (v : Nat) : State := up.setF Fld.courier.linkState 3 v

theorem witness_CourierLinkCommandMovesItsPort :
    Admitted (.cpLink hd (1 <<< (3 : Fin 4).val) (1 <<< (3 : Fin 4).val)) hd (offDoms (2 ^ domCP 3)) ∧
      Admitted (.cpLink hd (1 <<< (3 : Fin 4).val) (1 <<< (3 : Fin 4).val)) hd (linkIs 3) ∧
      Admitted (.cpLink hd (1 <<< (3 : Fin 4).val) (1 <<< (3 : Fin 4).val)) hd up ∧
      Admitted (.cpLink hd (1 <<< (3 : Fin 4).val) 0) hd (linkIs 3) ∧ up.Canonical ∧
      ((offDoms (2 ^ domCP 3)).powered (domCP 3) = false ∧ (linkIs 3).linkState 3 = 3 ∧ up.linkState 3 = 0) :=
  ⟨admitted_of (by decide +kernel), admitted_of (by decide +kernel), admitted_of (by decide +kernel),
    admitted_of (by decide +kernel), canonical_of (by decide +kernel), by decide +kernel⟩

def hdSX (l : List Byte) : Hdr := { hdS with extptr := 0x1000, extlen := BitVec.ofNat 32 l.length, ext := l }
/-- The generator of P-256 as a public key. -/
def key1 : List Byte := (leBytes 64 (pGx * 2 ^ 256 + pGy)).reverse
def fused : State := { up with bt := { up.bt with fk := [(0, fuse1)] } }
def prod : State := { up with bt := { up.bt with lifecycle := 2 } }
def opened : State := { up with bt := { up.bt with debugOpen := true } }

theorem witness_SecureCommandsKeepTheirRules :
    Admitted (.secPolicy hdS true) hdS inhibited ∧ Admitted (.secPolicy hdS true) hdS nvWorking ∧ Admitted (.secPolicy hdS false) hdS up ∧
      Admitted (.secKeyLoad (hdSX key1) 4) (hdSX key1) up ∧ Admitted (.secKeyLoad (hdSX key1) 3) (hdSX key1) up ∧
      Admitted (.secFwUpdate (hdSX four)) (hdSX four) up ∧ Admitted (.secFwUpdate (hdSX img1)) (hdSX img1) fused ∧
      Admitted (.secDebugUnlock (hdSX key1)) (hdSX key1) opened ∧ Admitted (.secDebugUnlock (hdSX key1)) (hdSX key1) prod ∧
    (beNat (sub (hdSX key1).ext 0 32) < pP ∧ beNat (sub (hdSX key1).ext 32 32) < pP ∧
      onP256 (beNat (sub (hdSX key1).ext 0 32)) (beNat (sub (hdSX key1).ext 32 32)) = true ∧ (hdSX key1).extlen.toNat = 64) ∧
    (fused.imageCode img1 = 1 ∧ up.imageCode four ≠ 1) ∧
    ((fused.accepted (.secFwUpdate (hdSX img1)) (hdSX img1)).nvBusy = false ∧
      (fused.accepted (.secFwUpdate (hdSX img1)) (hdSX img1)).updating = false ∧ opened.bt.debugOpen = true ∧ prod.bt.debugOpen = false ∧
      prod.bt.lifecycle ≠ 1) :=
  ⟨admitted_of (by decide +kernel), admitted_of (by decide +kernel), admitted_of (by decide +kernel),
    admitted_of (by decide +kernel), admitted_of (by decide +kernel), admitted_of (by decide +kernel),
    admitted_of (by decide +kernel), admitted_of (by decide +kernel), admitted_of (by decide +kernel), by decide +kernel,
    ⟨test_image_passes_its_checks, by decide +kernel⟩, by decide +kernel⟩

/-! ### Curators, readout and observers: their events -/

/-- Curator 127 running with one word in its store, at word `a`. -/
def atWord (w a err : Nat) (shot : Bool) : State :=
  let s := (((up.setF Fld.curator.state 127 3).setF Fld.curator.storeValid 127 1).setF Fld.curator.wordsM1 127 0).setCurRt 127
    { CurRt.idle with nextAt := some 10000, nextPc := a, atShot := shot }
  { s with cur := { s.cur with store := [(4096 * 127, w)], storeErr := if err = 0 then [] else [(4096 * 127, err)] } }
def inWord (w t0 : Nat) : State := setCur 127 3 { CurRt.idle with inWord := true, t0 := t0, word := w }
/-- WAIT on EVENT (0x30) with HOLD 0; a SHOT word; an operation that does not exist. -/
def waitWord : Nat := 0x30 <<< 24
def shotWord : Nat := 1 <<< 139
def badWord : Nat := 6 <<< 95

/-- A word that waits at barrier 1 for one tick. -/
def syncWord : Nat := 1 <<< 135 ||| 1 <<< 44
def stopDue : State :=
  let s := atWord 0 0 0 false
  s.setCurRt 127 { s.curRt 127 with haltAt := some (10000, 4) }
def memberOf1 : State :=
  let s := atWord syncWord 0 0 false
  { s with cur := { s.cur with barMask := [(1, 2 ^ 127)] } }

theorem witness_CuratorEvents_1 :
    (stopDue.haltDue 127 = true ∧ stopDue.curState 127 = 3 ∧ (stopDue.curRt 127).nextAt = some 10000) ∧
    ((atWord 0 0 0 false).haltDue 127 = false ∧ (atWord syncWord 0 0 false).haltDue 127 = false ∧ illegalWord syncWord = false ∧
      wSync syncWord = 1 ∧ bit ((atWord syncWord 0 0 false).barrierMask 1) 127 = false ∧ bit (memberOf1.barrierMask 1) 127 = true ∧
      memberOf1.storeErrAt 127 0 ≠ 2 ∧ memberOf1.haltDue 127 = false) ∧
    (armed.curState 127 = 2 ∧ armed.getF Fld.curator.startTick 127 ≤ armed.tick) ∧
    ((atWord 0 1 0 false).curState 127 = 3 ∧ ((atWord 0 1 0 false).curRt 127).nextAt = some 10000 ∧
      (atWord 0 1 0 false).wordCount 127 ≤ 1) ∧
    (0 < (atWord 0 0 2 false).wordCount 127 ∧ (atWord 0 0 2 false).storeErrAt 127 0 = 2) ∧
    ((atWord badWord 0 0 false).storeErrAt 127 0 = 0 ∧ illegalWord badWord = true) ∧
    (((atWord shotWord 0 0 true).curRt 127).atShot = true ∧ illegalWord shotWord = false ∧ wShot shotWord = true) ∧
    (((atWord 0 0 0 false).curRt 127).atShot = false ∧ illegalWord 0 = false ∧ wSync 0 = 0) := by decide +kernel

def haltDue (r : Nat) : State := setCur 127 3 { CurRt.idle with haltAt := some (10000, r) }
def barrier : State := { up with cur := { up.cur with barRel := [(15, 10000)], barMask := [(15, 1)] } }
def atBarrier : State := (inWord (15 <<< 135) 9998).setF Fld.curator.syncWait 127 15

theorem witness_CuratorEvents_2 :
    (((inWord waitWord 9998).curRt 127).inWord = true ∧ isWait (wCond waitWord) = true ∧
      ((inWord waitWord 9998).curRt 127).nextAt = none ∧ wordEnd 9998 waitWord ≤ 10000 ∧
      (inWord waitWord 9998).haltDue 127 = false) ∧
    (barrier.barrierRel 15 ≠ 0 ∧ barrier.barrierRel 15 ≤ barrier.tick) ∧
    ((atBarrier.curRt 127).inWord = true ∧ atBarrier.getF Fld.curator.syncWait 127 ≠ 0 ∧ wordEnd 9998 (15 <<< 135) ≤ 10000 ∧
      atBarrier.barrierRel (atBarrier.getF Fld.curator.syncWait 127) = 0 ∧ atBarrier.haltDue 127 = false) ∧
    (((haltDue 4).curRt 127).haltAt = some (10000, 4) ∧ (haltDue 4).curActive 127 = true ∧
      ((haltDue 4).curRt 127).stopAt = none) ∧
    (let s := fun (h : Option (Nat × Nat)) (u : Nat) => setCur 127 3 { CurRt.idle with haltAt := h, stopAt := some u }
     ((s none 10000).curRt 127).haltAt = none ∧ ((s none 10000).curRt 127).stopAt = some 10000 ∧
       ((s none 10000).curRt 127).atShot = false ∧ (s none 10000).curActive 127 = true ∧
       ((s (some (10000, 1)) 9998).curRt 127).haltAt = some (10000, 1) ∧ ((s (some (10000, 1)) 9998).curRt 127).stopAt = some 9998) ∧
    ((atWord shotWord 0 0 true).shotStarts 127 = true ∧ ((atWord shotWord 0 0 true).curRt 127).haltAt = none ∧
      (atWord shotWord 0 0 true).curActive 127 = true ∧ ((atWord shotWord 0 0 true).curRt 127).atShot = true) := by decide +kernel

theorem witness_CuratorEvents_3 :
    ((offDoms (2 ^ domCC 7)).powered (domCC (127 / 16)) = false ∧ up.powered (domCC (127 / 16)) = true ∧
      (up.setF Fld.curator.evtFlag 127 1).flag Fld.curator.evtFlag 127 = true ∧ up.flag Fld.curator.evtFlag 127 = false ∧
      up.powerState = 0 ∧ up.pw.tripGated = false ∧ (inState 1).powerState ≠ 0 ∧
      ({ up with pw := { up.pw with tripGated := true } }).pw.tripGated = true) ∧
    ((offDoms (2 ^ domAT 7)).powered (domAT 7) = false ∧ up.powered (domAT 7) = true ∧ up.apState 7 ≠ 1 ∧ apTrig up 7 = false) ∧
    (let s := up.setApRun 7 { ApRun.none with cfg := apTrg.obj 0x0B 7 }
     (s.setF Fld.appraiser.state 7 1).apState 7 = 1 ∧ apTrig (s.setF Fld.appraiser.state 7 1) 7 = true ∧
       ((s.setF Fld.appraiser.state 7 1).apRun 7).bound = none) := by decide +kernel

def starting : State := { inputRun 2 with rd := { up.rd with startEnd := [(31, 10000)] } }
def win (held : Bool) : Win :=
  ⟨511, 7, 9900, 9900, 9962, 0, 1, 0, 0, 0, ⟨3, -4⟩, false, false, held, false, false, 127, 0⟩
def withWin (held : Bool) : State := { up with rd := { up.rd with wins := [win held] } }
def point : Pt := ⟨511, ⟨3, -4⟩, true, false, 10000, 9958, 9900, 0, false, 0, false, false⟩
def withPoint (rec : Nat) : State := { up.setL Fld.disc.recordEn 511 rec with rd := { up.rd with pts := [point] } }
def pend (deliv : Nat) : VPend := ⟨511, ⟨true, 3, true, false, false, false, 9984, deliv⟩, 0, 3, ⟨3, -4⟩, 0, 9900⟩
def flying (deliv : Nat) : State := { offDoms (2 ^ domVIT) with vd := { up.vd with flight := [pend deliv] } }
def record (p : Nat) : VRec := ⟨p, 511, 0, 0, 0⟩
def recording (p : Nat) : State :=
  { up.setRing 6 { Ring.fresh 1 with en := true } with vd := { up.vd with block := [record p] } }

theorem witness_InputsStartAndWindowsFormPoints :
    (sget (fun _ => 0) starting.rd.startEnd 31 ≠ 0 ∧ sget (fun _ => 0) starting.rd.startEnd 31 ≤ starting.tick ∧
      starting.inputState 31 = 2) ∧
    ((offDoms (2 ^ domAT 7)).powered (domAT (31 / 4)) = false ∧ up.inputState 31 = 1 ∧
      (inputRun 3).powered (domAT (31 / 4)) = true ∧ (inputRun 3).inputState 31 ≠ 1 ∧ (inputRun 3).flag Fld.input.adcOvr 31 = false ∧
      ((inputRun 3).setF Fld.input.adcOvr 31 1).flag Fld.input.adcOvr 31 = true) ∧
    ((withWin false).pointDue 511 = some (win false) ∧ (withWin false).getL Fld.demix.demixEn (511 / 16) = 0 ∧
      (win false).gsatI = false ∧ saturates 32 (rshift (win false).acc.i (win false).oshift) = false ∧
      saturates 32 (rshift (win false).acc.q (win false).oshift) = false ∧ (withWin true).pointDue 511 = some (win true)) := by
  decide +kernel

theorem witness_VerdictsAreProducedDeliveredAndRecorded :
    ((withPoint 0).verdictDue 511 = some point ∧ point.ovf = true ∧ (withPoint 0).getL Fld.disc.recordEn 511 ≠ 1 ∧
      (withPoint 1).verdictDue 511 = some point ∧ (withPoint 1).getL Fld.disc.recordEn 511 = 1) ∧
    ((flying 10001).vd.flight = [pend 10001] ∧ (pend 10001).idx < 512 ∧ (flying 10001).tick < (pend 10001).v.deliv ∧
      (flying 10000).powered domMGMT1 = true ∧ (flying 10000).powered domVIT = false ∧ (flying 10000).apState (511 / 64) ≠ 2 ∧
      ({ flying 10000 with pw := { up.pw with on := 1 } }).powered domMGMT1 = false) ∧
    ((recording 9001).vd.block = record 9001 :: [] ∧ (recording 9001).tick < 9001 + 1000 ∧
      9000 + 1000 ≤ (recording 9000).tick ∧ (recording 9000).ringRoom 6 = true ∧
      ({ up with vd := { up.vd with block := [record 9000] } }).ringRoom 6 = false) := by decide +kernel

def svIs (st : Nat) (r : SvRun) : State := (up.setF Fld.survey.state 63 st).setSvRun 63 r
def svStarting : State := ((inputRun 3).setF Fld.survey.state 63 1).setF Fld.survey.src 63 511
def svStopping : State := { svIs 2 SvRun.none with sv := { (svIs 2 SvRun.none).sv with stop := [(63, (10001, 0))] } }

theorem witness_SurveyAndAppraiserRuns_1 :
    (svStarting.svState 63 = 1 ∧ svStarting.getF Fld.survey.startTick 63 ≤ svStarting.tick ∧
      svStarting.surveyStopDue 63 = false ∧ svStarting.inputState (svInput (svStarting.obj 0x0A 63)) = 3) ∧
    ((svIs 1 SvRun.none).svState 63 = 1 ∧ (svIs 1 SvRun.none).surveyStopDue 63 = false ∧
      (svIs 1 SvRun.none).inputState (svInput ((svIs 1 SvRun.none).obj 0x0A 63)) = 1) ∧
    (svStopping.svState 63 ≠ 0 ∧ (sget (fun _ => (0, 0)) svStopping.sv.stop 63).1 = 10001 ∧ svStopping.tick + 1 = 10001) ∧
    (let s := svIs 2 { SvRun.none with cfg := 1, block := List.replicate 120 ⟨0, 0⟩ }
     (s.svRun 63).cfg ≠ 0 ∧ 120 ≤ (s.svRun 63).block.length) ∧
    (let s := svIs 2 { SvRun.none with cfg := 1, tp := some 9965 }
     (s.svRun 63).cfg ≠ 0 ∧ (s.svRun 63).tp = some 9965 ∧ 9965 + 35 ≤ s.tick ∧ (s.svRun 63).block = [] ∧ (s.svRun 63).dgram = []) ∧
    (let s := svIs 2 { SvRun.none with cfg := 1, block := List.replicate 119 ⟨0, 0⟩ }
     (s.svRun 63).cfg ≠ 0 ∧ (s.svRun 63).tp = none ∧ (s.svRun 63).block.length < 120) := by decide +kernel

def apTakes (x : ApPt) : State := apIn 2 { ApRun.none with queue := [x] }
def apPt : ApPt := ⟨511, ⟨3, -4⟩, 3, false, true, 9990, 0, 9900, 10000⟩
def apBound (st b : Nat) : State := apIn st { ApRun.none with bound := some b }

theorem witness_SurveyAndAppraiserRuns_2 :
    ((apIn 1 ApRun.none).apState 7 = 1 ∧ (apIn 1 ApRun.none).getF Fld.appraiser.startTick 7 ≤ (apIn 1 ApRun.none).tick ∧
      apTrig (apIn 1 ApRun.none) 7 = false ∧ ((apIn 1 ApRun.none).apRun 7).bound = none) ∧
    ((apBound 1 10000).apState 7 = 1 ∧ apTrig (apBound 1 10000) 7 = false ∧ ((apBound 1 10000).apRun 7).bound = some 10000 ∧
      10000 ≤ (apBound 1 10000).tick) ∧
    (((apTakes apPt).apRun 7).queue = apPt :: [] ∧ (apTakes apPt).apState 7 = 2 ∧ apPt.ready ≤ (apTakes apPt).tick ∧
      apPt.stale = true) ∧
    (((apBound 2 9985).apRun 7).bound = some 9985 ∧ 9985 + 15 ≤ (apBound 2 9985).tick ∧ ((apBound 2 9985).apRun 7).queue = [] ∧
      ((apBound 2 9985).apRun 7).doneAt = none ∧ apRecipe ((apBound 2 9985).apRun 7).cfg ≠ 2) := by decide +kernel

def viIs (st : Nat) (r : ViRun) : State := (up.setF Fld.vitrine.state 7 st).setViRun 7 r
def tbCfg : Nat := ((up.setF Fld.vitrine.trigEn 7 9).setF Fld.vitrine.tbTick 7 10000).obj 0x0C 7
def block1 : Nat × Nat × List Byte := (0, 0, [1, 2])

theorem witness_VitrineRuns_1 :
    ((viIs 1 ViRun.none).viState 7 = 1 ∧ ((viIs 1 ViRun.none).viRun 7).ta ≤ 10000 ∧ ((viIs 1 ViRun.none).viRun 7).started = false) ∧
    (((viIs 3 { ViRun.none with lvl := [(10000, 5)] }).viRun 7).lvl = (10000, 5) :: [] ∧
      (viIs 3 { ViRun.none with lvl := [(10000, 5)] }).viState 7 = 3) ∧
    (let s := fun (b : Bool) => viIs 1 { ViRun.none with cfg := tbCfg, started := b }
     up.powered domVIT = true ∧ (s true).viState 7 = 1 ∧ bit (fieldOf Fld.vitrine.trigEn ((s true).viRun 7).cfg) 3 = true ∧
      fieldOf Fld.vitrine.tbTick ((s true).viRun 7).cfg = 10000 ∧ viTakes ((s true).viRun 7) 10000 = true ∧
      viTakes ((s false).viRun 7) 10000 = false ∧ bit (fieldOf Fld.vitrine.trigEn ((s true).viRun 7).cfg) 0 = true) ∧
    ((offDoms (2 ^ domVIT)).powered domVIT = false ∧ bit (fieldOf Fld.vitrine.trigEn ((viIs 1 ViRun.none).viRun 7).cfg) 0 = false) := by
  decide +kernel

/-- Vitrine 7 with a level crossing at tick 9990 to offer, armed and started or with a trigger taken at `trig`. -/
def crossing (st trig ta : Nat) : State :=
  viIs st { ViRun.none with lvl := [(9990, 5)], started := true, trig := trig, ta := ta }

theorem witness_VitrineRuns_3 :
    ((crossing 1 0 0).viState 7 = 1 ∧ ((crossing 1 0 0).viRun 7).lvl = (9990, 5) :: [] ∧ 9990 ≤ (crossing 1 0 0).tick ∧
      viTakes ((crossing 1 0 0).viRun 7) 9990 = true ∧ viTakes ((crossing 1 0 9991).viRun 7) 9990 = false ∧
      ¬ (crossing 1 0 0).tick < 9990 ∧ ((viIs 1 { ViRun.none with lvl := [(10001, 0)] }).viRun 7).lvl = (10001, 0) :: []) ∧
    ((crossing 2 9990 0).viState 7 = 2 ∧ ((crossing 2 9990 0).viRun 7).trig = 9990 ∧ 9990 < ((crossing 2 9991 0).viRun 7).trig ∧
      viTakes ((crossing 2 9991 0).viRun 7) 9990 = true ∧ ((crossing 2 9989 0).viRun 7).trig < 9990 ∧
      viTakes ((crossing 2 9991 9991).viRun 7) 9990 = false) := by decide +kernel

theorem witness_VitrineRuns_2 :
    (let s := viIs 2 { ViRun.none with viol := some (10000, 9) }
     s.viState 7 = 2 ∧ (s.viRun 7).doneAt = none ∧ (s.viRun 7).viol = some (10000, 9)) ∧
    (let s := viIs 2 { ViRun.none with started := true, trig := 10, nlast := 10 }
     s.viState 7 = 2 ∧ (s.viRun 7).viol = none ∧ (s.viRun 7).full = false ∧ (s.viRun 7).nlast + 40 ≤ s.tick) ∧
    (let s := viIs 2 { ViRun.none with started := true, trig := 10, nlast := 10, cap := [(10, false, [])] }
     (s.viRun 7).full = true ∧ s.viArrival (s.viRun 7).cfg (s.viRun 7).nlast + 2 ≤ s.tick) ∧
    (let s := viIs 3 { ViRun.none with doneAt := some 10000 }
     s.viState 7 = 3 ∧ (s.viRun 7).doneAt = some 10000) ∧
    (let s := (viIs 4 { ViRun.none with blocks := [block1] }).setRing 72 { Ring.fresh 1 with en := true }
     s.viState 7 = 4 ∧ (s.viRun 7).blocks = block1 :: [] ∧ s.powered domVIT = true ∧ s.ringRoom (viRing (s.viRun 7).cfg) = true ∧
      (viIs 4 { ViRun.none with blocks := [block1] }).ringRoom 72 = false) := by decide +kernel

/-! ### Bias, catalogue and time: their events -/

def strobed : State := { bankOn with bi := { up.bi with upd := [⟨3, 9992, 10000, false, [(127, 0xFFFFF)], false⟩] } }
def holdOver : State := { up with bi := { up.bi with holdEnd := [(127, 10000)] } }
def limited : State := bankOn.setF Fld.biasbank.slewEn 3 1

theorem witness_BiasEdgesAndSlewing :
    (strobed.Canonical ∧ strobed.bi.upd = [⟨3, 9992, 10000, false, [(127, 0xFFFFF)], false⟩]) ∧
    (10000 ≤ strobed.tick ∧ strobed.powered (domBB 3) = true ∧ strobed.bankState 3 = 3 ∧ strobed.slewOn 3 = false ∧
      0xFFFFF < 2 ^ 20 ∧ ∀ j : Fin 128, strobed.flag Fld.bias.slewing j.val = false) ∧
    (sget (fun _ => 0) holdOver.bi.holdEnd 127 ≠ 0 ∧ sget (fun _ => 0) holdOver.bi.holdEnd 127 ≤ holdOver.tick) ∧
    (limited.powered (domBB 3) = true ∧ limited.tick % 8 = 0 ∧ limited.slewOn 3 = false ∧
      limited.flag Fld.biasbank.slewEn 3 = true ∧
      ∀ j : Fin 128, j.val / 32 = 3 → limited.flag Fld.bias.slewing j.val = false ∧ limited.flag Fld.bias.deglitch j.val = false) ∧
    1 ≤ 1 :=
  ⟨⟨canonical_of (by decide +kernel), by decide +kernel⟩, by decide +kernel, by decide +kernel, by decide +kernel,
    by decide +kernel⟩

theorem witness_BiasPinsStrobeClearAndSupply :
    ((offDoms (2 ^ domBB 3)).powered (domBB 3) = false ∧ up.powered (domBB 3) = true ∧
      bit ((up.setF Fld.biasbank.srcEn 3 5).getF Fld.biasbank.srcEn 3) 0 = true ∧
      bit ((up.setF Fld.biasbank.srcEn 3 4).getF Fld.biasbank.srcEn 3) 0 = false ∧
      bit ((up.setF Fld.biasbank.srcEn 3 4).getF Fld.biasbank.srcEn 3) 2 = true) ∧
    ((∀ k : Fin 4, (offDoms (15 * 2 ^ domBB 0)).powered (domBB k.val) = false) ∧ up.bi.clrLow = false ∧
      ∀ k : Fin 4, up.powered (domBB k.val) = true) ∧
    (bankOn.bankState (127 / 32) ≠ 1 ∧ up.bankState (127 / 32) = 1) ∧
    (let s := offDoms (7 * 2 ^ domBB 0)
     let t := fun (st en : Nat) => (s.setF Fld.biasbank.state 3 st).setF Fld.biasbank.bankEn 3 en
     s.powered (domBB 3) = true ∧ (∀ j : Fin 4, j ≠ 3 → s.powered (domBB j.val) = false) ∧
       ((t 1 1).setF Fld.biasbank.supplyGood 3 1).bankState 3 = 1 ∧
       ((t 1 1).setF Fld.biasbank.supplyGood 3 1).flag Fld.biasbank.bankEn 3 = true ∧
       ((t 1 0).setF Fld.biasbank.supplyGood 3 1).flag Fld.biasbank.bankEn 3 = false ∧
       ((t 1 0).setF Fld.biasbank.supplyGood 3 0).bankState 3 = 1 ∧ ((t 3 1).setF Fld.biasbank.supplyGood 3 0).bankState 3 ≠ 1) ∧
    ({ up with bi := { up.bi with clrLow := true } }).bi.clrLow = true := by decide +kernel

def gpioCfg (c : Nat) : State := up.setObj 0x10 0 (setBits (up.obj 0x10 0) (4736 + 8 * 15) 8 c)
def gpioPulse (c : Nat) : State := { gpioCfg c with cat := { up.cat with gpioEnd := [(15, 10000)] } }
def cueOut (e : Nat) : State := { up with cat := { up.cat with cueEnd := [(7, e)] } }
/-- A LUT cell whose truth table is all ones. -/
def lutOnes (out : Bool) : State :=
  let s := up.setLut 31 { LutRt.none with out := out }
  s.setLiveObj 0x10 0 (setBits (s.liveObj 0x10 0) (2048 + 64 * 31 + 32) 16 0xFFFF)

theorem witness_CatalogueInputsAndOutputsAct_1 :
    (let s := gpioCfg 0x30
     let t := fun (lv : Bool) => { s with cat := { s.cat with
       gpioIn := if lv then s.cat.gpioIn ||| (1 <<< 15) else clearMask s.cat.gpioIn (1 <<< 15) } }
     (∀ e ∈ s.cat.due, e.2.1 ≠ 512 + 15) ∧ bits (up.gpioByte 15) 4 2 = 0 ∧
     (t false).gpioLevel 15 = s.gpioLevel 15 ∧ (t true).gpioLevel 15 ≠ s.gpioLevel 15 ∧ bits ((t true).gpioByte 15) 4 2 = 3) ∧
    (bit (up.gpioByte 15) 0 = false ∧ bit ((gpioCfg 9).gpioByte 15) 0 = true ∧ bit ((gpioCfg 9).gpioByte 15) 3 = true ∧
      bit ((gpioPulse 1).gpioByte 15) 0 = true ∧ bit ((gpioPulse 1).gpioByte 15) 3 = false ∧
      sget (fun _ => 0) (gpioCfg 1).cat.gpioEnd 15 = 0 ∧ bit ((gpioCfg 1).gpioByte 15) 3 = false ∧
      sget (fun _ => 0) (gpioPulse 1).cat.gpioEnd 15 ≠ 0 ∧ sget (fun _ => 0) (gpioPulse 1).cat.gpioEnd 15 ≤ (gpioPulse 1).tick) := by
  decide +kernel

theorem witness_CatalogueInputsAndOutputsAct_2 :
    (up.powered domMGMT1 = true ∧ sget (fun _ => 0) up.cat.cueEnd 7 = 0 ∧ sget (fun _ => 0) (cueOut 10000).cat.cueEnd 7 ≠ 0 ∧
      sget (fun _ => 0) (cueOut 10000).cat.cueEnd 7 ≤ (cueOut 10000).tick ∧ up.pw.tripGated = false ∧
      ({ up with pw := { up.pw with tripGated := true } }).pw.tripGated = true ∧
      (offDoms (2 ^ domMGMT1)).powered domMGMT1 = false) ∧
    (let s := up.setLut 31 { LutRt.none with queue := [(159999, true), (160000, false)] }
     (s.lutRt 31).queue = (159999, true) :: [(160000, false)] ∧ 159999 < s.now ∧ ∀ e ∈ [((160000 : Nat), false)], s.now ≤ e.1) ∧
    (up.cat.groupEv = [] ∧ up.cat.flight = []) := by decide +kernel

theorem witness_ProducersFireAtMostOnceInEightTicks :
    up.powered (producerDom 180) = true ∧ sget (fun _ => 0) up.cat.last 180 = 0 ∧
      (let s := { up with cat := { up.cat with last := [(180, 160001)] } }
       sget (fun _ => 0) s.cat.last 180 = 160000 + 1 ∧ 160127 < 160000 + 128 ∧ 160000 + 128 ≤ 160128) ∧
      bit (up.getF Fld.catalogue.groupLive 0) (up.rowGroup 180) = true ∧
      bit ((up.setF Fld.catalogue.groupLive 0 0).getF Fld.catalogue.groupLive 0) (up.rowGroup 180) = false := by decide +kernel

def domIs (v : Nat) (d : DomRt) : State := (up.setDomState true v).setDom true d
def at1s (s : State) : State :=
  { s with raw := 16000000000, tm := { s.tm with lookFrom := 16000000000, lookTo := 16000000016 } }

theorem witness_DomainsAcquireLockMissAndSwitch_1 :
    (up.follower = false ∧ up.domState true = 0 ∧ (domIs 3 DomRt.none).domState true = 3 ∧ (domIs 1 DomRt.none).domState true = 1) ∧
    (let s := { (domIs 2 DomRt.none).setF Fld.time.ppsDelayB 0 0 with raw := 0 }
     s.follower = false ∧ s.domState true = 2 ∧
       (((s.raw + (0 : BitVec 4).toNat : Nat) : Int) - s.ppsDelay true - s.expectedEdge true).natAbs ≤ s.pulseWin.toNat) ∧
    (let s := domIs 2 DomRt.none
     s.follower = false ∧ s.domState true = 2 ∧
       s.pulseWin.toNat < (((s.raw + (0 : BitVec 4).toNat : Nat) : Int) - s.ppsDelay true - s.expectedEdge true).natAbs ∧
       s.missTick true ≤ s.tick ∧ (s.dom true).misses = 0) ∧
    (let s := domIs 1 { DomRt.none with lockAt := some (10000, 0, 160000) }
     (s.dom true).lockAt = some (10000, 0, 160000) ∧ s.domState true = 1 ∧ s.follower = false ∧ s.tm.now.act ≠ true ∧
       s.domState (!true) ≠ 3) ∧
    (let s := fun (v : Nat) => domIs v { DomRt.none with updates := [(10000, 5)] }
     ((s 2).dom true).updates = (10000, 5) :: [] ∧ (s 2).domState true = 2 ∧ (s 1).domState true ≠ 2 ∧
       ((domIs 2 { DomRt.none with updates := [(10001, 5)] }).dom true).updates = (10001, 5) :: [] ∧ up.tick < 10001) := by
  decide +kernel

theorem witness_DomainsAcquireLockMissAndSwitch_2 :
    (domIs 1 { DomRt.none with lockAt := some (10000, 0, 160000) }).Canonical ∧
    (let s := fun (t v : Nat) (b : Bool) => { domIs v DomRt.none with tm := { (domIs v DomRt.none).tm with switches := [(t, b, false, 0)] } }
     (s 10001 2 true).tm.switches = [(10001, true, false, 0)] ∧ up.tick < 10001 ∧ (s 10000 1 true).domState true ≠ 2 ∧
       (s 10000 2 true).domState true = 2 ∧ (s 10000 2 true).tm.now.act ≠ true ∧
       ((s 10000 2 false).setDomState false 2).domState false = 2 ∧ ((s 10000 2 false).setDomState false 2).tm.now.act = false) ∧
    (let s := at1s { up with tm := { up.tm with epoch := [(999999999, 5, 0)] } }
     s.tm.epoch = [(999999999, 5, 0)] ∧ s.secondSlot (16 * 999999999) = some 16000000000) :=
  ⟨canonical_of (by decide +kernel), by decide +kernel, by decide +kernel⟩

def tpAt (next e : Nat) : State :=
  let s := (up.setF (tpF 3 Fld.tp.tpEn) 0 1).setF (tpF 3 Fld.tp.start) 0 10000
  { s with tm := { s.tm with tpNext := [(3, next)], tpEnd := if e = 0 then [] else [(3, e)] } }

theorem witness_TimePulsesAndStampsFollowTheirInstants :
    (up.tpDue 3 = none ∧ (tpAt 1 0).tpDue 3 = some (some 160000, 0)) ∧
    ((tpAt 0 160015).tpEndDue 3 = true ∧ (tpAt 0 160015).getF (tpF 3 Fld.tp.period) 0 = 0 ∧
      ((tpAt 0 160015).setF (tpF 3 Fld.tp.period) 0 16).tpEndDue 3 = true ∧
      ((tpAt 0 160015).setF (tpF 3 Fld.tp.period) 0 16).getF (tpF 3 Fld.tp.period) 0 ≠ 0 ∧ canonicalB (tpAt 0 160015) = true) ∧
    (up.flag Fld.time.ppsOutEn 0 = false ∧ (at1s (up.setF Fld.time.ppsOutEn 0 1)).ppsOutSlot = some 16000000000 ∧
      ({ up with tm := { up.tm with ppsFall := 160015 } }).tm.ppsFall < up.tm.lookTo) ∧
    ((up.tm.stamps.filter (fun e => decide (e.1 = 15))).length < 64 ∧
      64 ≤ ((List.replicate 64 ((15 : Nat), 0, 0)).filter (fun e => decide (e.1 = 15))).length) := by decide +kernel

/-! ### Ethernet, courier links and the ledger: their events -/

def ptpMsg (kind dom len : Nat) : List Byte := [BitVec.ofNat 8 kind, 2, 0, 0, BitVec.ofNat 8 dom] ++ List.replicate (len - 5) 0
def ptpOn : State := (ethOn.setF Fld.time.ptpEn 0 1).setF Fld.eth.ipv4Addr 0 5
def ptpTarget : BitVec 128 := 0xFFFFE0000181

theorem witness_EthernetPortAnswersPausesAndLinks :
    (up.ethUp = false ∧ ethOn.ethUp = true ∧ (ethOn.setF Fld.eth.ipv4Addr 0 5).ethAnswers 0xFFFF00000005 .arp = true ∧
      ethOn.ethAnswers 0xFFFF00000005 .other = false ∧ ethOn.eth.pauseEnd ≤ ethOn.tick ∧ ethOn.getF Fld.eth.ethMode 0 = 2) ∧
    (({ rxOf 0 with bad := true }).bad = true ∧ 9000 < ({ rxOf 0 with size := 9001 }).size.toNat ∧ (rxOf 0).bad = false ∧
      ({ rxOf 0 with size := 9000 }).size.toNat ≤ 9000 ∧ ethOn.vlanOk (rxOf 0) = true ∧
      ethOn.vlanOk { rxOf 0 with tag := some 1 } = false ∧ ethOn.ptpOn = false ∧ ethOn.eth.txq = []) ∧
    (up.powered domETH = true ∧ ethOn.getF Fld.eth.ethMode 0 ≠ 0 ∧ (offDoms (2 ^ domETH)).powered domETH = false ∧ ethOn.eth.txq = []) ∧
    (ptpOn.ethUp = true ∧ ptpOn.ptpOn = true ∧ (rxOf ptpTarget).target.toNat = (ptpGroup (ptpOn.getF Fld.time.ptpTransport 0) false).1 ∧
      beNat (sub (ptpMsg 0xB 1 64) 4 1) ≠ ptpOn.getF Fld.time.ptpDomain 0 ∧ ptpOn.vlanOk (rxOf 0) = true ∧
      beNat (sub (ptpMsg 0xB 0 64) 4 1) = ptpOn.getF Fld.time.ptpDomain 0 ∧ beNat (sub (ptpMsg 0xB 0 64) 0 1) % 16 = 0xB ∧
      64 ≤ (ptpMsg 0xB 0 64).length ∧ beNat (sub (ptpMsg 0xB 0 64) 1 1) % 16 = 2 ∧ (ptpOn.setF Fld.time.ptpMasterOnly 0 0).flag Fld.time.ptpMasterOnly 0 = false) ∧
    (let s := { ptpOn.setF Fld.time.ptpMasterOnly 0 1 with eth := { up.eth with syncAt := 10001, announceAt := 10000 } }
     s.ethUp = true ∧ s.ptpOn = true ∧ s.eth.txq = [] ∧ s.ptpState = 6 ∧ s.tick < s.eth.syncAt ∧ s.eth.announceAt ≤ s.tick ∧
       s.flag Fld.time.ptpP2p 0 = false ∧ s.eth.pauseEnd ≤ s.tick) := by decide +kernel

def port (v : Nat) (r : CpRt) : State := (linkIs v).setCpRt 3 r

/-- A frame with its CRC (R432). -/
def frameOf (x : Nat) : BitVec 256 := BitVec.ofNat 256 (x + frameCrc x <<< 240)
def cueOn : State := (linkIs 3).setL Fld.courier.cueRxEn 3 1

theorem witness_CourierLinks_3 :
    (frameGood (frameOf 0).toNat = true ∧ bits (frameOf 0).toNat 8 3 = 0 ∧ bits (frameOf 0).toNat 4 2 = 0 ∧
      (linkIs 2).linkState 3 = 2) ∧
    (frameGood (frameOf 0x320).toNat = true ∧ bits (frameOf 0x320).toNat 8 3 ≠ 0 ∧ bits (frameOf 0x320).toNat 4 2 = 2 ∧
      (linkIs 3).linkState 3 ≠ 2 ∧ 2 ≤ (linkIs 3).linkState 3 ∧ (linkIs 3).powered (domCP 3) = true) ∧
    (let g := fun (s : State) => ((s.count 0x17 3 1).setCpRt 3 { (s.count 0x17 3 1).cpRt 3 with crcRun := 0, peerUp := false }).takeVerdicts
       3 (frameOf 0x40).toNat
     bit (frameOf 0x40).toNat 6 = true ∧ frameGood (frameOf 0x40).toNat = true ∧ (g cueOn).getL Fld.courier.cueRxEn 3 = 1 ∧
       (g cueOn).powered domMGMT1 = true ∧ (g cueOn).pw.tripGated = false ∧ (g (linkIs 3)).getL Fld.courier.cueRxEn 3 ≠ 1) ∧
    (let s := fun (n : Nat) => port 3 { CpRt.none with crcRun := n }
     7 ≤ ((s 7).cpRt 3).crcRun ∧ (s 7).linkState 3 = 3 ∧ ((s 7).cpRt 3).want = false ∧
       (port 3 { CpRt.none with measEnd := 9999, measStart := 9000 }).linkState 3 = 3 ∧
       ((port 3 { CpRt.none with measEnd := 9999, measStart := 9000 }).cpRt 3).measEnd ≠ 0) ∧
    (let s := port 3 { CpRt.none with measEnd := 9999 }
     (s.cpRt 3).measEnd ≠ 0 ∧ s.frameBoundary 3 = true) := by decide +kernel

theorem witness_CourierLinks_1 :
    ((offDoms (2 ^ domCP 3)).powered (domCP 3) = false ∧ (linkIs 1).linkState 3 < 2 ∧ (linkIs 2).powered (domCP 3) = true ∧
      (linkIs 2).linkState 3 = 2 ∧ frameGood (1 : BitVec 256).toNat = false ∧ ((linkIs 2).cpRt 3).crcRun < 7) ∧
    ((linkIs 1).linkState 3 = 1 ∧ up.linkState 3 ≠ 1) ∧
    (let s := fun (e m : Nat) => port 2 { CpRt.none with measEnd := 10000, echoes := e, maxR := m }
     (s 15 0).linkState 3 = 2 ∧ ((s 15 0).cpRt 3).measEnd ≤ (s 15 0).tick ∧ ((s 15 0).cpRt 3).ready = false ∧
       ((s 15 0).cpRt 3).echoes < 16 ∧ 800 < (((s 16 1601).cpRt 3).maxR + 1) / 2 ∧ 16 ≤ ((s 16 1600).cpRt 3).echoes ∧
       (((s 16 1600).cpRt 3).maxR + 1) / 2 ≤ 800) ∧
    (let s := port 1 { CpRt.none with fallAt := 9999, boundAt := 9999 }
     s.powered (domCP 3) = true ∧ s.linkState 3 = 1 ∧ (s.cpRt 3).fallAt ≠ 0 ∧ (s.cpRt 3).fallAt < s.tick ∧
       (s.setF Fld.courier.genFallback 3 0).flag Fld.courier.genFallback 3 = false ∧ (s.cpRt 3).boundAt ≠ 0 ∧
       (s.cpRt 3).boundAt < s.tick ∧ s.cmd.open_ = []) ∧
    ((linkIs 3).linkState 3 = 3 ∧ up.linkState 3 ≠ 3) := by decide +kernel

theorem witness_CourierLinks_2 :
    (up.follower = false ∧ up.upMask = 0) ∧
    ((linkIs 3).follower = false ∧ (linkIs 3).upMask ≠ 0 ∧ (linkIs 3).cp.timeAt ≤ (linkIs 3).tick ∧
      (linkIs 3).cp.paramAt ≤ (linkIs 3).tick) := by decide +kernel

/-! ### Power, temperature, calibration and resets: their events -/

def sag (m : Nat) : State := { inhibited with pw := { up.pw with sagged := m } }

/-- Supplies of a mask have fallen, with the readings given by R442's good thresholds or 0. -/
def sagging (m nv : Nat) (r : List Int) : State :=
  { inhibited with pw := { up.pw with sagged := m, readings := r, nvClear := nv } }
def goodNow : List Int := [2650000, 630000, 770000, 960000, 960000, 820000, 1160000, 1730000, 1730000, 5700000, -5700000]

theorem witness_SuppliesOrderAndPllEventsAreRecorded :
    (10 < (11 : BitVec 6).toNat ∧ ¬ (0 : Int) < 0 ∧ ¬ (2600000 : BitVec 32).toInt < 2600000 ∧ (2599999 : BitVec 32).toInt < 2600000 ∧
      (2449999 : BitVec 32).toInt < 2450000 ∧ ¬ -5500000 < (-5500000 : BitVec 32).toInt ∧ -5500000 < (-5499999 : BitVec 32).toInt ∧
      canonicalB up = true ∧ up.pw.sagged = 0 ∧ (sag 4).pw.sagged ≠ 0) ∧
    (let s := { sag 12 with pw := { (sag 12).pw with sagOnset := 12 } }
     bit s.pw.sagOnset 2 = true ∧ ∀ m, m < 2 → bit s.pw.sagOnset m = false) ∧
    ((sagging 5 0 goodNow).pw.sagged ≠ 0 ∧ (sagging 5 0 goodNow).pw.sagged < 2 ^ 11 ∧
      (∀ n ∈ (sagging 5 0 goodNow).sagList, goodReading n ((sagging 5 0 goodNow).pw.readings.getD n 0) = true) ∧
      (sagging 5 0 goodNow).pw.orderWait = 0 ∧ (sagging 5 0 goodNow).pw.orderHolds = [] ∧
      (sagging 5 0 goodNow).flag Fld.thermal.nvInhibit 0 = true ∧ up.flag Fld.thermal.nvInhibit 0 = false ∧
      (sagging 0 10000 goodNow).pw.nvClear ≠ 0 ∧ (sagging 0 10000 goodNow).pw.nvClear ≤ (sagging 0 10000 goodNow).tick ∧
      (sagging 0 10001 goodNow).tick < (sagging 0 10001 goodNow).pw.nvClear) ∧
    (6 < (7 : BitVec 8).toNat ∧ 1 ≤ (5 : BitVec 8).toNat ∧ (5 : BitVec 8).toNat ≤ 5 ∧ up.getF Fld.thermal.orderCode 0 = 0 ∧
      (up.setF Fld.thermal.orderCode 0 3).getF Fld.thermal.orderCode 0 ≠ 0 ∧ (6 : BitVec 8).toNat = 6 ∧
      (∃ n ∈ orderNeeds (4 : BitVec 8).toNat, bit (sag 16).pw.sagged n = true) ∧ bit (orderMask (4 : BitVec 8).toNat) 40 = true ∧
      (∃ n ∈ railsOf 40, bit (sag 16).pw.sagged n = true)) ∧
    (unlocked.tm.unlocked = true ∧ up.tm.unlocked = false ∧ State.reset.tm.everLocked = false ∧ State.reset.tm.unlocked = true ∧
      ({ unlocked with tm := { unlocked.tm with everLocked := true } }).tm.everLocked = true ∧
      unlocked.raw % 16 = 0 ∧ 0 < (7 : BitVec 64).toNat % 320) ∧
    ((offDoms (2 ^ 55)).powered 55 = false ∧ up.powered 55 = true ∧ (55 : Fin 56).val ≠ 0) := by decide +kernel

def scan : List (BitVec 16) := List.replicate 47 24319 ++ [0]
def stopping : State := up.setF Fld.thermal.thermalState 0 1
def tilesOff : State := { up with pw := { up.pw with tileOff := 10000 } }
def dormantNow : State := { up with pw := { up.pw with dormantAt := 10000 } }
def at1ms (s : State) : State := { s with raw := 16000000, tm := { s.tm with lookFrom := 16000000, lookTo := 16000016 } }
def avsOn : State := at1ms ((inState 1).setF Fld.thermal.avsEn 0 1)

theorem scan_below_the_threshold : ∀ x ∈ scan, x.toInt < 95 * 256 := by
  intro x hx
  simp only [scan, List.mem_append, List.mem_replicate, List.mem_singleton] at hx
  rcases hx with ⟨_, h⟩ | h <;> subst h <;> decide

theorem witness_TemperatureStopsTripsAndPowersDown :
    ((scan.take 47).length ≠ 48 ∧ scan.length = 48 ∧ (at1ms up).thermalState = 0 ∧ (at1ms up).flag Fld.thermal.warnActive 0 = false ∧
      95 ≤ (at1ms up).getF Fld.thermal.stopT 0 ∧ canonicalB (at1ms up) = true ∧
      roundUp (at1ms up).tm.lookFrom 16000000 < (at1ms up).tm.lookTo ∧ (at1ms up).pw.scanRaw ≠ (at1ms up).raw ∧
      ¬ roundUp up.tm.lookFrom 16000000 < up.tm.lookTo) ∧
    ((up.setF Fld.thermal.thermalState 0 3).thermalState = 3 ∧ stopping.thermalState ≠ 3 ∧ stopping.thermalState = 1 ∧
      stopping.pw.muteAt = 0 ∧ (stopping.setF Fld.curator.state 127 3).running ≠ [] ∧ canonicalB stopping = true) ∧
    (up.muteDue = false ∧ stopping.muteDue = true ∧ up.tileOffDue = false ∧ tilesOff.tileOffDue = true ∧ up.dormantDue = false ∧
      dormantNow.dormantDue = true) ∧
    (canonicalB avsOn = true ∧ roundUp avsOn.tm.lookFrom 16000000 < avsOn.tm.lookTo ∧ avsOn.powerState = 1 ∧ avsOn.flag Fld.thermal.avsEn 0 = true) := by
  decide +kernel

theorem witness_CalibrationsEndAndBackgroundWorkIsNoted :
    ((working 0 1 10000).cal.jobs = [job 0 1 10000] ∧ (job 0 1 10000).endAt ≤ (working 0 1 10000).tick ∧ (job 1 1 10000).kind = 1 ∧
      (job 2 1 10000).kind = 2 ∧ (job 3 1 10000).kind = 3 ∧ (job 4 1 10000).kind = 4) ∧
    (∀ j ∈ (working 0 1 10001).cal.jobs, (working 0 1 10001).tick < j.endAt) ∧
    ((inputRun 3).powered (domAT (31 / 4)) = true ∧ (inputRun 3).inputState 31 = 3 ∧
      up.inputState 31 ≠ 3 ∧ swf (fun _ => 0) up.cal.trims = true ∧
      (let s := { up with cal := { up.cal with lastTrack := [(0x17C0, 10001)] } }
       sget (fun _ => 0) s.cal.lastTrack 0x17C0 ≠ 0 ∧ s.tick < 10001 - 1 + 1000000)) ∧
    (let s := up.setF Fld.output.state 95 2
     s.powered (domDT (95 / 4)) = true ∧ s.getF Fld.output.state 95 = 2 ∧ sget (fun _ => 0) s.drv.lastRot 95 = 0 ∧
       sget (fun _ => 0) s.drv.lastPlaying 95 = 0 ∧ s.drv.plays = []) := by decide +kernel

def booting (straps : Nat) : State :=
  { fused with pw := { up.pw with straps := straps }, bt := { fused.bt with ready := false, booting := true } }
def slotted (a b : Slot) : State := { booting 0 with bt := { (booting 0).bt with slotA := a, slotB := b } }
def slot1 (seq : Nat) : Slot := Slot.programmed seq img1
def inPhase (p w : Nat) (s : State) : State := { s with phase := p, bt := { s.bt with widest := w } }
def asked (l : List ResetAsk) : State := { up with bt := { up.bt with asked := l } }

theorem witness_ResetsAndRestarts_1 :
    (up.phase ≤ 10 ∧ up.restartCause (4 : BitVec 8).toNat = true ∧ 10 < (inPhase 11 3 up).phase ∧ 3 ≤ (inPhase 11 3 up).bt.widest) ∧
    (up.warmDue = false ∧ up.restartDue = false ∧ up.watchdogDue = false ∧ .cold ∈ (asked [.warm, .cold]).bt.asked ∧
      .cold ∉ (asked [.link, .warm]).bt.asked ∧ .warm ∈ (asked [.link, .warm]).bt.asked) ∧
    ((inPhase 13 2 up).bt.widest < 3 ∧ up.powerState ≠ 3 ∧ up.vd.block = [] ∧ up.sv.run = [] ∧ up.vi.run = [] ∧ up.eth.txq = [] ∧
      up.cmd.outbox = [] ∧ up.host.mbq = [] ∧ (∀ p : Fin 4, up.linkState p.val ≠ 3) ∧
      (∀ m : Fin 8, (up.mbox m.val).h2dFull = false ∧ (up.mbox m.val).d2hFull = false)) ∧
    ((inPhase 11 1 up).bt.widest < 2 ∧ (offDoms (2 ^ domPCIE)).powered domPCIE = false ∧ up.powered domPCIE = true) ∧
    (up.restartCause (3 : BitVec 8).toNat = false ∧ up.bt.booting = false ∧ up.cmd.open_ = [] ∧ (inState 3).powerState = 3 ∧
      (∀ n : Fin 11, bit up.pw.sagged n.val = false) ∧ up.pw.sagged = 0 ∧ up.pw.orderHolds = []) := by decide +kernel

theorem witness_ResetsAndRestarts_2 :
    ((booting 0).bt.booting = true ∧ (booting 0).bt.waitGo = false ∧ waiting.bt.waitGo = true ∧ bit (booting 8).pw.straps 3 = true ∧
      (booting 0).tm.everLocked = true ∧ bit (booting 0).pw.sagged 0 = false ∧ bit (sag 1).pw.sagged 0 = true ∧
      bit (booting 6).pw.straps 3 = false ∧ bits (booting 6).pw.straps 1 2 = 3 ∧ bits (booting 2).pw.straps 1 2 = 1 ∧
      bits (booting 0).pw.straps 1 2 = 0 ∧ (booting 0).bt.slotA.valid = false ∧ (booting 0).bt.slotB.valid = false) ∧
    ((slotted (slot1 1) Slot.erased).bt.slotA.valid = true ∧ (slotted (slot1 1) Slot.erased).bt.slotB.valid = false ∧
      (slotted (slot1 1) (slot1 2)).bt.slotB.valid = true ∧ (slotted (slot1 1) (slot1 2)).bt.slotA.seq < (slot1 2).seq ∧
      (slot1 1).content = img1) ∧
    ((slotted (slot1 1) (slot1 2)).powerOn domMGMT0).powerOn domMGMT1 = slotted (slot1 1) (slot1 2) ∧
    (slotted (slot1 1) (slot1 2)).imageCode img1 = 1 :=
  ⟨by decide +kernel, by decide +kernel, by decide +kernel, test_image_passes_its_checks⟩

theorem witness_DitherPeriodHoldsTheFineCode :
    0xFFFFF < 2 ^ 20 ∧ (up.setF Fld.bias.effCode 127 0xFFFFF).getF Fld.bias.effCode 127 = 0xFFFFF ∧
      (up.setF Fld.bias.effCode 127 0xFFFFF).tick / 8 / 256 = 4 := by decide +kernel

theorem witness_WellFormedCommandsAlwaysAnswer : (Instr.thermalScan scan).wf = true ∧ (Instr.sysNop hd).wf = true := by decide +kernel

/-! ### Further clauses: held frame changes, staged rings, masks, halts, points, cells and trims -/

def stagedRing (p : Nat) : State := ringIs 0 { Ring.fresh 1 with en := true, length := 16, staged := some 8, prod := p }
def gatedFrames (s : State) : State := { s with pw := { s.pw with tripGated := true } }

theorem witness_RingIndexesAndControl_staged :
    ((stagedRing 12).ring 0).staged = some 8 ∧ ((stagedRing 12).ring 0).ownedBy .pf0 = true ∧ ((stagedRing 12).ring 0).en = true ∧
      12 ≤ (15 : BitVec 32).toNat % 2 ^ 16 ∧ (15 : BitVec 32).toNat % 2 ^ 16 < 16 ∧ 16 ≤ (16 : BitVec 32).toNat % 2 ^ 16 ∧
      (8 : BitVec 32).toNat % 2 ^ 16 < 12 ∧ 8 ≤ (8 : BitVec 32).toNat % 2 ^ 16 ∧ (7 : BitVec 32).toNat % 2 ^ 16 < 8 := by
  decide +kernel

theorem witness_PowerCommands_sagged :
    (let s := { inState 2 with pw := { (inState 2).pw with sagged := 16 } }
     s.powerState = 2 ∧ s.pw.hold = false ∧ s.convGood = false) ∧ (0 : BitVec 8).toNat ≤ 1 := by decide +kernel

theorem witness_frame_changes_are_held :
    Admitted (.frameOp hd 4094 5 0) hd (gatedFrames late8) ∧
    (gatedFrames late8).pw.tripGated = true ∧ (gatedFrames late8).powered domMGMT0 = true ∧
    (gatedFrames (dueCommit 1 [(okey 0x04 4094, 5)])).cmd.commits.find? (commitDue 10000) =
        some (commit1 1 10000 [(okey 0x04 4094, 5)]) := ⟨admitted_of (by decide +kernel), by decide +kernel⟩

/-- Vitrines 6 and 7 on input 0 and output 0: 7 in mask mode. -/
def vitTwo : State :=
  (((((((vitReady.setF Fld.vitrine.srcKind 7 3).setF Fld.vitrine.maskEn 7 1).setF Fld.vitrine.maskLenM1 7 64).setF
    Fld.vitrine.postTicks 6 1).setF Fld.vitrine.ring 6 1).setRing 73 { Ring.fresh 1 with en := true }).setF Fld.output.state 0 2)

theorem witness_VitrineCommands_two :
    Admitted (.vitArm hd 0xC0 0) hd vitTwo ∧
    (let cs := (setPositions (0xC0 : BitVec 8).toNat 8).map (fun v => vitTwo.obj 0x0C v)
     setPositions (0xC0 : BitVec 8).toNat 8 = [6, 7] ∧
     (∀ c ∈ cs, badVitArm c = false ∧ vitTwo.powered (viDom c) = true ∧ vitTwo.viSourceOk c = true ∧
       (viMaskEn c = true → vitTwo.powered (bankDom (fieldOf Fld.vitrine.maskBank c)) = true)) ∧
     viMaskEn (vitTwo.obj 0x0C 7) = true ∧ (vitTwo.ring 72).en = true ∧ (vitTwo.ring 73).owner ≠ 0 ∧
     viRing (vitTwo.obj 0x0C 6) = 73 ∧ viRing (vitTwo.obj 0x0C 7) = 72 ∧ (∀ v : Fin 8, vitTwo.viState v.val = 0) ∧
     vitTwo.armEarliest cs = 11002 ∧ swf (fun _ => ViRun.none) vitTwo.vi.run = true) :=
  ⟨admitted_of (by decide +kernel), by decide +kernel⟩

theorem witness_VitrineCommands_filling :
    Admitted (.vitTrigger hd (1 <<< (7 : Fin 8).val)) hd ((up.setF Fld.vitrine.state 7 2).setViRun 7 { ViRun.none with trig := 10000 }) ∧
    (let s := fun (n : Nat) => (up.setF Fld.vitrine.state 7 2).setViRun 7 { ViRun.none with trig := n }
     (s 10000).viState 7 = 2 ∧ ((s 10000).viRun 7).trig = (s 10000).tick ∧ ((s 9999).viRun 7).trig ≠ (s 9999).tick) :=
  ⟨admitted_of (by decide +kernel), by decide +kernel⟩

theorem witness_AppStop_at_its_start :
    let s := (apIn 2 ApRun.none).setF Fld.appraiser.startTick 7 10000
    Admitted (.appStop hd 7 0) hd s ∧ s.apState 7 = 2 ∧ (s.apRun 7).bound = none ∧
      s.getF Fld.appraiser.startTick 7 = max (0 : BitVec 64).toNat s.tick := ⟨admitted_of (by decide +kernel), by decide +kernel⟩

/-- A window whose sum saturates at shift 0, of a channel that is member 15 of its demixer or of none. -/
def bigWin : Win := ⟨511, 0, 9900, 9900, 9962, 0, 1, 0, 0, 0, ⟨2 ^ 40, -4⟩, false, false, false, false, false, 127, 0⟩
def memberWin : State :=
  { (up.setL Fld.demix.demixEn 31 1).setL Fld.demix.member 31 (2 ^ 15) with rd := { up.rd with wins := [bigWin] } }
def memberPt (rc e : Nat) (m : Nat) : Pt := ⟨rc, ⟨3, -4⟩, false, false, e + 46, e, 9900, 0, true, m, false, false⟩
/-- Coefficients M[15][15] = M[15][14] = 1. -/
def ones15 : Nat := 65536 <<< (512 + 64 * 255) ||| 65536 <<< (512 + 64 * 254)

theorem witness_points_of_members :
    (memberWin.pointDue 511 = some bigWin ∧ bigWin.held = false ∧
      (decide (memberWin.getL Fld.demix.demixEn (511 / 16) = 1) && bit (memberWin.getL Fld.demix.member (511 / 16)) (511 % 16)) = true ∧
      saturates 32 (rshift bigWin.acc.i bigWin.oshift) = true) ∧
    (let s := { up with rd := { up.rd with pts := [memberPt 511 9958 ones15] } }
     s.rd.pts = [memberPt 511 9958 ones15] ∧ (memberPt 511 9958 ones15).e + 42 ≤ s.tick) ∧
    ((memberPt 511 9958 ones15).rc / 16 = (memberPt 510 9958 ones15).rc / 16 ∧
      demixCoef (memberPt 511 9958 ones15).demix (511 % 16) (510 % 16) ≠ ⟨0, 0⟩ ∧
      demixCoef (memberPt 511 9958 0).demix (511 % 16) (510 % 16) = ⟨0, 0⟩) := by decide +kernel

/-- Two and three centroids at 0, (4, 0) and (8, 0) point units, radius 3, margin 1. -/
def judgeCfg (n margin : Nat) : Nat := n ||| 3 <<< 384 ||| 3 <<< 416 ||| 3 <<< 448 ||| margin <<< 480
def cent (k : Nat) : Iq := ⟨65536 * 4 * k, 0⟩

theorem witness_VerdictsAreClassified :
    (let pt := { point with ovf := false }
     let s := { up with rd := { up.rd with pts := [pt] } }
     s.verdictDue 511 = some pt ∧ pt.ovf = false ∧ pt.stale = false ∧ bit s.vd.drift 511 = false) ∧
    (let d := fun (z : Iq) (k : Nat) => (65536 * z.i - (([cent 0, cent 1, cent 2] : List Iq).getD k ⟨0, 0⟩).i) ^ 2 +
       (65536 * z.q - (([cent 0, cent 1, cent 2] : List Iq).getD k ⟨0, 0⟩).q) ^ 2
     cfgNcent (judgeCfg 3 1) = 3 ∧ cfgNcent (judgeCfg 1 0) = 1 ∧ cfgRadius (judgeCfg 3 1) 1 = 3 ∧ cfgMargin (judgeCfg 3 1) = 1 ∧
     (∀ k, k < 3 → d ⟨2, 0⟩ 0 ≤ d ⟨2, 0⟩ k) ∧ d ⟨2, 0⟩ 1 = d ⟨2, 0⟩ 0 ∧ (65536 * 3) ^ 2 < d ⟨-4, 0⟩ 0 ∧
     (∀ k, k < 3 → k ≠ 1 → d ⟨5, 0⟩ 2 ≤ d ⟨5, 0⟩ k) ∧ d ⟨5, 0⟩ 1 < d ⟨5, 0⟩ 0 ∧ d ⟨5, 0⟩ 1 ≤ d ⟨5, 0⟩ 2) ∧
    (judge (judgeCfg 3 1) [cent 0, cent 1, cent 2] ⟨5, 0⟩).code = 1 ∧ (judge (judgeCfg 3 1) [cent 0, cent 1, cent 2] ⟨2, 0⟩).why = 2 ∧
    (judge (judgeCfg 3 1) [cent 0, cent 1, cent 2] ⟨-4, 0⟩).why = 1 ∧ (judge (judgeCfg 1 0) [cent 0, cent 1, cent 2] ⟨3, 0⟩).code = 0 := by
  decide +kernel

theorem witness_the_drift_limit :
    let s := up.setLiveObj 0x08 511 (setBits (setBits (up.liveObj 0x08 511) 8 5 4) 544 32 1)
    let v : Iq := ⟨rshift (65536 * 15) 4, 0⟩
    s.centroid 511 0 = ⟨0, 0⟩ ∧ cfgK (s.liveObj 0x08 511) = 4 ∧ (65536 * 0 - v.i) ^ 2 + (65536 * 0 - v.q) ^ 2 ≤ (65536 * cfgDriftLim (s.liveObj 0x08 511)) ^ 2 ∧
      (65536 * cfgDriftLim (s.liveObj 0x08 511)) ^ 2 < (0 - rshift (65536 * 17) 4) ^ 2 := by decide +kernel

/-- Appraiser 7's configuration with a recipe and every channel selected, and a fresh point of channel 511. -/
def apCfg (recipe : Nat) : Nat :=
  ((up.setF Fld.appraiser.recipe 7 recipe).setF Fld.appraiser.chMask 7 (2 ^ 63)).obj 0x0B 7
def apWith (recipe : Nat) (c : Cell) : State := apIn 2 { ApRun.none with cfg := apCfg recipe, cells := [(0, c)] }
def fresh (code : Nat) : ApPt := ⟨511, ⟨3, -4⟩, code, false, false, 9990, 0, 9900, 10000⟩
/-- A CORRELATE configuration of one pair (63, 63) or (63, 62). -/
def pairCfg (b : Nat) : Nat := setBits (setBits (apCfg 3) 256 6 63) 262 6 b

theorem witness_AppraiserAccumulates_1 :
    (let s := apIn 2 { ApRun.none with cfg := apCfg 0, queue := [fresh 3] }
     (s.apRun 7).queue = fresh 3 :: [] ∧ s.apState 7 = 2 ∧ (fresh 3).ready ≤ s.tick ∧ apExcluded { s.apRun 7 with queue := [] } (fresh 3) = false ∧
       apExcluded { s.apRun 7 with queue := [] } apPt = true ∧ apRecipe (s.apRun 7).cfg < 3 ∧ apRecipe (apCfg 4) = 4 ∧ apRecipe (apCfg 3) = 3 ∧
       fieldOf Fld.appraiser.stateFilt (apCfg 0) < 4) ∧
    (let s := fun (w : Cell) => apWith 2 w
     let r := fun (w : Cell) => (s w).apRun 7
     apRecipe (r Cell.zero).cfg = 2 ∧ apRank (r Cell.zero).cfg (511 % 64) * apNbins (r Cell.zero).cfg + apBin (r Cell.zero).cfg 0 = 0 ∧
       saturates 48 (0 + 3) = false ∧ saturates 48 (0 + -4) = false ∧ saturates 48 (2 ^ 47 - 3 + 3) = true ∧
       (sget (fun _ => Cell.zero) (r { Cell.zero with satI := true }).cells 0).satI = true) := by decide +kernel

theorem witness_AppraiserAccumulates_2 :
    ((0 : Int) ≤ (3 - toS 32 (fieldOf Fld.appraiser.hOriginI (apCfg 1))) / 2 ^ fieldOf Fld.appraiser.hShift (apCfg 1) ∧
      ((-4 : Int) - toS 32 (fieldOf Fld.appraiser.hOriginQ (apCfg 1))) / 2 ^ fieldOf Fld.appraiser.hShift (apCfg 1) < 0 ∧
      apRecipe (apCfg 1) = 1 ∧ apRecipe (apCfg 4) = 4) ∧
    (apPairs (pairCfg 63) = [(0, 63, 63)] ∧ apPairs (pairCfg 62) = [(0, 63, 62)] ∧
      apOther { ApRun.none with seen := [{ fresh 0 with rc := 510 }] } (fresh 0) 62 = some { fresh 0 with rc := 510 }) ∧
    (let s := (apIn 2 { ApRun.none with cfg := ((up.setF Fld.appraiser.pointLimit 7 5).obj 0x0B 7) }).setF Fld.appraiser.accepted 7 5
     fieldOf Fld.appraiser.pointLimit (s.apRun 7).cfg = 5 ∧ s.getF Fld.appraiser.accepted 7 = 5) ∧
    (saturates 40 (2 ^ 39) = true ∧ saturates 40 (2 ^ 39 - 1) = false) := by decide +kernel

theorem witness_VitrineRuns_4 :
    (10000 ∈ ((viIs 2 { ViRun.none with ignored := [10000] }).viRun 7).ignored ∧ 9999 ∉ ((viIs 2 { ViRun.none with ignored := [10000] }).viRun 7).ignored) ∧
    (let s := { viIs 2 { ViRun.none with unsettled := true, lostAt := some 9990 } with pw := { up.pw with tripGated := true } }
     s.vitClocked = false ∧ (s.viRun 7).unsettled = true ∧ (s.viRun 7).final = true ∧ (s.viRun 7).byEvt = false) := by decide +kernel

theorem witness_BiasPins_held :
    ({ up with pw := { up.pw with orderHolds := [(5, 0)] } }).pw.orderHolds.any (fun h => decide (h.1 = 5)) = true ∧
      up.pw.orderHolds.any (fun h => decide (h.1 = 5)) = false := by decide +kernel

theorem witness_PpsOut_falls_first :
    let s := { at1s (up.setF Fld.time.ppsOutEn 0 1) with tm := { (at1s up).tm with ppsFall := 16000000000 } }
    s.ppsOutSlot = some 16000000000 ∧ s.tm.ppsFall ≠ 0 ∧ s.tm.ppsFall ≤ 16000000000 := by decide +kernel

/-- A CP_LINK that waits for port 3 until tick 9,999. -/
def linkWaits : State :=
  { up with cmd := { up.cmd with open_ := [⟨1, .cpLink hd 8 8, hd, 0, 0, .waiting, 8, 9999, false, false⟩], nextId := 2 } }

theorem witness_CourierLinks_4 :
    ((linkIs 1).fallbackDue 3 = false ∧ (linkIs 1).linkTimeoutDue 3 = false ∧ up.fallbackDue 3 = false ∧ up.linkTimeoutDue 3 = false) ∧
    (let s := port 1 { CpRt.none with boundAt := 9999 }
     s.cmd.open_ = [] ∧ s.linkState 3 = 1 ∧ (s.cpRt 3).boundAt < s.tick ∧ (s.cpRt 3).fallAt = 0) ∧
    (∃ c, linkWaits.cmd.open_ = [c] ∧ c.instr = .cpLink hd 8 8 ∧ c.st = .waiting ∧ bit c.mask 3 = true ∧ c.res < linkWaits.tick) ∧
    ((linkWaits.cpRt 3).boundAt = 0 ∧ linkWaits.linkState 3 ≠ 2) ∧
    (bits 0x10000000 28 4 = 1 ∧ bits 0x20000005 28 4 = 2 ∧ ((port 2 { CpRt.none with marks := [5] }).cpRt 3).marks = 5 :: []) :=
  ⟨by decide +kernel, by decide +kernel, ⟨_, rfl, rfl, rfl, by decide +kernel, by decide +kernel⟩, by decide +kernel, by decide +kernel⟩

/-! ### Single steps (expected values from the rules named) -/

def after (i : Instr) (s : State) : State :=
  match exec i s with
  | .next t => t
  | _ => s

/-- R427: RESULT0 of SYS_IDENTIFY is the IDCODE; R410: bytes 8–11 of the completion hold it. -/
theorem test_identify_idcode :
    ((after (.sysIdentify hd) up).cmd.outbox.map (fun e => leNat (sub e.bytes 8 4))) = [0x195125AF] := by decide +kernel
/-- R410, R426: a refused parameter has status BAD_PARAM and RESULT0 names packet byte 6 (R407, R411). -/
theorem test_bad_plen :
    ((after (.sysNop { hd with plen := 33 }) up).cmd.outbox.map (fun e => leNat (sub e.bytes 8 4))) = [6] := by decide +kernel
/-- The worked example of R415: the offset of F24 rises by a quarter turn. -/
theorem test_frame_op_f24 : frameOff ((after (.frameOp hd 24 1 0x4000) late8).liveObj 0x04 24) = 0x40000000 := by decide +kernel
/-- R54: SET leaves the argument as the upper half of the offset. -/
theorem test_frame_op_set : frameOff ((after (.frameOp hd 4094 2 0xFFFF) late8).liveObj 0x04 4094) = 0xFFFF0000 := by decide +kernel
/-- R41: a length of 17 sets LEN_ERR and leaves the length; R41: one of 65,536 takes effect and clears the indexes. -/
theorem test_ring_length :
    ((after (.ringLength .pf1 10 17) (ringIs 10 { Ring.fresh 2 with prod := 3 })).ring 10).lenErr = true ∧
      ((after (.ringLength .pf1 10 65536) (ringIs 10 { Ring.fresh 2 with prod := 3 })).ring 10).length = 65536 ∧
      ((after (.ringLength .pf1 10 65536) (ringIs 10 { Ring.fresh 2 with prod := 3 })).ring 10).prod = 0 := by decide +kernel
/-- R387: PROD moves from 15 round to 2; a value of LENGTH sets PTR_ERR. -/
theorem test_ring_prod_wraps :
    ((after (.ringProd .pf0 0 2) cmdRing).ring 0).prod = 2 ∧ (after (.ringProd .pf0 0 2) cmdRing).counter 0x15 0 0 = 3 ∧
      ((after (.ringProd .pf0 0 16) cmdRing).ring 0).ptrErr = true := by decide +kernel
/-- R4, R387: bits [31:16] of an index write are ignored. -/
theorem test_ring_prod_ignores_reserved_bits :
    ((after (.ringProd .pf0 0 0x10002) cmdRing).ring 0).prod = 2 ∧ ((after (.ringProd .pf0 0 0x10002) cmdRing).ring 0).ptrErr = false := by
  decide +kernel
/-- R393: a doorbell of the Docent for no byte is ignored. -/
theorem test_empty_message_is_ignored : ((after (.d2hDoorbell 0 [] 0) up).mbox 0).d2hFull = false := by decide +kernel
/-- R2: vendor and device ID, and the class code, in configuration space. -/
theorem test_configuration_space : up.cfgRead 0 = 0x95127A1C ∧ up.cfgRead 8 / 2 ^ 16 = 0x1180 := by decide +kernel
/-- R514: register 0x01 in Run with READY 1, no reading while READY is 0, and no register 0x1B. -/
theorem test_smbus : up.smbusRead 1 false = some [0x40] ∧ State.reset.smbusRead 1 false = none ∧ up.smbusRead 0x1B false = none := by
  decide +kernel
/-- R485, R486: the second write of a record programs the other copy with the next number, and is what is read. -/
theorem test_strongroom_copies :
    let s := (up.nvWrite nvPolicy 1 1).nvWrite nvPolicy 1 0
    s.nvRead nvPolicy = some 0 ∧ (s.nvRec nvPolicy).a.body ≠ (s.nvRec nvPolicy).b.body ∧
      (s.nvSpoil nvPolicy 1 1).nvRead nvPolicy = some 0 := by decide +kernel
/-- R393: a doorbell of 256 bytes fills the slot; the Docent's take empties it and sets ACK. -/
theorem test_mailbox :
    ((after (.doorbell 7 256) up).mbox 7).h2dFull = true ∧ ((after (.h2dTake 0) mbA).mbox 0).h2dFull = false ∧
      ((after (.h2dTake 0) mbA).mbox 0).ack = true := by decide +kernel
/-- R113, R138: an illegal word faults its curator with code 1. -/
theorem test_illegal_word_faults :
    (after (.wordStart 127) (atWord badWord 0 0 false)).curState 127 = 5 ∧
      (after (.wordStart 127) (atWord badWord 0 0 false)).getF Fld.curator.faultCode 127 = 1 := by decide +kernel
/-- R150: CUR_START at 11,000 arms C127 for that tick. -/
theorem test_cur_start :
    (after (.curStart hd (2 ^ 127) 11000) loaded).curState 127 = 2 ∧
      (after (.curStart hd (2 ^ 127) 11000) loaded).getF Fld.curator.startTick 127 = 11000 := by decide +kernel
/-- R290: the update edge loads the strobed code, and no other output. -/
theorem test_bias_update :
    (after (.biasUpdateEdge 3) strobed).getF Fld.bias.dacCode 127 = 0xFFFFF ∧
      (after (.biasUpdateEdge 3) strobed).obj 0x0D 126 = strobed.obj 0x0D 126 := by decide +kernel
/-- R340: an event 127 slots after the last fired one sets LOOP_DROP, one 128 slots after it fires. -/
theorem test_loop_drop :
    let s := { up with cat := { up.cat with last := [(180, 160001)] } }
    (s.fireAt 180 160127 none).flag Fld.catalogue.loopDrop 0 = true ∧ (s.fireAt 180 160128 none).flag Fld.catalogue.loopDrop 0 = false ∧
      (s.fireAt 180 160128 none).counter 0x11 180 0 = 1 := by decide +kernel
/-- R310: a relock puts raw time on a multiple of 16. -/
theorem test_relock :
    (after (.pllRelock 7) unlocked).nextTick.raw % 16 = 0 ∧ unlocked.raw + 7 ≤ (after (.pllRelock 7) unlocked).nextTick.raw ∧
      (after (.pllRelock 7) unlocked).nextTick.raw < unlocked.raw + 7 + 16 := by decide +kernel
/-- R374: a release frees a held ledger; R364: a snapshot that is due is held and numbered. -/
theorem test_ledger :
    (after (.ldgRelease hd) (ldgIs 2 [])).ldg.st = 0 ∧ (after .ledgerSnapshot (ldgIs 1 [])).ldg.st = 2 ∧
      (after .ledgerSnapshot (ldgIs 1 [])).ldg.num = 8 := by decide +kernel
/-- R487: a cold reset restarts raw time and keeps the strongroom's policy. -/
theorem test_cold_reset :
    (after .coldReset policyOn).raw = 0 ∧ (after .coldReset policyOn).policy = true ∧ (after .coldReset policyOn).powerState = 2 := by
  decide +kernel
/-- R492: TESTEN high halts the boot ROM with BOOT_CODE 0x30. -/
theorem test_boot_code_of_a_test_strap : (after .boot (booting 8)).bt.code = 0x30 ∧ (after .boot (booting 8)).bt.ready = false := by
  decide +kernel
/-- R160: the end of STARTING is RUNNING. -/
theorem test_starting_end : (after (.startingEnd 31) starting).inputState 31 = 3 := by decide +kernel
/-- R435: an echo of 1,600 ticks fits the hop and leaves a pad of 32. -/
theorem test_measure_end :
    (after (.measureEnd 3) (port 2 { CpRt.none with measEnd := 10000, echoes := 16, maxR := 1600 })).getF Fld.courier.pad 3 = 32 := by
  decide +kernel

/-- The condition of CAT_COMMIT: the reset matrix has no refused cycle. -/
theorem witness_CommitCommandsCaptureAndWait_3 :
    (allCycles (up.obj 0x10 0)).any (cycleRefused (up.obj 0x10 0)) = false := by decide +kernel
end Sys2Proof.Tests
end

/-! ### Ring length writes (R41, R42) -/

section
namespace Sys2Proof.Machine

/-- The lengths that R41 allows: the thirteen powers of two from 16 to 65,536. -/
theorem validLength_iff (v : Nat) : validLength v = true ↔ ∃ k : Fin 13, v = 2 ^ (k.val + 4) := by
  simp [validLength, Fin.exists_iff]

theorem validLength_eq_false_iff (v : Nat) : validLength v = false ↔ ∀ k : Fin 13, v ≠ 2 ^ (k.val + 4) := by
  rw [← Bool.not_eq_true, validLength_iff, not_exists]

/-- A ring's owner reaches its LENGTH register at offset 8 of the ring's set (R386). -/
theorem ringWrite_length {s : State} {f : Fn} {n : Nat} (ho : (s.ring n).ownedBy f = true) (v : Nat) :
    s.ringWrite f n 0x08 v = s.ringWriteLength n v := by
  simp [State.ringWrite, ho]

theorem ringWriteLength_of_invalid {v : Nat} (hv : validLength v = false) (s : State) (n : Nat) :
    s.ringWriteLength n v = (s.setRing n { s.ring n with lenErr := true }).markNow (nowRingSt n) 128 := by
  simp [State.ringWriteLength, hv]

theorem ringWriteLength_of_enabled {s : State} {n v : Nat} (hv : validLength v = true) (he : (s.ring n).en = true) :
    s.ringWriteLength n v = s.setRing n { s.ring n with staged := some v } := by
  simp [State.ringWriteLength, hv, he]

theorem ringWriteLength_of_disabled {s : State} {n v : Nat} (hv : validLength v = true) (he : (s.ring n).en = false) :
    s.ringWriteLength n v =
      (s.setRing n { s.ring n with length := v, prod := 0, cons := 0, oldLen := none, tags := [] }).count 0x15 n 3 := by
  simp [State.ringWriteLength, hv, he]

/-- LENGTH written by the owner of a ring while the host link is powered is a ring length write. -/
theorem exec_ringLength_of_owner {f : Fn} {n : Fin 80} {s : State} (hp : s.powered domPCIE = true)
    (ho : (s.ring n.val).ownedBy f = true) (v : BitVec 32) :
    exec (.ringLength f n v) s = .next (s.ringWriteLength n.val v.toNat) := by
  calc exec (.ringLength f n v) s
      = .next (s.barWrite f (0x8000 + 0x08 + 0x40 * n.val) v.toNat) := rfl
    _ = .next (s.ringWrite f n.val 0x08 v.toNat) := by
        rw [barWrite_ring s f n.val 0x08 v.toNat hp n.isLt (by decide) (by decide)]
    _ = .next (s.ringWriteLength n.val v.toNat) := by rw [ringWrite_length ho]

/-- Settles O9: an owner's LENGTH write is `ringWriteLength`, whose three cases are the three clauses. -/
theorem ringLengthTakesEffectOrIsStaged : Obligations.RingLengthTakesEffectOrIsStaged := by
  intro f n v s hp ho
  rw [exec_ringLength_of_owner hp ho]
  refine ⟨fun hbad => ?_, fun k hk hen => ?_, fun k hk hdis => ?_⟩
  · rw [ringWriteLength_of_invalid ((validLength_eq_false_iff _).2 hbad)]
  · rw [ringWriteLength_of_enabled ((validLength_iff _).2 ⟨k, hk⟩) hen]
  · rw [ringWriteLength_of_disabled ((validLength_iff _).2 ⟨k, hk⟩) hdis]

end Sys2Proof.Machine
end

/-! ### Frame operations and the phase (R54, R56) -/

section
namespace Sys2Proof.Machine

/-! What a frame's live image reads as after its offset or its selector is written (R44). -/

@[simp] theorem frameOff_withOffset (img o : Nat) : frameOff (withOffset img o) = o % 2 ^ 32 :=
  bits_setBits_same img 160 32 o

@[simp] theorem frameFreq_withOffset (img o : Nat) : frameFreq (withOffset img o) = frameFreq img := by
  have hsel : bit (withOffset img o) 192 = bit img 192 := by simp [bit, withOffset, testBit_setBits]
  have ha : bits (withOffset img o) 0 48 = bits img 0 48 := bits_setBits_other img 160 32 o 0 48 (by omega)
  have hb : bits (withOffset img o) 64 48 = bits img 64 48 := bits_setBits_other img 160 32 o 64 48 (by omega)
  simp only [frameFreq, hsel, ha, hb]

@[simp] theorem frameOff_setBits_selector (img v : Nat) : frameOff (setBits img 192 1 v) = frameOff img :=
  bits_setBits_other img 192 1 v 160 32 (by omega)

theorem frameFreq_setBits_selector (img v : Nat) :
    frameFreq (setBits img 192 1 (v % 2)) = if v % 2 = 1 then bits img 64 48 else bits img 0 48 := by
  have hsel : bit (setBits img 192 1 (v % 2)) 192 = decide (v % 2 = 1) := by
    simp [bit, testBit_setBits, Nat.testBit_zero]
  have ha : bits (setBits img 192 1 (v % 2)) 0 48 = bits img 0 48 := bits_setBits_other img 192 1 _ 0 48 (by omega)
  have hb : bits (setBits img 192 1 (v % 2)) 64 48 = bits img 64 48 := bits_setBits_other img 192 1 _ 64 48 (by omega)
  simp only [frameFreq, hsel, ha, hb, decide_eq_true_eq]

theorem frameFreq_lt (img : Nat) : frameFreq img < p48 := by
  unfold frameFreq
  split <;> exact Nat.mod_lt _ (Nat.two_pow_pos 48)

/-! The phase of an image, and the rounding of an offset against it. -/

/-- Phase of a frame's live image at raw instant t (R48). -/
def imagePhase (img t : Nat) : Nat := (frameFreq img * (t % p48) + frameOff img * 2 ^ 16) % p48

/-- The phase of every frame but F4095 is that of its image (R48, R65). -/
theorem framePhase_eq_imagePhase (s : State) (tile t : Nat) {f : Nat} (hf : f ≠ 4095) :
    s.framePhase tile f t = imagePhase (s.frameAt tile f t) t := by
  simp [State.framePhase, imagePhase, hf]

theorem imagePhase_eq (img t : Nat) : imagePhase img t = (frameFreq img * t % p48 + frameOff img * 2 ^ 16) % p48 := by
  rw [imagePhase, Nat.add_mod, Nat.mul_mod_mod, ← Nat.add_mod, Nat.mod_add_mod]

/-- A phase modulo one turn that lies within 2^-33 turn of zero (R56). -/
def NearZeroPhase (d : Nat) : Prop := d ≤ 2 ^ 15 ∨ p48 - 2 ^ 15 ≤ d

theorem rnd16_eq_div (x : Nat) : rnd16 x = (x + 2 ^ 15) / 2 ^ 16 := Nat.shiftRight_eq_div_pow _ _

/-- What rounding to the offset's unit adds to a phase: `2 ^ 15` less the remainder of the half-up sum. -/
theorem rnd16_mul (x : Nat) : rnd16 x * 2 ^ 16 + (x + 2 ^ 15) % 2 ^ 16 = x + 2 ^ 15 := by
  rw [rnd16_eq_div, Nat.div_add_mod']

theorem rnd16_mul_of_dvd {x : Nat} (hx : x % 2 ^ 16 = 0) : rnd16 x * 2 ^ 16 = x := by
  rw [rnd16_eq_div]
  omega

theorem resetOffset_eq (f t : Nat) :
    resetOffset f t = (2 ^ 32 - (f * t % p48 + 2 ^ 15) / 2 ^ 16 % 2 ^ 32) % 2 ^ 32 := by
  rw [resetOffset, rnd16_eq_div]

theorem contOffset_eq (o f f' t : Nat) :
    contOffset o f f' t = (o + ((f + p48 - f') * t % p48 + 2 ^ 15) / 2 ^ 16) % 2 ^ 32 := by
  rw [contOffset, rnd16_eq_div, Nat.mod_mul_mod]

/-- The offset of RESETPH takes the rounded phase `F * t` off the phase itself. -/
theorem imagePhase_of_resetOffset {img t : Nat} (ho : frameOff img = resetOffset (frameFreq img) t) :
    imagePhase img t = (frameFreq img * t % p48 + p48 - rnd16 (frameFreq img * t % p48) * 2 ^ 16) % p48 := by
  have hx : frameFreq img * t % p48 < p48 := Nat.mod_lt _ (Nat.two_pow_pos 48)
  have hr := rnd16_mul (frameFreq img * t % p48)
  rw [imagePhase_eq, ho, resetOffset]
  generalize frameFreq img * t % p48 = x at hx hr ⊢
  simp only [p48] at hx ⊢
  omega

/-- With the offset of RESETPH a phase is within the rounding of zero, and zero where nothing is rounded (R56). -/
theorem imagePhase_near_zero_of_resetOffset {img t : Nat} (ho : frameOff img = resetOffset (frameFreq img) t) :
    NearZeroPhase (imagePhase img t) ∧ (frameFreq img * t % p48 % 2 ^ 16 = 0 → imagePhase img t = 0) := by
  have hx : frameFreq img * t % p48 < p48 := Nat.mod_lt _ (Nat.two_pow_pos 48)
  have hr := rnd16_mul (frameFreq img * t % p48)
  rw [imagePhase_of_resetOffset ho]
  generalize frameFreq img * t % p48 = x at hx hr ⊢
  constructor
  · simp only [NearZeroPhase, p48] at hx ⊢
    omega
  · intro h
    rw [rnd16_mul_of_dvd h, Nat.add_sub_cancel_left, Nat.mod_self]

/-- A change of frequency from `F` to `F'` takes `(F - F') * t` off the phase. -/
theorem freq_change_mod {f f' : Nat} (h' : f' < p48) (t : Nat) :
    (f' * t % p48 + (f + p48 - f') * t % p48) % p48 = f * t % p48 := by
  have hsum : f' * t + (f + p48 - f') * t = f * t + p48 * t := by
    rw [← Nat.add_mul, ← Nat.add_mul]
    congr 1
    omega
  rw [← Nat.add_mod, hsum, Nat.add_mul_mod_self_left]

/-- The offset of SETF_CONT puts the rounded `(F - F') * t` back into the phase, so what is left of the change of frequency
is the rounding, and nothing where nothing is rounded (R56). -/
theorem imagePhase_near_of_contOffset {old new t : Nat}
    (ho : frameOff new = contOffset (frameOff old) (frameFreq old) (frameFreq new) t) :
    NearZeroPhase ((imagePhase new t + p48 - imagePhase old t) % p48) ∧
      ((frameFreq old + p48 - frameFreq new) * t % p48 % 2 ^ 16 = 0 → imagePhase new t = imagePhase old t) := by
  have hf := freq_change_mod (f := frameFreq old) (frameFreq_lt new) t
  have hx : (frameFreq old + p48 - frameFreq new) * t % p48 < p48 := Nat.mod_lt _ (Nat.two_pow_pos 48)
  have hr := rnd16_mul ((frameFreq old + p48 - frameFreq new) * t % p48)
  rw [imagePhase_eq, imagePhase_eq, ho, contOffset, Nat.mod_mul_mod, ← hf]
  generalize (frameFreq old + p48 - frameFreq new) * t % p48 = x at hx hr ⊢
  generalize frameFreq new * t % p48 = y
  generalize frameOff old = o
  simp only [NearZeroPhase, p48] at hx ⊢
  constructor <;> omega

/-! One equation for each operation (R54). -/

theorem frameOff_shift (img arg t : Nat) :
    frameOff (frameOpImage img 1 arg t).1 = (frameOff img + arg * 2 ^ 16) % 2 ^ 32 := by
  simp [frameOpImage]

theorem frameOff_setph {arg : Nat} (ha : arg < 2 ^ 16) (img t : Nat) :
    frameOff (frameOpImage img 2 arg t).1 = arg * 2 ^ 16 := by
  have hlt : arg * 2 ^ 16 < 2 ^ 32 := by omega
  simp only [frameOpImage, frameOff_withOffset, Nat.mod_eq_of_lt hlt]

theorem frameFreq_resetph (img arg t : Nat) : frameFreq (frameOpImage img 3 arg t).1 = frameFreq img := by
  simp [frameOpImage]

theorem frameOff_resetph (img arg t : Nat) :
    frameOff (frameOpImage img 3 arg t).1 = resetOffset (frameFreq (frameOpImage img 3 arg t).1) t := by
  simp [frameOpImage, resetOffset]

theorem frameFreq_setfCont (img arg t : Nat) :
    frameFreq (frameOpImage img 4 arg t).1 = if arg % 2 = 1 then bits img 64 48 else bits img 0 48 := by
  simp only [frameOpImage, frameFreq_withOffset, frameFreq_setBits_selector]

theorem frameOff_setfCont (img arg t : Nat) :
    frameOff (frameOpImage img 4 arg t).1 =
      contOffset (frameOff img) (frameFreq img) (frameFreq (frameOpImage img 4 arg t).1) t := by
  simp [frameOpImage, contOffset]

theorem frameFreq_setfReset (img arg t : Nat) :
    frameFreq (frameOpImage img 5 arg t).1 = if arg % 2 = 1 then bits img 64 48 else bits img 0 48 := by
  simp only [frameOpImage, frameFreq_withOffset, frameFreq_setBits_selector]

theorem frameOff_setfReset (img arg t : Nat) :
    frameOff (frameOpImage img 5 arg t).1 = resetOffset (frameFreq (frameOpImage img 5 arg t).1) t := by
  simp [frameOpImage, resetOffset]

/-- Settles O28: the operations write the offsets of R54, and those offsets keep or clear the phase up to the rounding. -/
theorem frameOperationsSetTheOffset : Obligations.FrameOperationsSetTheOffset := by
  intro img arg t _ harg
  refine ⟨frameOff_shift img arg t, frameOff_setph harg img t, ?resetph, ?setfCont, ?setfReset⟩
  case resetph =>
    have ho := frameOff_resetph img arg t
    exact ⟨frameFreq_resetph img arg t, ho.trans (resetOffset_eq _ _), imagePhase_near_zero_of_resetOffset ho⟩
  case setfCont =>
    have ho := frameOff_setfCont img arg t
    exact ⟨frameFreq_setfCont img arg t, ho.trans (contOffset_eq _ _ _ _), imagePhase_near_of_contOffset ho⟩
  case setfReset =>
    have ho := frameOff_setfReset img arg t
    exact ⟨frameFreq_setfReset img arg t, ho.trans (resetOffset_eq _ _), imagePhase_near_zero_of_resetOffset ho⟩

end Sys2Proof.Machine
end

/-! ### A release of the ledger and an event in one tick (R369, R374) -/

section
namespace Sys2Proof.Machine

/-- The ledger of `t` differs from that of `s` at most in its live counters and its LOST marks: a snapshot, pending or held, and
the events of the tick stay as they are. -/
def KeepsSnapshot (s t : State) : Prop := ∃ cnt lost, t.ldg = { s.ldg with cnt := cnt, lost := lost }

theorem keepsSnapshot_of_ldg_eq {s t : State} (h : t.ldg = s.ldg) : KeepsSnapshot s t := ⟨s.ldg.cnt, s.ldg.lost, h⟩

theorem keepsSnapshot_trans {s t u : State} (hst : KeepsSnapshot s t) (htu : KeepsSnapshot t u) : KeepsSnapshot s u := by
  obtain ⟨_, _, ht⟩ := hst
  obtain ⟨cnt, lost, hu⟩ := htu
  exact ⟨cnt, lost, by rw [hu, ht]⟩

theorem KeepsSnapshot.st {s t : State} (h : KeepsSnapshot s t) : t.ldg.st = s.ldg.st := by
  obtain ⟨_, _, ht⟩ := h
  rw [ht]

theorem KeepsSnapshot.events {s t : State} (h : KeepsSnapshot s t) : t.ldg.events = s.ldg.events := by
  obtain ⟨_, _, ht⟩ := h
  rw [ht]

theorem keepsSnapshot_countN (s : State) (c n e k : Nat) : KeepsSnapshot s (s.countN c n e k) := ⟨_, s.ldg.lost, rfl⟩

theorem keepsSnapshot_markLost (s : State) (k : Nat) : KeepsSnapshot s (s.markLost k) := ⟨s.ldg.cnt, _, rfl⟩

theorem keepsSnapshot_capturesLost (s : State) (m : Nat) : KeepsSnapshot s (s.capturesLost m) := by
  unfold State.capturesLost
  induction setPositions m 16 generalizing s with
  | nil => exact keepsSnapshot_of_ldg_eq rfl
  | cons u l ih => exact keepsSnapshot_trans (keepsSnapshot_markLost s (82 + u)) (ih _)

theorem keepsSnapshot_ringLost (s : State) (n k : Nat) : KeepsSnapshot s (s.ringLost n k) := by
  unfold State.ringLost
  split
  · exact keepsSnapshot_of_ldg_eq rfl
  · exact keepsSnapshot_trans (keepsSnapshot_of_ldg_eq rfl) (keepsSnapshot_countN _ _ _ _ _)

theorem keepsSnapshot_answerCompletion (s : State) (d : Bool) (k : Nat) (i : Instr) (h : Hdr) (rep : Reply) (c : Nat) :
    KeepsSnapshot s (s.answerCompletion d k i h rep c) := by
  unfold State.answerCompletion
  simp only []
  split
  case isTrue =>
    refine keepsSnapshot_trans ?_ (keepsSnapshot_capturesLost _ _)
    split
    · exact keepsSnapshot_ringLost _ _ _
    · exact keepsSnapshot_of_ldg_eq rfl
  case isFalse =>
    split
    · exact keepsSnapshot_of_ldg_eq rfl
    · split
      · exact keepsSnapshot_of_ldg_eq rfl
      · exact keepsSnapshot_capturesLost _ _

/-- A completion counts what it loses and leaves the ledger's snapshot alone. -/
theorem keepsSnapshot_complete (s : State) (k : Nat) (i : Instr) (h : Hdr) (rep : Reply) (c : Nat) :
    KeepsSnapshot s (s.complete k i h rep c) :=
  keepsSnapshot_trans (keepsSnapshot_of_ldg_eq rfl) (keepsSnapshot_answerCompletion _ _ _ _ _ _ _)

/-- A completion takes no time. -/
@[simp] theorem State.complete_tick (s : State) (k : Nat) (i : Instr) (h : Hdr) (rep : Reply) (c : Nat) :
    (s.complete k i h rep c).tick = s.tick := by
  simp only [State.tick, (leavesUnits_complete s k i h rep c).raw]

/-! The two cases of LDG_RELEASE (R374). -/

theorem cmdLdgRelease_of_held {s : State} (hs : s.ldg.st = 2) (id : Nat) :
    cmdLdgRelease id s = (s.ledgerRelease, Reply.ok1 (s.ldg.num % 2 ^ 32)) := by
  simp [cmdLdgRelease, hs]

theorem cmdLdgRelease_of_not_held {s : State} (hs : s.ldg.st ≠ 2) (id : Nat) : cmdLdgRelease id s = (s, Reply.ok1 0) := by
  simp [cmdLdgRelease, hs]

theorem exec_ldgRelease_of_held {h : Hdr} {s : State} (a : Admitted (.ldgRelease h) h s) (hs : s.ldg.st = 2) :
    exec (.ldgRelease h) s = .next (s.answered (s.accepted (.ldgRelease h) h).ledgerRelease (.ldgRelease h) h
      (Reply.ok1 (s.ldg.num % 2 ^ 32))) :=
  run_answers_plain a (cmdLdgRelease_of_held (s := s.accepted (.ldgRelease h) h) hs _) rfl rfl

theorem exec_ldgRelease_of_not_held {h : Hdr} {s : State} (a : Admitted (.ldgRelease h) h s) (hs : s.ldg.st ≠ 2) :
    exec (.ldgRelease h) s =
      .next (s.answered (s.accepted (.ldgRelease h) h) (.ldgRelease h) h (Reply.ok1 0)) :=
  run_answers_plain a (cmdLdgRelease_of_not_held (s := s.accepted (.ldgRelease h) h) hs _) rfl rfl

/-- What the end of the tick sees of a release of a HELD ledger: it is FREE, and the tick and its events are as they were. -/
theorem ldgRelease_of_held {h : Hdr} {s t : State} (a : Admitted (.ldgRelease h) h s) (hs : s.ldg.st = 2)
    (e : exec (.ldgRelease h) s = .next t) : t.ldg.st = 0 ∧ t.ldg.events = s.ldg.events ∧ t.tick = s.tick := by
  rw [exec_ldgRelease_of_held a hs] at e
  obtain rfl := Host.Outcome.next.inj e
  have hk := keepsSnapshot_complete (s.accepted (.ldgRelease h) h).ledgerRelease s.cmd.nextId (.ldgRelease h) h
    (Reply.ok1 (s.ldg.num % 2 ^ 32)) 0
  exact ⟨hk.st, hk.events, State.complete_tick _ _ _ _ _ _⟩

/-- Noting an EVT253 event does not change whether a command is admitted: no check of R414 reads the ledger. -/
theorem admitted_evtLedger {i : Instr} {h : Hdr} {s : State} (a : Admitted i h s) : Admitted i h s.evtLedger :=
  ⟨a.alive, a.room, a.sound, a.now, a.free, a.placed, a.power, a.fits⟩

/-- One EVT253 event at the end of a tick with the ledger FREE schedules a snapshot for 1,000 ticks later (R369). -/
theorem ledgerTickEnd_of_free {s : State} (hs : s.ldg.st = 0) (he : s.ldg.events = 1) :
    s.ledgerTickEnd.ldg.st = 1 ∧ s.ledgerTickEnd.ldg.tick = s.tick + 1000 := by
  have hend : s.ledgerTickEnd =
      (({ s with ldg := { s.ldg with events := 0 } }).scheduleSnapshot (s.tick + 1000) 0 0 0).delivered 253 := by
    simp [State.ledgerTickEnd, he, List.range_succ, State.ledgerEvent, hs, State.tick]
  rw [hend]
  exact ⟨rfl, rfl⟩

/-- Settles O36: a release and an event of one tick leave, in either order, a FREE ledger with one event for the tick's end. -/
theorem ledgerReleaseFreesAHeldLedger : Obligations.LedgerReleaseFreesAHeldLedger := by
  refine ⟨fun h s a => ⟨exec_ldgRelease_of_not_held a, exec_ldgRelease_of_held a⟩,
    fun h s a hs => ⟨fun u t h0 hrel hevt => ?releaseFirst, fun u t h0 hevt hrel => ?eventFirst⟩⟩
  case releaseFirst =>
    obtain ⟨hfree, hevents, htick⟩ := ldgRelease_of_held a hs hrel
    obtain rfl : u.evtLedger = t := Host.Outcome.next.inj hevt
    have hone : u.evtLedger.ldg.events = 1 := congrArg (· + 1) (hevents.trans h0)
    exact htick ▸ ledgerTickEnd_of_free hfree hone
  case eventFirst =>
    obtain rfl : s.evtLedger = u := Host.Outcome.next.inj hevt
    obtain ⟨hfree, hevents, htick⟩ := ldgRelease_of_held (admitted_evtLedger a) hs hrel
    have hone : t.ldg.events = 1 := hevents.trans (congrArg (· + 1) h0)
    have hnow : t.tick = s.tick := htick
    exact hnow ▸ ledgerTickEnd_of_free hfree hone

end Sys2Proof.Machine
end

/-! ### The queue, reset and packets (R406, R419, R430, R451) -/

section
namespace Sys2Proof.Machine

/-- Settles O1: the step of a non-empty queue is `exec` of its front. -/
theorem stepRunsTheFrontCommand : Obligations.StepRunsTheFrontCommand := by
  intro c rest s hq
  simp only [step, hq]

/-- Settles O2: the reset state is a literal, so each part is evaluated. -/
theorem resetLeavesQuietAndCanonicalStores : Obligations.ResetLeavesQuietAndCanonicalStores := by
  refine ⟨rfl, ?_, ?_, rfl, rfl, ⟨?_, ?_, ?_⟩, ?_⟩
  all_goals decide

/-- Settles O4: only the object writes of the table lack a packet of their own. -/
theorem everyHostCommandHasAPacket : Obligations.EveryHostCommandHasAPacket := by
  intro i h hi hw
  exact ⟨packetWith i h (crc32c (crcBytes (packetWith i h 0))), by simp only [encodePacket, hi, hw]⟩

/-- Settles O57: the meaning of every row is a next state, by the dispatch of `exec`. -/
theorem wellFormedCommandsAlwaysAnswer : Obligations.WellFormedCommandsAlwaysAnswer := by
  intro i s _
  cases i <;> exact ⟨_, rfl⟩

end Sys2Proof.Machine
end

/-! ### Acceptance, schedules and chains (R413 to R418, R429) -/

section
namespace Sys2Proof.Machine

/-- What `State.issue` does with a packet on a path that takes one (R413, R414, R418). -/
theorem issue_of_taken {i : Instr} {h : Hdr} {s : State} (own : Own) (ha : s.pathAlive h.path = true)
    (hr : s.openOn h.path < 64) :
    s.issue i h own = match commonCheck i h with
      | some rep => s.turnedAway (s.newId h.path).2 i h rep
      | none =>
        if h.chain = true ∧ sget (fun _ => 0) s.cmd.last (pathKey h.path) = 1 then
          (s.newId h.path).2.openCmd s.cmd.nextId i h
            (.chained (sget (fun _ => 0) s.cmd.lastId (pathKey h.path)))
        else if h.chain = true ∧ sget (fun _ => 0) s.cmd.last (pathKey h.path) = 3 then
          (s.newId h.path).2.skipCmd s.cmd.nextId i h
        else if ((s.newId h.path).2.scheduleCheck h).isSome then
          ((s.opened i h).startCmd s.cmd.nextId i h own).keepFirst h.path
            (sget (fun _ => 0) s.cmd.last (pathKey h.path))
        else (s.opened i h).startCmd s.cmd.nextId i h own := by
  have hfull : ¬ 64 ≤ s.openOn h.path := by omega
  unfold State.issue
  simp only [ha, hfull]
  rfl

theorem issue_of_refused {i : Instr} {h : Hdr} {s : State} {rep : Reply} (own : Own) (ha : s.pathAlive h.path = true)
    (hr : s.openOn h.path < 64) (hc : commonCheck i h = some rep) :
    s.issue i h own = s.turnedAway (s.newId h.path).2 i h rep := by
  rw [issue_of_taken own ha hr, hc]

theorem issue_unchained {i : Instr} {h : Hdr} {s : State} (own : Own) (ha : s.pathAlive h.path = true)
    (hr : s.openOn h.path < 64) (hc : commonCheck i h = none) (hn : h.chain = false) :
    s.issue i h own =
      if ((s.newId h.path).2.scheduleCheck h).isSome then
        ((s.opened i h).startCmd s.cmd.nextId i h own).keepFirst h.path (sget (fun _ => 0) s.cmd.last (pathKey h.path))
      else (s.opened i h).startCmd s.cmd.nextId i h own := by
  rw [issue_of_taken own ha hr, hc]
  simp [hn]

theorem commonCheck_of_insecure {i : Instr} {h : Hdr} (hs : securityOk i h = false) :
    commonCheck i h = some (Reply.fail .security) := by
  simp [commonCheck, hs]

theorem securityOk_of_secureOpcode {i : Instr} {h : Hdr} (ho : secureOpcode i.opcode = true)
    (hp : (pathSecure h.path && h.secure) = false) : securityOk i h = false := by
  simp [securityOk, ho, hp]

theorem securityOk_of_secure_flag {i : Instr} {h : Hdr} (hs : h.secure = true) (hp : pathSecure h.path = false) :
    securityOk i h = false := by
  simp [securityOk, hs, hp]

/-- A packet that a common check refuses, as the row's meaning. -/
theorem exec_of_refused {i : Instr} {h : Hdr} {s : State} {rep : Reply} (hi : i.hdr = some h)
    (ha : s.pathAlive h.path = true) (hr : s.openOn h.path < 64) (hc : commonCheck i h = some rep) :
    exec i s = .next (s.turnedAway (s.newId h.path).2 i h rep) := by
  rw [exec_host hi, run, issue_of_refused _ ha hr hc]

/-- Settles O5: `issue_of_refused`, with SECURITY the first of the common checks. -/
theorem failedChecksHaveNoEffect : Obligations.FailedChecksHaveNoEffect :=
  ⟨fun _ _ _ _ hi hc ha hr => exec_of_refused hi ha hr hc,
    fun _ _ _ hi ho hp ha hr => exec_of_refused hi ha hr (commonCheck_of_insecure (securityOk_of_secureOpcode ho hp)),
    fun _ _ _ hi hs hp ha hr => exec_of_refused hi ha hr (commonCheck_of_insecure (securityOk_of_secure_flag hs hp))⟩

/-! The schedule's checks (R415, R417). Opening a command that waits changes none of them. -/

theorem scheduleCheck_newId (s : State) (p : Path) (h : Hdr) : (s.newId p).2.scheduleCheck h = s.scheduleCheck h := rfl

theorem schedCount_opened (s : State) (i : Instr) (h : Hdr) : (s.opened i h).schedCount = s.schedCount := by
  simp [State.schedCount, State.opened, State.newId, State.openCmd, Cmd.isSched]

theorem scheduleCheck_opened (s : State) (i : Instr) (h : Hdr) : (s.opened i h).scheduleCheck h = s.scheduleCheck h := by
  simp only [State.scheduleCheck, schedCount_opened]
  rfl

/-- A command that the schedule refuses is turned away where it would have started. -/
theorem issue_of_schedule_refused {i : Instr} {h : Hdr} {s : State} {st : Status} (own : Own)
    (ha : s.pathAlive h.path = true) (hr : s.openOn h.path < 64) (hc : commonCheck i h = none) (hn : h.chain = false)
    (hs : s.scheduleCheck h = some st) : s.issue i h own = s.turnedAway (s.opened i h) i h (Reply.fail st) := by
  rw [issue_unchained own ha hr hc hn, scheduleCheck_newId, hs]
  simp only [State.startCmd, scheduleCheck_opened, hs]
  rfl

theorem scheduleCheck_eq {s : State} {h : Hdr} (hat : h.atTime = true) :
    s.scheduleCheck h = if 256 ≤ s.schedCount then some .busy
      else if s.atTick h < s.tick + 1000 then some .tooLate else none := by
  by_cases h0 : h.at_.toNat = 0 <;> simp [State.scheduleCheck, State.atTick, hat, h0]

/-- A command that the schedule takes waits for its AT tick. -/
theorem issue_of_scheduled {i : Instr} {h : Hdr} {s : State} (own : Own)
    (ha : s.pathAlive h.path = true) (hr : s.openOn h.path < 64) (hc : commonCheck i h = none) (hn : h.chain = false)
    (hat : h.atTime = true) (hs : s.scheduleCheck h = none) :
    s.issue i h own = (s.opened i h).restate s.cmd.nextId (.sched (s.atTick h)) := by
  rw [issue_unchained own ha hr hc hn, scheduleCheck_newId, hs]
  simp only [State.startCmd, scheduleCheck_opened, hs, hat]
  rfl

theorem scheduledExecution_of_next {s : State} {c : Cmd} {a : Nat} (hn : s.nextScheduled = some c)
    (hst : c.st = .sched a) :
    s.scheduledExecution = if s.wouldBeBusy c then s.markCmd c.id (.deferred a) false
      else (s.markCmd c.id .waiting false).execute c.id c.instr c.h (runCommand c.instr) := by
  simp only [State.scheduledExecution, hn, hst]

/-- Settles O6: the schedule's two checks at arrival, and the three events of a scheduled command. -/
theorem scheduledCommandsWaitExecuteOrTimeOut : Obligations.ScheduledCommandsWaitExecuteOrTimeOut := by
  refine ⟨fun i h s hi ha hr hc hat hn => ⟨fun hb => ?busy, fun hb hl => ?tooLate, fun hb hl => ?waits⟩,
    fun s c a hc hst => ?_, fun s c hc => ?_, fun s c hc => ?_⟩
  case busy =>
    have hs : s.scheduleCheck h = some .busy := by simp [scheduleCheck_eq hat, hb]
    rw [exec_host hi, run, issue_of_schedule_refused _ ha hr hc hn hs]
  case tooLate =>
    have hs : s.scheduleCheck h = some .tooLate := by simp [scheduleCheck_eq hat, Nat.not_le.2 hb, hl]
    rw [exec_host hi, run, issue_of_schedule_refused _ ha hr hc hn hs]
  case waits =>
    have hs : s.scheduleCheck h = none := by simp [scheduleCheck_eq hat, Nat.not_le.2 hb, Nat.not_lt.2 hl]
    rw [exec_host hi, run, issue_of_scheduled _ ha hr hc hn hat hs]
  · exact congrArg Host.Outcome.next (scheduledExecution_of_next hc hst)
  · simp only [exec, execDeferredExecution, State.deferredExecution, hc]
  · simp only [exec, execDeferredTimeout, State.deferredTimeout, hc]

theorem chainStart_of_ready {s : State} {p : Path} {c : Cmd} {ok : Bool}
    (hc : s.cmd.open_.find? (Cmd.readyOn p) = some c) (hst : c.st = .ready ok) :
    s.chainStart p = if ok then (s.acceptNow c.id).startCmd c.id c.instr c.h (runCommand c.instr)
      else (s.acceptNow c.id).complete c.id c.instr c.h (Reply.fail .state) 2 := by
  simp only [State.chainStart, hc, hst]
  cases ok <;> rfl

/-- Settles O7: the chain is looked at before the schedule, and a released command starts or is skipped. -/
theorem chainedCommandFollowsItsPredecessor : Obligations.ChainedCommandFollowsItsPredecessor := by
  refine ⟨fun i h s hi ha hr hc hn => ⟨fun hl => ?_, fun hl => ?_⟩, fun p s c ok hc hst => ?_⟩
  · rw [exec_host hi, run, issue_of_taken _ ha hr, hc]
    simp [hn, hl]
  · rw [exec_host hi, run, issue_of_taken _ ha hr, hc]
    simp [hn, hl, State.skipCmd]
  · exact congrArg Host.Outcome.next (chainStart_of_ready hc hst)

end Sys2Proof.Machine
end

/-! ### Packets (R406, R409, R430) -/

section
namespace Sys2Proof

/-! A parameter placed in the inline bytes, read back. -/

theorem getLsbD_place {w : Nat} (v : BitVec w) (lsb k : Nat) :
    (place v lsb).getLsbD k = (decide (k < 256) && !decide (k < lsb) && v.getLsbD (k - lsb)) := by
  simp only [place, BitVec.getLsbD_shiftLeft, BitVec.getLsbD_setWidth]
  by_cases h : k < 256
  · have : k - lsb < 256 := by omega
    simp [h, this]
  · simp [h]

theorem getLsbD_placeBit (b : Bool) (lsb k : Nat) :
    (placeBit b lsb).getLsbD k = (decide (k < 256) && decide (k = lsb) && b) := by
  cases b
  · simp [placeBit]
  · simp only [placeBit, if_true, BitVec.getLsbD_shiftLeft, BitVec.getLsbD_one, Bool.and_true]
    by_cases hk : k = lsb
    · simp [hk]
    · have hd : ¬ (lsb ≤ k ∧ k - lsb = 0) := by omega
      simp only [hk, decide_false, Bool.and_false]
      by_cases hl : k < lsb <;> simp [hl]
      omega

theorem getLsbD_span (w lsb k : Nat) :
    (span w lsb).getLsbD k = (decide (k < 256) && !decide (k < lsb) && decide (k - lsb < w)) := by
  simp only [span, BitVec.getLsbD_shiftLeft, BitVec.getLsbD_setWidth, BitVec.getLsbD_allOnes]
  by_cases h : k < 256
  · have : k - lsb < 256 := by omega
    simp [h, this]
  · simp [h]

/-- A field of a word built from shifted fields, read where it was put. -/
theorem extract_shifted_same {w n : Nat} (v : BitVec w) {lsb : Nat} (h : lsb + w ≤ n) :
    (v.setWidth n <<< lsb).extractLsb' lsb w = v := by
  apply BitVec.eq_of_getLsbD_eq
  intro k hk
  have h1 : lsb + k < n := by omega
  have h2 : k < n := by omega
  simp only [BitVec.getLsbD_extractLsb', BitVec.getLsbD_shiftLeft, BitVec.getLsbD_setWidth]
  simp [hk, h1, h2]

/-- A field of a word built from shifted fields, read apart from it. -/
theorem extract_shifted_apart {w n : Nat} (v : BitVec w) {lsb l m : Nat} (h : l + m ≤ lsb ∨ lsb + w ≤ l) :
    (v.setWidth n <<< lsb).extractLsb' l m = 0#m := by
  apply BitVec.eq_of_getLsbD_eq
  intro k hk
  simp only [BitVec.getLsbD_extractLsb', BitVec.getLsbD_shiftLeft, BitVec.getLsbD_setWidth, BitVec.getLsbD_zero]
  rcases h with h | h
  · have : l + k < lsb := by omega
    simp [this]
  · rw [BitVec.getLsbD_of_ge v (l + k - lsb) (by omega)]
    simp

theorem extract_place_same {w : Nat} (v : BitVec w) {lsb : Nat} (h : lsb + w ≤ 256) :
    (place v lsb).extractLsb' lsb w = v := extract_shifted_same v h

theorem extract_place_apart {w : Nat} (v : BitVec w) {lsb l n : Nat} (h : l + n ≤ lsb ∨ lsb + w ≤ l) :
    (place v lsb).extractLsb' l n = 0#n := extract_shifted_apart v h

theorem extract_placeBit_apart (b : Bool) {lsb l n : Nat} (h : l + n ≤ lsb ∨ lsb + 1 ≤ l) :
    (placeBit b lsb).extractLsb' l n = 0#n := by
  apply BitVec.eq_of_getLsbD_eq
  intro k hk
  have h1 : ¬ l + k = lsb := by omega
  simp [BitVec.getLsbD_extractLsb', getLsbD_placeBit, h1]

theorem getLsbD_place_apart {w : Nat} (v : BitVec w) {lsb k : Nat} (h : k < lsb ∨ lsb + w ≤ k) :
    (place v lsb).getLsbD k = false := by
  rw [getLsbD_place]
  rcases h with h | h
  · simp [h]
  · rw [BitVec.getLsbD_of_ge v (k - lsb) (by omega)]
    simp

theorem getLsbD_placeBit_same (b : Bool) {lsb : Nat} (h : lsb < 256) : (placeBit b lsb).getLsbD lsb = b := by
  rw [getLsbD_placeBit]
  simp [h]

/-! A parameter lies within the bits that its opcode defines. -/

/-- No bit of `x` lies outside the mask `m`. -/
def Within (x m : BitVec 256) : Prop := x &&& ~~~ m = 0#256

theorem within_iff {x m : BitVec 256} : Within x m ↔ ∀ k, k < 256 → x.getLsbD k = true → m.getLsbD k = true := by
  constructor
  · intro h k hk hx
    have := congrArg (fun b => b.getLsbD k) h
    simpa only [BitVec.getLsbD_and, BitVec.getLsbD_not, hx, hk, BitVec.getLsbD_zero, decide_true, Bool.true_and,
      Bool.not_eq_false'] using this
  · intro h
    apply BitVec.eq_of_getLsbD_eq
    intro k hk
    have := h k hk
    simp only [BitVec.getLsbD_and, BitVec.getLsbD_not, hk, BitVec.getLsbD_zero, decide_true, Bool.true_and]
    cases hx : x.getLsbD k
    · rfl
    · rw [this hx]; rfl

theorem within_zero (m : BitVec 256) : Within 0 m := BitVec.zero_and

theorem within_place {w : Nat} (v : BitVec w) (lsb : Nat) : Within (place v lsb) (span w lsb) := by
  refine within_iff.2 fun k hk hv => ?_
  simp only [getLsbD_place, getLsbD_span, Bool.and_eq_true, decide_eq_true_eq] at hv ⊢
  exact ⟨hv.1, BitVec.lt_of_getLsbD hv.2⟩

theorem within_placeBit (b : Bool) (lsb : Nat) : Within (placeBit b lsb) (span 1 lsb) := by
  refine within_iff.2 fun k hk hv => ?_
  rw [getLsbD_placeBit] at hv
  rw [getLsbD_span]
  simp_all

theorem within_or {x y m n : BitVec 256} (hx : Within x m) (hy : Within y n) : Within (x ||| y) (m ||| n) := by
  rw [within_iff] at hx hy ⊢
  intro k hk hv
  rw [BitVec.getLsbD_or, Bool.or_eq_true] at hv ⊢
  exact hv.imp (hx k hk) (hy k hk)

/-- The parameters of a command lie in the bits that its opcode defines. -/
theorem params_within (i : Instr) : Within i.params (paramMask i.opcode) := by
  cases i with
  | objRead => exact within_or (within_or (within_or (within_place _ _) (within_place _ _)) (within_place _ _)) (within_place _ _)
  | objWrite =>
    exact within_or (within_or (within_or (within_or (within_place _ _) (within_place _ _)) (within_place _ _))
      (within_place _ _)) (within_place _ _)
  | biasWrite =>
    exact within_or (within_or (within_or (within_place _ _) (within_place _ _)) (within_place _ _)) (within_placeBit _ _)
  | archiveLoad | archiveRead | curReadback | frameOp | calSysFull | ldgRead | appStart =>
    exact within_or (within_or (within_place _ _) (within_place _ _)) (within_place _ _)
  | timeSwitch => exact within_or (within_or (within_place _ _) (within_placeBit _ _)) (within_place _ _)
  | curStop => exact within_or (within_or (within_place _ _) (within_place _ _)) (within_placeBit _ _)
  | ringAssign | pwrDomain | kernelLoad | kernelRead | curStart | curBarrier | vitArm | surveyStart | surveyStop | cpLink | appStop =>
    exact within_or (within_place _ _) (within_place _ _)
  | frameCommit | ldgSnap => exact within_or (within_place _ _) (within_placeBit _ _)
  | sysReset | sysNotify | sysCancel | pwrState | timeSetEpoch | timeCaptureRead | outputEnable | outputDisable | outputCommit
  | readoutCommit | discRebase | biasStrobe | biasClear | biasCommit | catCommit | catGroup | vitTrigger | vitAbort | calOutput
  | calInput | calBias | calSysZero | calSysStore | cpCommit | secKeyLoad | appRead => exact within_place _ _
  | secPolicy => exact within_placeBit _ _
  | _ => exact within_zero _

/-! The bits that an opcode does not define lie apart from its parameters, so its parameters read back (R406). -/

theorem extract_undefined {m r : BitVec 256} {lsb w : Nat} (hm : m.extractLsb' lsb w = BitVec.allOnes w) :
    (r &&& ~~~ m).extractLsb' lsb w = 0#w := by
  apply BitVec.eq_of_getLsbD_eq
  intro k hk
  have hbit : m.getLsbD (lsb + k) = true := by
    simpa [BitVec.getLsbD_extractLsb', hk] using congrArg (fun b => b.getLsbD k) hm
  simp only [BitVec.getLsbD_extractLsb', BitVec.getLsbD_and, BitVec.getLsbD_not, hbit]
  simp

theorem getLsbD_undefined {m r : BitVec 256} {k : Nat} (hm : m.getLsbD k = true) : (r &&& ~~~ m).getLsbD k = false := by
  simp only [BitVec.getLsbD_and, BitVec.getLsbD_not, hm]
  simp

/-! The inline bytes of a command spell it, one lemma per range of opcodes. -/

theorem decodeInline_inline_low {i : Instr} {h : Hdr} (hi : i.hdr = some h) (hw : i.writeRow = false)
    (ho : i.opcode < 0x0500) : decodeInline i.opcode h (i.inline h) = some i := by
  cases i <;> simp only [Instr.hdr, Option.some.injEq, reduceCtorEq] at hi <;>
    simp only [Instr.writeRow, Instr.opcode, reduceCtorEq, Nat.reduceLT] at hw ho <;>
    subst hi <;>
    simp (disch := decide) only [decodeInline, Instr.opcode, Instr.inline, Instr.params, extract_undefined,
      getLsbD_undefined, BitVec.extractLsb'_or, BitVec.getLsbD_or, extract_place_same, extract_place_apart,
      extract_placeBit_apart, getLsbD_place_apart, getLsbD_placeBit_same, BitVec.or_zero, BitVec.zero_or, Bool.or_false,
      Bool.false_or]

theorem decodeInline_inline_mid {i : Instr} {h : Hdr} (hi : i.hdr = some h) (hw : i.writeRow = false)
    (ho : 0x0500 ≤ i.opcode ∧ i.opcode < 0x0A00) : decodeInline i.opcode h (i.inline h) = some i := by
  cases i <;> simp only [Instr.hdr, Option.some.injEq, reduceCtorEq] at hi <;>
    simp only [Instr.writeRow, Instr.opcode, reduceCtorEq, Nat.reduceLT, Nat.reduceLeDiff, and_true, and_false] at hw ho <;>
    subst hi <;>
    simp (disch := decide) only [decodeInline, Instr.opcode, Instr.inline, Instr.params, extract_undefined,
      getLsbD_undefined, BitVec.extractLsb'_or, BitVec.getLsbD_or, extract_place_same, extract_place_apart,
      extract_placeBit_apart, getLsbD_place_apart, getLsbD_placeBit_same, BitVec.or_zero, BitVec.zero_or, Bool.or_false,
      Bool.false_or]

theorem decodeInline_inline_upper {i : Instr} {h : Hdr} (hi : i.hdr = some h) (hw : i.writeRow = false)
    (ho : 0x0A00 ≤ i.opcode ∧ i.opcode < 0x0D00) : decodeInline i.opcode h (i.inline h) = some i := by
  cases i <;> simp only [Instr.hdr, Option.some.injEq, reduceCtorEq] at hi <;>
    simp only [Instr.writeRow, Instr.opcode, reduceCtorEq, Nat.reduceLT, Nat.reduceLeDiff, and_true, and_false] at hw ho <;>
    subst hi <;>
    simp (disch := decide) only [decodeInline, Instr.opcode, Instr.inline, Instr.params, extract_undefined,
      BitVec.extractLsb'_or, extract_place_same, extract_place_apart, BitVec.or_zero, BitVec.zero_or]

theorem decodeInline_inline_high {i : Instr} {h : Hdr} (hi : i.hdr = some h) (hw : i.writeRow = false)
    (ho : 0x0D00 ≤ i.opcode) : decodeInline i.opcode h (i.inline h) = some i := by
  cases i <;> simp only [Instr.hdr, Option.some.injEq, reduceCtorEq] at hi <;>
    simp only [Instr.writeRow, Instr.opcode, reduceCtorEq, Nat.reduceLeDiff] at hw ho <;>
    subst hi <;>
    simp (disch := decide) only [decodeInline, Instr.opcode, Instr.inline, Instr.params, extract_undefined,
      getLsbD_undefined, BitVec.extractLsb'_or, BitVec.getLsbD_or, extract_place_same, extract_place_apart,
      extract_placeBit_apart, getLsbD_place_apart, getLsbD_placeBit_same, BitVec.or_zero, BitVec.zero_or, Bool.or_false,
      Bool.false_or]

/-- The inline bytes of a command spell it. -/
theorem decodeInline_inline {i : Instr} {h : Hdr} (hi : i.hdr = some h) (hw : i.writeRow = false) :
    decodeInline i.opcode h (i.inline h) = some i := by
  rcases Nat.lt_or_ge i.opcode 0x0500 with hlow | h5
  · exact decodeInline_inline_low hi hw hlow
  · rcases Nat.lt_or_ge i.opcode 0x0A00 with hmid | hhigh
    · exact decodeInline_inline_mid hi hw ⟨h5, hmid⟩
    · rcases Nat.lt_or_ge i.opcode 0x0D00 with hupper | hd
      · exact decodeInline_inline_upper hi hw ⟨hhigh, hupper⟩
      · exact decodeInline_inline_high hi hw hd

/-- What the inline bytes hold beside the parameters is the header's own, where that is well formed. -/
theorem inline_and_not_paramMask {i : Instr} {h : Hdr} (hr : h.rsv &&& paramMask i.opcode = 0) :
    i.inline h &&& ~~~ paramMask i.opcode = h.rsv := by
  apply BitVec.eq_of_getLsbD_eq
  intro k hk
  have hp := congrArg (fun b => b.getLsbD k) (params_within i)
  have hq := congrArg (fun b => b.getLsbD k) hr
  simp only [Instr.inline, BitVec.getLsbD_and, BitVec.getLsbD_not, BitVec.getLsbD_or, hk, decide_true, Bool.true_and,
    BitVec.getLsbD_zero, BitVec.ofNat_eq_ofNat] at hp hq ⊢
  cases hm : (paramMask i.opcode).getLsbD k <;> simp_all

/-! The fields of a packet (R406). -/

section
variable (i : Instr) (h : Hdr) (crc : BitVec 32)

/-- The packet as a word built from shifted fields. -/
theorem packetWith_eq : packetWith i h crc =
    (BitVec.ofNat 16 i.opcode).setWidth 512 <<< 0 ||| h.tag.setWidth 512 <<< 16 ||| h.flags.setWidth 512 <<< 32
      ||| h.plen.setWidth 512 <<< 48 ||| h.at_.setWidth 512 <<< 64 ||| h.extptr.setWidth 512 <<< 128
      ||| h.extlen.setWidth 512 <<< 192 ||| crc.setWidth 512 <<< 224 ||| (i.inline h).setWidth 512 <<< 256 := by
  rw [BitVec.shiftLeft_zero]
  rfl

theorem packetWith_fields :
    (packetWith i h crc).extractLsb' 0 16 = BitVec.ofNat 16 i.opcode ∧ (packetWith i h crc).extractLsb' 16 16 = h.tag ∧
    (packetWith i h crc).extractLsb' 32 16 = h.flags ∧ (packetWith i h crc).extractLsb' 48 16 = h.plen ∧
    (packetWith i h crc).extractLsb' 64 64 = h.at_ ∧ (packetWith i h crc).extractLsb' 128 64 = h.extptr ∧
    (packetWith i h crc).extractLsb' 192 32 = h.extlen ∧ (packetWith i h crc).extractLsb' 224 32 = crc ∧
    (packetWith i h crc).extractLsb' 256 256 = i.inline h := by
  rw [packetWith_eq]
  refine ⟨?_, ?_, ?_, ?_, ?_, ?_, ?_, ?_, ?_⟩ <;>
    simp (disch := decide) only [BitVec.extractLsb'_or, extract_shifted_same, extract_shifted_apart, BitVec.or_zero,
      BitVec.zero_or]

/-- A byte of the packet outside the CRC field does not depend on it. -/
theorem pktByte_packetWith {k : Nat} (hk : k < 28 ∨ 32 ≤ k) :
    pktByte (packetWith i h crc) k = pktByte (packetWith i h 0) k := by
  have hc : ∀ c : BitVec 32, (c.setWidth 512 <<< 224).extractLsb' (8 * k) 8 = 0#8 := fun c =>
    extract_shifted_apart c (by omega)
  simp only [pktByte, packetWith_eq, BitVec.extractLsb'_or, hc]

theorem crcBytes_packetWith : crcBytes (packetWith i h crc) = crcBytes (packetWith i h 0) := by
  have hlow : (List.range 28).map (pktByte (packetWith i h crc)) = (List.range 28).map (pktByte (packetWith i h 0)) :=
    List.map_congr_left fun k hk => pktByte_packetWith i h crc (.inl (List.mem_range.1 hk))
  have hhigh : (List.range 32).map (fun k => pktByte (packetWith i h crc) (32 + k)) =
      (List.range 32).map (fun k => pktByte (packetWith i h 0) (32 + k)) :=
    List.map_congr_left fun k _ => pktByte_packetWith i h crc (.inr (Nat.le_add_right 32 k))
  simp only [crcBytes, hlow, hhigh]

end

theorem encodePacket_eq_some {i : Instr} {h : Hdr} {p : BitVec 512} (hi : i.hdr = some h) (hp : encodePacket i = some p) :
    i.writeRow = false ∧ p = packetWith i h (crc32c (crcBytes (packetWith i h 0))) := by
  cases hw : i.writeRow
  · simp only [encodePacket, hi, hw, Option.some.injEq] at hp
    exact ⟨rfl, hp.symm⟩
  · simp [encodePacket, hi, hw] at hp

/-- The reserved inline bits of a well-formed host command lie outside its parameters. -/
theorem rsv_of_wf {i : Instr} {h : Hdr} (hi : i.hdr = some h) (hw : i.wf = true) : h.rsv &&& paramMask i.opcode = 0 := by
  unfold Instr.wf at hw
  split at hw
  · simp [Instr.hdr] at hi
  · simp [Instr.hdr] at hi
  · rw [hi] at hw
    exact of_decide_eq_true hw

theorem opcode_lt {i : Instr} : i.opcode < 2 ^ 16 := by
  unfold Instr.opcode
  split <;> decide

/-- The header of a packet is the one it was made from. -/
theorem packetHdr_packetWith {i : Instr} {h : Hdr} (hr : h.rsv &&& paramMask i.opcode = 0) (crc : BitVec 32) :
    packetHdr h.carried (packetWith i h crc) = h := by
  obtain ⟨hop, htag, hflags, hplen, hat, hptr, hlen, -, hin⟩ := packetWith_fields i h crc
  have hn : (BitVec.ofNat 16 i.opcode).toNat = i.opcode := by
    rw [BitVec.toNat_ofNat, Nat.mod_eq_of_lt opcode_lt]
  simp only [packetHdr, hop, htag, hflags, hplen, hat, hptr, hlen, hin, hn, inline_and_not_paramMask hr]
  rfl

theorem decodePacket_packetWith {i : Instr} {h : Hdr} (hi : i.hdr = some h) (hw : i.writeRow = false)
    (hr : h.rsv &&& paramMask i.opcode = 0) (crc : BitVec 32) : decodePacket h.carried (packetWith i h crc) = some i := by
  obtain ⟨hop, -, -, -, -, -, -, -, hin⟩ := packetWith_fields i h crc
  have hn : (BitVec.ofNat 16 i.opcode).toNat = i.opcode := by
    rw [BitVec.toNat_ofNat, Nat.mod_eq_of_lt opcode_lt]
  rw [decodePacket, packetHdr_packetWith hr, hop, hin, hn, decodeInline_inline hi hw]

/-- Settles O3: header and parameters read back field by field, and the CRC covers all but its own field. -/
theorem packetOfACommandDecodesToIt : Obligations.PacketOfACommandDecodesToIt := by
  intro i h p hi hwf hp
  obtain ⟨hw, rfl⟩ := encodePacket_eq_some hi hp
  refine ⟨decodePacket_packetWith hi hw (rsv_of_wf hi hwf) _, ?_⟩
  obtain ⟨-, -, -, -, -, -, -, hcrc, -⟩ := packetWith_fields i h (crc32c (crcBytes (packetWith i h 0)))
  rw [packetCrcOk, decide_eq_true_eq, crcBytes_packetWith, hcrc]

end Sys2Proof
end

/-! ### Packets on rings, datagrams and mailboxes (R385 to R402, R414) -/

section
namespace Sys2Proof.Machine

/-- A command that a packet spells carries the packet's header. -/
theorem hdr_of_decodePacket {c : Carried} {p : BitVec 512} {i : Instr} (hd : decodePacket c p = some i) :
    i.hdr = some (packetHdr c p) := by
  unfold decodePacket decodeInline at hd
  split at hd <;> simp only [Option.some.injEq, reduceCtorEq] at hd <;> subst hd <;> rfl

/-- A packet that spells a command arrives as that command (R414). -/
theorem takePacket_of_command {c : Carried} {p : BitVec 512} {i : Instr} (s : State) (hk : packetCrcOk p = true)
    (hd : decodePacket c p = some i) : s.takePacket c p = s.issue i (packetHdr c p) (runCommand i) := by
  simp [State.takePacket, hk, hd]

theorem takePacket_of_badCrc {c : Carried} {p : BitVec 512} (s : State) (hk : packetCrcOk p = false) :
    s.takePacket c p = s.refusePacket c (bits p.toNat 16 16) (bits p.toNat 0 16) (Reply.fail .badCrc) := by
  simp [State.takePacket, hk]

theorem takePacket_of_badOpcode {c : Carried} {p : BitVec 512} (s : State) (hk : packetCrcOk p = true)
    (hd : decodePacket c p = none) :
    s.takePacket c p = s.refusePacket c (bits p.toNat 16 16) (bits p.toNat 0 16) (Reply.fail .badOpcode) := by
  simp [State.takePacket, hk, hd]

/-- The arrival of a command by any carrier is its row. -/
theorem exec_eq_issue {c : Carried} {p : BitVec 512} {i : Instr} (s : State) (hd : decodePacket c p = some i) :
    exec i s = .next (s.issue i (packetHdr c p) (runCommand i)) :=
  exec_host (hdr_of_decodePacket hd) s

/-- A carrier of at least 64 bytes brings the packet that its first 64 bytes spell (R396, R402). -/
theorem takeCarrier_of_long {path : Path} {l : List Byte} (s : State) (peer : BitVec 128) (port : BitVec 16)
    (mac : BitVec 48) (hl : 64 ≤ l.length) :
    s.takeCarrier path peer port mac l = s.takePacket ⟨path, l.drop 64, false, peer, port, mac⟩ (packetOf l) := by
  simp [State.takeCarrier, Nat.not_lt.2 hl]

theorem takeCarrier_of_short {path : Path} {l : List Byte} (s : State) (peer : BitVec 128) (port : BitVec 16)
    (mac : BitVec 48) (hl : l.length < 64) :
    s.takeCarrier path peer port mac l = s.refusePacket ⟨path, l.drop 64, false, peer, port, mac⟩ (leNat (sub l 2 2))
      (leNat (sub l 0 2)) (Reply.fail .badParam) := by
  simp [State.takeCarrier, hl]

theorem commandFetch_of_ready {s : State} {k : Fin 3} (hr : s.fetchReady k = true) (p : BitVec 512)
    (ext : Option (List Byte)) :
    s.commandFetch k p ext =
      ((s.fetchReads k.val p).ringConsume k.val).takePacket ⟨.ring k, ext.getD [], ext.isNone, 0, 0, 0⟩ p := by
  simp [State.commandFetch, hr]

/-- A fetch reads the entry at the consumer index (R385, R387). -/
theorem dmaRead_mem_fetchReads (s : State) (k : Nat) (p : BitVec 512) :
    Outgoing.dmaRead (s.ring k).fn ((s.ring k).base + 64 * (s.ring k).cons) 64 ∈ (s.fetchReads k p).sent := by
  unfold State.fetchReads
  simp only []
  split <;> simp [State.emit]

/-- A frame that the port takes leaves it as it is (R400). -/
theorem ethTake_of_taken {s : State} {rx : EthRx} (hu : s.ethUp = true) (hb : rx.bad = false)
    (hz : rx.size.toNat ≤ 9000) (hv : s.vlanOk rx = true) : s.ethTake rx = (true, s) := by
  simp [State.ethTake, hu, hb, hv, Nat.not_lt.2 hz]

/-- What becomes of a datagram that the port takes (R401, R402). -/
theorem commandDatagram_of_taken {s : State} {rx : EthRx} (port : BitVec 16) (l : List Byte)
    (ht : s.ethTake rx = (true, s)) (ha : s.pathAlive .eth = true) :
    s.commandDatagram rx port l =
      if s.ownAddress rx.target.toNat = false then s.ethDrop
      else if s.peerAllowed rx.ip.toNat = false then s.dropCommand
      else s.takeCarrier .eth rx.ip port rx.mac l := by
  simp [State.commandDatagram, ht, ha]

theorem h2dTake_of_posted {s : State} {m : Fin 8} (hf : (s.mbox m.val).h2dFull = true)
    (ha : s.pathAlive (.mb m) = true) (hr : s.openOn (.mb m) < 64) :
    s.h2dTake m = (s.h2dTaken m.val).takeCarrier (.mb m) 0 0 0
      (leBytes (s.mbox m.val).h2dPosted ((s.mbox m.val).h2d % 2 ^ (8 * (s.mbox m.val).h2dPosted))) := by
  simp [State.h2dTake, hf, ha, Nat.not_le.2 hr]

@[simp] theorem State.dropCommand_getF (s : State) (f : Field) (n : Nat) :
    s.dropCommand.getF f n = (s.raise Fld.eth.cmdDrop 0).getF f n := by
  simp only [State.getF, State.obj, State.dropCommand]

theorem State.dropCommand_cmdDrops (s : State) : s.dropCommand.eth.cmdDrops = s.eth.cmdDrops + 1 := by
  have h : s.dropCommand.eth.cmdDrops = (s.raise Fld.eth.cmdDrop 0).eth.cmdDrops + 1 := rfl
  rw [h, State.raise_eth]

theorem exec_commandDatagram_eq (rx : EthRx) (port : BitVec 16) (l : List Byte) (s : State) :
    exec (.commandDatagram rx port l) s = .next (s.commandDatagram rx port l) := rfl

theorem exec_commandFetch_eq (k : Fin 3) (p : BitVec 512) (ext : Option (List Byte)) (s : State) :
    exec (.commandFetch k p ext) s = .next (s.commandFetch k p ext) := rfl

theorem exec_h2dTake_eq (m : Fin 8) (s : State) : exec (.h2dTake m) s = .next (s.h2dTake m) := rfl

/-- Settles O8: each carrier takes the packet by `takePacket`, whose three answers the CRC and the opcode decide. -/
theorem packetsArriveAsTheirCommand : Obligations.PacketsArriveAsTheirCommand := by
  refine ⟨fun k p ext s hr => ⟨dmaRead_mem_fetchReads s k.val p, fun hk => ?_, fun hk hd => ?_, fun i hk hd => ?_⟩,
    fun k p ext s hr => ?_, fun rx port l s hu hb hz hv ha => ?datagram, fun m s i hf ha hr => ?mailbox⟩
  · rw [exec_commandFetch_eq, commandFetch_of_ready hr, takePacket_of_badCrc _ hk]
  · rw [exec_commandFetch_eq, commandFetch_of_ready hr, takePacket_of_badOpcode _ hk hd]
  · rw [exec_commandFetch_eq, commandFetch_of_ready hr, takePacket_of_command _ hk hd, exec_eq_issue _ hd]
    exact ⟨rfl, rfl⟩
  · simp [exec_commandFetch_eq, State.commandFetch, hr]
  case datagram =>
    simp only [exec_commandDatagram_eq, commandDatagram_of_taken port l (ethTake_of_taken hu hb hz hv) ha]
    refine ⟨fun ho => ?_, fun ho hp => ?_, fun ho hp hl => ?_, fun i ho hp hl hk hd => ?_⟩
    · rw [if_pos ho, State.ethDrop]
    · rw [if_neg (by simp [ho]), if_pos hp]
      exact ⟨rfl, State.dropCommand_getF _ _ _, s.dropCommand_cmdDrops⟩
    · rw [if_neg (by simp [ho]), if_neg (by simp [hp]), takeCarrier_of_short _ _ _ _ hl]
    · rw [if_neg (by simp [ho]), if_neg (by simp [hp]), takeCarrier_of_long _ _ _ _ hl, takePacket_of_command _ hk hd,
        exec_eq_issue _ hd]
      exact ⟨rfl, rfl⟩
  case mailbox =>
    intro l c hl hk hd
    rw [exec_h2dTake_eq, h2dTake_of_posted hf ha hr, takeCarrier_of_long (l := l) _ _ _ _ hl, takePacket_of_command _ hk hd,
      exec_eq_issue _ hd]
    exact ⟨rfl, rfl⟩

end Sys2Proof.Machine
end

/-! ### Ring indexes and control (R42, R386 to R389) -/

section
namespace Sys2Proof.Machine

section
variable {s : State} {f : Fn} {n : Fin 80}

/-- A write of ring n's register set, where it has an effect: with PD_PCIE on, and by the ring's owner (R379, R386). -/
theorem barWrite_ring_eq (s : State) (f : Fn) (n : Fin 80) {k : Nat} (v : Nat) (hk : k < 0x40) (ha : k % 4 = 0) :
    s.barWrite f (0x8000 + k + 0x40 * n.val) v = if s.powered domPCIE = true then s.ringWrite f n.val k v else s := by
  by_cases hp : s.powered domPCIE = true
  · rw [if_pos hp, barWrite_ring s f n.val k v hp n.isLt hk ha]
  · rw [if_neg hp]
    simp [State.barWrite, hp]

theorem exec_ringProd_eq (v : BitVec 32) :
    exec (.ringProd f n v) s = .next (if s.powered domPCIE = true then s.ringWrite f n.val 0x10 v.toNat else s) :=
  congrArg _ (barWrite_ring_eq s f n (k := 0x10) v.toNat (by decide) (by decide))

theorem exec_ringCons_eq (v : BitVec 32) :
    exec (.ringCons f n v) s = .next (if s.powered domPCIE = true then s.ringWrite f n.val 0x14 v.toNat else s) :=
  congrArg _ (barWrite_ring_eq s f n (k := 0x14) v.toNat (by decide) (by decide))

theorem exec_ringEn_eq (v : BitVec 32) :
    exec (.ringEn f n v) s = .next (if s.powered domPCIE = true then s.ringWrite f n.val 0x0C v.toNat else s) :=
  congrArg _ (barWrite_ring_eq s f n (k := 0x0C) v.toNat (by decide) (by decide))

theorem exec_ringLength_eq (v : BitVec 32) :
    exec (.ringLength f n v) s = .next (if s.powered domPCIE = true then s.ringWrite f n.val 0x08 v.toNat else s) :=
  congrArg _ (barWrite_ring_eq s f n (k := 0x08) v.toNat (by decide) (by decide))

/-- The registers of a ring read as absent, and ignore writes, in a function that does not own it (R386). -/
theorem ringWrite_of_not_owner (ho : (s.ring n.val).ownedBy f = false) (off v : Nat) : s.ringWrite f n.val off v = s := by
  simp [State.ringWrite, ho]

theorem ringWrite_prod (ho : (s.ring n.val).ownedBy f = true) (v : Nat) :
    s.ringWrite f n.val 0x10 v = s.ringWriteProd n.val (v % 2 ^ 16) := by
  simp [State.ringWrite, ho]

theorem ringWrite_cons (ho : (s.ring n.val).ownedBy f = true) (v : Nat) :
    s.ringWrite f n.val 0x14 v = s.ringWriteCons n.val (v % 2 ^ 16) := by
  simp [State.ringWrite, ho]

theorem ringWrite_ctl (ho : (s.ring n.val).ownedBy f = true) (v : Nat) :
    s.ringWrite f n.val 0x0C v = s.ringWriteCtl n.val v := by
  simp [State.ringWrite, ho]

/-- An index write on a disabled ring, or of the side that the device owns, is ignored (R386, R387). -/
theorem ringWriteProd_of_ignored {n : Nat} (h : (s.ring n).en = false ∨ 3 ≤ n) (v : Nat) : s.ringWriteProd n v = s := by
  rcases h with h | h <;> simp [State.ringWriteProd, h]

theorem ringWriteCons_of_ignored {n : Nat} (h : (s.ring n).en = false ∨ n < 3) (v : Nat) : s.ringWriteCons n v = s := by
  rcases h with h | h <;> simp [State.ringWriteCons, h]

theorem exec_ringProd_of_ignored (h : (s.ring n.val).en = false ∨ 3 ≤ n.val) (v : BitVec 32) :
    exec (.ringProd f n v) s = .next s := by
  rw [exec_ringProd_eq]
  cases ho : (s.ring n.val).ownedBy f
  · rw [ringWrite_of_not_owner ho, ite_self]
  · rw [ringWrite_prod ho, ringWriteProd_of_ignored h, ite_self]

theorem exec_ringCons_of_ignored (h : (s.ring n.val).en = false ∨ n.val < 3) (v : BitVec 32) :
    exec (.ringCons f n v) s = .next s := by
  rw [exec_ringCons_eq]
  cases ho : (s.ring n.val).ownedBy f
  · rw [ringWrite_of_not_owner ho, ite_self]
  · rw [ringWrite_cons ho, ringWriteCons_of_ignored h, ite_self]

end

section
variable {s : State} {n : Nat}

/-- PROD of an enabled command ring with no staged length (R387). -/
theorem ringWriteProd_unstaged (hn : n < 3) (he : (s.ring n).en = true) (hs : (s.ring n).staged = none) (v : Nat) :
    s.ringWriteProd n v = if (s.ring n).length ≤ v then s.ringPtrErr n
      else (s.countN 0x15 n 0 (if v < (s.ring n).prod then (s.ring n).length - (s.ring n).prod + v
        else v - (s.ring n).prod)).setRing n { s.ring n with prod := v } := by
  simp [State.ringWriteProd, Nat.not_le.2 hn, he, hs]

/-- PROD of an enabled command ring with a staged length (R42, R389). -/
theorem ringWriteProd_staged {l : Nat} (hn : n < 3) (he : (s.ring n).en = true) (hs : (s.ring n).staged = some l) (v : Nat) :
    s.ringWriteProd n v =
      if v < (s.ring n).prod then
        if l ≤ v then s.ringPtrErr n
        else (((s.countN 0x15 n 0 ((s.ring n).length - (s.ring n).prod + v)).setRing n
          { ((s.ring n).applyStaged l).1 with prod := v }).count 0x15 n 3).ringLost n ((s.ring n).applyStaged l).2.1
      else if (s.ring n).length ≤ v then s.ringPtrErr n
      else (s.countN 0x15 n 0 (v - (s.ring n).prod)).setRing n { s.ring n with prod := v } := by
  simp [State.ringWriteProd, Nat.not_le.2 hn, he, hs]

/-- CONS of an enabled device-produced ring without a wrap (R387). -/
theorem ringWriteCons_forward {v : Nat} (hn : 3 ≤ n) (he : (s.ring n).en = true) (hl : v < (s.ring n).length)
    (hc : (s.ring n).cons ≤ v) :
    s.ringWriteCons n v = (s.countN 0x15 n 1 (v - (s.ring n).cons)).setRing n
      { s.ring n with
        cons := v, tags := (s.ring n).tags.filter (fun t => !decide ((s.ring n).cons ≤ t.1 ∧ t.1 < v)) } := by
  simp [State.ringWriteCons, Nat.not_lt.2 hn, he, Nat.not_le.2 hl, Nat.not_lt.2 hc]

/-- CONS of an enabled device-produced ring that wraps (R387). -/
theorem ringWriteCons_wrap {v : Nat} (hn : 3 ≤ n) (he : (s.ring n).en = true) (hl : v < (s.ring n).length)
    (hc : v < (s.ring n).cons) :
    s.ringWriteCons n v = (s.countN 0x15 n 1 ((s.ring n).oldLen.getD (s.ring n).length - (s.ring n).cons + v)).setRing n
      { s.ring n with
        cons := v, oldLen := none
        tags := (s.ring n).tags.filter (fun t => !decide ((s.ring n).cons ≤ t.1 ∨ t.1 < v)) } := by
  cases ho : (s.ring n).oldLen <;>
    simp [State.ringWriteCons, Nat.not_lt.2 hn, he, Nat.not_le.2 hl, hc, ho]

theorem ringWriteCons_beyond {v : Nat} (hn : 3 ≤ n) (he : (s.ring n).en = true) (hl : (s.ring n).length ≤ v) :
    s.ringWriteCons n v = s.ringPtrErr n := by
  simp [State.ringWriteCons, Nat.not_lt.2 hn, he, hl]

end

/-- The control register's bits are those of the written word (R386). -/
theorem ringWriteCtl_eq (s : State) (n : Nat) (v : BitVec 32) :
    s.ringWriteCtl n v.toNat = s.setRing n { s.ring n with
      vector := v.toNat / 256 % 32, wbEn := v.getLsbD 2, irqEn := v.getLsbD 1, en := v.getLsbD 0
      staged := if v.getLsbD 0 then (s.ring n).staged else none } := by
  have hv : bits v.toNat 8 5 = v.toNat / 256 % 32 := by simp [bits, Nat.shiftRight_eq_div_pow]
  simp only [State.ringWriteCtl, hv]
  rfl

/-- Settles O10: each register's own equation, with the write brought to it by `exec_ring…_eq`. -/
theorem ringIndexesAndControl : Obligations.RingIndexesAndControl := by
  refine ⟨⟨fun f n v s hp ho hn he hs => ⟨fun hx => ?_, fun hx => ?_⟩,
    fun f n v l s hp ho hn he hs => ⟨fun hx hl => ?_, fun hx => ?_, fun hx hl => ?_⟩,
    fun f n v s hp ho hn he => ⟨fun hl hc => ?_, fun hl hc => ?_, fun hl => ?_⟩,
    fun f n v s h => exec_ringProd_of_ignored h v, fun f n v s h => exec_ringCons_of_ignored h v⟩,
    fun f n v s hp ho => ?_, fun f n v s _ ho => ?_⟩
  · rw [exec_ringProd_eq, if_pos hp, ringWrite_prod ho, ringWriteProd_unstaged hn he hs, if_neg (Nat.not_le.2 hx)]
  · rw [exec_ringProd_eq, if_pos hp, ringWrite_prod ho, ringWriteProd_unstaged hn he hs, if_pos hx, State.ringPtrErr]
  · rw [exec_ringProd_eq, if_pos hp, ringWrite_prod ho, ringWriteProd_staged hn he hs, if_neg (Nat.not_lt.2 hx),
      if_neg (Nat.not_le.2 hl)]
  · rw [exec_ringProd_eq, if_pos hp, ringWrite_prod ho, ringWriteProd_staged hn he hs]
    rcases hx with ⟨hx, hl⟩ | ⟨hx, hl⟩
    · rw [if_neg (Nat.not_lt.2 hx), if_pos hl, State.ringPtrErr]
    · rw [if_pos hx, if_pos hl, State.ringPtrErr]
  · rw [exec_ringProd_eq, if_pos hp, ringWrite_prod ho, ringWriteProd_staged hn he hs, if_pos hx, if_neg (Nat.not_le.2 hl)]
    rfl
  · rw [exec_ringCons_eq, if_pos hp, ringWrite_cons ho, ringWriteCons_forward hn he hl hc]
  · rw [exec_ringCons_eq, if_pos hp, ringWrite_cons ho, ringWriteCons_wrap hn he hl hc]
  · rw [exec_ringCons_eq, if_pos hp, ringWrite_cons ho, ringWriteCons_beyond hn he hl, State.ringPtrErr]
  · rw [exec_ringEn_eq, if_pos hp, ringWrite_ctl ho, ringWriteCtl_eq]
  · simp only [exec_ringEn_eq, exec_ringLength_eq, exec_ringProd_eq, exec_ringCons_eq, ringWrite_of_not_owner ho, ite_self,
      and_self]

end Sys2Proof.Machine
end

/-! ### A mailbox message longer than its slot (R392, R393) -/

section
namespace Sys2Proof.Machine

/-- A read of BAR0 beyond the mailboxes does nothing but answer (R379). -/
theorem barReadActs_beyond {off : Nat} (h : 0xD000 ≤ off) (s : State) (f : Fn) : s.barReadActs f off = s := by
  have h1 : ¬ off = 0x2000 := by omega
  have h2 : ¬ (0xC000 ≤ off ∧ off < 0xD000) := by omega
  simp only [State.barReadActs, if_neg h1, if_neg h2, ite_self]

/-- The reset state with a posted D2H message of 4,096 bytes in mailbox 0, which no post makes: its last word would lie
outside BAR0. -/
def overlongPost : State := State.reset.setMbox 0 { Mbox.empty with d2hFull := true, d2hLen := 4096 }

theorem overlongPost_mbox : overlongPost.mbox 0 = { Mbox.empty with d2hFull := true, d2hLen := 4096 } :=
  State.mbox_setMbox_same _ _ _

theorem exec_lastWordRead_overlongPost : exec (.d2hLastWordRead 0) overlongPost = .next overlongPost := by
  have hw : (overlongPost.mbox 0).lastWord = 0x10FC := by rw [overlongPost_mbox]; rfl
  have he : exec (.d2hLastWordRead 0) overlongPost =
      .next (overlongPost.barReadActs .pf0 (0xC000 + (overlongPost.mbox 0).lastWord)) := rfl
  rw [he, hw, barReadActs_beyond (by decide)]

/-- Refutes O11: the read of the last word of a message is stated for every length that a slot may hold, those beyond
256 bytes included. A slot with such a length has its last word outside the mailboxes, and a read of it takes nothing. -/
theorem not_mailboxesPostTakeAndTimeOut : ¬ Obligations.MailboxesPostTakeAndTimeOut := by
  intro h
  obtain ⟨-, -, -, htake, -⟩ := h
  have hread := (htake 0 overlongPost (by decide) (by decide)).2
  rw [show (0 : Fin 8).val = 0 from rfl, exec_lastWordRead_overlongPost] at hread
  have hfull := congrArg (fun t : State => (t.mbox 0).d2hFull) (Host.Outcome.next.inj hread)
  rw [State.mbox_setMbox_same, overlongPost_mbox] at hfull
  exact Bool.noConfusion hfull

end Sys2Proof.Machine
end

/-! ### Registers of BAR0 and the boot registers (R379, R384, R494, R495) -/

section
namespace Sys2Proof.Machine

/-- BAR0 ends with the mailboxes (R379). -/
theorem barWrite_beyond {off : Nat} (h : 0xD000 ≤ off) (s : State) (f : Fn) (v : Nat) : s.barWrite f off v = s := by
  have h0 : ¬ off = 0x00C := by omega
  have h1 : ¬ (0x1000 ≤ off ∧ off < 0x1200) := by omega
  have h2 : ¬ off = 0x1900 := by omega
  have h3 : ¬ off = 0x1904 := by omega
  have h4 : ¬ off = 0x1908 := by omega
  have h5 : ¬ off = 0x190C := by omega
  have h6 : ¬ off = 0x1910 := by omega
  have h7 : ¬ off = 0x1914 := by omega
  have h8 : ¬ (0x8000 ≤ off ∧ off < 0x8000 + 0x40 * 80) := by omega
  have h9 : ¬ (0xC000 ≤ off ∧ off < 0xD000) := by omega
  simp only [State.barWrite, if_neg h0, if_neg h1, if_neg h2, if_neg h3, if_neg h4, if_neg h5, if_neg h6, if_neg h7,
    if_neg h8, if_neg h9, ite_self]

theorem regWrite_of_unpowered {s : State} (hp : s.powered domPCIE = false) (f : Fn) (off v : Nat) :
    s.regWrite f off v = s := by
  simp [State.regWrite, hp]

theorem regWrite_beyond {off : Nat} (h : 0xD000 ≤ off) (s : State) (f : Fn) (v : Nat) : s.regWrite f off v = s := by
  unfold State.regWrite
  split
  · rfl
  · split
    · omega
    · omega
    · omega
    · exact barWrite_beyond h s f v

theorem regWrite_scratch {s : State} (hp : s.powered domPCIE = true) (f : Fn) (v : Nat) :
    s.regWrite f 0x00C v = s.setFn f { s.fnRegs f with scratch := v } := by
  cases f <;> simp [State.regWrite, State.barWrite, hp]

theorem exec_registerWrite_of_word (f : Fn) (off : BitVec 16) (v : BitVec 32) (s : State) :
    exec (.registerWrite f off ⟨4, v⟩) s = .next (s.regWrite f off.toNat v.toNat) := rfl

theorem exec_registerWrite_of_ignored {f : Fn} {off : BitVec 16} {size : BitVec 8} {v : BitVec 32} {s : State}
    (h : s.powered domPCIE = false ∨ 0xD000 ≤ off.toNat ∨ size.toNat ≠ 4) :
    exec (.registerWrite f off ⟨size, v⟩) s = .next s := by
  simp only [exec, execRegisterWrite]
  rcases h with h | h | h
  · rw [regWrite_of_unpowered h, ite_self]
  · rw [regWrite_beyond h, ite_self]
  · rw [if_neg h]

/-- BOOT_GO with an image of BOOT_LEN bytes, while the boot ROM waits for it (R494, R495). -/
theorem bootGo_of_image {s : State} {img : List Byte} (hw : s.bt.waitGo = true) (ha : s.bt.addr % 4 = 0)
    (hl : img.length = s.bt.len) :
    s.bootGo (some img) =
      if s.imageCode img = 1 then (s.emit (.dmaRead .pf0 s.bt.addr s.bt.len)).booted img 2 s.bt.alt
      else { s.emit (.dmaRead .pf0 s.bt.addr s.bt.len) with bt := { s.bt with code := s.imageCode img } } := by
  simp [State.bootGo, hw, ha, hl]

/-- BOOT_GO whose read the host refused, while the boot ROM waits for it (log entry 71). -/
theorem bootGo_of_refused {s : State} (hw : s.bt.waitGo = true) :
    s.bootGo none = { s.emit (.dmaRead .pf0 s.bt.addr s.bt.len) with bt := { s.bt with code := 0x15 } } := by
  simp [State.bootGo, hw]

/-- Settles O12: RAW_LO and the plain registers by their equations, BOOT_GO by the code of its image. -/
theorem registersActAsTheirRulesSay : Obligations.RegistersActAsTheirRulesSay := by
  refine ⟨fun f s hp => ?rawLo, ⟨fun f v s hp => ⟨?scratch, ?addrLo, ?addrHi, ?len⟩,
    fun f off size v s h => exec_registerWrite_of_ignored h⟩, fun v image s hp => ?bootGo⟩
  case rawLo =>
    simp only [exec, execRawLo, State.barReadActs, hp]
    rfl
  case scratch =>
    rw [exec_registerWrite_of_word]
    exact congrArg _ (regWrite_scratch hp f v.toNat)
  case addrLo | addrHi | len =>
    rw [exec_registerWrite_of_word]
    simp [State.regWrite, hp]
  case bootGo =>
    have he : exec (.bootGo v image) s = .next (if s.powered domPCIE ∧ v.getLsbD 0 then s.bootGo image else s) := rfl
    rw [he]
    refine ⟨fun h => ?_, fun img hv hw hi ha hl => ⟨fun hc => ?_, fun hc => ?_⟩, fun hv hw hi => ?_⟩
    · rcases h with h | h
      · rw [if_neg fun hg => Bool.false_ne_true (h.symm.trans hg.2)]
      · simp [State.bootGo, h]
    · subst hi
      rw [if_pos ⟨hp, hv⟩, bootGo_of_image hw ha hl, if_pos hc]
    · subst hi
      rw [if_pos ⟨hp, hv⟩, bootGo_of_image hw ha hl, if_neg hc]
      rfl
    · subst hi
      rw [if_pos ⟨hp, hv⟩, bootGo_of_refused hw]

end Sys2Proof.Machine
end

/-! ### Interrupts and held completions (R339, R382, R383, R386, R390) -/

section
namespace Sys2Proof.Machine

/-- The mask bit of a vector clears with its PBA bit clear: only the table changes (R382). -/
theorem unmaskVector_of_idle {s : State} {f : Fn} {v : Nat} (hb : bit (s.fnRegs f).pba v = false) :
    s.unmaskVector f v = s.setFn f { s.fnRegs f with
      msix := sset (fun _ => msixReset) (s.fnRegs f).msix v (setBits ((s.fnRegs f).entry v) 96 1 0) } := by
  simp [State.unmaskVector, hb]

/-- The mask bit of a vector clears with its PBA bit set: the message leaves and the bit clears (R382). -/
theorem unmaskVector_of_pending {s : State} {f : Fn} {v : Nat} (hb : bit (s.fnRegs f).pba v = true) :
    ∃ r : FnRegs, s.unmaskVector f v = (s.setFn f r).emit (.msix f v) ∧
      r.msix = sset (fun _ => msixReset) (s.fnRegs f).msix v (setBits ((s.fnRegs f).entry v) 96 1 0) ∧
      r.pba = clearMask (s.fnRegs f).pba (1 <<< v) := by
  have hset : ∀ a b, (s.setFn f a).setFn f b = s.setFn f b := by
    intro a b
    cases f <;> rfl
  refine ⟨{ s.fnRegs f with
    msix := sset (fun _ => msixReset) (s.fnRegs f).msix v (setBits ((s.fnRegs f).entry v) 96 1 0)
    pba := clearMask (s.fnRegs f).pba (1 <<< v), sentNow := (s.fnRegs f).sentNow ||| (1 <<< v) }, ?_, rfl, rfl⟩
  simp only [State.unmaskVector, State.fnRegs_setFn_same, hb, if_true, hset]

theorem bit_clearMask_self (x v : Nat) : bit (clearMask x (1 <<< v)) v = false := by
  simp [bit, testBit_clearMask, Nat.testBit_shiftLeft]

/-- The oldest entry held for a ring is the first with that ring's number (R390). -/
theorem takeHeld_first {n : Nat} {pre post : List HeldEntry} {e : HeldEntry} (he : e.ring = n)
    (hpre : ∀ x ∈ pre, x.ring ≠ n) : takeHeld n (pre ++ e :: post) = some (e, pre ++ post) := by
  induction pre with
  | nil => simp [takeHeld, he]
  | cons x l ih =>
    have hx : x.ring ≠ n := hpre x (List.mem_cons_self)
    have hl := ih fun y hy => hpre y (List.mem_cons_of_mem x hy)
    simp [takeHeld, hx, hl]

theorem ringIrqTime_of_due {s : State} {n : Nat} (hd : s.ringIrqDue n = true) :
    s.ringIrqTime n = (s.setRing n { s.ring n with counted := 0 }).ringCauseSet n := by
  simp [State.ringIrqTime, hd]

/-- Settles O13: the mask of a vector, the catalogue interrupt, and the two events of a ring's completions. -/
theorem interruptsAndHeldCompletions : Obligations.InterruptsAndHeldCompletions := by
  refine ⟨fun f v s hp => ?vector, fun j s => ?interrupt, fun k s pre post e hh he hpre hr => ?held,
    fun n s h1 h2 h3 h4 => ?irqTime⟩
  case vector =>
    have hx : exec (.msixMaskClear f v) s = .next (s.unmaskVector f v.val) := by
      simp only [exec, execMsixMaskClear, hp, if_true]
    rw [hx]
    refine ⟨fun hb => congrArg _ (unmaskVector_of_idle hb), fun hb => ?_⟩
    obtain ⟨r, hr, hmsix, hpba⟩ := unmaskVector_of_pending hb
    have hregs : ((s.setFn f r).emit (.msix f v.val)).fnRegs f = r := State.fnRegs_setFn_same s f r
    refine ⟨_, congrArg _ hr, ?_, ?_, ?_, ?_, ?_, ?_, ?_⟩
    · cases f <;> rfl
    · rw [hregs, hpba, bit_clearMask_self]
    · rw [hregs, hmsix]
    · cases f <;> rfl
    · cases f <;> rfl
    · cases f <;> rfl
    · cases f <;> rfl
  case interrupt =>
    refine ⟨fun hp => ?_, fun hp hb => ?_, fun hp hb => ?_⟩
    · simp only [exec, execHostInterrupt, hp]
      rfl
    · simp only [exec, execHostInterrupt, hp, hb]
      rfl
    · simp only [exec, execHostInterrupt, hp, hb, State.setCatPending]
      rfl
  case held =>
    simp only [exec, execHeldCompletionWrite, State.heldWrite, hh, takeHeld_first he hpre, hr, if_true]
  case irqTime =>
    have hd : s.ringIrqDue n.val = true := by simp [State.ringIrqDue, h1, h2, h3, h4]
    exact congrArg _ (ringIrqTime_of_due hd)

end Sys2Proof.Machine
end

/-! ### An admitted host command answers as its own checks say -/

section
namespace Sys2Proof.Machine

/-- The row of an admitted command that answers at once, without data. -/
theorem exec_answers {i : Instr} {h : Hdr} {s t : State} {rep : Reply} (a : Admitted i h s) (hi : i.hdr = some h)
    (e : runCommand i s.cmd.nextId (s.accepted i h) = (t, rep)) (hl : rep.later = false) (hd : rep.data = []) :
    exec i s = .next (s.answered t i h rep) :=
  (exec_host hi s).trans (run_answers_plain a e hl hd)

/-- The row of an admitted command that its own checks refuse. -/
theorem exec_refused {i : Instr} {h : Hdr} {s : State} {st : Status} (a : Admitted i h s) (hi : i.hdr = some h)
    (e : runCommand i s.cmd.nextId (s.accepted i h) = refuse (s.accepted i h) st) :
    exec i s = .next (s.answered (s.accepted i h) i h (Reply.fail st)) :=
  exec_answers a hi e rfl rfl

/-- The row of an admitted command whose completion comes later. -/
theorem exec_waits {i : Instr} {h : Hdr} {s t : State} {rep : Reply} (a : Admitted i h s) (hi : i.hdr = some h)
    (e : runCommand i s.cmd.nextId (s.accepted i h) = (t, rep)) (hl : rep.later = true) (hd : rep.data = []) :
    exec i s = .next t :=
  (exec_host hi s).trans (run_waits a e hl hd)

/-- The row of an admitted command that answers at once with data that fit. -/
theorem exec_answers_data {i : Instr} {h : Hdr} {s t : State} {rep : Reply} (a : Admitted i h s) (hi : i.hdr = some h)
    (e : runCommand i s.cmd.nextId (s.accepted i h) = (t, rep)) (hl : rep.later = false)
    (hd : s.dataFits h rep.data.length = true) : exec i s = .next (s.answered t i h rep) :=
  (exec_host hi s).trans (run_answers a e hl hd)

end Sys2Proof.Machine
end

/-! ### System commands (R391, R417, R423, R427, R428) -/

section
namespace Sys2Proof.Machine

variable {s : State} {h : Hdr}

theorem cmdSysReset_of_known {k : Nat} (hk : k ≤ 1) (id : Nat) :
    cmdSysReset k id s =
      ({ s with cmd := { s.cmd with resetAt := s.cmd.resetAt ++ [(s.tick + 10000, k)] } }, Reply.ok) := by
  simp [cmdSysReset, Nat.not_lt.2 hk]

theorem cmdSysReset_of_unknown {k : Nat} (hk : 1 < k) (id : Nat) : cmdSysReset k id s = refuse s .badParam := by
  simp [cmdSysReset, hk]

theorem cmdSysNotify_of_owner {r : Nat} {f : Fn} (hr : routeKnown r = true) (hf : pathFn h.path = some f)
    (ho : s.routeOwned f r = true) (id : Nat) :
    cmdSysNotify h r id s = (s.setFn f { s.fnRegs f with route := r }, Reply.ok1 (s.fnRegs f).route) := by
  simp [cmdSysNotify, hr, hf, ho]

theorem ownerOf_eq_some {o own : Nat} (ho : o = 0 ∧ own = 1 ∨ o = 1 ∧ own = 2 ∨ o = 0xFF ∧ own = 0) :
    ownerOf o = some own := by
  rcases ho with ⟨rfl, rfl⟩ | ⟨rfl, rfl⟩ | ⟨rfl, rfl⟩ <;> rfl

theorem cmdRingAssign_of_free {n o own : Nat} (ho : ownerOf o = some own) (hn : n = 6 ∨ 8 ≤ n ∧ n ≤ 79)
    (hs : pathSecure h.path = true ∨ (s.ring n).owner ≠ 2 ∧ own ≠ 2) (he : (s.ring n).en = false)
    (hm : s.ringNamed n = false) (id : Nat) :
    cmdRingAssign h n o id s =
      ({ s.setRing n (Ring.fresh own) with
        host := { (s.setRing n (Ring.fresh own)).host with ringCause := clearMask s.host.ringCause (1 <<< n) } },
        Reply.ok) := by
  have hsec : ¬ (pathSecure h.path = false ∧ ((s.ring n).owner = 2 ∨ own = 2)) := by
    rintro ⟨hp, h2⟩
    rcases hs with hs | ⟨h3, h4⟩
    · exact Bool.false_ne_true (hp.symm.trans hs)
    · exact h2.elim h3 h4
  simp only [cmdRingAssign, ho]
  simp [hn, hsec, he, hm]
  rfl

/-- Settles O14: each command by the equation of its own checks. -/
theorem systemAndRoutingCommandsAnswer : Obligations.SystemAndRoutingCommandsAnswer :=
  ⟨⟨fun _ _ a => exec_answers a rfl rfl rfl rfl, fun _ _ a => exec_answers a rfl rfl rfl rfl,
      fun _ _ s a => ⟨fun hk => exec_answers a rfl (cmdSysReset_of_known hk s.cmd.nextId) rfl rfl,
        fun hk => exec_refused a rfl (cmdSysReset_of_unknown hk s.cmd.nextId)⟩⟩,
    fun h r _ s a hr hf ho =>
      exec_answers a rfl (cmdSysNotify_of_owner (s := s.accepted (.sysNotify h r) h) hr hf ho s.cmd.nextId) rfl rfl,
    fun h n o _ s a ho hn hs he hm =>
      exec_answers a rfl
        (cmdRingAssign_of_free (s := s.accepted (.ringAssign h n o) h) (ownerOf_eq_some ho) hn hs he hm
          s.cmd.nextId) rfl rfl,
    fun _ _ _ a => exec_answers a rfl rfl rfl rfl⟩

end Sys2Proof.Machine
end

/-! ### Object access (R4, R5, R7, R424) -/

section
namespace Sys2Proof.Machine

theorem bit_writtenImage (cls inst old data mask now k : Nat) :
    bit (writtenImage cls inst old data mask now) k =
      ((bit old k && !(bit (fieldMask cls inst fun r => decide (r.acc = .rw)) k && bit mask k) ||
          bit data k && (bit (fieldMask cls inst fun r => decide (r.acc = .rw)) k && bit mask k)) &&
        !(bit data k && (bit (fieldMask cls inst fun r => decide (r.acc = .w1c)) k && bit mask k) && !bit now k)) := by
  simp only [bit, writtenImage, testBit_clearMask, Nat.testBit_or, Nat.testBit_and]

/-- Settles O16: the image is built from masks, so each bit is read off. -/
theorem writtenImageFollowsTheAccess : Obligations.WrittenImageFollowsTheAccess := by
  intro cls inst old data mask now k
  rw [bit_writtenImage]
  cases bit (fieldMask cls inst fun r => decide (r.acc = .rw)) k && bit mask k <;>
    simp [Bool.and_comm, Bool.and_left_comm]

theorem length_leBytes (n x : Nat) : (leBytes n x).length = n := by
  induction n generalizing x with
  | zero => rfl
  | succ n ih => simp [leBytes, ih]

variable {s : State} {h : Hdr} {c n o l : Nat}

theorem cmdObjRead_inline (hn : n < objCount c) (hp : s.powered (objDom c n) = true) (hr : rangeOk c o l = true)
    (hi : isInline h l = true) (id : Nat) :
    cmdObjRead h c n o l id s =
      (s, let v := bits (s.readObj c n) (8 * o) (8 * l)
        Reply.ok4 (bits v 0 32) (bits v 32 32) (bits v 64 32) (bits v 96 32)) := by
  simp [cmdObjRead, Nat.not_le.2 hn, hp, hr, hi]

theorem cmdObjRead_extended (hn : n < objCount c) (hp : s.powered (objDom c n) = true) (hr : rangeOk c o l = true)
    (hi : isInline h l = false) (hl : h.extlen.toNat = l) (id : Nat) :
    cmdObjRead h c n o l id s =
      (s, { Reply.ok with data := leBytes l (bits (s.readObj c n) (8 * o) (8 * l)) }) := by
  simp [cmdObjRead, Nat.not_le.2 hn, hp, hr, hi, hl]

/-- Two ranges of bits that meet share a bit. -/
theorem ones_and_ones_ne_zero {a w b v : Nat} (h1 : a < b + v) (h2 : b < a + w) (hw : 0 < w) (hv : 0 < v) :
    ones a w &&& ones b v ≠ 0 := by
  intro h0
  have hbit := congrArg (fun x => x.testBit (max a b)) h0
  simp only [Nat.testBit_and, testBit_ones, Nat.zero_testBit] at hbit
  have ha : a ≤ max a b ∧ max a b < a + w := by omega
  have hb : b ≤ max a b ∧ max a b < b + v := by omega
  simp [ha, hb] at hbit

theorem pos_of_rangeOk (hr : rangeOk c o l = true) : 0 < l := by
  simp only [rangeOk, decide_eq_true_eq] at hr
  omega

/-- The check that a range takes in INT_PF is among the checks of the write (R358). -/
theorem writeRefused_of_takesIntPf {old data new : Nat} (hr : rangeOk c o l = true) (ht : takesIntPf c o l = true) :
    s.writeRefused false c n old data new (ones (8 * o) (8 * l)) = some .security := by
  simp only [takesIntPf, decide_eq_true_eq] at ht
  obtain ⟨hc, h1, h2⟩ := ht
  have hm := ones_and_ones_ne_zero (w := 8 * l) (v := 32) h1 (by omega) (by have := pos_of_rangeOk hr; omega) (by omega)
  simp [State.writeRefused, hc, hm]

theorem cmdObjWrite_eq {d : Nat} (hn : n < objCount c) (hp : s.powered (objDom c n) = true) (hr : rangeOk c o l = true)
    (hx : isInline h l = true ∨ h.extlen.toNat = l) (id : Nat) :
    cmdObjWrite h c n o l d id s = s.writeObj (pathSecure h.path) c n
      (((if isInline h l then d else leNat h.ext) % 2 ^ (8 * l)) <<< (8 * o)) (ones (8 * o) (8 * l)) := by
  have hext : ¬ (isInline h l = false ∧ h.extlen.toNat ≠ l) := by
    rintro ⟨h1, h2⟩
    rcases hx with hx | hx
    · exact Bool.false_ne_true (h1.symm.trans hx)
    · exact h2 hx
  by_cases ht : takesIntPf c o l = true ∧ pathSecure h.path = false
  · simp [cmdObjWrite, Nat.not_le.2 hn, hp, ht, State.writeObj, writeRefused_of_takesIntPf hr ht.1]
  · simp [cmdObjWrite, Nat.not_le.2 hn, hp, hr, ht, hext]

theorem writeObj_of_refused {sec : Bool} {data mask : Nat} {st : Status}
    (hw : s.writeRefused sec c n (s.obj c n) data
      (writtenImage c n (s.obj c n) data mask (s.nowMask (okey c n))) mask = some st) :
    s.writeObj sec c n data mask = refuse s st := by
  simp only [State.writeObj, hw]

theorem writeObj_of_accepted {sec : Bool} {data mask new : Nat}
    (hn : new = writtenImage c n (s.obj c n) data mask (s.nowMask (okey c n)))
    (hw : s.writeRefused sec c n (s.obj c n) data new mask = none) :
    s.writeObj sec c n data mask =
      (((s.beforeWrite c n new mask).setObj c n (new ||| dirtied c n mask)).afterWrite s c n (s.obj c n) new mask,
        Reply.ok) := by
  subst hn
  simp only [State.writeObj, hw]

/-- Settles O15: reads inline or at EXTPTR, and the write as `writeObj`. -/
theorem objectReadAndWriteFollowTheirRange : Obligations.ObjectReadAndWriteFollowTheirRange := by
  refine ⟨fun h c n o l s a hn hp hr => ⟨fun hi => ?inline, fun hi hl hf => ?extended⟩,
    fun h c n o l d s a hn hp hr hx => ⟨fun st hw => ?refused, fun hw => ?accepted⟩⟩
  case inline =>
    exact exec_answers a rfl (cmdObjRead_inline (s := s.accepted (.objRead h c n o l) h) hn hp hr hi s.cmd.nextId) rfl rfl
  case extended =>
    exact exec_answers_data a rfl
      (cmdObjRead_extended (s := s.accepted (.objRead h c n o l) h) hn hp hr hi (congrArg BitVec.toNat hl) s.cmd.nextId)
      rfl (by rw [length_leBytes]; exact hf)
  case refused =>
    refine exec_refused a rfl ?_
    exact (cmdObjWrite_eq (s := s.accepted (.objWrite h c n o l d) h) hn hp hr (hx.imp_right (congrArg BitVec.toNat))
      s.cmd.nextId).trans (writeObj_of_refused hw)
  case accepted =>
    refine exec_answers a rfl ?_ rfl rfl
    exact (cmdObjWrite_eq (s := s.accepted (.objWrite h c n o l d) h) hn hp hr (hx.imp_right (congrArg BitVec.toNat))
      s.cmd.nextId).trans (writeObj_of_accepted rfl hw)

end Sys2Proof.Machine
end

/-! ### Fields read back after a field write -/

section
namespace Sys2Proof.Machine

theorem State.getF_setF_same (s : State) (f : Field) (n v : Nat) : (s.setF f n v).getF f n = v % 2 ^ f.width := by
  simp only [State.getF, State.setF, State.obj_setObj_same, bits_setBits_same]

theorem State.getF_setF_apart (s : State) (f g : Field) (n v : Nat) (hc : g.cls = f.cls)
    (h : g.lsb + g.width ≤ f.lsb ∨ f.lsb + f.width ≤ g.lsb) : (s.setF f n v).getF g n = s.getF g n := by
  simp only [State.getF, State.setF, hc, State.obj_setObj_same, bits_setBits_other _ _ _ _ _ _ h]

theorem State.getF_setF_other (s : State) (f g : Field) (n m v : Nat) (hk : okey g.cls m ≠ okey f.cls n) :
    (s.setF f n v).getF g m = s.getF g m := by
  simp only [State.getF, State.setF, State.obj_setObj_other _ _ _ _ _ _ hk]

theorem State.fieldOf_obj (s : State) (f : Field) (n : Nat) : fieldOf f (s.obj f.cls n) = s.getF f n := rfl

theorem fieldOf_setBits_same (f : Field) (x v : Nat) : fieldOf f (setBits x f.lsb f.width v) = v % 2 ^ f.width :=
  bits_setBits_same _ _ _ _

theorem sdel_sdel {α : Type} (m : Sparse α) (k : Nat) : sdel (sdel m k) k = sdel m k := by
  simp [sdel]

theorem sput_sput {α : Type} (m : Sparse α) (k : Nat) (v w : α) : sput (sput m k v) k w = sput m k w := by
  induction m with
  | nil => simp [sput]
  | cons e m ih =>
    obtain ⟨a, x⟩ := e
    by_cases h1 : a = k
    · simp [sput, h1]
    · by_cases h2 : k < a
      · simp [sput, h1, h2]
      · simp [sput, h1, h2, ih]

/-- Writing the same value twice is writing it once. -/
theorem sset_sset_self {α : Type} [DecidableEq α] (d : Nat → α) (m : Sparse α) (k : Nat) (v : α) :
    sset d (sset d m k v) k v = sset d m k v := by
  by_cases h : v = d k
  · simp [sset, h, sdel_sdel]
  · simp [sset, h, sput_sput]

theorem State.setObj_setObj_self (s : State) (c n v : Nat) : (s.setObj c n v).setObj c n v = s.setObj c n v := by
  simp only [State.setObj, sset_sset_self]

end Sys2Proof.Machine
end

/-! ### Writes of single fields (R424) -/

section
namespace Sys2Proof.Machine

theorem objRows_instance {c : Nat} (hc : c ≠ 0x02) (n : Nat) : objRows c n = objRows c 0 := by
  unfold objRows
  split <;> simp_all

/-- A field that a write sets as it is: every bit RW and none staged, in a class whose instances share one field map. -/
def Field.isPlain (f : Field) : Bool :=
  decide (f.cls ≠ 0x02) &&
    decide (fieldMask f.cls 0 (fun r => decide (r.acc = .rw)) &&& ones f.lsb f.width = ones f.lsb f.width) &&
    decide (fieldMask f.cls 0 (fun r => decide (r.acc = .w1c)) &&& ones f.lsb f.width = 0) &&
    decide (fieldMask f.cls 0 (fun r => r.staged) &&& ones f.lsb f.width = 0)

theorem Field.isPlain_masks {f : Field} (hf : f.isPlain = true) (n : Nat) :
    fieldMask f.cls n (fun r => decide (r.acc = .rw)) &&& ones f.lsb f.width = ones f.lsb f.width ∧
      fieldMask f.cls n (fun r => decide (r.acc = .w1c)) &&& ones f.lsb f.width = 0 ∧
      fieldMask f.cls n (fun r => r.staged) &&& ones f.lsb f.width = 0 := by
  simp only [Field.isPlain, Bool.and_eq_true, decide_eq_true_eq] at hf
  obtain ⟨⟨⟨hc, h1⟩, h2⟩, h3⟩ := hf
  simp only [fieldMask, objRows_instance hc n] at h1 h2 h3 ⊢
  exact ⟨h1, h2, h3⟩

theorem clearMask_zero (x : Nat) : clearMask x 0 = x := by simp [clearMask]

theorem zero_clearMask (m : Nat) : clearMask 0 m = 0 := by simp [clearMask]

/-- The data of a field lie within its mask. -/
theorem fieldData_and_ones (l w v : Nat) : (v % 2 ^ w) <<< l &&& ones l w = (v % 2 ^ w) <<< l := by
  apply Nat.eq_of_testBit_eq
  intro k
  rw [Nat.testBit_and, testBit_ones, Nat.testBit_shiftLeft, Nat.testBit_mod_two_pow]
  by_cases h1 : l ≤ k
  · by_cases h2 : k - l < w
    · have h3 : k < l + w := by omega
      simp [h1, h3]
    · simp [h2]
  · simp [h1]

theorem writtenImage_of_plain {f : Field} (hf : f.isPlain = true) (n old v now : Nat) :
    writtenImage f.cls n old ((v % 2 ^ f.width) <<< f.lsb) (ones f.lsb f.width) now = setBits old f.lsb f.width v := by
  obtain ⟨h1, h2, h3⟩ := Field.isPlain_masks hf n
  simp only [writtenImage, h1, h2, Nat.and_zero, zero_clearMask, clearMask_zero, fieldData_and_ones, setBits_eq_masks]

theorem dirtied_of_plain {f : Field} (hf : f.isPlain = true) (n : Nat) : dirtied f.cls n (ones f.lsb f.width) = 0 := by
  obtain ⟨h1, h2, h3⟩ := Field.isPlain_masks hf n
  simp [dirtied, h3]

/-- The write of one plain field that no check refuses. -/
theorem cmdFieldWrite_of_writable {s : State} {h : Hdr} {f : Field} {n v : Nat} (hf : f.isPlain = true)
    (w : s.Writable h f n v) (id : Nat) :
    cmdFieldWrite h f.cls n [(f, v)] id s =
      (((s.beforeWrite f.cls n (setBits (s.obj f.cls n) f.lsb f.width v) (ones f.lsb f.width)).setObj f.cls n
          (setBits (s.obj f.cls n) f.lsb f.width v)).afterWrite s f.cls n (s.obj f.cls n)
        (setBits (s.obj f.cls n) f.lsb f.width v) (ones f.lsb f.width), Reply.ok) := by
  simp only [cmdFieldWrite, w.powered, Bool.not_true, Bool.false_eq_true, if_false, List.foldl_cons, List.foldl_nil,
    Nat.zero_or]
  rw [writeObj_of_accepted (writtenImage_of_plain hf n _ v _).symm w.checks, dirtied_of_plain hf, Nat.or_zero]

theorem State.beforeWrite_of_ne {c : Nat} (hc : c ≠ 0x0D) (s : State) (n new mask : Nat) :
    s.beforeWrite c n new mask = s := by
  simp [State.beforeWrite, hc]

/-- The same for a class whose objects are written directly. -/
theorem cmdFieldWrite_direct {s : State} {h : Hdr} {f : Field} {n v : Nat} (hf : f.isPlain = true) (hc : f.cls ≠ 0x0D)
    (w : s.Writable h f n v) (id : Nat) :
    cmdFieldWrite h f.cls n [(f, v)] id s =
      ((s.setF f n v).afterWrite s f.cls n (s.obj f.cls n)
        (setBits (s.obj f.cls n) f.lsb f.width v) (ones f.lsb f.width), Reply.ok) := by
  rw [cmdFieldWrite_of_writable hf w, State.beforeWrite_of_ne hc]
  rfl

end Sys2Proof.Machine
end

/-! ### The field-write rows (R95, R166, R288, R294, R297, R321, R327, R404) -/

section
namespace Sys2Proof.Machine

variable {s : State} {h : Hdr}

theorem State.afterWrite_output {c : Nat} (hc : c = 0x01) (s was : State) (n old new mask : Nat) :
    s.afterWrite was c n old new mask = if changed Fld.output.fsc old new then s.fscChanged n else s := by
  subst hc
  rfl

theorem State.afterWrite_inputEn {c : Nat} (hc : c = 0x06) (s was : State) (n old new mask : Nat)
    (hm : bit mask Fld.input.inputEn.lsb = true) :
    s.afterWrite was c n old new mask =
      (let en := decide (fieldOf Fld.input.inputEn new = 1)
       if !en ∧ fieldOf Fld.input.state old ≠ 1 then (s.inputEnWritten n en).inputGone n else s.inputEnWritten n en) := by
  subst hc
  simp only [State.afterWrite, hm]
  rfl

theorem State.afterWrite_eth (s was : State) (n old new mask : Nat) : s.afterWrite was 0x13 n old new mask =
    if changed Fld.eth.ethMode old new ∨ changed Fld.eth.fecEn old new then s.ethLinkDown else s := rfl

theorem cmdFsc_of_writable {o v : Nat} (hv : v < 256) (w : s.Writable h Fld.output.fsc o v) (id : Nat) :
    cmdFsc h o v id s =
      (let a := s.setF Fld.output.fsc o v
       if s.getF Fld.output.fsc o = v then a else a.fscChanged o, Reply.ok) := by
  refine (cmdFieldWrite_direct (by decide) (by decide) w id).trans (congrArg (fun t => (t, Reply.ok)) ?_)
  have hc : changed Fld.output.fsc (s.obj Fld.output.fsc.cls o)
      (setBits (s.obj Fld.output.fsc.cls o) Fld.output.fsc.lsb Fld.output.fsc.width v) =
      decide (s.getF Fld.output.fsc o ≠ v) := by
    rw [changed, fieldOf_setBits_same, State.fieldOf_obj]
    exact congrArg (fun x => decide (s.getF Fld.output.fsc o ≠ x)) (Nat.mod_eq_of_lt hv)
  rw [State.afterWrite_output (show Fld.output.fsc.cls = 0x01 from rfl), hc]
  by_cases he : s.getF Fld.output.fsc o = v <;> simp [he]

theorem State.inputState_eq (s : State) (i : Nat) : s.inputState i = s.getF Fld.input.state i := by
  rw [State.inputState]

theorem State.inputState_setF_inputEn (s : State) (i v : Nat) :
    (s.setF Fld.input.inputEn i v).inputState i = s.inputState i :=
  (State.inputState_eq _ i).trans
    ((State.getF_setF_apart s Fld.input.inputEn Fld.input.state i v rfl (by decide)).trans (State.inputState_eq s i).symm)

theorem State.inputEnWritten_setF (f : Field) (n v i : Nat) (hs : (s.setF f n v).inputState i = 1) :
    (s.setF f n v).inputEnWritten i true =
      { (s.setF f n v).setF Fld.input.state i 2 with
        rd := { s.rd with startEnd := sset (fun _ => 0) s.rd.startEnd i (s.tick + 2000) } } := by
  simp only [State.inputEnWritten, if_true, hs]
  rfl

theorem cmdInputEn_true (i : Nat) (w : s.Writable h Fld.input.inputEn i 1) (hs : s.inputState i = 1) (id : Nat) :
    cmdInputEn h i true id s =
      (let a := s.setF Fld.input.inputEn i 1
       { a.setF Fld.input.state i 2 with
         rd := { s.rd with startEnd := sset (fun _ => 0) s.rd.startEnd i (s.tick + 2000) } }, Reply.ok) := by
  refine (cmdFieldWrite_direct (by decide) (by decide) w id).trans (congrArg (fun t => (t, Reply.ok)) ?_)
  have hen : fieldOf Fld.input.inputEn (setBits (s.obj Fld.input.inputEn.cls i) Fld.input.inputEn.lsb
      Fld.input.inputEn.width 1) = 1 := fieldOf_setBits_same _ _ _
  have hm : bit (ones Fld.input.inputEn.lsb Fld.input.inputEn.width) Fld.input.inputEn.lsb = true := by decide
  rw [State.afterWrite_inputEn (show Fld.input.inputEn.cls = 0x06 from rfl) _ _ _ _ _ _ hm]
  simp only [hen, decide_true, Bool.not_true, Bool.false_eq_true, false_and, if_false]
  exact State.inputEnWritten_setF _ _ _ _ ((State.inputState_setF_inputEn s i 1).trans hs)

theorem cmdInputEn_false (i : Nat) (w : s.Writable h Fld.input.inputEn i 0) (id : Nat) :
    cmdInputEn h i false id s =
      (let a := (s.setF Fld.input.inputEn i 0).inputEnWritten i false
       if s.inputState i = 1 then a else a.inputGone i, Reply.ok) := by
  refine (cmdFieldWrite_direct (by decide) (by decide) w id).trans (congrArg (fun t => (t, Reply.ok)) ?_)
  have hen : fieldOf Fld.input.inputEn (setBits (s.obj Fld.input.inputEn.cls i) Fld.input.inputEn.lsb
      Fld.input.inputEn.width 0) = 0 := fieldOf_setBits_same _ _ _
  have hm : bit (ones Fld.input.inputEn.lsb Fld.input.inputEn.width) Fld.input.inputEn.lsb = true := by decide
  have hst : fieldOf Fld.input.state (s.obj Fld.input.inputEn.cls i) = s.inputState i := rfl
  rw [State.afterWrite_inputEn (show Fld.input.inputEn.cls = 0x06 from rfl) _ _ _ _ _ _ hm]
  by_cases hs : s.inputState i = 1 <;> simp [hen, hst, hs]

theorem cmdBankEn_of_writable (k : Nat) (v : Bool) (w : s.Writable h Fld.biasbank.bankEn k (b2n v)) (id : Nat) :
    cmdBankEn h k v id s = ((s.setF Fld.biasbank.bankEn k (b2n v)).bankEnWritten k v, Reply.ok) := by
  refine (cmdFieldWrite_direct (by decide) (by decide) w id).trans (congrArg (fun t => (t, Reply.ok)) ?_)
  have hm : bit (ones Fld.biasbank.bankEn.lsb Fld.biasbank.bankEn.width) Fld.biasbank.bankEn.lsb = true := by decide
  have hsafe : ones Fld.biasbank.bankEn.lsb Fld.biasbank.bankEn.width &&&
      ones Fld.biasbank.safeCode.lsb Fld.biasbank.safeCode.width = 0 := by decide
  have hflag : (s.setF Fld.biasbank.bankEn k (b2n v)).flag Fld.biasbank.bankEn k = v := by
    rw [State.flag, State.getF_setF_same]
    cases v <;> rfl
  have hafter : (s.setF Fld.biasbank.bankEn k (b2n v)).biasbankWritten k
      (ones Fld.biasbank.bankEn.lsb Fld.biasbank.bankEn.width) =
      (s.setF Fld.biasbank.bankEn k (b2n v)).bankEnWritten k v := by
    simp only [State.biasbankWritten, hsafe, hm]
    simp [hflag]
  exact hafter

theorem cmdSlewEn_of_writable (k : Nat) (v : Bool) (w : s.Writable h Fld.biasbank.slewEn k (b2n v)) (id : Nat) :
    cmdSlewEn h k v id s = (s.setF Fld.biasbank.slewEn k (b2n v), Reply.ok) := by
  refine (cmdFieldWrite_direct (by decide) (by decide) w id).trans (congrArg (fun t => (t, Reply.ok)) ?_)
  have hm : bit (ones Fld.biasbank.slewEn.lsb Fld.biasbank.slewEn.width) Fld.biasbank.bankEn.lsb = false := by decide
  have hsafe : ones Fld.biasbank.slewEn.lsb Fld.biasbank.slewEn.width &&&
      ones Fld.biasbank.safeCode.lsb Fld.biasbank.safeCode.width = 0 := by decide
  have hafter : (s.setF Fld.biasbank.slewEn k (b2n v)).biasbankWritten k
      (ones Fld.biasbank.slewEn.lsb Fld.biasbank.slewEn.width) = s.setF Fld.biasbank.slewEn k (b2n v) := by
    simp only [State.biasbankWritten, hsafe, hm]
    simp
  exact hafter

theorem cmdInputCode_of_writable {b v : Nat} (hv : v < 2 ^ 20) (w : s.Writable h Fld.bias.inputCode b v) (id : Nat) :
    cmdInputCode h b v id s = (s.writeInput b v, Reply.ok) := by
  refine (cmdFieldWrite_of_writable (by decide) w id).trans (congrArg (fun t => (t, Reply.ok)) ?_)
  have hnew : fieldOf Fld.bias.inputCode (setBits (s.obj Fld.bias.inputCode.cls b) Fld.bias.inputCode.lsb
      Fld.bias.inputCode.width v) = v := (fieldOf_setBits_same _ _ _).trans (Nat.mod_eq_of_lt hv)
  have hm : ones Fld.bias.inputCode.lsb Fld.bias.inputCode.width &&& ones Fld.bias.inputCode.lsb 20 ≠ 0 := by decide
  have hbefore : s.beforeWrite Fld.bias.inputCode.cls b (setBits (s.obj Fld.bias.inputCode.cls b) Fld.bias.inputCode.lsb
      Fld.bias.inputCode.width v) (ones Fld.bias.inputCode.lsb Fld.bias.inputCode.width) = s.writeInput b v := by
    rw [State.beforeWrite, if_pos ⟨rfl, hm⟩, hnew]
  rw [hbefore]
  simp only [State.writeInput]
  split
  · exact State.setObj_setObj_self s _ _ _
  · exact State.setObj_setObj_self _ _ _ _

theorem tpEn_isPlain : ∀ n : Fin 4, (tpF n.val Fld.tp.tpEn).isPlain = true := by decide

theorem cmdTpEn_of_writable (n : Fin 4) (v : Bool) (w : s.Writable h (tpF n.val Fld.tp.tpEn) 0 (b2n v)) (id : Nat) :
    cmdTpEn h n.val v id s =
      (let f := tpF n.val Fld.tp.tpEn
       (s.setF f 0 (b2n v)).timeWritten (s.obj 0x0F 0) (setBits (s.obj 0x0F 0) f.lsb f.width (b2n v)), Reply.ok) :=
  cmdFieldWrite_direct (tpEn_isPlain n) (by decide : (0x0F : Nat) ≠ 0x0D) w id

theorem cmdDomEn_of_writable (b v : Bool)
    (w : s.Writable h (if b then Fld.time.domEnB else Fld.time.domEnA) 0 (b2n v)) (id : Nat) :
    cmdDomEn h b v id s =
      (let f := if b then Fld.time.domEnB else Fld.time.domEnA
       (s.setF f 0 (b2n v)).timeWritten (s.obj 0x0F 0) (setBits (s.obj 0x0F 0) f.lsb f.width (b2n v)), Reply.ok) := by
  cases b
  · exact cmdFieldWrite_direct (by decide) (by decide : (0x0F : Nat) ≠ 0x0D) w id
  · exact cmdFieldWrite_direct (by decide) (by decide : (0x0F : Nat) ≠ 0x0D) w id


/-! ETH_MODE writes two fields at once. -/

theorem writtenImage_of_two_plain {f g : Field} (hf : f.isPlain = true) (hg : g.isPlain = true) (hc : g.cls = f.cls)
    (hd : ones f.lsb f.width &&& ones g.lsb g.width = 0) (n old v w now : Nat) :
    writtenImage f.cls n old ((v % 2 ^ f.width) <<< f.lsb ||| (w % 2 ^ g.width) <<< g.lsb)
        (ones f.lsb f.width ||| ones g.lsb g.width) now =
      setBits (setBits old f.lsb f.width v) g.lsb g.width w := by
  obtain ⟨h1, h2, -⟩ := Field.isPlain_masks hf n
  obtain ⟨h3, h4, -⟩ := Field.isPlain_masks hg n
  rw [hc] at h3 h4
  have hdata : ((v % 2 ^ f.width) <<< f.lsb ||| (w % 2 ^ g.width) <<< g.lsb) &&&
      (ones f.lsb f.width ||| ones g.lsb g.width) = (v % 2 ^ f.width) <<< f.lsb ||| (w % 2 ^ g.width) <<< g.lsb := by
    rw [← fieldData_and_ones f.lsb f.width v, ← fieldData_and_ones g.lsb g.width w]
    apply Nat.eq_of_testBit_eq
    intro k
    simp only [Nat.testBit_and, Nat.testBit_or]
    cases (ones f.lsb f.width).testBit k <;> cases (ones g.lsb g.width).testBit k <;> simp
  have hdis (k : Nat) : ((ones f.lsb f.width).testBit k && (ones g.lsb g.width).testBit k) = false := by
    rw [← Nat.testBit_and, hd, Nat.zero_testBit]
  simp only [writtenImage, Nat.and_or_distrib_left, h1, h2, h3, h4, Nat.or_zero, Nat.and_zero, zero_clearMask,
    clearMask_zero, setBits_eq_masks]
  rw [← Nat.and_or_distrib_left, hdata]
  apply Nat.eq_of_testBit_eq
  intro k
  rw [← fieldData_and_ones f.lsb f.width v]
  have := hdis k
  simp only [Nat.testBit_or, testBit_clearMask, Nat.testBit_and]
  revert this
  cases (ones f.lsb f.width).testBit k <;> cases (ones g.lsb g.width).testBit k <;> simp

theorem ones_two_not_dest :
    ∀ d : Fin 8, (ones Fld.eth.ethMode.lsb 2 ||| ones Fld.eth.fecEn.lsb 1) &&& ones (1024 + 256 * d.val) 256 = 0 := by
  decide

theorem eth_fields_known (m f : Nat) :
    clearMask (((m % 2 ^ 2) <<< Fld.eth.ethMode.lsb ||| (f % 2 ^ 1) <<< Fld.eth.fecEn.lsb) &&&
      (ones Fld.eth.ethMode.lsb 2 ||| ones Fld.eth.fecEn.lsb 1)) (fieldMask 0x13 0 (fun _ => true)) = 0 := by
  have hm : (ones Fld.eth.ethMode.lsb 2 ||| ones Fld.eth.fecEn.lsb 1) &&& fieldMask 0x13 0 (fun _ => true) =
      ones Fld.eth.ethMode.lsb 2 ||| ones Fld.eth.fecEn.lsb 1 := by decide
  rw [clearMask, Nat.and_assoc, hm, Nat.xor_self]

/-- The Ethernet mode and FEC take no part in the checks of the object (R404). -/
theorem badEth_setMode (x m f' : Nat) :
    badEth (setBits (setBits x Fld.eth.ethMode.lsb 2 m) Fld.eth.fecEn.lsb 1 f') = badEth x := by
  have keep (l n : Nat) (hl : 4 ≤ l) :
      bits (setBits (setBits x Fld.eth.ethMode.lsb 2 m) Fld.eth.fecEn.lsb 1 f') l n = bits x l n := by
    rw [bits_setBits_other _ _ _ _ _ _ (Or.inr hl), bits_setBits_other _ _ _ _ _ _ (Or.inr (Nat.le_trans (by decide) hl))]
  have keepBit (l : Nat) (hl : 4 ≤ l) :
      bit (setBits (setBits x Fld.eth.ethMode.lsb 2 m) Fld.eth.fecEn.lsb 1 f') l = bit x l := by
    have h1 : ¬ (Fld.eth.fecEn.lsb ≤ l ∧ l < Fld.eth.fecEn.lsb + 1) := fun h => Nat.not_lt.2 hl h.2
    have h2 : ¬ (Fld.eth.ethMode.lsb ≤ l ∧ l < Fld.eth.ethMode.lsb + 2) :=
      fun h => Nat.not_lt.2 (Nat.le_trans (by decide) hl) h.2
    rw [bit, testBit_setBits, if_neg h1, testBit_setBits, if_neg h2]
    rfl
  have keepField (f : Field) (hl : 4 ≤ f.lsb) :
      fieldOf f (setBits (setBits x Fld.eth.ethMode.lsb 2 m) Fld.eth.fecEn.lsb 1 f') = fieldOf f x := keep _ _ hl
  have hdest (d : Nat) :
      badDest (setBits (setBits x Fld.eth.ethMode.lsb 2 m) Fld.eth.fecEn.lsb 1 f') d = badDest x d := by
    simp only [badDest, keepField Fld.eth.ipv4Addr (by decide), keepField Fld.eth.ipv6Addr (by decide),
      keepBit (1024 + 256 * d) (by omega), keep (1152 + 256 * d) 128 (by omega)]
  simp only [badEth, funext hdest, keepField Fld.eth.cmdPrefix (by decide), keepField Fld.eth.mtu (by decide)]

theorem changed_setMode (x m f : Nat) (hm : m < 4) (hf : f < 2) :
    (changed Fld.eth.ethMode x (setBits (setBits x Fld.eth.ethMode.lsb 2 m) Fld.eth.fecEn.lsb 1 f) = true ∨
      changed Fld.eth.fecEn x (setBits (setBits x Fld.eth.ethMode.lsb 2 m) Fld.eth.fecEn.lsb 1 f) = true) ↔
      ¬ (fieldOf Fld.eth.ethMode x = m ∧ fieldOf Fld.eth.fecEn x = f) := by
  have h1 : fieldOf Fld.eth.ethMode (setBits (setBits x Fld.eth.ethMode.lsb 2 m) Fld.eth.fecEn.lsb 1 f) = m := by
    rw [fieldOf, bits_setBits_other _ _ _ _ _ _ (by decide)]
    exact (bits_setBits_same _ _ _ _).trans (Nat.mod_eq_of_lt hm)
  have h2 : fieldOf Fld.eth.fecEn (setBits (setBits x Fld.eth.ethMode.lsb 2 m) Fld.eth.fecEn.lsb 1 f) = f := by
    rw [fieldOf]
    exact (bits_setBits_same _ _ _ _).trans (Nat.mod_eq_of_lt hf)
  simp only [changed, h1, h2, decide_eq_true_eq, ne_eq, Classical.not_and_iff_not_or_not]

theorem dirtied_eth_modes : dirtied 0x13 0 (ones Fld.eth.ethMode.lsb 2 ||| ones Fld.eth.fecEn.lsb 1) = 0 := by
  decide

theorem writeRefused_of_setMode {sec : Bool} {x m f : Nat} (hb : badEth x = false) :
    s.writeRefused sec 0x13 0 x ((m % 2 ^ 2) <<< Fld.eth.ethMode.lsb ||| (f % 2 ^ 1) <<< Fld.eth.fecEn.lsb)
      (setBits (setBits x Fld.eth.ethMode.lsb 2 m) Fld.eth.fecEn.lsb 1 f)
      (ones Fld.eth.ethMode.lsb 2 ||| ones Fld.eth.fecEn.lsb 1) = none := by
  have hbad : s.writeBad 0x13 0 (setBits (setBits x Fld.eth.ethMode.lsb 2 m) Fld.eth.fecEn.lsb 1 f) = false :=
    (badEth_setMode x m f).trans hb
  have hstate : s.writeState 0x13 0 x (setBits (setBits x Fld.eth.ethMode.lsb 2 m) Fld.eth.fecEn.lsb 1 f)
      (ones Fld.eth.ethMode.lsb 2 ||| ones Fld.eth.fecEn.lsb 1) = false := by
    refine List.any_eq_false.2 fun d hd => ?_
    rw [ones_two_not_dest ⟨d, List.mem_range.1 hd⟩]
    simp
  simp only [State.writeRefused, eth_fields_known, hbad, hstate]
  simp

theorem afterWrite_setMode {m f : Nat} (hm : m < 4) (hf : f < 2) :
    let new := setBits (setBits (s.obj 0x13 0) Fld.eth.ethMode.lsb 2 m) Fld.eth.fecEn.lsb 1 f
    let mask := ones Fld.eth.ethMode.lsb 2 ||| ones Fld.eth.fecEn.lsb 1
    ((s.beforeWrite 0x13 0 new mask).setObj 0x13 0 (new ||| dirtied 0x13 0 mask)).afterWrite s 0x13 0 (s.obj 0x13 0) new mask =
      if s.getF Fld.eth.ethMode 0 = m ∧ s.getF Fld.eth.fecEn 0 = f then s.setObj 0x13 0 new
      else (s.setObj 0x13 0 new).ethLinkDown := by
  intro new mask
  rw [State.afterWrite_eth, State.beforeWrite_of_ne (by decide), dirtied_eth_modes, Nat.or_zero]
  by_cases he : s.getF Fld.eth.ethMode 0 = m ∧ s.getF Fld.eth.fecEn 0 = f
  · exact (if_neg fun hc => (changed_setMode _ m f hm hf).1 hc he).trans (if_pos he).symm
  · exact (if_pos ((changed_setMode _ m f hm hf).2 he)).trans (if_neg he).symm

theorem cmdEthMode_of_good {m : Nat} (hm : m < 4) (fec : Bool) (hp : s.powered domETH = true)
    (hb : badEth (s.obj 0x13 0) = false) (id : Nat) :
    cmdEthMode h m fec id s =
      (let a := s.setObj 0x13 0 (setBits (setBits (s.obj 0x13 0) Fld.eth.ethMode.lsb 2 m) Fld.eth.fecEn.lsb 1 (b2n fec))
       if s.getF Fld.eth.ethMode 0 = m ∧ s.getF Fld.eth.fecEn 0 = b2n fec then a else a.ethLinkDown, Reply.ok) := by
  have hf : b2n fec < 2 := by cases fec <;> decide
  have hpow : s.powered (objDom 0x13 0) = true := hp
  have himg := writtenImage_of_two_plain (f := Fld.eth.ethMode) (g := Fld.eth.fecEn) (by decide) (by decide) rfl (by decide)
    0 (s.obj 0x13 0) m (b2n fec) (s.nowMask (okey 0x13 0))
  simp only [cmdEthMode, cmdFieldWrite, hpow, Bool.not_true, Bool.false_eq_true, if_false, List.foldl_cons, List.foldl_nil,
    Nat.zero_or]
  refine (writeObj_of_accepted himg.symm (writeRefused_of_setMode hb)).trans (congrArg (fun t => (t, Reply.ok)) ?_)
  exact afterWrite_setMode hm hf

theorem State.writeState_accepted (s : State) (i : Instr) (h : Hdr) (c n old new mask : Nat) :
    (s.accepted i h).writeState c n old new mask = s.writeState c n old new mask := by
  unfold State.writeState
  split <;> rfl

theorem State.writeBad_accepted (s : State) (i : Instr) (h : Hdr) (c n new : Nat) :
    (s.accepted i h).writeBad c n new = s.writeBad c n new := by
  unfold State.writeBad
  split <;> rfl

theorem State.writeRefused_accepted (s : State) (i : Instr) (h : Hdr) (sec : Bool) (c n old data new mask : Nat) :
    (s.accepted i h).writeRefused sec c n old data new mask = s.writeRefused sec c n old data new mask := by
  simp only [State.writeRefused, State.writeState_accepted, State.writeBad_accepted]
  rfl

theorem State.Writable.accepted {s : State} {h : Hdr} {f : Field} {n v : Nat} (w : s.Writable h f n v) (i : Instr) (k : Hdr) :
    (s.accepted i k).Writable h f n v where
  powered := w.powered
  checks := (State.writeRefused_accepted s i k _ _ _ _ _ _ _).trans w.checks

/-- Settles O17: each row is the write of its field, and what the field's own rule adds is `afterWrite`. -/
theorem fieldWritesTakeEffect : Obligations.FieldWritesTakeEffect := by
  refine ⟨⟨?inputOn, ?inputOff, ?fsc, ?bankEn, ?slewEn, ?inputCode⟩, ?tpEn, ?domEn, ?ethMode⟩
  case inputOn =>
    exact fun h i s _ a w hs => exec_answers a rfl
      (cmdInputEn_true (s := s.accepted (.inputEn h i true) h) i.val (w.accepted _ _) hs s.cmd.nextId) rfl rfl
  case inputOff =>
    exact fun h i s _ a w => exec_answers a rfl
      (cmdInputEn_false (s := s.accepted (.inputEn h i false) h) i.val (w.accepted _ _) s.cmd.nextId) rfl rfl
  case fsc =>
    exact fun h o v s a w => exec_answers a rfl
      (cmdFsc_of_writable (s := s.accepted (.fsc h o v) h) v.isLt (w.accepted _ _) s.cmd.nextId) rfl rfl
  case bankEn =>
    exact fun h k v s _ a w => exec_answers a rfl
      (cmdBankEn_of_writable (s := s.accepted (.bankEn h k v) h) k.val v (w.accepted _ _) s.cmd.nextId) rfl rfl
  case slewEn =>
    exact fun h k v s a w => exec_answers a rfl
      (cmdSlewEn_of_writable (s := s.accepted (.slewEn h k v) h) k.val v (w.accepted _ _) s.cmd.nextId) rfl rfl
  case inputCode =>
    exact fun h b v s _ a w => exec_answers a rfl
      (cmdInputCode_of_writable (s := s.accepted (.inputCode h b v) h) v.isLt (w.accepted _ _) s.cmd.nextId) rfl rfl
  case tpEn =>
    exact fun h n v s a w => exec_answers a rfl
      (cmdTpEn_of_writable (s := s.accepted (.tpEn h n v) h) n v (w.accepted _ _) s.cmd.nextId) rfl rfl
  case domEn =>
    exact fun h b v s a w => exec_answers a rfl
      (cmdDomEn_of_writable (s := s.accepted (.domEn h b v) h) b v (w.accepted _ _) s.cmd.nextId) rfl rfl
  case ethMode =>
    exact fun h m fec s a hp hb => exec_answers a rfl
      (cmdEthMode_of_good (s := s.accepted (.ethMode h m fec) h) m.isLt fec hp hb s.cmd.nextId) rfl rfl

end Sys2Proof.Machine
end

/-! ### Power commands (R449, R453, R454, R466) -/

section
namespace Sys2Proof.Machine

variable {s : State} {h : Hdr}

/-- The row of an admitted command that works on and completes later. -/
theorem exec_works {i : Instr} {h : Hdr} {s t : State} {n bound : Nat} {b : Bool} {l : List (Nat × Nat)} {rep : Reply}
    (a : Admitted i h s) (hi : i.hdr = some h)
    (e : runCommand i s.cmd.nextId (s.accepted i h) = t.work n bound b l rep) :
    exec i s = .next (t.work n bound b l rep).1 :=
  exec_waits a hi e rfl rfl

theorem cmdPwrState_same {v : Nat} (hv : v ≤ 3) (hp : v = s.powerState) (id : Nat) :
    cmdPwrState v id s = (s, Reply.ok1 s.powerState) := by
  subst hp
  simp [cmdPwrState, Nat.not_lt.2 hv]

theorem cmdPwrState_busy {v : Nat} (hv : v ≤ 3) (hp : v ≠ s.powerState) (hb : s.pwrBusy = true ∨ s.foreground = true)
    (id : Nat) : cmdPwrState v id s = refuse s .busy := by
  simp [cmdPwrState, Nat.not_lt.2 hv, hp, hb]

/-- What PWR_STATE does for another state while no power command and no foreground calibration is in progress. -/
theorem cmdPwrState_free {v : Nat} (hv : v ≤ 3) (hp : v ≠ s.powerState) (hb : s.pwrBusy = false)
    (hf : s.foreground = false) (id : Nat) :
    cmdPwrState v id s =
      if v ≠ 0 ∧ s.powerState ≠ 2 ∧ s.anyCurator then refuse s .state
      else if v = 3 then
        if s.anyCurator ∨ s.banksLive then refuse s .state
        else ({ s with pw := { s.pw with dormantAt := s.tick + 10000 } }, Reply.ok1 3)
      else if s.powerState = 2 then
        if s.pw.hold then refuse s .thermal
        else if !s.convGood then refuse s .state
        else s.work id 25000000 false [(0, v)] Reply.ok
      else if v = 2 then s.toQuiet.work id 2000000 false [(0, 2)] Reply.ok
      else if v = 1 then (s.setPower 1).work id 1000 false [(0, 1)] Reply.ok
      else s.work id 1000 false [(0, 0)] Reply.ok := by
  simp [cmdPwrState, Nat.not_lt.2 hv, hp, hb, hf]

section
variable {v : Nat} (hv : v ≤ 3) (hp : v ≠ s.powerState) (hb : s.pwrBusy = false) (hf : s.foreground = false)
include hv hp hb hf

theorem cmdPwrState_curators (h0 : v ≠ 0) (h2 : s.powerState ≠ 2) (hc : s.anyCurator = true) (id : Nat) :
    cmdPwrState v id s = refuse s .state := by
  simp [cmdPwrState_free hv hp hb hf, h0, h2, hc]

theorem cmdPwrState_hold (h1 : v ≤ 1) (h2 : s.powerState = 2) (hh : s.pw.hold = true) (id : Nat) :
    cmdPwrState v id s = refuse s .thermal := by
  have h3 : v ≠ 3 := by omega
  simp [cmdPwrState_free hv hp hb hf, h2, h3, hh]

theorem cmdPwrState_supplies (h1 : v ≤ 1) (h2 : s.powerState = 2) (hh : s.pw.hold = false) (hg : s.convGood = false)
    (id : Nat) : cmdPwrState v id s = refuse s .state := by
  have h3 : v ≠ 3 := by omega
  simp [cmdPwrState_free hv hp hb hf, h2, h3, hh, hg]

theorem cmdPwrState_toRun (h1 : v ≤ 1) (h2 : s.powerState = 2) (hh : s.pw.hold = false) (hg : s.convGood = true)
    (id : Nat) : cmdPwrState v id s = s.work id 25000000 false [(0, v)] Reply.ok := by
  have h3 : v ≠ 3 := by omega
  simp [cmdPwrState_free hv hp hb hf, h2, h3, hh, hg]

theorem cmdPwrState_toIdle (h1 : v = 1) (h0 : s.powerState = 0) (hc : s.anyCurator = false) (id : Nat) :
    cmdPwrState v id s = (s.setPower 1).work id 1000 false [(0, 1)] Reply.ok := by
  rw [cmdPwrState_free hv hp hb hf]
  simp [h0, h1, hc]

theorem cmdPwrState_fromIdle (h0 : v = 0) (h1 : s.powerState = 1) (id : Nat) :
    cmdPwrState v id s = s.work id 1000 false [(0, 0)] Reply.ok := by
  rw [cmdPwrState_free hv hp hb hf]
  simp [h0, h1]

theorem cmdPwrState_toQuiet (h2 : v = 2) (h1 : s.powerState ≤ 1) (hc : s.anyCurator = false) (id : Nat) :
    cmdPwrState v id s = s.toQuiet.work id 2000000 false [(0, 2)] Reply.ok := by
  have h3 : s.powerState ≠ 2 := by omega
  rw [cmdPwrState_free hv hp hb hf]
  simp [h2, h3, hc]

theorem cmdPwrState_toDormant (h3 : v = 3) (hc : s.anyCurator = false) (hl : s.banksLive = false) (id : Nat) :
    cmdPwrState v id s = ({ s with pw := { s.pw with dormantAt := s.tick + 10000 } }, Reply.ok1 3) := by
  rw [cmdPwrState_free hv hp hb hf]
  simp [h3, hc, hl]

end

/-- What PWR_DOMAIN does with a mask of switchable domains while no power command is in progress. -/
theorem cmdPwrDomain_free {m on : Nat} (hm : m < 2 ^ 56)
    (hd : (setPositions m 56).any (fun d => decide (d < 3)) = false) (hb : s.pwrBusy = false) (id : Nat) :
    let ons := (setPositions m 56).filter (fun d => bit on d)
    let offs := (setPositions m 56).filter (fun d => !bit on d)
    cmdPwrDomain h m on id s =
      if ons.any (fun d => tileDomains.contains d) ∧ 1 < s.powerState then refuse s .state
      else if pathLost h offs then refuse s .state
      else
        (({ s with pw := { s.pw with onMask := clearMask s.pw.onMask (maskOf offs) ||| maskOf ons } }).powerOffAll offs).work
          id (if ons = [] then 2000000 else 25000000) false [(0, maskOf ons)] Reply.ok := by
  simp only [cmdPwrDomain, Nat.not_le.2 hm, hd, hb]
  simp

theorem cmdPwrDomain_alwaysOn {m on : Nat}
    (hd : 2 ^ 56 ≤ m ∨ (setPositions m 56).any (fun d => decide (d < 3)) = true) (id : Nat) :
    cmdPwrDomain h m on id s = refuse s .badParam := by
  simp only [cmdPwrDomain]
  rw [if_pos hd]

theorem cmdPwrDomain_busy {m on : Nat} (hm : m < 2 ^ 56)
    (hd : (setPositions m 56).any (fun d => decide (d < 3)) = false) (hb : s.pwrBusy = true) (id : Nat) :
    cmdPwrDomain h m on id s = refuse s .busy := by
  simp only [cmdPwrDomain, Nat.not_le.2 hm, hd, hb]
  simp

theorem cmdResume_running (ht : s.thermalState ≤ 1) (id : Nat) : cmdResume id s = refuse s .state := by
  simp [cmdResume, ht]

theorem cmdResume_hot (ht : 2 ≤ s.thermalState) (hj : 85 * 256 ≤ s.getSF Fld.thermal.tjMax 0) (id : Nat) :
    cmdResume id s = refuse s .thermal := by
  have h1 : ¬ s.thermalState ≤ 1 := by omega
  rw [cmdResume, if_neg h1, if_pos hj]

theorem cmdResume_cool (ht : 2 ≤ s.thermalState) (hj : s.getSF Fld.thermal.tjMax 0 < 85 * 256) (id : Nat) :
    cmdResume id s =
      (let b := s.setF Fld.thermal.thermalState 0 0
       ({ b with pw := { b.pw with hold := false, tripGated := false } }).unlockBanks.framesResume, Reply.ok) := by
  have h1 : ¬ s.thermalState ≤ 1 := by omega
  rw [cmdResume, if_neg h1, if_neg (Int.not_le.2 hj)]

/-- Settles O18: each command by the equation of its own checks. -/
theorem powerCommands : Obligations.PowerCommands := by
  refine ⟨fun h v s a hv => ⟨fun hp => ?same, fun hp hb => ?busy, fun hp hb hf => ?free⟩,
    fun h m on s a => ⟨fun hd => ?alwaysOn, fun hm hd hb => ?domainBusy, fun hm hd hb => ?domain⟩,
    fun h s a => ⟨fun ht => ?running, fun ht hj => ?hot, fun ht hj => ?cool⟩⟩
  case same =>
    exact exec_answers a rfl (cmdPwrState_same (s := s.accepted (.pwrState h v) h) hv hp s.cmd.nextId) rfl rfl
  case busy => exact exec_refused a rfl (cmdPwrState_busy (s := s.accepted (.pwrState h v) h) hv hp hb s.cmd.nextId)
  case free =>
    let b := s.accepted (.pwrState h v) h
    have hcur : b.anyCurator = s.anyCurator := rfl
    have hbank : b.banksLive = s.banksLive := rfl
    have refused {st : Status} (e : cmdPwrState v.toNat s.cmd.nextId b = refuse b st) :
        exec (.pwrState h v) s = .next (s.answered b (.pwrState h v) h (Reply.fail st)) := exec_refused a rfl e
    have works {t : State} {n : Nat} {l : List (Nat × Nat)}
        (e : cmdPwrState v.toNat s.cmd.nextId b = t.work s.cmd.nextId n false l Reply.ok) :
        exec (.pwrState h v) s = .next (t.work s.cmd.nextId n false l Reply.ok).1 := exec_works a rfl e
    exact ⟨fun h0 h2 hc => refused (cmdPwrState_curators (s := b) hv hp hb hf h0 h2 (hcur.trans hc) s.cmd.nextId),
      fun h1 h2 hh => refused (cmdPwrState_hold (s := b) hv hp hb hf h1 h2 hh s.cmd.nextId),
      fun h1 h2 hh hg => refused (cmdPwrState_supplies (s := b) hv hp hb hf h1 h2 hh hg s.cmd.nextId),
      fun h1 h2 hh hg => works (cmdPwrState_toRun (s := b) hv hp hb hf h1 h2 hh hg s.cmd.nextId),
      fun h1 h0 hc => works (cmdPwrState_toIdle (s := b) hv hp hb hf h1 h0 (hcur.trans hc) s.cmd.nextId),
      fun h0 h1 => works (cmdPwrState_fromIdle (s := b) hv hp hb hf h0 h1 s.cmd.nextId),
      fun h2 h1 hc => works (cmdPwrState_toQuiet (s := b) hv hp hb hf h2 h1 (hcur.trans hc) s.cmd.nextId),
      fun h3 hc hl => exec_answers a rfl (cmdPwrState_toDormant (s := b) hv hp hb hf h3 (hcur.trans hc) (hbank.trans hl) s.cmd.nextId) rfl rfl⟩
  case alwaysOn => exact exec_refused a rfl (cmdPwrDomain_alwaysOn (s := s.accepted (.pwrDomain h m on) h) hd s.cmd.nextId)
  case domainBusy => exact exec_refused a rfl (cmdPwrDomain_busy (s := s.accepted (.pwrDomain h m on) h) hm hd hb s.cmd.nextId)
  case domain =>
    have free := cmdPwrDomain_free (s := s.accepted (.pwrDomain h m on) h) (h := h) (on := on.toNat) hm hd hb s.cmd.nextId
    refine ⟨fun ht hp => exec_refused a rfl (free.trans (if_pos ⟨ht, hp⟩)), fun hl => exec_refused a rfl (free.trans ?_),
      fun ht hl => exec_works a rfl ((free.trans (if_neg ?_)).trans (if_neg (by simp [hl])))⟩
    · rw [if_pos hl, ite_self]
    · rintro ⟨h1, h2⟩
      exact ht.elim (fun hle => absurd h2 (Nat.not_lt.2 hle)) (fun hn => Bool.false_ne_true (hn.symm.trans h1))
  case running => exact exec_refused a rfl (cmdResume_running (s := s.accepted (.resume h) h) ht s.cmd.nextId)
  case hot => exact exec_refused a rfl (cmdResume_hot (s := s.accepted (.resume h) h) ht hj s.cmd.nextId)
  case cool => exact exec_answers a rfl (cmdResume_cool (s := s.accepted (.resume h) h) ht hj s.cmd.nextId) rfl rfl

end Sys2Proof.Machine
end

/-! ### A power-off forgets the domain's objects (R449) -/

section
namespace Sys2Proof.Machine

theorem okey_div (c n : Nat) (hn : n < 65536) : okey c n / 65536 = c := by
  unfold okey
  omega

theorem okey_mod (c n : Nat) (hn : n < 65536) : okey c n % 65536 = n := by
  unfold okey
  omega

theorem keyDom_okey (c n : Nat) (hn : n < 65536) : keyDom (okey c n) = objDom c n := by
  rw [keyDom, okey_div c n hn, okey_mod c n hn]

/-- A key that no entry of a store names reads as its default. -/
theorem sget_of_forall_ne {α : Type} (d : Nat → α) (m : Sparse α) (k : Nat) (h : ∀ e ∈ m, e.1 ≠ k) : sget d m k = d k := by
  induction m with
  | nil => rfl
  | cons e m ih =>
    rw [sget, if_neg (h e (List.mem_cons_self ..)), ih fun e' he' => h e' (List.mem_cons_of_mem _ he')]

/-- A domain's objects stand in neither store once those of another domain are all that is kept. -/
theorem sget_filter_otherDomain (d : Nat → Nat) (m : Sparse Nat) (c n : Nat) (hn : n < 65536) :
    sget d (m.filter (fun e => decide (keyDom e.1 ≠ objDom c n))) (okey c n) = d (okey c n) := by
  refine sget_of_forall_ne d _ _ fun e he hk => ?_
  have := (List.mem_filter.1 he).2
  rw [hk, keyDom_okey c n hn] at this
  simp at this

theorem State.takePower_eq {s : State} {d : Nat} (hp : s.powered d = true) (hd : d ≠ domAON) (planned : Bool) :
    ∃ t : State, s.takePower d planned =
      { t with objs := t.objs.filter (fun e => decide (keyDom e.1 ≠ d))
               live := t.live.filter (fun e => decide (keyDom e.1 ≠ d))
               undo := t.undo.filter (fun u => decide (keyDom u.key ≠ d) || decide (u.key / 65536 = 0x02 ∨ u.key / 65536 = 0x04))
               pw := { t.pw with on := clearMask t.pw.on (1 <<< d) } } := by
  rw [State.takePower, if_neg (by simp [hp, hd])]
  exact ⟨_, rfl⟩

/-- Settles O19: what `takePower` keeps of the two stores is the other domains' part. -/
theorem powerOffForgetsTheDomainsObjects : Obligations.PowerOffForgetsTheDomainsObjects := by
  intro s c n hn hd hp
  obtain ⟨t, ht⟩ := State.takePower_eq hp hd true
  simp only [State.powerOff, ht]
  refine ⟨sget_filter_otherDomain objDefault t.objs c n hn, sget_filter_otherDomain objDefault t.live c n hn, ?_⟩
  simp [State.powered, bit, testBit_clearMask, Nat.testBit_shiftLeft]

end Sys2Proof.Machine
end

/-! ### Time commands (R312, R320, R322, R329) -/

section
namespace Sys2Proof.Machine

variable {s : State} {h : Hdr}

theorem State.setAtRaw_accepted (s : State) (i : Instr) (h : Hdr) (r : Nat) :
    (s.accepted i h).setAtRaw r = s.setAtRaw r := rfl

theorem State.sysAt_accepted (s : State) (i : Instr) (h : Hdr) (r : Nat) : (s.accepted i h).sysAt r = s.sysAt r := rfl

theorem State.sysState_accepted (s : State) (i : Instr) (h : Hdr) : (s.accepted i h).sysState = s.sysState := rfl

theorem State.tick_accepted (s : State) (i : Instr) (h : Hdr) : (s.accepted i h).tick = s.tick := rfl

theorem cmdTimeRead_accepted (s : State) (i : Instr) (h : Hdr) (id : Nat) :
    cmdTimeRead id (s.accepted i h) =
      (let p := s.setAtRaw (16 * s.tick)
       let t := sysFields (s.sysAt (16 * s.tick))
       (s.accepted i h, Reply.ok4 (t.1 % 2 ^ 32) (t.1 / 2 ^ 32) t.2.1
        (t.2.2 + (if p.act then 2 ^ 16 else 0) + s.sysState * 2 ^ 17))) := by
  simp only [cmdTimeRead, State.setAtRaw_accepted, State.sysAt_accepted, State.sysState_accepted, State.tick_accepted]
  rfl

section
variable {d : Bool} {step : Bool} {v : Nat}

theorem cmdTimeSwitch_notLocked (hd : s.domState d ≠ 2) (id : Nat) :
    cmdTimeSwitch (if d then 1 else 0) step v id s = refuse s .state := by
  cases d <;> simp [cmdTimeSwitch, hd]

theorem cmdTimeSwitch_tooLate (hd : s.domState d = 2) (ht : s.tickParam v = none) (id : Nat) :
    cmdTimeSwitch (if d then 1 else 0) step v id s = refuse s .tooLate := by
  cases d <;> simp [cmdTimeSwitch, hd, ht]

theorem cmdTimeSwitch_scheduled {t : Nat} (hd : s.domState d = 2) (ht : s.tickParam v = some t) (id : Nat) :
    cmdTimeSwitch (if d then 1 else 0) step v id s =
      (({ s with tm := { s.tm with switches := s.tm.switches ++ [(t, d, step, id)] } }).paramsChanged, Reply.wait) := by
  cases d <;> simp [cmdTimeSwitch, hd, ht]

end

theorem runCommand_timeSwitch (d step : Bool) (v : BitVec 64) (id : Nat) (s : State) :
    runCommand (.timeSwitch h (if d then 1 else 0) step v) id s = cmdTimeSwitch (if d then 1 else 0) step v.toNat id s := by
  cases d <;> rfl

theorem cmdTimeCaptureRead_short {u : Nat}
    (hl : h.extlen.toNat < (((setPositions u 16).filter (fun n => s.tm.stamps.any (fun e => decide (e.1 = n)))).foldl
      (fun x n => ((x.1.stampRecord n).1, x.2 ++ (x.1.stampRecord n).2)) (s, ([] : List Byte))).2.length) (id : Nat) :
    cmdTimeCaptureRead h u id s = refuse s .badParam := by
  simp only [cmdTimeCaptureRead]
  exact if_pos hl

theorem cmdTimeCaptureRead_fits {u : Nat} (id : Nat) :
    let ns := (setPositions u 16).filter (fun n => s.tm.stamps.any (fun e => decide (e.1 = n)))
    let r := ns.foldl (fun x n => ((x.1.stampRecord n).1, x.2 ++ (x.1.stampRecord n).2)) (s, ([] : List Byte))
    r.2.length ≤ h.extlen.toNat →
      cmdTimeCaptureRead h u id s = (r.1, { Reply.ok2 r.2.length (maskOf ns) with data := r.2 }) := by
  intro ns r hl
  simp only [cmdTimeCaptureRead]
  exact if_neg (Nat.not_lt.2 hl)

/-- Settles O20: each command by the equation of its own checks. -/
theorem timeCommandsAnswerOrAreScheduled : Obligations.TimeCommandsAnswerOrAreScheduled := by
  refine ⟨fun h s a => exec_answers a rfl (cmdTimeRead_accepted s (.timeRead h) h s.cmd.nextId) rfl rfl,
    fun h e s a => exec_waits a rfl rfl rfl rfl, ?switch, ?capture⟩
  case switch =>
    intro h d step v s i a
    refine ⟨fun hd => exec_refused a rfl ?_, fun hd ht => exec_refused a rfl ?_, fun t hd ht => exec_waits (rep := Reply.wait) a rfl ?_ rfl rfl⟩
    · exact (runCommand_timeSwitch d step v _ _).trans (cmdTimeSwitch_notLocked (s := s.accepted i h) hd _)
    · exact (runCommand_timeSwitch d step v _ _).trans (cmdTimeSwitch_tooLate (s := s.accepted i h) hd ht _)
    · exact (runCommand_timeSwitch d step v _ _).trans (cmdTimeSwitch_scheduled (s := s.accepted i h) hd ht _)
  case capture =>
    intro h u s a b ns r
    exact ⟨fun hl => exec_refused a rfl (cmdTimeCaptureRead_short (s := b) hl s.cmd.nextId),
      fun hl hf => exec_answers_data a rfl (cmdTimeCaptureRead_fits (s := b) s.cmd.nextId hl) rfl hf⟩

end Sys2Proof.Machine
end

/-! ### Archive and kernel memories (R72, R74) -/

section
namespace Sys2Proof.Machine

variable {s : State} {h : Hdr}

theorem cmdArchiveLoad_good {b st n : Nat} (hb : b ≤ 95) (hp : s.powered (bankDom b) = true)
    (hm : memBad 65536 st n h.extlen.toNat true = false) (id : Nat) :
    cmdArchiveLoad h b st n id s =
      (let k := 65536 * b + st
       let w := putWords s.arc.words k (words32 h.ext)
       let e := sclear s.arc.wordErr k n
       ({ s with arc := { s.arc with
            words := w, wordErr := e, loads := ⟨s.tick, k, n, s.arc.words, s.arc.wordErr⟩ :: s.arc.loads } },
        Reply.ok1 (crcNat (readWords w e k n)))) := by
  simp [cmdArchiveLoad, Nat.not_lt.2 hb, hm, hp]

theorem cmdArchiveRead_good {b st n : Nat} (hb : b ≤ 95) (hp : s.powered (bankDom b) = true)
    (hm : memBad 65536 st n h.extlen.toNat false = false) (id : Nat) :
    cmdArchiveRead h b st n id s =
      (let d := readWords s.arc.words s.arc.wordErr (65536 * b + st) n
       (s, { Reply.ok2 (crcNat d) (badWords s.arc.wordErr (65536 * b + st) n) with data := d })) := by
  simp [cmdArchiveRead, Nat.not_lt.2 hb, hm, hp]

theorem cmdKernelLoad_good {st n : Nat} (hp : s.powered domARC1 = true)
    (hm : memBad 1048576 st n h.extlen.toNat true = false) (id : Nat) :
    cmdKernelLoad h st n id s =
      (let w := putWords s.arc.kern st (words32 h.ext)
       let e := sclear s.arc.kernErr st n
       ({ s with arc := { s.arc with
            kern := w, kernErr := e
            loads := ⟨s.tick, 2 ^ 24 + st, n, kernelKeys s.arc.kern, kernelKeys s.arc.kernErr⟩ :: s.arc.loads } },
        Reply.ok1 (crcNat (readWords w e st n)))) := by
  simp [cmdKernelLoad, hm, hp]

theorem cmdKernelRead_good {st n : Nat} (hp : s.powered domARC1 = true)
    (hm : memBad 1048576 st n h.extlen.toNat false = false) (id : Nat) :
    cmdKernelRead h st n id s =
      (let d := readWords s.arc.kern s.arc.kernErr st n
       (s, { Reply.ok2 (crcNat d) (badWords s.arc.kernErr st n) with data := d })) := by
  simp [cmdKernelRead, hm, hp]

/-- Settles O21: each command by the equation of its own checks. -/
theorem memoryLoadsAndReadsMoveTheirWords : Obligations.MemoryLoadsAndReadsMoveTheirWords :=
  ⟨fun h b st n s hb hp =>
    ⟨fun a hm => exec_answers a rfl
        (cmdArchiveLoad_good (s := s.accepted (.archiveLoad h b st n) h) hb hp hm s.cmd.nextId) rfl rfl,
      fun a hm hf => exec_answers_data a rfl
        (cmdArchiveRead_good (s := s.accepted (.archiveRead h b st n) h) hb hp hm s.cmd.nextId) rfl hf⟩,
    fun h st n s hp =>
      ⟨fun a hm => exec_answers a rfl
          (cmdKernelLoad_good (s := s.accepted (.kernelLoad h st n) h) hp hm s.cmd.nextId) rfl rfl,
        fun a hm hf => exec_answers_data a rfl
          (cmdKernelRead_good (s := s.accepted (.kernelRead h st n) h) hp hm s.cmd.nextId) rfl hf⟩⟩

theorem wordAt_putWords_before (m : Sparse Nat) (k j : Nat) (l : List Nat) (hj : j < k) :
    wordAt (putWords m k l) j = wordAt m j := by
  induction l generalizing m k with
  | nil => rfl
  | cons w l ih => rw [putWords, ih _ _ (by omega), wordAt, sget_sset_other _ _ _ _ _ (by omega), wordAt]

theorem wordAt_putWords_after (m : Sparse Nat) (k j : Nat) (l : List Nat) (hj : k + l.length ≤ j) :
    wordAt (putWords m k l) j = wordAt m j := by
  induction l generalizing m k with
  | nil => rfl
  | cons w l ih =>
    rw [List.length_cons] at hj
    rw [putWords, ih _ _ (by omega), wordAt, sget_sset_other _ _ _ _ _ (by omega), wordAt]

theorem wordAt_putWords (m : Sparse Nat) (k j : Nat) (l : List Nat) (hj : j < l.length) :
    wordAt (putWords m k l) (k + j) = l[j] := by
  induction l generalizing m k j with
  | nil => simp at hj
  | cons w l ih =>
    cases j with
    | zero => 
      rw [putWords, wordAt_putWords_before _ _ _ _ (by omega), wordAt]
      exact sget_sset_same _ m k w
    | succ j =>
      have := ih (sset (fun _ => 0) m k w) (k + 1) j (by simpa using hj)
      rw [putWords, ← Nat.add_assoc, Nat.add_right_comm, this]
      rfl

theorem length_words32 (l : List Byte) (n : Nat) (hl : l.length = 4 * n) : (words32 l).length = n := by
  induction n generalizing l with
  | zero => rw [List.length_eq_zero_iff.1 hl]; rfl
  | succ n ih =>
    match l, hl with
    | a :: b :: c :: d :: l, hl =>
      rw [words32, List.length_cons, ih l (by simp only [List.length_cons] at hl; omega)]

theorem getElem_words32 (l : List Byte) (j : Nat) (hj : j < (words32 l).length) :
    (words32 l)[j] = leNat (sub l (4 * j) 4) := by
  induction j generalizing l with
  | zero =>
    match l, hj with
    | a :: b :: c :: d :: l, hj =>
      simp only [words32, List.getElem_cons_zero, sub, Nat.mul_zero, List.drop_zero, List.take_succ_cons, List.take_zero,
        leNat]
      omega
  | succ j ih =>
    match l, hj with
    | a :: b :: c :: d :: l, hj =>
      simp only [words32, List.getElem_cons_succ]
      rw [ih l (by simpa [words32] using hj), sub, sub, Nat.mul_succ]
      rfl

/-- A completion leaves the units as the command left them. -/
theorem leavesUnits_answered (s t : State) (i : Instr) (h : Hdr) (rep : Reply) : LeavesUnits t (s.answered t i h rep) :=
  leavesUnits_complete t s.cmd.nextId i h rep 0

/-- Settles O22: the load puts the words of its data, and each reads back at its place. -/
theorem archiveLoadWritesExactlyItsRange : Obligations.ArchiveLoadWritesExactlyItsRange := by
  intro h b st n s a hb hp hm hl _ k
  obtain ⟨t, rep, he, hwords, hkern, hobjs, hlive⟩ : ∃ t rep,
      exec (.archiveLoad h b st n) s = .next (s.answered t (.archiveLoad h b st n) h rep) ∧
      t.arc.words = putWords s.arc.words k (words32 h.ext) ∧ t.arc.kern = s.arc.kern ∧ t.objs = s.objs ∧ t.live = s.live :=
    ⟨_, _, exec_answers a rfl
      (cmdArchiveLoad_good (s := s.accepted (.archiveLoad h b st n) h) hb hp hm s.cmd.nextId) rfl rfl, rfl, rfl, rfl, rfl⟩
  have hu := leavesUnits_answered s t (.archiveLoad h b st n) h rep
  have hlen := length_words32 h.ext n.toNat hl
  refine ⟨_, he, fun j hj => ?_, fun m hm => ?_, by rw [hu.arc, hkern], hu.objs.trans hobjs, hu.live.trans hlive⟩
  · rw [hu.arc, hwords, wordAt_putWords _ k j _ (by omega), getElem_words32]
  · rw [hu.arc, hwords]
    exact hm.elim (wordAt_putWords_before _ k m _) fun h2 => wordAt_putWords_after _ k m _ (by omega)

end Sys2Proof.Machine
end

/-! ### Output states (R95, R98, R99, R102) -/

section
namespace Sys2Proof.Machine

variable {s : State} {h : Hdr}

theorem cmdOutputEnable_absent {m : Nat} (hp : (setPositions m 96).any (fun o => !s.powered (domDT (dtOfOutput o))) = true)
    (id : Nat) : cmdOutputEnable m id s = refuse s .absent := by
  rw [cmdOutputEnable, if_pos hp]

theorem cmdOutputEnable_hold {m : Nat} (hp : (setPositions m 96).any (fun o => !s.powered (domDT (dtOfOutput o))) = false)
    (hm : setPositions m 96 ≠ []) (hh : s.pw.hold = true) (id : Nat) : cmdOutputEnable m id s = refuse s .thermal := by
  simp only [cmdOutputEnable, hp]
  simp [hm, hh]

theorem cmdOutputEnable_ready {m : Nat} (hp : (setPositions m 96).any (fun o => !s.powered (domDT (dtOfOutput o))) = false)
    (hh : s.pw.hold = false)
    (hc : (setPositions m 96).any (fun o => s.tm.unlocked || !carrierOk (s.outMode o) (s.getL Fld.output.carrier o)) = false)
    (hk : (setPositions m 96).any s.outputInCal = false) (id : Nat) :
    cmdOutputEnable m id s = ((setPositions m 96).foldl State.enableOutput s, Reply.ok) := by
  simp only [cmdOutputEnable, hp, hc, hk, hh]
  simp

theorem cmdOutputDisable_powered {m : Nat}
    (hp : (setPositions m 96).any (fun o => !s.powered (domDT (dtOfOutput o))) = false) (id : Nat) :
    cmdOutputDisable m id s =
      ((setPositions m 96).foldl (fun u o => if u.getF Fld.output.state o = 4 then u else u.setF Fld.output.state o 1) s,
        Reply.ok) := by
  simp only [cmdOutputDisable, hp]
  rfl

theorem State.getF_setF_drv (f g : Field) (n v : Nat) (d : DrvGroup) (hc : g.cls = f.cls)
    (hl : g.lsb + g.width ≤ f.lsb ∨ f.lsb + f.width ≤ g.lsb) :
    ({ s.setF f n v with drv := d }).getF g n = s.getF g n :=
  State.getF_setF_apart s f g n v hc hl

theorem fscMuteEnd_of_due {o : Nat} (hd : s.fscEndDue o = true) :
    s.fscMuteEnd o =
      (let t := s.setF Fld.output.fscBusy o 0
       let u := { t with drv := { s.drv with fscEnd := sset (fun _ => 0) s.drv.fscEnd o 0 } }
       if s.getF Fld.output.state o = 3 then u.setF Fld.output.state o 2 else u) := by
  rw [State.fscMuteEnd, if_pos hd]
  exact ite_congr (congrArg (· = 3) (State.getF_setF_drv Fld.output.fscBusy Fld.output.state o 0 _ rfl (by decide)))
    (fun _ => rfl) (fun _ => rfl)

/-- Settles O23: the two commands by their checks, and the end of FSC_BUSY where it is due. -/
theorem outputStatesFollowTheirCommands : Obligations.OutputStatesFollowTheirCommands :=
  ⟨fun h m s a =>
    ⟨fun hp => exec_refused a rfl (cmdOutputEnable_absent (s := s.accepted (.outputEnable h m) h) hp s.cmd.nextId),
      fun hp => ⟨fun hm hh => exec_refused a rfl
          (cmdOutputEnable_hold (s := s.accepted (.outputEnable h m) h) hp hm hh s.cmd.nextId),
        fun hh hc hk => exec_answers a rfl
          (cmdOutputEnable_ready (s := s.accepted (.outputEnable h m) h) hp hh hc hk s.cmd.nextId) rfl rfl⟩⟩,
    fun h m s a hp => exec_answers a rfl
      (cmdOutputDisable_powered (s := s.accepted (.outputDisable h m) h) hp s.cmd.nextId) rfl rfl,
    fun _ _ _ hd => congrArg Host.Outcome.next (fscMuteEnd_of_due hd)⟩

end Sys2Proof.Machine
end

/-! ### A CAT_COMMIT whose list of cycles its path cannot return (R354, R356, R403) -/

section
namespace Sys2Proof.Machine

variable {s : State} {h : Hdr}

/-- A list of cycles that does not fit its path refuses the commit, though no cycle is refused. -/
theorem cmdCatCommit_unfit {tick : Nat} (hc : s.commitsFull = false) (ht : (s.tickParam tick).isNone = false)
    (hok : (catReply (s.obj 0x10 0) (s.liveObj 0x10 0) h.extlen.toNat).status = .ok)
    (hd : s.dataFits h (catReply (s.obj 0x10 0) (s.liveObj 0x10 0) h.extlen.toNat).data.length = false) (id : Nat) :
    cmdCatCommit h tick id s = refuse s .badParam := by
  simp only [cmdCatCommit, hc, ht, hok, hd]
  rfl

/-- Rows 1 to 8 of the catalogue, each with a task at its own producer: eight registered cycles of one producer. -/
def eightLoops : Nat := (List.range 8).foldl (fun m j => m ||| 1 <<< (8192 + 256 * (j + 1) + (j + 1))) 0

theorem allCycles_eightLoops : allCycles eightLoops = [[1], [2], [3], [4], [5], [6], [7], [8]] := by decide +kernel

theorem eightLoops_notRefused : (allCycles eightLoops).filter (cycleRefused eightLoops) = [] := by
  rw [allCycles_eightLoops]
  decide +kernel

/-- The reset state with the Docent ready and the eight loops staged. -/
def loopsStaged : State := ({ State.reset with bt := { State.reset.bt with ready := true } }).setObj 0x10 0 eightLoops

/-- A packet on mailbox 0 with 256 bytes for returned data, more than a mailbox returns. -/
def mailboxHdr : Hdr := ⟨.mb 0, 0, 0, 32, 0, 0, 256, 0, List.replicate 256 0, false, 0, 0, 0⟩

theorem admitted_loopsStaged : Admitted (.catCommit mailboxHdr 2000) mailboxHdr loopsStaged :=
  ⟨by decide, by decide, by decide +kernel, by decide, .inl rfl, by decide +kernel, by decide +kernel, by decide⟩

theorem loopsStaged_obj : loopsStaged.obj 0x10 0 = eightLoops := State.obj_setObj_same _ _ _ _

theorem catReply_eightLoops (live : Nat) :
    (catReply eightLoops live 256).status = .ok ∧ (catReply eightLoops live 256).data.length = 256 := by
  simp only [catReply, allCycles_eightLoops]
  decide +kernel

theorem mailboxHdr_extlen : mailboxHdr.extlen.toNat = 256 := by decide

theorem State.obj_accepted (s : State) (i : Instr) (h : Hdr) (c n : Nat) : (s.accepted i h).obj c n = s.obj c n := rfl

theorem State.liveObj_accepted (s : State) (i : Instr) (h : Hdr) (c n : Nat) :
    (s.accepted i h).liveObj c n = s.liveObj c n := rfl

theorem exec_catCommit_loopsStaged :
    exec (.catCommit mailboxHdr 2000) loopsStaged = .next (loopsStaged.answered
      (loopsStaged.accepted (.catCommit mailboxHdr 2000) mailboxHdr) (.catCommit mailboxHdr 2000) mailboxHdr
      (Reply.fail .badParam)) := by
  obtain ⟨hok, hlen⟩ := catReply_eightLoops (loopsStaged.liveObj 0x10 0)
  refine exec_refused admitted_loopsStaged rfl ?_
  refine cmdCatCommit_unfit (tick := (2000 : BitVec 64).toNat) (h := mailboxHdr)
    (s := loopsStaged.accepted (.catCommit mailboxHdr 2000) mailboxHdr) ?_ ?_ ?_ ?_ loopsStaged.cmd.nextId
  · decide +kernel
  · decide +kernel
  · rw [State.obj_accepted, State.liveObj_accepted, loopsStaged_obj, mailboxHdr_extlen]
    exact hok
  · rw [State.obj_accepted, State.liveObj_accepted, loopsStaged_obj, mailboxHdr_extlen]
    exact congrArg (State.dataFits _ mailboxHdr) hlen

theorem getF_of_objs_eq {s t : State} (ho : t.objs = s.objs) (f : Field) (n : Nat) : t.getF f n = s.getF f n := by
  rw [State.getF, State.getF, State.obj, State.obj, ho]

theorem getF_showCatPending_of_pending (hp : s.cmd.commits.any (fun c => decide (c.kind = 5)) = true) :
    s.showCatPending.getF Fld.catalogue.commitPending 0 = 1 := by
  rw [State.showCatPending, hp, State.getF_setF_same]
  rfl

/-- Refutes O24: the clause of CAT_COMMIT speaks of every admitted header. With room for 256 bytes on a mailbox, which
returns at most 224, the list of eight unrefused cycles does not fit its path, and the commit is refused with BAD_PARAM. -/
theorem not_commitCommandsCaptureAndWait : ¬ Obligations.CommitCommandsCaptureAndWait := by
  intro h
  obtain ⟨⟨-, -, hcat⟩, -⟩ := h
  have hacc := (hcat mailboxHdr 2000 2000 loopsStaged rfl (by decide +kernel)).2 admitted_loopsStaged ?_
  · rw [exec_catCommit_loopsStaged] at hacc
    have hshown := congrArg (fun t : State => t.getF Fld.catalogue.commitPending 0) (Host.Outcome.next.inj hacc)
    have hrefused := getF_of_objs_eq (leavesUnits_answered loopsStaged
      (loopsStaged.accepted (.catCommit mailboxHdr 2000) mailboxHdr) (.catCommit mailboxHdr 2000) mailboxHdr
      (Reply.fail .badParam)).objs Fld.catalogue.commitPending 0
    have hzero : (loopsStaged.accepted (.catCommit mailboxHdr 2000) mailboxHdr).getF Fld.catalogue.commitPending 0 = 0 := by
      decide +kernel
    refine absurd ((hshown.symm.trans hrefused).trans hzero) ?_
    rw [getF_showCatPending_of_pending]
    · decide
    · exact List.any_eq_true.2 ⟨_, List.mem_append_right _ (List.mem_singleton.2 rfl), rfl⟩
  · rw [loopsStaged_obj]
    exact List.any_eq_false.2 (List.filter_eq_nil_iff.1 eightLoops_notRefused)

end Sys2Proof.Machine
end

/-! ### Due commits (R36, R38, R107) -/

section
namespace Sys2Proof.Machine

variable {s : State}

theorem commitApply_of_due {c : Commit} (hc : s.cmd.commits.find? (commitDue s.tick) = some c) :
    s.commitApply =
      (let s1 := { s with cmd := { s.cmd with commits := s.cmd.commits.filter (fun x => decide (x.id ≠ c.id)) } }
       (s1.applyKind c).completeId c.id (s.commitReply c)) := by
  simp only [State.commitApply, hc]

theorem commitApply_of_none (hc : s.cmd.commits.find? (commitDue s.tick) = none) : s.commitApply = s := by
  simp only [State.commitApply, hc]

theorem State.applyKind_output {c : Commit} (hk : c.kind = 2) :
    s.applyKind c = c.caps.foldl (fun t k => t.applyCapture k.1 k.2) s := by
  simp only [State.applyKind, hk]
  rfl

theorem State.applyKind_frame {c : Commit} (hk : c.kind = 1) : s.applyKind c = s.applyFrameCommit c := by
  simp only [State.applyKind, hk]

theorem State.commitReply_plain {c : Commit} (hk : c.kind ≠ 5) : s.commitReply c = Reply.ok1 c.res0 := by
  unfold State.commitReply
  split
  · contradiction
  · rfl

/-- Settles O25: the list of pending commits has a first due one, or none. -/
theorem dueCommitActsAndCompletes : Obligations.DueCommitActsAndCompletes := by
  refine ⟨fun s c hc => ⟨congrArg Host.Outcome.next (commitApply_of_due hc), fun hk => ?output⟩, fun s hn => ?none⟩
  case output =>
    refine congrArg Host.Outcome.next ((commitApply_of_due hc).trans ?_)
    simp only [State.applyKind_output hk]
    rw [State.commitReply_plain (by omega)]
  case none =>
    refine congrArg Host.Outcome.next (commitApply_of_none (List.find?_eq_none.2 fun c hc => ?_))
    have := hn c hc
    simp only [commitDue, decide_eq_true_eq]
    omega

end Sys2Proof.Machine
end

/-! ### Frame commits and frame operations (R19, R54, R57, R61 to R63, R65) -/

section
namespace Sys2Proof.Machine

variable {s : State}

theorem okey_inj {c n c' n' : Nat} (hn : n < 65536) (hn' : n' < 65536) (h : okey c n = okey c' n') : c = c' ∧ n = n' := by
  unfold okey at h
  omega

theorem okey_replica_ne_master (k f : Nat) : okey (0x40 + k) f ≠ okey 0x04 f := by
  unfold okey
  omega

theorem okey_replica_ne {j k : Nat} (f : Nat) (h : j ≠ k) : okey (0x40 + j) f ≠ okey (0x40 + k) f := by
  unfold okey
  omega

theorem State.liveObj_changeLive_same (s : State) (c n v : Nat) (b : Bool) : (s.changeLive c n v b).liveObj c n = v :=
  State.liveObj_setLiveObj_same s c n v

theorem State.liveObj_changeLive_other (s : State) (c n c' n' v : Nat) (b : Bool) (h : okey c' n' ≠ okey c n) :
    (s.changeLive c n v b).liveObj c' n' = s.liveObj c' n' :=
  State.liveObj_setLiveObj_other s c n c' n' v h

/-- What a replica of a frame holds after a change g of the frame (R19). -/
def replicaImage (g : Nat → Nat) (v : Nat) : Nat :=
  match heldFrame v with
  | some r => 2 ^ 512 + g r % 2 ^ 512
  | none => v

/-- The change of one replica. -/
def State.inReplica (s : State) (f : Nat) (g : Nat → Nat) (t : Nat) : State :=
  match heldFrame (s.liveObj (0x40 + t) f) with
  | some img => s.changeLive (0x40 + t) f (2 ^ 512 + g img % 2 ^ 512) false
  | none => s

theorem State.inReplicas_eq (s : State) (f : Nat) (g : Nat → Nat) :
    s.inReplicas f g = (List.range 32).foldl (fun u t => u.inReplica f g t) s := by
  refine congrArg (fun F : State → Nat → State => (List.range 32).foldl F s) (funext fun u => funext fun t => ?_)
  unfold State.inReplica
  cases heldFrame (u.liveObj (0x40 + t) f) with
  | none => rfl
  | some img => rfl

theorem State.liveObj_inReplica_same (s : State) (f : Nat) (g : Nat → Nat) (t : Nat) :
    (s.inReplica f g t).liveObj (0x40 + t) f = replicaImage g (s.liveObj (0x40 + t) f) := by
  unfold State.inReplica replicaImage
  cases heldFrame (s.liveObj (0x40 + t) f)
  · rfl
  · exact State.liveObj_changeLive_same _ _ _ _ _

theorem State.liveObj_inReplica_other (s : State) (f : Nat) (g : Nat → Nat) (t c n : Nat) (h : okey c n ≠ okey (0x40 + t) f) :
    (s.inReplica f g t).liveObj c n = s.liveObj c n := by
  unfold State.inReplica
  cases heldFrame (s.liveObj (0x40 + t) f)
  · rfl
  · exact State.liveObj_changeLive_other _ _ _ _ _ _ _ h

theorem State.liveObj_foldReplicas_other (s : State) (f : Nat) (g : Nat → Nat) (m c n : Nat)
    (h : ∀ t, t < m → okey c n ≠ okey (0x40 + t) f) :
    ((List.range m).foldl (fun u t => u.inReplica f g t) s).liveObj c n = s.liveObj c n := by
  induction m with
  | zero => rfl
  | succ m ih =>
    rw [List.range_succ, List.foldl_append, List.foldl_cons, List.foldl_nil]
    rw [State.liveObj_inReplica_other _ f g m c n (h m (by omega))]
    exact ih fun t ht => h t (by omega)

theorem State.liveObj_foldReplicas (s : State) (f : Nat) (g : Nat → Nat) (m k : Nat) (hk : k < m) :
    ((List.range m).foldl (fun u t => u.inReplica f g t) s).liveObj (0x40 + k) f =
      replicaImage g (s.liveObj (0x40 + k) f) := by
  induction m with
  | zero => omega
  | succ m ih =>
    rw [List.range_succ, List.foldl_append, List.foldl_cons, List.foldl_nil]
    by_cases he : k = m
    · subst he
      rw [State.liveObj_inReplica_same,
        State.liveObj_foldReplicas_other s f g k _ _ fun t ht => okey_replica_ne f (by omega)]
    · rw [State.liveObj_inReplica_other _ f g m _ _ (okey_replica_ne f he)]
      exact ih (by omega)

theorem frameOff_frameCommitImage (live cap t0 : Nat) : frameOff (frameCommitImage live cap t0 false) = bits cap 160 32 := by
  simp only [frameCommitImage, Bool.false_eq_true, if_false, withOffset, frameOff, bits_setBits_same]
  exact Nat.mod_mod _ _

theorem State.applyFrameCommit_single {c : Commit} {f img : Nat} (hc : c.caps = [(okey 0x04 f, img)]) (hf : f < 65536) :
    s.applyFrameCommit c = s.commitFrame f img c.keep := by
  simp only [State.applyFrameCommit, hc, List.foldl_cons, List.foldl_nil, okey_mod _ f hf]

theorem State.commitFrame_gated (hg : s.pw.tripGated = true) (f cap : Nat) (keep : Bool) :
    s.commitFrame f cap keep = s.holdFrame (.commit f cap keep) := by
  rw [State.commitFrame, if_pos hg]

theorem State.commitFrame_running (hg : s.pw.tripGated = false) (f cap : Nat) (keep : Bool) :
    s.commitFrame f cap keep =
      (s.changeLive 0x04 f (frameCommitImage (s.liveObj 0x04 f) cap (16 * s.tick) keep) false).inReplicas f
        (fun img => frameCommitImage img cap (16 * s.tick) keep) := by
  rw [State.commitFrame, if_neg (by simp [hg])]

theorem State.liveObj_commitFrame_master (hg : s.pw.tripGated = false) (f cap : Nat) (keep : Bool) :
    (s.commitFrame f cap keep).liveObj 0x04 f = frameCommitImage (s.liveObj 0x04 f) cap (16 * s.tick) keep := by
  rw [State.commitFrame_running hg, State.inReplicas_eq,
    State.liveObj_foldReplicas_other _ _ _ _ _ _ fun t _ => (okey_replica_ne_master t f).symm, State.liveObj_changeLive_same]

theorem State.liveObj_commitFrame_replica (hg : s.pw.tripGated = false) (f cap : Nat) (keep : Bool) {k : Nat} (hk : k < 32) :
    (s.commitFrame f cap keep).liveObj (0x40 + k) f =
      replicaImage (fun img => frameCommitImage img cap (16 * s.tick) keep) (s.liveObj (0x40 + k) f) := by
  rw [State.commitFrame_running hg, State.inReplicas_eq, State.liveObj_foldReplicas _ _ _ _ _ hk,
    State.liveObj_changeLive_other _ _ _ _ _ _ _ (okey_replica_ne_master k f)]

theorem State.liveObj_commitFrame_other (hg : s.pw.tripGated = false) (f cap : Nat) (keep : Bool) {c n : Nat}
    (h4 : okey c n ≠ okey 0x04 f) (hr : ∀ k, k < 32 → okey c n ≠ okey (0x40 + k) f) :
    (s.commitFrame f cap keep).liveObj c n = s.liveObj c n := by
  rw [State.commitFrame_running hg, State.inReplicas_eq, State.liveObj_foldReplicas_other _ _ _ _ _ _ hr,
    State.liveObj_changeLive_other _ _ _ _ _ _ _ h4]

theorem liveObj_of_live_eq {s t : State} (hl : t.live = s.live) (c n : Nat) : t.liveObj c n = s.liveObj c n := by
  rw [State.liveObj, State.liveObj, hl]

/-- Settles O26: the master takes the committed image, and each replica that holds its own. -/
theorem frameCommitSetsTheLiveFrame : Obligations.FrameCommitSetsTheLiveFrame := by
  intro s c f img hc hk hcaps hf _
  obtain ⟨s1, hs1⟩ : ∃ s1, s1 =
    { s with cmd := { s.cmd with commits := s.cmd.commits.filter (fun x => decide (x.id ≠ c.id)) } } := ⟨_, rfl⟩
  have he : exec .commitApply s = .next ((s1.commitFrame f img c.keep).completeId c.id (s.commitReply c)) := by
    rw [hs1, ← State.applyFrameCommit_single hcaps (by omega), ← State.applyKind_frame hk]
    exact congrArg Host.Outcome.next (commitApply_of_due hc)
  have hu := leavesUnits_completeId (s1.commitFrame f img c.keep) c.id (s.commitReply c)
  have hlive (c n : Nat) : s1.liveObj c n = s.liveObj c n := by rw [hs1]; rfl
  have hpw : s1.pw = s.pw := by rw [hs1]
  have htick : s1.tick = s.tick := by rw [hs1]; rfl
  refine ⟨fun hg => ⟨_, he, ?_⟩, fun hg => ⟨_, he, ?_⟩⟩
  · rw [hu.live, hu.objs, hu.drv, State.commitFrame_gated (hpw ▸ hg), hs1]
    exact ⟨rfl, rfl, rfl⟩
  · have hg1 : s1.pw.tripGated = false := hpw ▸ hg
    have hmaster := (liveObj_of_live_eq hu.live 0x04 f).trans (State.liveObj_commitFrame_master hg1 f img c.keep)
    rw [hlive, htick] at hmaster
    refine ⟨hmaster, fun k hk => ?_, fun cls inst h4 hr => ?_, fun hkeep => ?_⟩
    · rw [liveObj_of_live_eq hu.live, State.liveObj_commitFrame_replica hg1 f img c.keep hk, hlive, htick]
      unfold replicaImage
      cases heldFrame (s.liveObj (0x40 + k) f) <;> rfl
    · rw [liveObj_of_live_eq hu.live, State.liveObj_commitFrame_other hg1 f img c.keep h4 hr, hlive]
    · rw [hmaster, hkeep, frameOff_frameCommitImage]

variable {h : Hdr}

theorem State.frameOp_none {op : Nat} (hz : op = 0 ∨ s.powered domMGMT0 = false) (f arg : Nat) : s.frameOp f op arg = s := by
  rcases hz with hz | hz <;> simp [State.frameOp, hz]

theorem State.frameOp_gated {f op arg : Nat} (h1 : 1 ≤ op) (h5 : op ≤ 5) (hp : s.powered domMGMT0 = true)
    (hg : s.pw.tripGated = true) : s.frameOp f op arg = s.holdFrame (.op f op arg) := by
  rw [State.frameOp, if_neg (by simp [hp]; omega), if_pos hg]

theorem State.frameOp_running {f op arg : Nat} (h1 : 1 ≤ op) (h5 : op ≤ 5) (hp : s.powered domMGMT0 = true)
    (hg : s.pw.tripGated = false) :
    s.frameOp f op arg =
      (let r := frameOpImage (s.liveObj 0x04 f) op arg (16 * s.tick)
       ((s.changeLive 0x04 f r.1 r.2).inReplicas f (fun img => (frameOpImage img op arg (16 * s.tick)).1)).noteConflict f
         r.2) := by
  rw [State.frameOp, if_neg (by simp [hp]; omega), if_neg (by simp [hg])]

theorem cmdFrameOp_bad {f op : Nat} (hb : 5 < op ∨ 4096 ≤ f) (arg id : Nat) : cmdFrameOp f op arg id s = refuse s .badParam := by
  rw [cmdFrameOp, if_pos hb]

theorem cmdFrameOp_last {op : Nat} (h5 : op ≤ 5) (arg id : Nat) : cmdFrameOp 4095 op arg id s = refuse s .state := by
  rw [cmdFrameOp, if_neg (by omega), if_pos rfl]

theorem cmdFrameOp_acts {f op : Nat} (h5 : op ≤ 5) (hf : f < 4095) (arg id : Nat) :
    cmdFrameOp f op arg id s = (s.frameOp f op arg, Reply.ok) := by
  rw [cmdFrameOp, if_neg (by omega), if_neg (by omega)]

/-- Settles O27: the frame operation by the cases of its checks; CAT_GROUP at once. -/
theorem frameOpAndGroupMaskActAtOnce : Obligations.FrameOpAndGroupMaskActAtOnce := by
  refine ⟨fun h f op arg s a => ?_, fun h m s a => exec_answers a rfl rfl rfl rfl⟩
  intro b
  have acts (h5 : op.toNat ≤ 5) (hf : f.toNat < 4095) : exec (.frameOp h f op arg) s =
      .next (s.answered (b.frameOp f.toNat op.toNat arg.toNat) (.frameOp h f op arg) h Reply.ok) :=
    exec_answers a rfl (cmdFrameOp_acts (s := b) h5 hf arg.toNat s.cmd.nextId) rfl rfl
  refine ⟨fun hb => exec_refused a rfl (cmdFrameOp_bad (s := b) hb arg.toNat s.cmd.nextId),
    fun h5 hf => exec_refused a rfl ?last, fun h0 hf => ?none, fun h5 hf hp => ?off, fun h1 h5 hf hp hg => ?gated,
    fun h1 h5 hf hp hg => ?running⟩
  case last =>
    have hlast := cmdFrameOp_last (s := b) h5 arg.toNat s.cmd.nextId
    rw [← hf] at hlast
    exact hlast
  case none => rw [acts (by omega) hf, State.frameOp_none (.inl h0)]
  case off => rw [acts h5 hf, State.frameOp_none (s := b) (.inr hp)]
  case gated =>
    rw [acts h5 hf, State.frameOp_gated (s := b) h1 h5 hp hg]
    rfl
  case running =>
    rw [acts h5 hf, State.frameOp_running (s := b) h1 h5 hp hg]
    rfl

end Sys2Proof.Machine
end

/-! ### Discriminator seeds (R204) -/

section
namespace Sys2Proof.Machine

variable {s : State} {h : Hdr}

section
variable (hl : h.extlen.toNat = 64) (hc : s.channelOff (channelMask h.ext) = false)
include hl hc

theorem cmdDiscSeedStore_inhibited (hi : s.flag Fld.thermal.nvInhibit 0 = true) (id : Nat) :
    cmdDiscSeedStore h id s = refuse s .supplyLow := by
  simp [cmdDiscSeedStore, hl, hc, hi]

theorem cmdDiscSeedStore_busy (hi : s.flag Fld.thermal.nvInhibit 0 = false) (hb : s.nvBusy = true) (id : Nat) :
    cmdDiscSeedStore h id s = refuse s .busy := by
  simp [cmdDiscSeedStore, hl, hc, hi, hb]

theorem cmdDiscSeedStore_works (hi : s.flag Fld.thermal.nvInhibit 0 = false) (hb : s.nvBusy = false) (id : Nat) :
    cmdDiscSeedStore h id s = s.work id (2000000 + 100000 * (channelMask h.ext).length) true
      ((channelMask h.ext).map (fun c => (c, bits (s.obj 0x08 c) 0 576))) Reply.ok := by
  simp [cmdDiscSeedStore, hl, hc, hi, hb]

theorem cmdDiscSeedRestore_works (hb : s.nvBusy = false) (id : Nat) :
    let cs := channelMask h.ext
    let n := (cs.filter (fun c => (s.nvRead (nvDisc c)).isSome)).length
    cmdDiscSeedRestore h id s =
      (cs.foldl State.restoreSeed s).work id (2000000 + 100000 * cs.length) false [] (Reply.ok2 n (cs.length - n)) := by
  simp [cmdDiscSeedRestore, hl, hc, hb]

end

/-- Settles O29: the two commands by the equations of their checks. -/
theorem seedStoreAndRestoreWork : Obligations.SeedStoreAndRestoreWork := by
  refine ⟨fun h s a hl hc => ?store, fun h s a hl hc hb => ?restore⟩
  case store =>
    intro b
    exact ⟨fun hi => exec_refused a rfl (cmdDiscSeedStore_inhibited (s := b) hl hc hi s.cmd.nextId),
      fun hi hb => exec_refused a rfl (cmdDiscSeedStore_busy (s := b) hl hc hi hb s.cmd.nextId),
      fun hi hb => exec_works a rfl (cmdDiscSeedStore_works (s := b) hl hc hi hb s.cmd.nextId)⟩
  case restore =>
    exact exec_works a rfl (cmdDiscSeedRestore_works (s := s.accepted (.discSeedRestore h) h) hl hc hb s.cmd.nextId)

end Sys2Proof.Machine
end

/-! ### Bias commands (R288, R289, R302, R305) -/

section
namespace Sys2Proof.Machine

variable {s : State} {h : Hdr}

/-- The state after the writes of BIAS_WRITE to its input registers. -/
def State.inputsWritten (s : State) (bank first count : Nat) (ws : List Nat) : State :=
  ((List.range count).zip ws).foldl (fun u e => u.writeInput (32 * bank + first + e.1) e.2) s

section
variable {b f n : Nat} {after : Bool} (hb : b ≤ 3) (hf : f ≤ 31) (hn : 1 ≤ n) (hfn : f + n ≤ 32) (hl : h.extlen.toNat = 4 * n)
  (hw : (words32 h.ext).any (fun w => decide (2 ^ 20 ≤ w)) = false) (hp : s.powered (domBB b) = true)
include hb hf hn hfn hl hw hp

/-- What BIAS_WRITE does with operands in their ranges, on a powered bank. -/
theorem cmdBiasWrite_good (id : Nat) :
    cmdBiasWrite h b f n after id s =
      if s.inputBlocked b then refuse s .state
      else
        let t := s.inputsWritten b f n (words32 h.ext)
        if after then
          ({ t with bi := { t.bi with after := t.bi.after ++ [(s.tick + 1, b, ones f n)] } }, Reply.ok1 ((s.tick + 1) % 2 ^ 32))
        else (t, Reply.ok1 0) := by
  have hgood : ¬ (3 < b ∨ 31 < f ∨ n = 0 ∨ 32 < n ∨ 32 < f + n ∨ h.extlen.toNat ≠ 4 * n ∨
      (words32 h.ext).any (fun w => decide (2 ^ 20 ≤ w)) = true) := by
    rintro (h0 | h0 | h0 | h0 | h0 | h0 | h0)
    iterate 5 omega
    · exact h0 hl
    · exact Bool.false_ne_true (hw.symm.trans h0)
  rw [cmdBiasWrite, if_neg hgood, if_neg (by simp [hp])]
  rfl

theorem cmdBiasWrite_blocked (hk : s.inputBlocked b = true) (id : Nat) : cmdBiasWrite h b f n after id s = refuse s .state := by
  rw [cmdBiasWrite_good hb hf hn hfn hl hw hp, if_pos hk]

theorem cmdBiasWrite_plain (hk : s.inputBlocked b = false) (ha : after = false) (id : Nat) :
    cmdBiasWrite h b f n after id s = (s.inputsWritten b f n (words32 h.ext), Reply.ok1 0) := by
  rw [cmdBiasWrite_good hb hf hn hfn hl hw hp, if_neg (by simp [hk])]
  exact if_neg (by simp [ha])

theorem cmdBiasWrite_after (hk : s.inputBlocked b = false) (ha : after = true) (id : Nat) :
    cmdBiasWrite h b f n after id s =
      (let t := s.inputsWritten b f n (words32 h.ext)
       { t with bi := { t.bi with after := t.bi.after ++ [(s.tick + 1, b, ones f n)] } }, Reply.ok1 ((s.tick + 1) % 2 ^ 32)) := by
  rw [cmdBiasWrite_good hb hf hn hfn hl hw hp, if_neg (by simp [hk])]
  exact if_pos ha

end

theorem cmdBiasStrobe_powered {m : Nat}
    (hp : ([0, 1, 2, 3].filter (fun k => decide (bits m (32 * k) 32 ≠ 0))).any (fun k => !s.powered (domBB k)) = false)
    (id : Nat) :
    let ks := [0, 1, 2, 3].filter (fun k => decide (bits m (32 * k) 32 ≠ 0))
    let t := (ks.foldl (fun u k => u.addOwnStrobe k (bits m (32 * k) 32)) s).setCmd id (maskOf ks) 0
    cmdBiasStrobe m id s = ({ t with bi := { t.bi with waiting := t.bi.waiting ++ [id] } }, Reply.wait) := by
  simp only [cmdBiasStrobe, hp]
  rfl

/-- On powered banks every clear of a list adds its own. -/
theorem foldl_clearBank_powered (ks : List Nat) (s : State) (hp : ks.any (fun k => !s.powered (domBB k)) = false) :
    ks.foldl State.clearBank s = ks.foldl (fun t k => t.addUpd ⟨k, s.tick, updateEdge s.tick, true, [], false⟩) s := by
  obtain ⟨n, hn⟩ : ∃ n, n = s.tick := ⟨_, rfl⟩
  rw [← hn]
  induction ks generalizing s with
  | nil => rfl
  | cons k ks ih =>
    simp only [List.any_cons, Bool.or_eq_false_iff, Bool.not_eq_false'] at hp
    rw [List.foldl_cons, List.foldl_cons, State.clearBank, if_pos hp.1, ← hn]
    exact ih _ hp.2 hn

theorem cmdBiasClear_bad {b : Nat} (hb : 16 ≤ b) (id : Nat) : cmdBiasClear b id s = refuse s .badParam := by
  simp only [cmdBiasClear, if_pos hb]

theorem cmdBiasClear_powered {b : Nat} (hb : b < 16) (hp : (setPositions b 4).any (fun k => !s.powered (domBB k)) = false)
    (id : Nat) :
    cmdBiasClear b id s =
      ((setPositions b 4).foldl (fun t k => t.addUpd ⟨k, s.tick, updateEdge s.tick, true, [], false⟩) s, Reply.ok) := by
  simp only [cmdBiasClear, if_neg (Nat.not_le.2 hb), hp, foldl_clearBank_powered _ _ hp]
  rfl

/-- Settles O30: the commands by the equations of their checks. -/
theorem biasCommandsWriteStrobeAndClear : Obligations.BiasCommandsWriteStrobeAndClear := by
  refine ⟨?write, ?strobe, ?clear⟩
  case write =>
    intro h b f n after s a hb hf hn hfn hl hw hp c t
    exact ⟨fun hk => exec_refused a rfl (cmdBiasWrite_blocked (s := c) hb hf hn hfn hl hw hp hk s.cmd.nextId),
      fun hk ha => exec_answers a rfl (cmdBiasWrite_plain (s := c) hb hf hn hfn hl hw hp hk ha s.cmd.nextId) rfl rfl,
      fun hk ha => exec_answers a rfl (cmdBiasWrite_after (s := c) hb hf hn hfn hl hw hp hk ha s.cmd.nextId) rfl rfl⟩
  case strobe =>
    intro h m s a ks hp t
    exact exec_waits a rfl (cmdBiasStrobe_powered (s := s.accepted (.biasStrobe h m) h) hp s.cmd.nextId) rfl rfl
  case clear =>
    intro h b s a c
    exact ⟨fun hb => exec_refused a rfl (cmdBiasClear_bad (s := c) hb s.cmd.nextId),
      fun hb hp => exec_answers a rfl (cmdBiasClear_powered (s := c) hb hp s.cmd.nextId) rfl rfl⟩

end Sys2Proof.Machine
end

/-! ### Curator commands (R135, R144, R146, R149, R150, R151, R153, R155) -/

section
namespace Sys2Proof.Machine

variable {s : State} {h : Hdr}

/-! The checks of CUR_START (R151) name the curators of the mask that fail. -/

/-- The curators of a mask whose cluster has no power. -/
def State.startOff (s : State) (m : Nat) : Nat :=
  maskOf ((setPositions m 128).filter (fun c => !s.powered (domCC (clusterOf c))))

/-- Those whose program failed its signature. -/
def State.startUnsigned (s : State) (m : Nat) : Nat :=
  maskOf ((setPositions m 128).filter (fun c => decide (s.curState c = 0) && (s.curRt c).verifyFailed))

/-- Those that are neither LOADED, HALTED nor FAULTED. -/
def State.startUnready (s : State) (m : Nat) : Nat :=
  maskOf ((setPositions m 128).filter (fun c => !(s.curState c = 1 || s.curState c = 4 || s.curState c = 5)))

/-- The start tick that CUR_START takes. -/
def State.startTickOf (s : State) (v : Nat) : Nat := if v = 0 then roundUp (s.tick + 1000) 2 else v

theorem cmdCurStart_bad {m v : Nat} (hb : m = 0 ∨ v % 2 = 1) (id : Nat) : cmdCurStart m v id s = refuse s .badParam := by
  simp only [cmdCurStart]
  rw [if_pos hb]

theorem cmdCurStart_eq {m v : Nat} (hm : m ≠ 0) (hv : v % 2 = 0) (id : Nat) :
    cmdCurStart m v id s =
      if s.startOff m ≠ 0 then (s, Reply.mask .absent (s.startOff m))
      else if s.pw.hold then (s, Reply.mask .thermal m)
      else if s.tm.unlocked then (s, Reply.mask .state m)
      else if s.startUnsigned m ≠ 0 then (s, Reply.mask .signature (s.startUnsigned m))
      else if s.startUnready m ≠ 0 then (s, Reply.mask .state (s.startUnready m))
      else if s.startTickOf v < s.tick + 1000 then (s, Reply.mask .tooLate m)
      else ((setPositions m 128).foldl (fun u c => u.armCurator c (s.startTickOf v)) s, Reply.ok64 (s.startTickOf v)) := by
  simp only [cmdCurStart]
  exact if_neg (by omega)

section
variable {m v : Nat} (hm : m ≠ 0) (hv : v % 2 = 0)
include hm hv

theorem cmdCurStart_off (ho : s.startOff m ≠ 0) (id : Nat) :
    cmdCurStart m v id s = (s, Reply.mask .absent (s.startOff m)) := by
  rw [cmdCurStart_eq hm hv, if_pos ho]

theorem cmdCurStart_hold (ho : s.startOff m = 0) (hh : s.pw.hold = true) (id : Nat) :
    cmdCurStart m v id s = (s, Reply.mask .thermal m) := by
  rw [cmdCurStart_eq hm hv, if_neg (by simp [ho]), if_pos hh]

variable (ho : s.startOff m = 0) (hh : s.pw.hold = false)
include ho hh

theorem cmdCurStart_unlocked (hu : s.tm.unlocked = true) (id : Nat) :
    cmdCurStart m v id s = (s, Reply.mask .state m) := by
  rw [cmdCurStart_eq hm hv, if_neg (by simp [ho]), if_neg (by simp [hh]), if_pos hu]

variable (hu : s.tm.unlocked = false)
include hu

theorem cmdCurStart_unsigned (hs : s.startUnsigned m ≠ 0) (id : Nat) :
    cmdCurStart m v id s = (s, Reply.mask .signature (s.startUnsigned m)) := by
  rw [cmdCurStart_eq hm hv, if_neg (by simp [ho]), if_neg (by simp [hh]), if_neg (by simp [hu]), if_pos hs]

variable (hs : s.startUnsigned m = 0)
include hs

theorem cmdCurStart_unready (hr : s.startUnready m ≠ 0) (id : Nat) :
    cmdCurStart m v id s = (s, Reply.mask .state (s.startUnready m)) := by
  rw [cmdCurStart_eq hm hv, if_neg (by simp [ho]), if_neg (by simp [hh]), if_neg (by simp [hu]), if_neg (by simp [hs]),
    if_pos hr]

variable (hr : s.startUnready m = 0)
include hr

theorem cmdCurStart_late (hl : s.startTickOf v < s.tick + 1000) (id : Nat) :
    cmdCurStart m v id s = (s, Reply.mask .tooLate m) := by
  rw [cmdCurStart_eq hm hv, if_neg (by simp [ho]), if_neg (by simp [hh]), if_neg (by simp [hu]), if_neg (by simp [hs]),
    if_neg (by simp [hr]), if_pos hl]

theorem cmdCurStart_arms (hl : s.tick + 1000 ≤ s.startTickOf v) (id : Nat) :
    cmdCurStart m v id s =
      ((setPositions m 128).foldl (fun u c => u.armCurator c (s.startTickOf v)) s, Reply.ok64 (s.startTickOf v)) := by
  rw [cmdCurStart_eq hm hv, if_neg (by simp [ho]), if_neg (by simp [hh]), if_neg (by simp [hu]), if_neg (by simp [hs]),
    if_neg (by simp [hr]), if_neg (Nat.not_lt.2 hl)]

end

/-! CUR_STOP, CUR_BARRIER, CUR_READBACK and CUR_ACCESSION. -/

theorem cmdCurStop_idle {m v : Nat} {shot : Bool}
    (hn : (setPositions m 128).filter (fun c => s.powered (domCC (clusterOf c)) && s.curActive c) = []) (id : Nat) :
    cmdCurStop m v shot id s = (s, Reply.mask .ok 0) := by
  simp only [cmdCurStop, hn, if_true]

theorem State.curState_setCmd (s : State) (id k r c : Nat) : (s.setCmd id k r).curState c = s.curState c := rfl

theorem State.curRt_setCmd (s : State) (id k r c : Nat) : (s.setCmd id k r).curRt c = s.curRt c := rfl

theorem cmdCurStop_one {m v c : Nat}
    (hn : (setPositions m 128).filter (fun c => s.powered (domCC (clusterOf c)) && s.curActive c) = [c])
    (hc : s.curState c = 3) (hv : v = 0) (id : Nat) :
    cmdCurStop m v false id s =
      ((s.setCmd id (maskOf [c]) 0).setCurRt c
        { s.curRt c with stopId := id + 1, atShot := false, stopAt := some s.haltTick }, Reply.wait) := by
  subst hv
  have hmax : max (roundUp 0 2) s.haltTick = s.haltTick := Nat.max_eq_right (Nat.zero_le _)
  simp only [cmdCurStop, hn, List.foldl_cons, List.foldl_nil, State.curState_setCmd, State.curRt_setCmd, hc, hmax]
  simp

theorem cmdCurBarrier_bad {b m : Nat} (hb : b = 0 ∨ 15 < b) (id : Nat) : cmdCurBarrier b m id s = refuse s .badParam := by
  rw [cmdCurBarrier, if_pos hb]

theorem cmdCurBarrier_active {b m : Nat} (h1 : 1 ≤ b) (h15 : b ≤ 15)
    (ha : (setPositions (m ||| s.barrierMask b) 128).any (fun c => s.powered (domCC (clusterOf c)) && s.curActive c) = true)
    (id : Nat) : cmdCurBarrier b m id s = refuse s .state := by
  rw [cmdCurBarrier, if_neg (by omega), if_pos ha]

theorem cmdCurBarrier_sets {b m : Nat} (h1 : 1 ≤ b) (h15 : b ≤ 15)
    (ha : (setPositions (m ||| s.barrierMask b) 128).any (fun c => s.powered (domCC (clusterOf c)) && s.curActive c) = false)
    (id : Nat) :
    cmdCurBarrier b m id s =
      ({ s with cur := { s.cur with barMask := sset (fun _ => 0) s.cur.barMask b m } }, Reply.ok) := by
  rw [cmdCurBarrier, if_neg (by omega), if_neg (by simp [ha])]

/-- The bytes that CUR_READBACK returns, uncorrectable words as zero. -/
def State.readbackData (s : State) (c ad n : Nat) : List Byte :=
  (List.range n).flatMap (fun j => leBytes 20 (if s.storeErrAt c (ad + j) = 2 then 0 else s.storeWord c (ad + j)))

/-- The uncorrectable words of the range. -/
def State.readbackBad (s : State) (c ad n : Nat) : Nat :=
  ((List.range n).filter (fun j => decide (s.storeErrAt c (ad + j) = 2))).length

theorem cmdCurReadback_good {c ad n : Nat} (hc : c ≤ 127) (hn : 1 ≤ n) (ha : ad + n ≤ 4096) (hl : 20 * n ≤ h.extlen.toNat)
    (hp : s.powered (domCC (clusterOf c)) = true) (id : Nat) :
    cmdCurReadback h c ad n id s =
      (s, { Reply.ok4 (crcNat (s.readbackData c ad n)) (s.readbackBad c ad n) (s.curState c)
              (s.getF Fld.curator.wordsM1 c) with data := s.readbackData c ad n }) := by
  rw [cmdCurReadback, if_neg (by omega), if_neg (by simp [hp])]
  rfl

theorem cmdCurAccession_malformed (hi : imageOk h.ext h.extlen.toNat = false) (id : Nat) :
    cmdCurAccession h id s = refuse s .badParam := by
  simp only [cmdCurAccession, hi]
  rfl

section
variable (cs : List Nat) (hcs : cs = setPositions (imgLe h.ext 8 16) 128)
include hcs

variable (hi : imageOk h.ext h.extlen.toNat = true) (hp : cs.any (fun c => !s.powered (domCC (clusterOf c))) = false)
include hi hp

theorem cmdCurAccession_active (ha : cs.any s.curActive = true) (id : Nat) : cmdCurAccession h id s = refuse s .state := by
  subst hcs
  simp only [cmdCurAccession, hi, hp, ha]
  rfl

theorem cmdCurAccession_unsigned (ha : cs.any s.curActive = false) (hs : s.policy = true) (hu : imgLe h.ext 6 2 % 2 = 0)
    (id : Nat) : cmdCurAccession h id s = refuse s .signature := by
  subst hcs
  simp [cmdCurAccession, hi, hp, ha, hs, hu]

theorem cmdCurAccession_works (ha : cs.any s.curActive = false) (hs : s.policy = false) (hu : imgLe h.ext 6 2 % 2 = 0)
    (hb : s.accessionBusy = false) (id : Nat) :
    cmdCurAccession h id s =
      (cs.foldl (fun u c => u.beginAccession c h.ext) s).work id (accessionBound h.ext) false [] Reply.ok := by
  subst hcs
  simp [cmdCurAccession, hi, hp, ha, hs, hu, hb]

end

/-- Settles O31: each command by the equations of its checks. -/
theorem curatorCommands : Obligations.CuratorCommands := by
  refine ⟨?start, ?stop, ?barrier, ?readback, ?accession⟩
  case start =>
    intro h m v s a b cs t off sig bad fails
    have ht : t = b.startTickOf v.toNat := rfl
    have hoff : off = b.startOff m.toNat := rfl
    have hsig : sig = b.startUnsigned m.toNat := rfl
    have hbad : bad = b.startUnready m.toNat := rfl
    clear_value t off sig bad
    subst ht hoff hsig hbad
    have answers {t : State} {r : Reply} (e : cmdCurStart m.toNat v.toNat s.cmd.nextId b = (t, r)) (hl : r.later = false)
        (hd : r.data = []) : exec (.curStart h m v) s = .next (s.answered t (.curStart h m v) h r) := exec_answers a rfl e hl hd
    exact ⟨fun hb => answers (cmdCurStart_bad hb _) rfl rfl, fun hm hv =>
      ⟨fun ho => answers (cmdCurStart_off hm hv ho _) rfl rfl,
        fun ho hh => answers (cmdCurStart_hold hm hv ho hh _) rfl rfl,
        fun ho hh hu => answers (cmdCurStart_unlocked hm hv ho hh hu _) rfl rfl,
        fun ho hh hu hs => answers (cmdCurStart_unsigned hm hv ho hh hu hs _) rfl rfl,
        fun ho hh hu hs hr => answers (cmdCurStart_unready hm hv ho hh hu hs hr _) rfl rfl,
        fun ho hh hu hs hr => ⟨fun hl => answers (cmdCurStart_late hm hv ho hh hu hs hr hl _) rfl rfl,
          fun hl => answers (cmdCurStart_arms hm hv ho hh hu hs hr hl _) rfl rfl⟩⟩⟩
  case stop =>
    intro h m v shot s a act
    refine ⟨fun hn => exec_answers a rfl
      (cmdCurStop_idle (s := s.accepted (.curStop h m v shot) h) hn s.cmd.nextId) rfl rfl, fun c hn hc hv hs => ?_⟩
    subst hs
    have hhalt : (s.accepted (.curStop h m v false) h).haltTick = s.haltTick := rfl
    rw [← hhalt]
    exact exec_waits a rfl (cmdCurStop_one (s := s.accepted (.curStop h m v false) h) hn hc hv s.cmd.nextId) rfl rfl
  case barrier =>
    intro h b m s a c act
    exact ⟨fun hb => exec_refused a rfl (cmdCurBarrier_bad (s := c) hb s.cmd.nextId),
      fun h1 h15 ha => exec_refused a rfl (cmdCurBarrier_active (s := c) h1 h15 ha s.cmd.nextId),
      fun h1 h15 ha => exec_answers a rfl (cmdCurBarrier_sets (s := c) h1 h15 ha s.cmd.nextId) rfl rfl⟩
  case readback =>
    intro h c ad n s a hc hn ha hl hp d bad hf
    let b := s.accepted (.curReadback h c ad n) h
    have hd : d = b.readbackData c.toNat ad.toNat n.toNat := rfl
    have hbad : bad = b.readbackBad c.toNat ad.toNat n.toNat := rfl
    have hstate : s.curState c.toNat = b.curState c.toNat := rfl
    have hwords : s.getF Fld.curator.wordsM1 c.toNat = b.getF Fld.curator.wordsM1 c.toNat := rfl
    clear_value d bad
    subst hd hbad
    rw [hstate, hwords]
    exact exec_answers_data a rfl
      (cmdCurReadback_good (s := b) hc hn ha hl hp s.cmd.nextId) rfl hf
  case accession =>
    intro h s a b img cs
    exact ⟨fun hi => exec_refused a rfl (cmdCurAccession_malformed (s := b) hi s.cmd.nextId),
      fun hi hp => ⟨fun ha => exec_refused a rfl (cmdCurAccession_active (s := b) cs rfl hi hp ha s.cmd.nextId),
        fun ha hs hu => exec_refused a rfl (cmdCurAccession_unsigned (s := b) cs rfl hi hp ha hs hu s.cmd.nextId),
        fun ha hs hu hb => exec_works a rfl (cmdCurAccession_works (s := b) cs rfl hi hp ha hs hu hb s.cmd.nextId)⟩⟩

end Sys2Proof.Machine
end

/-! ### Vitrine commands (R268, R271, R272, R277, R278) -/

section
namespace Sys2Proof.Machine

variable {s : State} {h : Hdr}

/-! Arming. -/

/-- The ring that vitrine v has while it is armed or running, or takes with an arming by mask m. -/
def State.viRingFor (s : State) (m v : Nat) : Nat :=
  if s.viState v = 0 ∨ bit m v then viRing (s.obj 0x0C v) else viRing (s.viRun v).cfg

/-- The configurations of the vitrines of a mask. -/
def State.viCfgs (s : State) (m : Nat) : List Nat := (setPositions m 8).map (fun v => s.obj 0x0C v)

theorem cmdVitArm_bad {m t : Nat} (hb : m = 0 ∨ ∃ c ∈ s.viCfgs m, badVitArm c = true) (id : Nat) :
    cmdVitArm m t id s = refuse s .badParam := by
  simp only [cmdVitArm]
  exact if_pos (hb.imp_right fun hc => List.any_eq_true.2 hc)

/-- Every check of VIT_ARM but the last passes. -/
structure State.VitArmable (s : State) (m : Nat) : Prop where
  named : m ≠ 0
  clocked : s.powered domVIT = true
  cfgs : ∀ c ∈ s.viCfgs m, badVitArm c = false ∧ s.powered (viDom c) = true ∧ s.viSourceOk c = true ∧
    (viMaskEn c = true → s.powered (bankDom (fieldOf Fld.vitrine.maskBank c)) = true)
  idle : ∀ v ∈ setPositions m 8, (s.viState v = 0 ∨ s.viState v = 4 ∧ s.flag Fld.vitrine.delivered v = true) ∧
    (s.ring (s.viRingFor m v)).owner ≠ 0 ∧ (s.ring (s.viRingFor m v)).en = true ∧
    ∀ w, w < 8 → w ≠ v → (s.viState w ≠ 0 ∨ bit m w = true) → s.viRingFor m w ≠ s.viRingFor m v

theorem State.viRingFor_accepted (s : State) (i : Instr) (h : Hdr) (m v : Nat) :
    (s.accepted i h).viRingFor m v = s.viRingFor m v := rfl

theorem State.VitArmable.accepted {m : Nat} (k : s.VitArmable m) (i : Instr) (h : Hdr) : (s.accepted i h).VitArmable m where
  named := k.named
  clocked := k.clocked
  cfgs := k.cfgs
  idle := by
    simp only [State.viRingFor_accepted]
    exact k.idle

theorem cmdVitArm_armable {m t : Nat} (k : s.VitArmable m) (id : Nat) :
    cmdVitArm m t id s =
      (let ta := if t = 0 then s.armEarliest (s.viCfgs m) else t
       if ta < s.armEarliest (s.viCfgs m) then refuse s .tooLate
       else ((setPositions m 8).foldl (fun u v => u.armVitrine v ta) s, Reply.ok64 ta)) := by
  have hbad : ¬ (m = 0 ∨ (s.viCfgs m).any badVitArm = true) := by
    rintro (h0 | h0)
    · exact k.named h0
    · obtain ⟨c, hc, hb⟩ := List.any_eq_true.1 h0
      exact Bool.false_ne_true ((k.cfgs c hc).1.symm.trans hb)
  have habsent : ¬ ((!s.powered domVIT) = true ∨ (s.viCfgs m).any (fun c => !s.powered (viDom c) ||
      (viMaskEn c && !s.powered (bankDom (fieldOf Fld.vitrine.maskBank c)))) = true) := by
    rintro (h0 | h0)
    · simp [k.clocked] at h0
    · obtain ⟨c, hc, hb⟩ := List.any_eq_true.1 h0
      obtain ⟨-, hp, -, hm⟩ := k.cfgs c hc
      cases he : viMaskEn c
      · simp [hp, he] at hb
      · simp [hp, he, hm he] at hb
  have hsource : ¬ (s.viCfgs m).any (fun c => !s.viSourceOk c) = true := by
    intro h0
    obtain ⟨c, hc, hb⟩ := List.any_eq_true.1 h0
    simp [(k.cfgs c hc).2.2.1] at hb
  have hstate : ¬ (setPositions m 8).any (fun v => decide (s.viState v ≠ 0 ∧ s.viState v ≠ 4)) = true := by
    intro h0
    obtain ⟨v, hv, hb⟩ := List.any_eq_true.1 h0
    obtain ⟨h1, h2⟩ := of_decide_eq_true hb
    exact (k.idle v hv).1.elim h1 fun h4 => h2 h4.1
  have hbusy : ¬ (setPositions m 8).any (fun v => decide (s.viState v = 4) && !s.flag Fld.vitrine.delivered v) = true := by
    intro h0
    obtain ⟨v, hv, hb⟩ := List.any_eq_true.1 h0
    rcases (k.idle v hv).1 with h1 | ⟨-, h1⟩ <;> simp [h1] at hb
  have hring : ¬ (setPositions m 8).any (fun v => decide ((s.ring (s.viRingFor m v)).owner = 0) ||
      !(s.ring (s.viRingFor m v)).en || (List.range 8).any (fun w =>
        decide (w ≠ v ∧ s.viRingFor m w = s.viRingFor m v) && (decide (s.viState w ≠ 0) || bit m w))) = true := by
    intro h0
    obtain ⟨v, hv, hb⟩ := List.any_eq_true.1 h0
    obtain ⟨-, ho, he, hw⟩ := k.idle v hv
    simp only [ho, he, decide_false, Bool.not_true, Bool.or_self, Bool.false_or] at hb
    obtain ⟨w, hw8, hb⟩ := List.any_eq_true.1 hb
    simp only [Bool.and_eq_true, Bool.or_eq_true, decide_eq_true_eq] at hb
    obtain ⟨⟨hne, heq⟩, hact⟩ := hb
    exact hw w (List.mem_range.1 hw8) hne hact heq
  exact (if_neg hbad).trans ((if_neg habsent).trans ((if_neg hsource).trans ((if_neg hstate).trans
    ((if_neg hbusy).trans (if_neg hring)))))

theorem State.viRun_armVitrine (s : State) (v ta : Nat) :
    ((s.armVitrine v ta).viRun v).mask = s.viMaskWords (s.obj 0x0C v) ∧
      ((s.armVitrine v ta).viRun v).cfg = s.obj 0x0C v := by
  have hrun (t : State) (r : ViRun) : ((t.setViRun v r).count 0x0B v 0).viRun v = r := State.viRun_setViRun_same t v r
  simp only [State.armVitrine, hrun]
  exact ⟨trivial, trivial⟩

/-! Triggers. -/

theorem State.tick_of_raw {s t : State} (hr : t.raw = s.raw) : t.tick = s.tick := by
  rw [State.tick, State.tick, hr]

theorem State.viTest_raw (s : State) (v : Nat) : (s.viTest v).raw = s.raw := by
  simp only [State.viTest]
  split
  · rfl
  · split <;> rfl

theorem State.viGeometry_raw (s : State) (v t k cause : Nat) : (s.viGeometry v t k cause).raw = s.raw := by
  rw [State.viGeometry, State.viTest_raw, State.setViRun_raw]
  split
  · rw [State.raise_raw, State.setF_raw, State.setF_raw]
  · rw [State.setF_raw, State.setF_raw]

theorem State.viIgnored_raw (s : State) (v t : Nat) : (s.viIgnored v t).raw = s.raw := by
  simp only [State.viIgnored]
  split <;> rfl

theorem State.busyDrop_raw (s : State) (t : Nat) : (s.busyDrop t).raw = s.raw := by
  rw [State.busyDrop, State.count_raw, State.raise_raw]

theorem State.viIgnoreTaken_raw (s : State) (v : Nat) : (s.viIgnoreTaken v).raw = s.raw := by
  rw [State.viIgnoreTaken]
  split
  · rw [State.busyDrop_raw, State.setViRun_raw, State.viIgnored_raw]
  · rw [State.viIgnored_raw]

theorem State.viTrigger_tick (s : State) (v t k cause : Nat) : (s.viTrigger v t k cause).2.tick = s.tick := by
  apply State.tick_of_raw
  simp only [State.viTrigger]
  split
  · rw [State.viGeometry_raw, State.setF_raw, State.setViRun_raw]
  · split
    · rw [State.setF_raw, State.setViRun_raw]
    · split
      · rw [State.viGeometry_raw, State.viIgnoreTaken_raw]
      · exact State.viIgnored_raw s v t

theorem cmdVitTrigger_off {m : Nat} (hp : s.powered domVIT = false) (id : Nat) : cmdVitTrigger m id s = refuse s .absent := by
  rw [cmdVitTrigger, if_pos (by simp [hp])]

/-- Offers a trigger of tick t to a vitrine, and notes one that took it. -/
def offerTrigger (t : Nat) (x : Nat × State) (v : Nat) : Nat × State :=
  let r := x.2.viTrigger v t 0 5
  (if r.1 then x.1 ||| (1 <<< v) else x.1, r.2)

theorem cmdVitTrigger_on {m : Nat} (hp : s.powered domVIT = true) (id : Nat) :
    cmdVitTrigger m id s =
      (let r := (setPositions m 8).foldl (offerTrigger s.tick) (0, s)
       (r.2, Reply.ok1 r.1)) := by
  have hfold (vs : List Nat) (x : Nat × State) (hx : x.2.tick = s.tick) :
      vs.foldl (fun (a : Nat × State) v =>
        let t := a.2.viTrigger v a.2.tick 0 5
        (if t.1 then a.1 ||| (1 <<< v) else a.1, t.2)) x = vs.foldl (offerTrigger s.tick) x := by
    induction vs generalizing x with
    | nil => rfl
    | cons v vs ih =>
      simp only [List.foldl_cons, hx]
      exact ih _ ((State.viTrigger_tick _ _ _ _ _).trans hx)
  rw [cmdVitTrigger, if_neg (by simp [hp]), hfold _ _ rfl]

theorem setPositions_single : ∀ v : Fin 8, setPositions (1 <<< v.val : BitVec 8).toNat 8 = [v.val] := by decide

theorem State.viTrigger_takes {v t : Nat} (h1 : s.viState v = 1) (ht : viTakes (s.viRun v) t = true) :
    s.viTrigger v t 0 5 =
      (true, ((s.setViRun v { s.viRun v with before := s.obj 0x0C v, byEvt := false, unsettled := true }).setF
        Fld.vitrine.state v 2).viGeometry v t 0 5) := by
  rw [State.viTrigger, if_pos ⟨h1, ht⟩]
  rfl

theorem State.viTrigger_notes {v t : Nat} (h2 : s.viState v = 2) (ht : (s.viRun v).trig = t) :
    s.viTrigger v t 0 5 =
      (true, (s.setViRun v (s.viRun v)).setF Fld.vitrine.trigCause v (s.getF Fld.vitrine.trigCause v ||| 32)) := by
  have hrun : { s.viRun v with byEvt := (s.viRun v).byEvt || decide (5 = 0) } = s.viRun v := by simp
  rw [State.viTrigger, if_neg (by simp [h2]), if_pos ⟨h2, ht⟩, hrun]
  rfl

theorem State.viTrigger_ignored {v t : Nat}
    (hn : (s.viState v = 1 ∧ viTakes (s.viRun v) t = false) ∨ (s.viState v = 2 ∧ (s.viRun v).trig ≠ t) ∨
      (s.viState v ≠ 1 ∧ s.viState v ≠ 2)) : s.viTrigger v t 0 5 = (false, s.viIgnored v t) := by
  rw [State.viTrigger, if_neg, if_neg, if_neg]
  · simp
  · rintro ⟨h2, ht⟩
    rcases hn with ⟨h, -⟩ | ⟨-, h⟩ | ⟨-, h⟩
    · omega
    · exact h ht
    · exact h h2
  · rintro ⟨h1, ht⟩
    rcases hn with ⟨-, h⟩ | ⟨h, -⟩ | ⟨h, -⟩
    · exact Bool.false_ne_true (h.symm.trans ht)
    · omega
    · exact h h1

theorem cmdVitTrigger_single {m v : Nat} (hm : setPositions m 8 = [v]) (hp : s.powered domVIT = true) {b : Bool} {t : State}
    (ht : s.viTrigger v s.tick 0 5 = (b, t)) (id : Nat) :
    cmdVitTrigger m id s = (t, Reply.ok1 (if b then 1 <<< v else 0)) := by
  simp only [cmdVitTrigger_on hp, hm, List.foldl_cons, List.foldl_nil, offerTrigger, ht, Nat.zero_or]

theorem cmdVitAbort_on {m : Nat} (hp : s.powered domVIT = true) (id : Nat) :
    cmdVitAbort m id s = ((setPositions m 8).foldl State.viAbort s, Reply.ok) := by
  rw [cmdVitAbort, if_neg (by simp [hp])]

/-- Settles O32: each command by the equations of its checks. -/
theorem vitrineCommandsArmTriggerAndAbort : Obligations.VitrineCommandsArmTriggerAndAbort := by
  refine ⟨?arm, ?armed, ⟨?trigger, ?single⟩, ?abort⟩
  case arm =>
    intro h m t s a i b vs cs ringOf ta
    refine ⟨fun hb => exec_refused a rfl (cmdVitArm_bad (s := b) hb s.cmd.nextId), fun hm hp hc hv => ?_⟩
    have hearly : s.armEarliest cs = b.armEarliest (b.viCfgs m.toNat) := rfl
    have hta : ta = if t.toNat = 0 then b.armEarliest (b.viCfgs m.toNat) else t.toNat := rfl
    rw [hearly]
    clear_value ta
    subst hta
    have hok : s.VitArmable m.toNat := ⟨hm, hp, hc, hv⟩
    have armed := cmdVitArm_armable (t := t.toNat) (hok.accepted i h) s.cmd.nextId
    exact ⟨fun hl => exec_refused a rfl (armed.trans (if_pos hl)),
      fun hl => exec_answers a rfl (armed.trans (if_neg (Nat.not_lt.2 hl))) rfl rfl⟩
  case armed =>
    intro v ta s _ hm c word
    obtain ⟨hmask, hcfg⟩ := State.viRun_armVitrine s v ta
    refine ⟨hmask.trans (if_pos hm), hcfg, ?_⟩
    have hmc : viMaskEn c = true := hm
    simp [State.armEarliest, hmc]
  case trigger =>
    intro h m s a i b r
    exact ⟨fun hp => exec_refused a rfl (cmdVitTrigger_off (s := b) hp s.cmd.nextId),
      fun hp => exec_answers a rfl (cmdVitTrigger_on (s := b) hp s.cmd.nextId) rfl rfl⟩
  case single =>
    intro h v s a hp i b
    have hrun : s.viRun v.val = b.viRun v.val := rfl
    have hobj : s.obj 0x0C v.val = b.obj 0x0C v.val := rfl
    have hcause : s.getF Fld.vitrine.trigCause v.val = b.getF Fld.vitrine.trigCause v.val := rfl
    have htick : s.tick = b.tick := rfl
    rw [hrun, hobj, hcause, htick]
    exact ⟨fun h1 ht => exec_answers a rfl
        (cmdVitTrigger_single (s := b) (setPositions_single v) hp (State.viTrigger_takes h1 ht) s.cmd.nextId) rfl rfl,
      fun h2 ht => exec_answers a rfl
        (cmdVitTrigger_single (s := b) (setPositions_single v) hp (State.viTrigger_notes h2 ht) s.cmd.nextId) rfl rfl,
      fun hn => exec_answers a rfl
        (cmdVitTrigger_single (s := b) (setPositions_single v) hp (State.viTrigger_ignored hn) s.cmd.nextId) rfl rfl⟩
  case abort =>
    intro h m s a hp
    exact exec_answers a rfl (cmdVitAbort_on (s := s.accepted (.vitAbort h m) h) hp s.cmd.nextId) rfl rfl

end Sys2Proof.Machine
end

/-! ### Survey and appraiser commands (R234, R235, R252, R255, R257, R258) -/

section
namespace Sys2Proof.Machine

variable {s : State} {h : Hdr}

/-! SURVEY_START. -/

/-- The data rate of the streams that run already and of those of a mask, as a fraction. -/
def State.svRate (s : State) (m : Nat) : Nat × Nat :=
  rateSum (((List.range 64).filter (fun n => decide (s.svState n ≠ 0) || bit m n)).map (fun n => s.obj 0x0A n))

/-- A stream armed for tick t. -/
def State.armSurvey (s : State) (t n : Nat) : State :=
  (((s.setF Fld.survey.state n 1).setF Fld.survey.startTick n t).setF Fld.survey.stopTick n 0).setF Fld.survey.haltReason n 0

/-- The checks of SURVEY_START before the data rate pass. -/
structure State.SurveyStartable (s : State) (m : Nat) : Prop where
  named : m ≠ 0
  clocked : s.powered domVIT = true
  inputs : (setPositions m 64).any (fun n => !s.powered (domAT (svInput (s.obj 0x0A n) / 4))) = false
  idle : (setPositions m 64).any (fun n => decide (s.svState n ≠ 0)) = false
  sources : (setPositions m 64).any (fun n =>
    !(s.inputState (svInput (s.obj 0x0A n)) = 3 || s.inputState (svInput (s.obj 0x0A n)) = 4)) = false
  dests : (setPositions m 64).any (fun n => !s.svDestOk (s.obj 0x0A n)) = false

theorem State.SurveyStartable.accepted {m : Nat} (k : s.SurveyStartable m) (i : Instr) (h : Hdr) :
    (s.accepted i h).SurveyStartable m := ⟨k.named, k.clocked, k.inputs, k.idle, k.sources, k.dests⟩

theorem cmdSurveyStart_none {m : Nat} (hm : m = 0) (v id : Nat) : cmdSurveyStart m v id s = refuse s .badParam :=
  if_pos hm

theorem cmdSurveyStart_startable {m v : Nat} (k : s.SurveyStartable m) (id : Nat) :
    cmdSurveyStart m v id s =
      if 256 * 2 ^ 32 * (s.svRate m).2 < 1000 * (s.svRate m).1 then refuse s .busy
      else match s.tickParam v with
        | none => refuse s .tooLate
        | some t => ((setPositions m 64).foldl (fun u n => u.armSurvey t n) s, Reply.ok64 t) := by
  have ht {b : Bool} (hb : b = false) : ¬ b = true := by simp [hb]
  have habsent : ¬ ((!s.powered domVIT) = true ∨
      (setPositions m 64).any (fun n => !s.powered (domAT (svInput (s.obj 0x0A n) / 4))) = true) := by
    rw [k.inputs, k.clocked]
    simp
  exact (if_neg k.named).trans ((if_neg habsent).trans ((if_neg (ht k.idle)).trans ((if_neg (ht k.sources)).trans
    (if_neg (ht k.dests)))))

theorem cmdSurveyStart_busy {m v : Nat} (k : s.SurveyStartable m)
    (hr : 256 * 2 ^ 32 * (s.svRate m).2 < 1000 * (s.svRate m).1) (id : Nat) : cmdSurveyStart m v id s = refuse s .busy :=
  (cmdSurveyStart_startable k id).trans (if_pos hr)

theorem cmdSurveyStart_arms {m v t : Nat} (k : s.SurveyStartable m)
    (hr : 1000 * (s.svRate m).1 ≤ 256 * 2 ^ 32 * (s.svRate m).2) (ht : s.tickParam v = some t) (id : Nat) :
    cmdSurveyStart m v id s = ((setPositions m 64).foldl (fun u n => u.armSurvey t n) s, Reply.ok64 t) := by
  rw [cmdSurveyStart_startable k, if_neg (Nat.not_lt.2 hr), ht]

/-! SURVEY_STOP. -/

theorem cmdSurveyStop_idle {m v : Nat} (hp : s.powered domVIT = true)
    (hn : (setPositions m 64).filter (fun n => decide (s.svState n ≠ 0)) = []) (id : Nat) :
    cmdSurveyStop m v id s = (s, Reply.ok64 0) := by
  simp only [cmdSurveyStop, hp, hn]
  rfl

theorem cmdSurveyStop_one {m v n : Nat} (hp : s.powered domVIT = true)
    (hn : (setPositions m 64).filter (fun n => decide (s.svState n ≠ 0)) = [n])
    (ho : (sget (fun _ => (0, 0)) s.sv.stop n).1 = 0) (hv : s.tick < v) (id : Nat) :
    cmdSurveyStop m v id s =
      (let b := s.setCmd id (maskOf [n]) 0
       { b with sv := { b.sv with stop := sset (fun _ => (0, 0)) s.sv.stop n (v + 1, id + 1) } }, Reply.wait) := by
  have hmax : max v s.tick = v := Nat.max_eq_left (Nat.le_of_lt hv)
  have hne : v ≠ s.tick := by omega
  have hold : ¬ ((sget (fun _ => (0, 0)) (s.setCmd id (maskOf [n]) 0).sv.stop n).1 ≠ 0 ∧
      (sget (fun _ => (0, 0)) (s.setCmd id (maskOf [n]) 0).sv.stop n).1 ≤ v + 1) := fun hx => hx.1 ho
  simp only [cmdSurveyStop, hp, hn, hmax, List.foldl_cons, List.foldl_nil, if_neg hne, if_neg hold]
  rfl

/-! APP_START. -/

section
variable {p x y : Nat} (hb : badAppStart p (s.obj 0x0B p) = false) (hp : s.powered (domAT p) = true)
include hb hp

theorem cmdAppStart_eq (id : Nat) :
    cmdAppStart p x y id s =
      if s.apState p = 4 then refuse s .busy
      else if s.apState p ≠ 0 ∧ s.apState p ≠ 3 then refuse s .state
      else if decide (fieldOf Fld.appraiser.trigEn (s.obj 0x0B p) = 1) then
        ((s.apClear p y).setF Fld.appraiser.state p 1, Reply.wait)
      else match s.tickParam x with
        | none => refuse s .tooLate
        | some t => (((s.apClear p y).setF Fld.appraiser.state p 1).setF Fld.appraiser.startTick p t, Reply.wait) := by
  have h7 : ¬ 7 < p := by
    intro h0
    simp [badAppStart, h0] at hb
  simp only [cmdAppStart]
  exact (if_neg h7).trans ((if_neg (by simp [hp])).trans (if_neg (by simp [hb])))

theorem cmdAppStart_cal (h4 : s.apState p = 4) (id : Nat) : cmdAppStart p x y id s = refuse s .busy := by
  rw [cmdAppStart_eq hb hp, if_pos h4]

theorem cmdAppStart_active (ha : s.apState p = 1 ∨ s.apState p = 2) (id : Nat) : cmdAppStart p x y id s = refuse s .state := by
  rw [cmdAppStart_eq hb hp, if_neg (by omega), if_pos (by omega)]

variable (hi : s.apState p = 0 ∨ s.apState p = 3)
include hi

theorem cmdAppStart_event (ht : fieldOf Fld.appraiser.trigEn (s.obj 0x0B p) = 1) (id : Nat) :
    cmdAppStart p x y id s = ((s.apClear p y).setF Fld.appraiser.state p 1, Reply.wait) := by
  rw [cmdAppStart_eq hb hp, if_neg (by omega), if_neg (by omega), if_pos (decide_eq_true ht)]

theorem cmdAppStart_tick {t : Nat} (hn : fieldOf Fld.appraiser.trigEn (s.obj 0x0B p) ≠ 1) (ht : s.tickParam x = some t)
    (id : Nat) :
    cmdAppStart p x y id s =
      (((s.apClear p y).setF Fld.appraiser.state p 1).setF Fld.appraiser.startTick p t, Reply.wait) := by
  rw [cmdAppStart_eq hb hp, if_neg (by omega), if_neg (by omega), if_neg (by simp [hn]), ht]

end

/-! APP_STOP. -/

section
variable {p y : Nat} (h7 : p ≤ 7) (hp : s.powered (domAT p) = true)
include h7 hp

theorem cmdAppStop_idle (h1 : s.apState p ≠ 1) (h2 : s.apState p ≠ 2) (id : Nat) : cmdAppStop p y id s = (s, Reply.ok) := by
  rw [cmdAppStop, if_neg (by omega), if_neg (by simp [hp]), if_pos ⟨h1, h2⟩]

/-- The state in which APP_STOP has set the bound of a run. -/
def State.apBounded (s : State) (p y : Nat) : State :=
  (s.setF Fld.appraiser.stopTick p (max y s.tick)).setApRun p
    { s.apRun p with bound := some (max y s.tick), reason := 3 }

theorem cmdAppStop_run (ha : s.apState p = 1 ∨ s.apState p = 2) (hb : (s.apRun p).bound = none) (id : Nat) :
    cmdAppStop p y id s =
      if s.apState p = 2 ∧ s.getF Fld.appraiser.startTick p = max y s.tick then ((s.apBounded p y).apFinish p, Reply.wait)
      else (s.apBounded p y, Reply.wait) := by
  rw [cmdAppStop, if_neg (by omega), if_neg (by simp [hp]), if_neg (by omega)]
  exact if_neg (by simp [hb])

theorem cmdAppStop_bounds (ha : s.apState p = 1 ∨ s.apState p = 2) (hb : (s.apRun p).bound = none)
    (hs : s.apState p = 1 ∨ s.getF Fld.appraiser.startTick p ≠ max y s.tick) (id : Nat) :
    cmdAppStop p y id s = (s.apBounded p y, Reply.wait) := by
  rw [cmdAppStop_run h7 hp ha hb, if_neg]
  rintro ⟨h2, ht⟩
  exact hs.elim (fun h1 => by omega) fun hn => hn ht

theorem cmdAppStop_ends (h2 : s.apState p = 2) (hb : (s.apRun p).bound = none)
    (hs : s.getF Fld.appraiser.startTick p = max y s.tick) (id : Nat) :
    cmdAppStop p y id s = ((s.apBounded p y).apFinish p, Reply.wait) := by
  rw [cmdAppStop_run h7 hp (.inr h2) hb, if_pos ⟨h2, hs⟩]

/-! APP_READ. -/

theorem cmdAppRead_notDone (hd : s.apState p ≠ 3) (id : Nat) : cmdAppRead h p id s = refuse s .state := by
  rw [cmdAppRead, if_neg (by omega), if_neg (by simp [hp]), if_pos hd]

theorem cmdAppRead_done (hd : s.apState p = 3) (hl : apLength (s.apRun p).cfg ≤ h.extlen.toNat) (id : Nat) :
    cmdAppRead h p id s =
      (let q := s.nextSeq (73 + p)
       (q.2.count 0x0A p 6, { Reply.ok1 (apLength (s.apRun p).cfg) with data := q.2.apRecord p q.1 })) := by
  rw [cmdAppRead, if_neg (by omega), if_neg (by simp [hp]), if_neg (by omega)]
  exact if_neg (Nat.not_lt.2 hl)

end

/-- Settles O33: each command by the equations of its checks. -/
theorem surveyAndAppraiserCommands : Obligations.SurveyAndAppraiserCommands := by
  refine ⟨⟨?start, ?stop⟩, ?appStart, ?appStop, ?appRead⟩
  case start =>
    intro h m v s a b ns cfg busy r
    have hparam : s.tickParam v.toNat = b.tickParam v.toNat := rfl
    have hr : r = b.svRate m.toNat := rfl
    clear_value r
    subst hr
    refine ⟨fun hm => exec_refused a rfl (cmdSurveyStart_none (s := b) hm v.toNat s.cmd.nextId),
      fun hm hp hi hidle hsrc hdst => ?_⟩
    have hok : s.SurveyStartable m.toNat := ⟨hm, hp, hi, hidle, hsrc, hdst⟩
    exact ⟨fun hr => exec_refused a rfl (cmdSurveyStart_busy (hok.accepted _ _) hr s.cmd.nextId),
      fun t hr ht => exec_answers a rfl (cmdSurveyStart_arms (hok.accepted _ _) hr (hparam ▸ ht) s.cmd.nextId) rfl rfl⟩
  case stop =>
    intro h m v s a hp b ns
    have htick : s.tick = b.tick := rfl
    rw [htick]
    exact ⟨fun hn => exec_answers a rfl (cmdSurveyStop_idle (s := b) hp hn s.cmd.nextId) rfl rfl,
      fun n hn ho hv => exec_waits a rfl (cmdSurveyStop_one (s := b) hp hn ho hv s.cmd.nextId) rfl rfl⟩
  case appStart =>
    intro h p x y s a hb hp b c
    have hparam : s.tickParam x.toNat = b.tickParam x.toNat := rfl
    have hc : c = b.obj 0x0B p.toNat := rfl
    have hstate : s.apState p.toNat = b.apState p.toNat := rfl
    change badAppStart p.toNat c = false at hb
    clear_value c
    subst hc
    rw [hstate]
    exact ⟨fun h4 => exec_refused a rfl (cmdAppStart_cal (s := b) hb hp h4 s.cmd.nextId),
      fun ha => exec_refused a rfl (cmdAppStart_active (s := b) hb hp ha s.cmd.nextId),
      fun hi => ⟨fun ht => exec_waits a rfl (cmdAppStart_event (s := b) hb hp hi ht s.cmd.nextId) rfl rfl,
        fun t hn ht => exec_waits a rfl (cmdAppStart_tick (s := b) hb hp hi hn (hparam ▸ ht) s.cmd.nextId) rfl rfl⟩⟩
  case appStop =>
    intro h p y s a h7 hp b
    have htick : s.tick = b.tick := rfl
    have hrun : s.apRun p.toNat = b.apRun p.toNat := rfl
    have hstate : s.apState p.toNat = b.apState p.toNat := rfl
    have hstart : s.getF Fld.appraiser.startTick p.toNat = b.getF Fld.appraiser.startTick p.toNat := rfl
    rw [htick, hrun, hstate, hstart]
    refine ⟨fun h1 h2 => exec_answers a rfl (cmdAppStop_idle (s := b) h7 hp h1 h2 s.cmd.nextId) rfl rfl,
      fun ha hb => ?_⟩
    intro t
    have ht : t = b.apBounded p.toNat y.toNat := rfl
    clear_value t
    subst ht
    exact ⟨fun hs => exec_waits a rfl (cmdAppStop_bounds (s := b) h7 hp ha hb hs s.cmd.nextId) rfl rfl,
      fun h2 hs => exec_waits a rfl (cmdAppStop_ends (s := b) h7 hp h2 hb hs s.cmd.nextId) rfl rfl⟩
  case appRead =>
    intro h p s a h7 hp b
    have hrun : s.apRun p.toNat = b.apRun p.toNat := rfl
    have hstate : s.apState p.toNat = b.apState p.toNat := rfl
    rw [hrun, hstate]
    refine ⟨fun hd => exec_refused a rfl (cmdAppRead_notDone (s := b) h7 hp hd s.cmd.nextId), fun hd hl => ?_⟩
    intro q hf
    exact exec_answers_data a rfl (cmdAppRead_done (s := b) h7 hp hd hl s.cmd.nextId) rfl hf

end Sys2Proof.Machine
end

/-! ### Calibration commands (R472 to R475, R480, R481, R483) -/

section
namespace Sys2Proof.Machine

variable {s : State} {h : Hdr}

section
variable {m : Nat} (hp : (setPositions m 96).any (fun o => !s.powered (domDT (dtOfOutput o))) = false)
include hp

theorem cmdCalOutput_busy (hb : (setPositions m 96).any (fun o => s.outputInCal o || s.flag Fld.output.fscBusy o) = true)
    (id : Nat) : cmdCalOutput m id s = refuse s .busy := by
  rw [cmdCalOutput, if_neg (by simp only [hp]; exact Bool.false_ne_true), if_pos hb]

theorem cmdCalOutput_works (hb : (setPositions m 96).any (fun o => s.outputInCal o || s.flag Fld.output.fscBusy o) = false)
    (hs : (setPositions m 96).any (fun o => decide (s.getF Fld.output.state o = 2 ∨ s.getF Fld.output.state o = 3)) = false)
    (id : Nat) :
    cmdCalOutput m id s =
      ((s.draw.2).addJob 0 m (s.tick + 1 + Config.delay s.free % 5000000) id 0 0, Reply.wait) := by
  rw [cmdCalOutput, if_neg (by simp only [hp]; exact Bool.false_ne_true),
    if_neg (by simp only [hb]; exact Bool.false_ne_true), if_neg (by simp only [hs]; exact Bool.false_ne_true)]
  rfl

end

section
variable {m : Nat} (hp : (setPositions m 32).any (fun i => !s.powered (domAT (atOfInput i))) = false)
include hp

theorem cmdCalInput_busy
    (hb : (setPositions m 32).any (fun i => decide (s.inputState i ≠ 3) || s.inputInJob [1, 3, 4] i) = true)
    (id : Nat) : cmdCalInput m id s = refuse s .busy := by
  rw [cmdCalInput, if_neg (by simp only [hp]; exact Bool.false_ne_true), if_pos hb]

theorem cmdCalInput_works
    (hb : (setPositions m 32).any (fun i => decide (s.inputState i ≠ 3) || s.inputInJob [1, 3, 4] i) = false) (id : Nat) :
    cmdCalInput m id s =
      (((setPositions m 32).foldl State.enterInputCal s).addJob 1 m (s.tick + 150000) id 0 0, Reply.wait) := by
  rw [cmdCalInput, if_neg (by simp only [hp]; exact Bool.false_ne_true),
    if_neg (by simp only [hb]; exact Bool.false_ne_true)]

end

section
variable {b : Nat} (h16 : b < 16) (hp : (setPositions b 4).any (fun k => !s.powered (domBB k)) = false)
include h16 hp

theorem cmdCalBias_inactive (hs : (setPositions b 4).any (fun k => decide (s.bankState k ≠ 3)) = true) (id : Nat) :
    cmdCalBias b id s = refuse s .state := by
  rw [cmdCalBias, if_neg (Nat.not_le.2 h16), if_neg (by simp only [hp]; exact Bool.false_ne_true), if_pos hs]

theorem cmdCalBias_works (hs : (setPositions b 4).any (fun k => decide (s.bankState k ≠ 3)) = false) (id : Nat) :
    cmdCalBias b id s =
      (((setPositions b 4).foldl (fun t k => t.setF Fld.biasbank.state k 5) s).addJob 2 b (s.tick + 1000000) id 0 0,
        Reply.wait) := by
  rw [cmdCalBias, if_neg (Nat.not_le.2 h16), if_neg (by simp only [hp]; exact Bool.false_ne_true),
    if_neg (by simp only [hs]; exact Bool.false_ne_true)]

end

section
variable {i : Nat} (hi : i ≤ 31)
include hi

theorem cmdCalSysZero_refused {st : Status} (hr : s.sysRefused i = some st) (id : Nat) :
    cmdCalSysZero i id s = refuse s st := by
  rw [cmdCalSysZero, if_neg (Nat.not_lt.2 hi), hr]

theorem cmdCalSysZero_works (hr : s.sysRefused i = none) (id : Nat) :
    cmdCalSysZero i id s = (s.startSystem 3 i id 0 0, Reply.wait) := by
  rw [cmdCalSysZero, if_neg (Nat.not_lt.2 hi), hr]

theorem cmdCalSysFull_bad {p f : Nat}
    (hb : s.expectedLevel i p < -2000 ∨ -100 < s.expectedLevel i p ∨ s.toneFar i f = true) (id : Nat) :
    cmdCalSysFull i p f id s = refuse s .badParam := by
  rw [cmdCalSysFull, if_neg (Nat.not_lt.2 hi), if_pos hb]

variable {p f : Nat} (hl : -2000 ≤ s.expectedLevel i p) (hu : s.expectedLevel i p ≤ -100) (ht : s.toneFar i f = false)
include hl hu ht

theorem cmdCalSysFull_eq (id : Nat) :
    cmdCalSysFull i p f id s =
      match s.sysRefused i with
      | some st => refuse s st
      | none => if s.zeroFor i then (s.startSystem 4 i id (s.expectedLevel i p) f, Reply.wait) else refuse s .state := by
  have hgood : ¬ (s.expectedLevel i p < -2000 ∨ -100 < s.expectedLevel i p ∨ s.toneFar i f = true) := by
    rintro (h | h | h)
    · omega
    · omega
    · exact Bool.false_ne_true (ht.symm.trans h)
  exact (if_neg (Nat.not_lt.2 hi)).trans (if_neg hgood)

theorem cmdCalSysFull_refused {st : Status} (hr : s.sysRefused i = some st) (id : Nat) :
    cmdCalSysFull i p f id s = refuse s st := by
  rw [cmdCalSysFull_eq hi hl hu ht, hr]

theorem cmdCalSysFull_noZero (hr : s.sysRefused i = none) (hz : s.zeroFor i = false) (id : Nat) :
    cmdCalSysFull i p f id s = refuse s .state := by
  rw [cmdCalSysFull_eq hi hl hu ht, hr]
  exact if_neg (by simp [hz])

theorem cmdCalSysFull_works (hr : s.sysRefused i = none) (hz : s.zeroFor i = true) (id : Nat) :
    cmdCalSysFull i p f id s = (s.startSystem 4 i id (s.expectedLevel i p) f, Reply.wait) := by
  rw [cmdCalSysFull_eq hi hl hu ht, hr]
  exact if_pos hz

end

theorem cmdCalSysStore_inhibited {m : Nat} (hi : s.flag Fld.thermal.nvInhibit 0 = true) (id : Nat) :
    cmdCalSysStore m id s = refuse s .supplyLow := by
  simp only [cmdCalSysStore]
  exact if_pos hi

theorem cmdCalSysStore_works {m : Nat} (hi : s.flag Fld.thermal.nvInhibit 0 = false) (hb : s.nvBusy = false) (id : Nat) :
    let is := (setPositions m 32).filter (fun i => s.corrRecords i ≠ [])
    cmdCalSysStore m id s =
      s.work id (2000000 + 200000 * (is.flatMap s.corrRecords).length) true (is.flatMap s.corrRecords)
        (Reply.ok1 (maskOf is)) := by
  simp only [cmdCalSysStore]
  rw [if_neg (by simp [hi]), if_neg (by simp [hb])]

section
variable (s : State) (i : Instr) (h : Hdr)

theorem State.sysRefused_accepted (n : Nat) : (s.accepted i h).sysRefused n = s.sysRefused n := rfl

theorem State.toneFar_accepted (n f : Nat) : (s.accepted i h).toneFar n f = s.toneFar n f := rfl

theorem State.zeroFor_accepted (n : Nat) : (s.accepted i h).zeroFor n = s.zeroFor n := rfl

theorem State.expectedLevel_accepted (n p : Nat) : (s.accepted i h).expectedLevel n p = s.expectedLevel n p := rfl

end

/-- Settles O34: each command by the equations of its checks. -/
theorem calibrationCommands : Obligations.CalibrationCommands := by
  refine ⟨⟨?output, ?input, ?bias⟩, ?zero, ?full, ?store⟩
  case output =>
    intro h m s a b os hp
    have htick : s.tick = b.tick := rfl
    have hfree : s.free = b.free := rfl
    rw [htick, hfree]
    exact ⟨fun hb => exec_refused a rfl (cmdCalOutput_busy (s := b) hp hb s.cmd.nextId),
      fun hb hs => exec_waits a rfl (cmdCalOutput_works (s := b) hp hb hs s.cmd.nextId) rfl rfl⟩
  case input =>
    intro h m s a b is hp
    exact ⟨fun hb => exec_refused a rfl (cmdCalInput_busy (s := b) hp hb s.cmd.nextId),
      fun hb => exec_waits a rfl (cmdCalInput_works (s := b) hp hb s.cmd.nextId) rfl rfl⟩
  case bias =>
    intro h n s a h16 b ks hp
    exact ⟨fun hs => exec_refused a rfl (cmdCalBias_inactive (s := b) h16 hp hs s.cmd.nextId),
      fun hs => exec_waits a rfl (cmdCalBias_works (s := b) h16 hp hs s.cmd.nextId) rfl rfl⟩
  case zero =>
    intro h i s a hi b
    rw [← State.sysRefused_accepted s (.calSysZero h i) h]
    exact ⟨fun st hr => exec_refused a rfl (cmdCalSysZero_refused hi hr s.cmd.nextId),
      fun hr => exec_waits a rfl (cmdCalSysZero_works hi hr s.cmd.nextId) rfl rfl⟩
  case full =>
    intro h i p f s a hi b l
    have hl : b.expectedLevel i.toNat p.toNat = l := State.expectedLevel_accepted ..
    clear_value l
    subst hl
    rw [← State.sysRefused_accepted s (.calSysFull h i p f) h, ← State.toneFar_accepted s (.calSysFull h i p f) h,
      ← State.zeroFor_accepted s (.calSysFull h i p f) h]
    exact ⟨fun hb => exec_refused a rfl (cmdCalSysFull_bad hi hb s.cmd.nextId),
      fun hl hu ht st hr => exec_refused a rfl (cmdCalSysFull_refused hi hl hu ht hr s.cmd.nextId),
      fun hl hu ht hr => ⟨fun hz => exec_refused a rfl (cmdCalSysFull_noZero hi hl hu ht hr hz s.cmd.nextId),
        fun hz => exec_waits a rfl (cmdCalSysFull_works hi hl hu ht hr hz s.cmd.nextId) rfl rfl⟩⟩
  case store =>
    intro h m s a b is
    exact ⟨fun hi => exec_refused a rfl (cmdCalSysStore_inhibited (s := b) hi s.cmd.nextId),
      fun hi hb => exec_works a rfl (cmdCalSysStore_works (s := b) hi hb s.cmd.nextId)⟩

end Sys2Proof.Machine
end

/-! ### Ledger commands, snapshots and mirrors (R364, R365, R369, R372, R373) -/

section
namespace Sys2Proof.Machine

variable {s : State} {h : Hdr}

theorem cmdLdgSnap_held (hs : s.ldg.st = 2) (t : Nat) (peers : Bool) (id : Nat) :
    cmdLdgSnap t peers id s = (s.count 0x18 0 1, Reply.fail .ledgerHeld) := by
  rw [cmdLdgSnap, if_pos hs]
  rfl

theorem cmdLdgSnap_pending (hs : s.ldg.st = 1) (t : Nat) (peers : Bool) (id : Nat) :
    cmdLdgSnap t peers id s = refuse s .busy := by
  rw [cmdLdgSnap, if_neg (by omega), if_pos hs]

theorem cmdLdgSnap_free (hs : s.ldg.st = 0) {v t : Nat} (ht : s.tickParam v = some t) (id : Nat) :
    cmdLdgSnap v false id s =
      ({ s with ldg := { s.ldg with
          st := 1, tick := t, origin := 0, originNum := 0, sentTo := 0, waiting := s.ldg.waiting ++ [(t + 8, id, 0, 0)] } },
        Reply.wait) := by
  have hnone : setPositions 0 4 = [] := by decide
  rw [cmdLdgSnap, if_neg (by omega), if_neg (by omega), ht]
  simp only [Bool.false_eq_true, if_false, hnone, List.foldl_nil, State.scheduleSnapshot]

theorem cmdLdgRead_bad {c f n : Nat}
    (hb : (unitInstances c).2 = 0 ∨ n = 0 ∨ f < (unitInstances c).1 ∨ (unitInstances c).1 + (unitInstances c).2 < f + n)
    (id : Nat) : cmdLdgRead h c f n id s = refuse s .badParam := by
  rw [cmdLdgRead, if_pos (by omega)]

section
variable {c f n : Nat} (hu : (unitInstances c).2 ≠ 0) (hn : 1 ≤ n) (hf : (unitInstances c).1 ≤ f)
  (hl : f + n ≤ (unitInstances c).1 + (unitInstances c).2) (he : recordLength c n ≤ h.extlen.toNat)
include hu hn hf hl he

theorem ldgRead_inRange :
    ¬ ((unitInstances c).2 = 0 ∨ n = 0 ∨ f < (unitInstances c).1 ∨ (unitInstances c).1 + (unitInstances c).2 < f + n ∨
      h.extlen.toNat < recordLength c n) := by
  rintro (hb | hb | hb | hb | hb)
  · exact hu hb
  · omega
  · omega
  · omega
  · omega

theorem cmdLdgRead_free (hs : s.ldg.st ≠ 2) (id : Nat) : cmdLdgRead h c f n id s = refuse s .state := by
  rw [cmdLdgRead, if_neg (ldgRead_inRange hu hn hf hl he), if_pos hs]

theorem cmdLdgRead_held (hs : s.ldg.st = 2) (id : Nat) :
    cmdLdgRead h c f n id s =
      ((s.nextSeq 81).2, { Reply.ok2 ((s.nextSeq 81).2.ledgerRecord c f n (s.nextSeq 81).1).length (s.ldg.num % 2 ^ 32) with
        data := (s.nextSeq 81).2.ledgerRecord c f n (s.nextSeq 81).1 }) := by
  rw [cmdLdgRead, if_neg (ldgRead_inRange hu hn hf hl he), if_neg (by simp [hs])]

end

theorem cmdLdgStatus_free (hs : s.ldg.st = 0) (id : Nat) : cmdLdgStatus id s = (s, Reply.ok4 0 0 0 0) := by
  simp [cmdLdgStatus, hs, bits]

theorem cmdLdgStatus_held (hs : s.ldg.st = 2) (id : Nat) :
    cmdLdgStatus id s = (s, Reply.ok4 2 (s.ldg.num % 2 ^ 32) (bits s.ldg.tick 0 32) (bits s.ldg.tick 32 32)) := by
  simp [cmdLdgStatus, hs]

theorem State.ledgerSnapshot_idle (hs : s.ldg.st ≠ 1 ∨ s.tick < s.ldg.tick) : s.ledgerSnapshot = s := by
  have hd : s.snapshotDue = false := by
    rw [State.snapshotDue]
    exact decide_eq_false (by omega)
  rw [State.ledgerSnapshot, if_pos (by rw [hd]; rfl)]

theorem State.ledgerTickEnd_one (he : s.ldg.events = 1) :
    s.ledgerTickEnd = ({ s with ldg := { s.ldg with events := 0 } } : State).ledgerEvent := by
  rw [State.ledgerTickEnd, he]
  rfl

theorem State.ledgerSnapshot_due (hs : s.ldg.st = 1) (ht : s.ldg.tick ≤ s.tick) :
    s.ledgerSnapshot.ldg.st = 2 ∧ s.ledgerSnapshot.ldg.num = (s.ldg.num + 1) % 2 ^ 64 ∧
      s.ledgerSnapshot.ldg.shadow = s.supplied ∧ s.ledgerSnapshot.ldg.shadowOn = s.pw.on ∧
      s.ledgerSnapshot.objs = s.objs ∧ s.ledgerSnapshot.cmd = s.cmd := by
  have hd : s.snapshotDue = true := decide_eq_true ⟨hs, ht⟩
  rw [State.ledgerSnapshot, if_neg (by simp [hd])]
  exact ⟨rfl, rfl, rfl, rfl, rfl, rfl⟩

/-- Settles O35: each command by the equations of its checks, each event by what it decides. -/
theorem ledgerCommandsAndSnapshots : Obligations.LedgerCommandsAndSnapshots := by
  refine ⟨⟨?snap, ?read, ?status⟩, ?events⟩
  case snap =>
    intro h v s a b
    exact ⟨fun hs => exec_answers a rfl (cmdLdgSnap_held (s := b) hs _ _ s.cmd.nextId) rfl rfl,
      fun hs => exec_refused a rfl (cmdLdgSnap_pending (s := b) hs _ _ s.cmd.nextId),
      fun t hs ht => exec_waits a rfl (cmdLdgSnap_free (s := b) hs ht s.cmd.nextId) rfl rfl⟩
  case read =>
    intro h c f n s a b u
    exact ⟨fun hb => exec_refused a rfl (cmdLdgRead_bad (s := b) hb s.cmd.nextId),
      fun hu hn hf hl he => ⟨fun hs => exec_refused a rfl (cmdLdgRead_free (s := b) hu hn hf hl he hs s.cmd.nextId),
        fun hs hd => exec_answers_data a rfl (cmdLdgRead_held (s := b) hu hn hf hl he hs s.cmd.nextId) rfl hd⟩⟩
  case status =>
    intro h s a b
    exact ⟨fun hs => exec_answers a rfl (cmdLdgStatus_free (s := b) hs s.cmd.nextId) rfl rfl,
      fun hs => exec_answers a rfl (cmdLdgStatus_held (s := b) hs s.cmd.nextId) rfl rfl⟩
  case events =>
    intro s
    refine ⟨fun hs ht => ⟨_, rfl, State.ledgerSnapshot_due hs ht⟩,
      fun hs => congrArg Host.Outcome.next (State.ledgerSnapshot_idle hs), fun hm => congrArg Host.Outcome.next ?_,
      fun hm => congrArg Host.Outcome.next ?_, rfl, fun he hs => ?_, fun he hs => ?_⟩
    · exact if_pos (decide_eq_true hm)
    · exact if_neg (by simp [State.mirrorDue, hm])
    · rw [State.ledgerTickEnd_one he]
      exact if_pos hs
    · rw [State.ledgerTickEnd_one he]
      exact if_neg hs

end Sys2Proof.Machine
end

/-! ### CP_LINK of one port (R434, R440) -/

section
namespace Sys2Proof.Machine

variable {s : State}

/-- What CP_LINK asks of one port, with the bit of UP for it. -/
def State.linkAsked (s : State) (p : Nat) (up : Bool) : State :=
  if up then
    if s.linkState p = 0 then s.startTraining p else s.setCpRt p { s.cpRt p with want := true }
  else (s.linkOff p).setCpRt p { (s.linkOff p).cpRt p with want := false }

/-- The mask with the bit of one port, where a flag is set. -/
def portBit (p : Fin 4) (up : Bool) : BitVec 8 := if up then ((1 <<< p.val : Nat) : BitVec 8) else 0

theorem setPositions_portBit (p : Fin 4) : setPositions (portBit p true).toNat 4 = [p.val] := by
  revert p
  decide

theorem bit_portBit (p : Fin 4) (up : Bool) : bit (portBit p up).toNat p = up := by
  revert p up
  decide

theorem portBit_lt (p : Fin 4) (up : Bool) : (portBit p up).toNat < 16 := by
  revert p up
  decide

section
variable {p : Fin 4} {up : Bool}

theorem cmdCpLink_absent (hp : s.powered (domCP p) = false) (id : Nat) :
    cmdCpLink (portBit p true).toNat (portBit p up).toNat id s = refuse s .absent := by
  have hin : ¬ (16 ≤ (portBit p true).toNat ∨ 16 ≤ (portBit p up).toNat) := by
    have h1 := portBit_lt p true
    have h2 := portBit_lt p up
    omega
  simp only [cmdCpLink, setPositions_portBit, if_neg hin, List.any_cons, List.any_nil, Bool.or_false, hp, Bool.not_false,
    if_true]

variable (hp : s.powered (domCP p) = true)
include hp

theorem cmdCpLink_one (id : Nat) :
    cmdCpLink (portBit p true).toNat (portBit p up).toNat id s =
      if maskOf ([p.val].filter (fun q => bit (portBit p up).toNat q && !(s.linkAsked p up).linkUp q)) = 0 then
        (s.linkAsked p up, Reply.ok1 (s.linkAsked p up).upMask)
      else ((s.linkAsked p up).setCmd id
        (maskOf ([p.val].filter (fun q => bit (portBit p up).toNat q && !(s.linkAsked p up).linkUp q))) (s.tick + linkBound),
        Reply.wait) := by
  have hin : ¬ (16 ≤ (portBit p true).toNat ∨ 16 ≤ (portBit p up).toNat) := by
    have h1 := portBit_lt p true
    have h2 := portBit_lt p up
    omega
  simp only [cmdCpLink, setPositions_portBit, if_neg hin, List.any_cons, List.any_nil, Bool.or_false, hp, Bool.not_true,
    Bool.false_eq_true, if_false, List.foldl_cons, List.foldl_nil, bit_portBit, State.linkAsked]

theorem cmdCpLink_answers (hu : up = false ∨ (s.linkAsked p up).linkUp p = true) (id : Nat) :
    cmdCpLink (portBit p true).toNat (portBit p up).toNat id s =
      (s.linkAsked p up, Reply.ok1 (s.linkAsked p up).upMask) := by
  have hnone : [p.val].filter (fun q => bit (portBit p up).toNat q && !(s.linkAsked p up).linkUp q) = [] := by
    rcases hu with hu | hu <;> simp [bit_portBit, hu]
  rw [cmdCpLink_one hp, hnone]
  exact if_pos rfl

theorem cmdCpLink_waits (hu : up = true) (hl : (s.linkAsked p up).linkUp p = false) (id : Nat) :
    cmdCpLink (portBit p true).toNat (portBit p up).toNat id s =
      ((s.linkAsked p up).setCmd id (1 <<< p.val) (s.tick + linkBound), Reply.wait) := by
  have hall : [p.val].filter (fun q => bit (portBit p up).toNat q && !(s.linkAsked p up).linkUp q) = [p.val] := by
    subst hu
    simp [bit_portBit, hl]
  have hmask : maskOf [p.val] = 1 <<< p.val := by
    simp [maskOf]
  have hne : 1 <<< p.val ≠ 0 := by simp [Nat.shiftLeft_eq]
  rw [cmdCpLink_one hp, hall, hmask, if_neg hne]

end

theorem State.linkUp_setCpRt (s : State) (q p : Nat) (r : CpRt) : (s.setCpRt q r).linkUp p = s.linkUp p := rfl

theorem State.powered_accepted (s : State) (i : Instr) (h : Hdr) (d : Nat) : (s.accepted i h).powered d = s.powered d := rfl

theorem State.linkState_accepted (s : State) (i : Instr) (h : Hdr) (p : Nat) :
    (s.accepted i h).linkState p = s.linkState p := rfl

theorem State.cpRt_accepted (s : State) (i : Instr) (h : Hdr) (p : Nat) : (s.accepted i h).cpRt p = s.cpRt p := rfl

theorem State.linkUp_of_up {p : Nat} (hp : s.powered (domCP p) = true) (hl : s.linkState p = 3) : s.linkUp p = true :=
  Bool.and_eq_true_iff.2 ⟨hp, decide_eq_true hl⟩

theorem State.linkAsked_up {p : Nat} (hl : s.linkState p = 3) :
    s.linkAsked p true = s.setCpRt p { s.cpRt p with want := true } := by
  rw [State.linkAsked, if_pos rfl, if_neg (by omega)]

theorem State.linkAsked_down {p : Nat} (hl : s.linkState p = 0) : s.linkAsked p true = s.startTraining p := by
  rw [State.linkAsked, if_pos rfl, if_pos hl]

theorem State.linkAsked_off (p : Nat) :
    s.linkAsked p false = (s.linkOff p).setCpRt p { (s.linkOff p).cpRt p with want := false } := by
  rw [State.linkAsked, if_neg Bool.false_ne_true]

theorem State.getF_setF_setF (s : State) (f g : Field) (n v w : Nat) (hc : f.cls = g.cls)
    (hl : f.lsb + f.width ≤ g.lsb ∨ g.lsb + g.width ≤ f.lsb) (p : Nat) (r : CpRt) :
    (((s.setF f n v).setF g n w).setCpRt p r).getF f n = v % 2 ^ f.width :=
  (State.getF_setF_apart (s.setF f n v) g f n w hc hl).trans (State.getF_setF_same s f n v)

theorem State.linkState_startTraining (s : State) (p : Nat) : (s.startTraining p).linkState p = 1 :=
  State.getF_setF_setF s.draw.2 Fld.courier.linkState Fld.courier.liveGen p 1 _ rfl (by decide) p _

/-- Settles O37: by the state of the port. -/
theorem courierLinkCommandMovesItsPort : Obligations.CourierLinkCommandMovesItsPort := by
  intro h p up s i a b
  have hrun : ∀ id (t : State), runCommand i id t = cmdCpLink (portBit p true).toNat (portBit p up).toNat id t :=
    fun _ _ => rfl
  have hhdr : i.hdr = some h := rfl
  clear_value i
  have hb : b = s.accepted i h := rfl
  rw [← State.powered_accepted s i h, ← State.linkState_accepted s i h, ← State.cpRt_accepted s i h, ← hb]
  clear_value b
  subst hb
  refine ⟨?absent, ?up, ?down, ?off⟩
  case absent =>
    intro hp
    exact exec_refused a hhdr ((hrun _ _).trans (cmdCpLink_absent hp s.cmd.nextId))
  case up =>
    intro hp hu hl c
    subst hu
    have hup : ((s.accepted i h).linkAsked p.val true).linkUp p.val = true := by
      rw [State.linkAsked_up hl, State.linkUp_setCpRt]
      exact State.linkUp_of_up hp hl
    have hc : (s.accepted i h).linkAsked p.val true = c := State.linkAsked_up hl
    clear_value c
    subst hc
    exact exec_answers a hhdr ((hrun _ _).trans (cmdCpLink_answers hp (.inr hup) s.cmd.nextId)) rfl rfl
  case down =>
    intro hp hu hl _
    subst hu
    have hdown : ((s.accepted i h).linkAsked p.val true).linkUp p.val = false := by
      rw [State.linkAsked_down hl, State.linkUp, State.linkState_startTraining]
      exact Bool.and_false _
    rw [← State.linkAsked_down hl]
    exact exec_waits a hhdr ((hrun _ _).trans (cmdCpLink_waits hp rfl hdown s.cmd.nextId)) rfl rfl
  case off =>
    intro hp hu c d
    subst hu
    have hd : (s.accepted i h).linkAsked p.val false = d := State.linkAsked_off p.val
    clear_value d
    subst hd
    exact exec_answers a hhdr ((hrun _ _).trans (cmdCpLink_answers hp (.inl rfl) s.cmd.nextId)) rfl rfl

end Sys2Proof.Machine
end

/-! ### Secure commands (R497, R499, R524) -/

section
namespace Sys2Proof.Machine

variable {s : State} {h : Hdr}

section
variable {p : Bool}

theorem cmdSecPolicy_inhibited (hi : s.flag Fld.thermal.nvInhibit 0 = true) (id : Nat) :
    cmdSecPolicy p id s = refuse s .supplyLow := by
  rw [cmdSecPolicy, if_pos hi]

theorem cmdSecPolicy_busy (hi : s.flag Fld.thermal.nvInhibit 0 = false) (hb : s.nvBusy = true) (id : Nat) :
    cmdSecPolicy p id s = refuse s .busy := by
  rw [cmdSecPolicy, if_neg (by simp [hi]), if_pos hb]

theorem cmdSecPolicy_works (hi : s.flag Fld.thermal.nvInhibit 0 = false) (hb : s.nvBusy = false) (id : Nat) :
    cmdSecPolicy p id s = s.work id 2000000 true [(0, b2n p)] (Reply.ok1 (b2n s.policy)) := by
  rw [cmdSecPolicy, if_neg (by simp [hi]), if_neg (by simp [hb])]

end

theorem cmdSecKeyLoad_bad {n : Nat}
    (hb : 3 < n ∨ h.extlen.toNat ≠ 64 ∨ pP ≤ beNat (sub h.ext 0 32) ∨ pP ≤ beNat (sub h.ext 32 32) ∨
      onP256 (beNat (sub h.ext 0 32)) (beNat (sub h.ext 32 32)) = false) (id : Nat) :
    cmdSecKeyLoad h n id s = refuse s .badParam := by
  refine if_pos ?_
  simpa only [Bool.not_eq_true'] using hb

theorem cmdSecKeyLoad_works {n : Nat} (hn : n ≤ 3) (he : h.extlen.toNat = 64) (hx : beNat (sub h.ext 0 32) < pP)
    (hy : beNat (sub h.ext 32 32) < pP) (hc : onP256 (beNat (sub h.ext 0 32)) (beNat (sub h.ext 32 32)) = true)
    (hi : s.flag Fld.thermal.nvInhibit 0 = false) (hb : s.nvBusy = false) (id : Nat) :
    cmdSecKeyLoad h n id s =
      s.work id 2000000 true [(n, beNat (sub h.ext 0 32)), (n, beNat (sub h.ext 32 32))] Reply.ok := by
  have hgood : ¬ (3 < n ∨ h.extlen.toNat ≠ 64 ∨ pP ≤ beNat (sub h.ext 0 32) ∨ pP ≤ beNat (sub h.ext 32 32) ∨
      (!onP256 (beNat (sub h.ext 0 32)) (beNat (sub h.ext 32 32))) = true) := by
    rintro (hf | hf | hf | hf | hf)
    · exact absurd hf (Nat.not_lt.2 hn)
    · exact hf he
    · exact absurd hf (Nat.not_le.2 hx)
    · exact absurd hf (Nat.not_le.2 hy)
    · exact absurd hf (by simp [hc])
  exact (if_neg hgood).trans ((if_neg (by simp [hi])).trans (if_neg (by simp [hb])))

theorem cmdSecFwUpdate_unsigned (hc : s.imageCode h.ext ≠ 1) (id : Nat) :
    cmdSecFwUpdate h id s = refuse s .signature := by
  rw [cmdSecFwUpdate, if_pos hc]

theorem cmdSecFwUpdate_works (hc : s.imageCode h.ext = 1) (hi : s.flag Fld.thermal.nvInhibit 0 = false)
    (hb : s.nvBusy = false) (hu : s.updating = false) (id : Nat) :
    cmdSecFwUpdate h id s =
      (s.setSlot s.updateSlot.1 Slot.erased).work id 60000000000 false [s.updateSlot] (Reply.ok1 h.ext.length) := by
  rw [cmdSecFwUpdate, if_neg (fun h => h hc), if_neg (by simp [hi]), if_neg (by simp [hb, hu])]

section
variable (he : h.extlen.toNat = 64)
include he

theorem cmdSecDebugUnlock_closed (hl : s.bt.lifecycle = 1 ∨ s.bt.debugOpen = true) (id : Nat) :
    cmdSecDebugUnlock h id s = refuse s .state := by
  rw [cmdSecDebugUnlock, if_neg (fun h => h he), if_pos hl]

theorem cmdSecDebugUnlock_tried (hl : s.bt.lifecycle ≠ 1) (ho : s.bt.debugOpen = false) {ok : Bool}
    (hok : ok = ecdsaVerify (beNat (sha256 (s.nonceBytes ++ s.bt.uid))) (beNat (sub h.ext 0 32)) (beNat (sub h.ext 32 32))
      s.bt.dbgKey.1 s.bt.dbgKey.2) (id : Nat) :
    cmdSecDebugUnlock h id s =
      ({ s with free := s.free + 1, bt := { s.bt with nonce := s.free, debugOpen := ok } },
        if ok then Reply.ok else Reply.fail .signature) := by
  rw [cmdSecDebugUnlock, if_neg (fun h => h he), if_neg (by simp [hl, ho]), hok]
  rfl

end

/-- Settles O38: each command by the equations of its checks. -/
theorem secureCommandsKeepTheirRules : Obligations.SecureCommandsKeepTheirRules := by
  refine ⟨?policy, ?key, ?update, ?unlock⟩
  case policy =>
    intro h p s a b
    exact ⟨fun hi => exec_refused a rfl (cmdSecPolicy_inhibited (s := b) hi s.cmd.nextId),
      fun hi hb => exec_refused a rfl (cmdSecPolicy_busy (s := b) hi hb s.cmd.nextId),
      fun hi hb => exec_works a rfl (cmdSecPolicy_works (s := b) hi hb s.cmd.nextId)⟩
  case key =>
    intro h n s a b x y
    exact ⟨fun hb => exec_refused a rfl (cmdSecKeyLoad_bad (s := b) hb s.cmd.nextId),
      fun hn he hx hy hc hi hb => exec_works a rfl (cmdSecKeyLoad_works (s := b) hn he hx hy hc hi hb s.cmd.nextId)⟩
  case update =>
    intro h s a b
    exact ⟨fun hc => exec_refused a rfl (cmdSecFwUpdate_unsigned (s := b) hc s.cmd.nextId),
      fun hc hi hb hu => exec_works a rfl (cmdSecFwUpdate_works (s := b) hc hi hb hu s.cmd.nextId)⟩
  case unlock =>
    intro h s a he b ok
    have hlater : ∀ r : Bool, (if r then Reply.ok else Reply.fail .signature).later = false := by decide
    have hdata : ∀ r : Bool, (if r then Reply.ok else Reply.fail .signature).data = [] := by decide
    have hok : ok = ecdsaVerify (beNat (sha256 (b.nonceBytes ++ b.bt.uid))) (beNat (sub h.ext 0 32))
      (beNat (sub h.ext 32 32)) b.bt.dbgKey.1 b.bt.dbgKey.2 := rfl
    clear_value ok
    exact ⟨fun hl => exec_refused a rfl (cmdSecDebugUnlock_closed (s := b) he hl s.cmd.nextId),
      fun hl ho => exec_answers a rfl (cmdSecDebugUnlock_tried (s := b) he hl ho hok s.cmd.nextId) (hlater ok) (hdata ok)⟩

end Sys2Proof.Machine
end

/-! ### Curator events (R111 to R116, R125 to R137, R150, R255, R339, R345) -/

section
namespace Sys2Proof.Machine

variable {s : State} {c : Nat}

theorem State.curatorStart_due (ha : s.curState c = 2) (ht : s.getF Fld.curator.startTick c ≤ s.tick) :
    s.curatorStart c = (s.setF Fld.curator.state c 3).goTo c (s.getF Fld.curator.entry c) s.tick :=
  if_pos (decide_eq_true ⟨ha, ht⟩)

/-! The start of a word. -/

/-- The state that has read the word at address a: a corrected error is counted. -/
def State.wordRead (s : State) (c a : Nat) : State :=
  if s.storeErrAt c a = 1 then (s.raise Fld.curator.storeEccCorr c).count 0x05 c 7 else s

/-- The state in which the word at address a counts as started. -/
def State.wordCounted (s : State) (c a : Nat) : State :=
  ((s.wordRead c a).setF Fld.curator.pc c a).count 0x05 c 0

/-- The state in which a legal word at address a has taken its actions. -/
def State.wordActed (s : State) (c a waiting : Nat) : State :=
  (((s.wordCounted c a).setCurRt c { (s.wordCounted c a).curRt c with
      inWord := true, t0 := s.tick, word := s.storeWord c a, nextAt := none, staleSeen := false }).setF Fld.curator.waiting c
    waiting).wordActions c (s.storeWord c a)

theorem State.wordRead_cur (s : State) (c a : Nat) : (s.wordRead c a).cur = s.cur := by
  rw [State.wordRead]
  split <;> simp

theorem State.wordCounted_cur (s : State) (c a : Nat) : (s.wordCounted c a).cur = s.cur := by
  rw [State.wordCounted, State.count_cur, State.setF_cur, State.wordRead_cur]

theorem State.curRt_wordCounted (s : State) (c a : Nat) : (s.wordCounted c a).curRt c = s.curRt c := by
  rw [State.curRt, State.curRt, State.wordCounted_cur]

theorem State.barrierMask_wordCounted (s : State) (c a b : Nat) : (s.wordCounted c a).barrierMask b = s.barrierMask b := by
  rw [State.barrierMask, State.barrierMask, State.wordCounted_cur]

theorem State.wordStart_halted (hh : s.haltDue c = true) : s.wordStart c = s :=
  if_pos (by rw [hh, Bool.or_true])

section
variable {t : Nat} (hr : s.curState c = 3) (hn : (s.curRt c).nextAt = some t) (ht : t ≤ s.tick) (hh : s.haltDue c = false)
include hr hn ht hh

theorem State.wordStart_due : ¬ ((!s.wordDue c || s.haltDue c) = true) := by
  have hd : s.wordDue c = true := by simp [State.wordDue, hr, hn, ht]
  simp [hd, hh]

theorem State.wordStart_outside (ha : s.wordCount c ≤ (s.curRt c).nextPc) :
    s.wordStart c = s.faultCurator c 2 (s.getF Fld.curator.pc c) :=
  (if_neg (State.wordStart_due hr hn ht hh)).trans (if_pos ha)

variable {a : Nat} (hpc : (s.curRt c).nextPc = a) (ha : a < s.wordCount c)
include hpc ha

theorem State.wordStart_broken (he : s.storeErrAt c a = 2) : s.wordStart c = (s.wordCounted c a).faultCurator c 3 a := by
  subst hpc
  rw [State.wordCounted, State.wordRead, if_neg (by omega)]
  exact ((if_neg (State.wordStart_due hr hn ht hh)).trans (if_neg (Nat.not_le.2 ha))).trans (if_pos he)

variable (he : s.storeErrAt c a ≠ 2)
include he

theorem State.wordStart_read :
    s.wordStart c =
      if illegalWord (s.storeWord c a) then (s.wordCounted c a).faultCurator c 1 a
      else if ((s.curRt c).atShot || (s.curRt c).thermalShot) && wShot (s.storeWord c a) then
        (s.wordRead c a).haltCurator c 3 s.tick
      else if wSync (s.storeWord c a) ≠ 0 ∧ !bit ((s.wordCounted c a).barrierMask (wSync (s.storeWord c a))) c then
        (s.wordCounted c a).faultCurator c 4 a
      else
        let s5 := (((s.wordCounted c a).setCurRt c { s.curRt c with
            inWord := true, t0 := s.tick, word := s.storeWord c a, nextAt := none, staleSeen := false }).setF
          Fld.curator.waiting c (if wSync (s.storeWord c a) ≠ 0 ∨ isWait (wCond (s.storeWord c a)) then 1 else 0)).wordActions c
            (s.storeWord c a)
        if wSync (s.storeWord c a) ≠ 0 then s5.barrierArrive c (wSync (s.storeWord c a)) else s5.decideCycle c s.tick := by
  subst hpc
  exact ((if_neg (State.wordStart_due hr hn ht hh)).trans (if_neg (Nat.not_le.2 ha))).trans (if_neg he)

theorem State.wordStart_illegal (hi : illegalWord (s.storeWord c a) = true) :
    s.wordStart c = (s.wordCounted c a).faultCurator c 1 a :=
  (State.wordStart_read hr hn ht hh hpc ha he).trans (if_pos hi)

variable (hi : illegalWord (s.storeWord c a) = false)
include hi

theorem State.wordStart_atShot
    (hs : (((s.curRt c).atShot || (s.curRt c).thermalShot) && wShot (s.storeWord c a)) = true) :
    s.wordStart c = (s.wordRead c a).haltCurator c 3 s.tick := by
  rw [State.wordStart_read hr hn ht hh hpc ha he, if_neg (by simp [hi]), if_pos hs]

variable (hs : (((s.curRt c).atShot || (s.curRt c).thermalShot) && wShot (s.storeWord c a)) = false)
include hs

theorem State.wordStart_notMember (hw : wSync (s.storeWord c a) ≠ 0)
    (hm : bit (s.barrierMask (wSync (s.storeWord c a))) c = false) :
    s.wordStart c = (s.wordCounted c a).faultCurator c 4 a := by
  rw [State.wordStart_read hr hn ht hh hpc ha he, if_neg (by simp [hi]), if_neg (by rw [hs]; exact Bool.false_ne_true),
    if_pos ⟨hw, by rw [State.barrierMask_wordCounted, hm]; rfl⟩]

theorem State.wordStart_atBarrier (hw : wSync (s.storeWord c a) ≠ 0)
    (hm : bit (s.barrierMask (wSync (s.storeWord c a))) c = true) :
    s.wordStart c = (s.wordActed c a 1).barrierArrive c (wSync (s.storeWord c a)) := by
  rw [State.wordStart_read hr hn ht hh hpc ha he, if_neg (by simp [hi]), if_neg (by rw [hs]; exact Bool.false_ne_true),
    if_neg (by rw [State.barrierMask_wordCounted, hm]; simp), State.wordActed, State.curRt_wordCounted]
  simp only [if_pos hw, if_pos (Or.inl hw)]

theorem State.wordStart_plain (hw : wSync (s.storeWord c a) = 0) :
    s.wordStart c =
      (s.wordActed c a (if isWait (wCond (s.storeWord c a)) then 1 else 0)).decideCycle c s.tick := by
  rw [State.wordStart_read hr hn ht hh hpc ha he, if_neg (by simp [hi]), if_neg (by rw [hs]; exact Bool.false_ne_true),
    if_neg (fun k => k.1 hw), State.wordActed, State.curRt_wordCounted]
  simp only [hw, ne_eq, not_true_eq_false, false_or, if_false]

end

/-! Waits, barriers and halts. -/

theorem State.waitExpire_due (hw : (s.curRt c).inWord = true) (hc : isWait (wCond (s.curRt c).word) = true)
    (hn : (s.curRt c).nextAt = none) (he : wordEnd (s.curRt c).t0 (s.curRt c).word ≤ s.tick) (hh : s.haltDue c = false) :
    s.waitExpire c = ((s.raise Fld.curator.waitTimeout c).count 0x05 c 2).goTo c (wNext (s.curRt c).word)
      (wordEnd (s.curRt c).t0 (s.curRt c).word) :=
  if_pos (by simp [State.waitTimeoutDue, State.waitOver, hw, hc, hn, he, hh])

theorem State.barrierTimeout_due (hw : (s.curRt c).inWord = true) (hb : s.getF Fld.curator.syncWait c ≠ 0)
    (he : wordEnd (s.curRt c).t0 (s.curRt c).word ≤ s.tick) (hh : s.haltDue c = false)
    (hr : s.barrierRel (s.getF Fld.curator.syncWait c) = 0 ∨ s.tick < s.barrierRel (s.getF Fld.curator.syncWait c)) :
    s.barrierTimeout c = (((s.setF Fld.curator.syncWait c 0).raise Fld.curator.barrierTimeout c).count 0x05 c 3).goTo c
      (wAlt (s.curRt c).word) (wordEnd (s.curRt c).t0 (s.curRt c).word) := by
  have hover : s.barrierOver c = true := by
    simp only [State.barrierOver, hw, decide_eq_true (And.intro hb he), decide_eq_true hr, Bool.and_self]
  exact if_pos (by simp [State.barrierTimeoutDue, hover, hh])

theorem State.barrierRelease_due {b : Nat} (hb : s.barrierRel b ≠ 0) (ht : s.barrierRel b ≤ s.tick) :
    s.barrierRelease b = (setPositions (s.barrierMask b) 128).foldl
      (fun u m => if u.getF Fld.curator.syncWait m = b ∧ b ≠ 0 ∧ s.haltDue m = false then
          (u.setF Fld.curator.syncWait m 0).goTo m (wNext (u.curRt m).word) (s.barrierRel b)
        else u) { s with cur := { s.cur with barRel := sset (fun _ => 0) s.cur.barRel b 0 } } := by
  have hdue : ¬ (s.barrierRel b = 0 ∨ s.tick < s.barrierRel b) := by omega
  rw [State.barrierRelease, if_neg hdue]
  simp only [Bool.not_eq_true']

theorem State.haltDue_eq (ha : s.curActive c = true) : s.haltDue c = (s.haltCome c).isSome := by
  rw [State.haltDue, ha, Bool.true_and]

theorem State.curatorHalt_come (ha : s.curActive c = true) {t k : Nat} (h : s.haltCome c = some (t, k)) :
    s.curatorHalt c = s.haltCurator c k t := by
  rw [State.curatorHalt, State.haltDue_eq ha, h]
  rfl

theorem State.curatorHalt_none (ha : s.curActive c = true) (h : s.haltCome c = none) : s.curatorHalt c = s := by
  rw [State.curatorHalt, State.haltDue_eq ha, h]
  rfl

theorem State.haltCome_own {t k : Nat} (hh : (s.curRt c).haltAt = some (t, k)) (ht : t ≤ s.tick)
    (hs : (s.curRt c).stopAt = none ∨ ((s.curRt c).atShot && s.shotStarts c) = true) : s.haltCome c = some (t, k) := by
  have hstop : (s.curRt c).stopAt.filter
      (fun u => decide (u ≤ s.tick) && !((s.curRt c).atShot && s.shotStarts c)) = none := by
    rcases hs with hs | hs
    · rw [hs]
      rfl
    · rw [hs]
      simp
  simp only [State.haltCome, hstop, hh, Option.filter_some, ht, decide_true, if_true]

theorem State.haltCome_stop {t : Nat} (hh : (s.curRt c).haltAt = none) (hs : (s.curRt c).stopAt = some t) (ht : t ≤ s.tick)
    (hw : ((s.curRt c).atShot && s.shotStarts c) = false) : s.haltCome c = some (t, 2) := by
  simp only [State.haltCome, hh, hs, hw, Option.filter_none, Option.filter_some, ht, decide_true, Bool.not_false,
    Bool.and_self, if_true]

theorem State.haltCome_both {t k u : Nat} (hh : (s.curRt c).haltAt = some (t, k)) (ht : t ≤ s.tick)
    (hs : (s.curRt c).stopAt = some u) (hu : u ≤ s.tick) (hw : ((s.curRt c).atShot && s.shotStarts c) = false) :
    s.haltCome c = if u ≤ t then some (u, 2) else some (t, k) := by
  simp only [State.haltCome, hh, hs, hw, Option.filter_some, ht, hu, decide_true, Bool.not_false, Bool.and_self, if_true]

theorem State.haltCome_none (hh : (s.curRt c).haltAt = none) (hw : ((s.curRt c).atShot && s.shotStarts c) = true) :
    s.haltCome c = none := by
  have hstop : (s.curRt c).stopAt.filter
      (fun u => decide (u ≤ s.tick) && !((s.curRt c).atShot && s.shotStarts c)) = none := by
    rw [hw]
    simp
  simp only [State.haltCome, hstop, hh, Option.filter_none]

/-! Events at curators and appraisers. -/

theorem State.evtFlag_absent (hp : s.powered (domCC (c / 16)) = false) : s.evtFlag c = s.absentDrop c :=
  if_pos (by rw [clusterOf, hp]; rfl)

section
variable (hp : s.powered (domCC (c / 16)) = true)
include hp

theorem State.evtFlag_busy (hb : s.flag Fld.curator.evtFlag c = true ∨ s.powerState ≠ 0 ∨ s.pw.tripGated = true) :
    s.evtFlag c = s.busyDrop c := by
  have hclock : s.powerState ≠ 0 ∨ s.pw.tripGated = true → (!s.curClocked) = true := by
    rintro (h | h) <;> simp [State.curClocked, h]
  rw [State.evtFlag, if_neg (by rw [clusterOf, hp]; exact Bool.false_ne_true), if_pos (hb.imp_right hclock)]

theorem State.evtFlag_taken (hf : s.flag Fld.curator.evtFlag c = false) (hr : s.powerState = 0)
    (hg : s.pw.tripGated = false) :
    s.evtFlag c = ((s.setF Fld.curator.evtFlag c 1).setCurRt c { s.curRt c with flagTick := s.tick }).count 0x12 c 0 := by
  rw [State.evtFlag, if_neg (by rw [clusterOf, hp]; exact Bool.false_ne_true),
    if_neg (by simp [hf, State.curClocked, hr, hg])]
  rfl

end

section
variable {n : Nat}

theorem State.evtAppraiser_absent (hp : s.powered (domAT n) = false) : s.evtAppraiser n = s.absentDrop (136 + n) :=
  if_pos (by rw [hp]; rfl)

theorem State.evtAppraiser_busy (hp : s.powered (domAT n) = true) (hb : s.apState n ≠ 1 ∨ apTrig s n = false) :
    s.evtAppraiser n = s.busyDrop (136 + n) := by
  have hnot : ¬ (s.apState n = 1 ∧ apTrig s n = true) := by
    rintro ⟨h1, h2⟩
    rcases hb with hb | hb
    · exact hb h1
    · exact Bool.false_ne_true (hb.symm.trans h2)
  rw [State.evtAppraiser, if_neg (by simp [hp]), if_neg hnot]

theorem State.evtAppraiser_starts (hp : s.powered (domAT n) = true) (ha : s.apState n = 1) (ht : apTrig s n = true)
    (hb : (s.apRun n).bound = none) :
    s.evtAppraiser n = (((s.setF Fld.appraiser.startTick n s.tick).setF Fld.appraiser.state n 2).count 0x0A n 0).count 0x12
      (136 + n) 0 := by
  rw [State.evtAppraiser, if_neg (by simp [hp]), if_pos ⟨ha, ht⟩, State.apBegin, hb]
  rfl

end

/-- Settles O39: each event by the equations above. -/
theorem curatorEvents : Obligations.CuratorEvents := by
  refine ⟨⟨?start, ?word⟩, ⟨?wait, ?release, ?timeout, ?halt⟩, ?flag, ?appraiser⟩
  case start =>
    intro c s ha ht
    exact congrArg Host.Outcome.next (State.curatorStart_due ha ht)
  case word =>
    intro c t s hr hn ht a w q p atStop go
    have hq : q = s.wordRead c.val a := rfl
    have hp : p = s.wordCounted c.val a := rfl
    have hgo : ∀ x, go x = s.wordActed c.val a x := fun _ => rfl
    have ha : (s.curRt c.val).nextPc = a := rfl
    clear_value go p q
    subst hq hp
    simp only [hgo]
    exact ⟨fun hh => congrArg Host.Outcome.next (State.wordStart_halted hh),
      fun hh ho => congrArg Host.Outcome.next (State.wordStart_outside hr hn ht hh ho),
      fun hh hl => ⟨fun he => congrArg Host.Outcome.next (State.wordStart_broken hr hn ht hh ha hl he),
        fun he hi => congrArg Host.Outcome.next (State.wordStart_illegal hr hn ht hh ha hl he hi),
        fun he hi hs => congrArg Host.Outcome.next (State.wordStart_atShot hr hn ht hh ha hl he hi hs),
        fun he hi hs hw hm => congrArg Host.Outcome.next (State.wordStart_notMember hr hn ht hh ha hl he hi hs hw hm),
        fun he hi hs hw hm => congrArg Host.Outcome.next (State.wordStart_atBarrier hr hn ht hh ha hl he hi hs hw hm),
        fun he hi hs hw => congrArg Host.Outcome.next (State.wordStart_plain hr hn ht hh ha hl he hi hs hw)⟩⟩
  case wait =>
    intro c s hw hc hn he hh
    exact congrArg Host.Outcome.next (State.waitExpire_due hw hc hn he hh)
  case release =>
    intro b s hb ht
    exact congrArg Host.Outcome.next (State.barrierRelease_due hb ht)
  case timeout =>
    intro c s hw hb he hh hr
    exact congrArg Host.Outcome.next (State.barrierTimeout_due hw hb he hh hr)
  case halt =>
    intro c s ha r shot
    refine ⟨fun t k hh ht hs => congrArg Host.Outcome.next (State.curatorHalt_come ha (State.haltCome_own hh ht hs)),
      fun t hh hs ht hw => congrArg Host.Outcome.next (State.curatorHalt_come ha (State.haltCome_stop hh hs ht hw)),
      fun t k u hh ht hs hu hw => congrArg Host.Outcome.next ?_,
      fun hh hw => congrArg Host.Outcome.next (State.curatorHalt_none ha (State.haltCome_none hh hw))⟩
    have hcome := State.haltCome_both hh ht hs hu hw
    split at hcome
    · exact (State.curatorHalt_come ha hcome).trans (if_pos ‹_›).symm
    · exact (State.curatorHalt_come ha hcome).trans (if_neg ‹_›).symm
  case flag =>
    intro c s
    exact ⟨fun hp => congrArg Host.Outcome.next (State.evtFlag_absent hp),
      fun hp hb => congrArg Host.Outcome.next (State.evtFlag_busy hp hb),
      fun hp hf hr hg => congrArg Host.Outcome.next (State.evtFlag_taken hp hf hr hg)⟩
  case appraiser =>
    intro n s
    exact ⟨fun hp => congrArg Host.Outcome.next (State.evtAppraiser_absent hp),
      fun hp hb => congrArg Host.Outcome.next (State.evtAppraiser_busy hp hb),
      fun hp ha ht hb => congrArg Host.Outcome.next (State.evtAppraiser_starts hp ha ht hb)⟩

end Sys2Proof.Machine
end

/-! ### Inputs, points and the demixer (R160, R165, R177 to R183, R187, R189) -/

section
namespace Sys2Proof.Machine

variable {s : State}

theorem State.startingEnd_due {i : Nat} (h0 : sget (fun _ => 0) s.rd.startEnd i ≠ 0)
    (ht : sget (fun _ => 0) s.rd.startEnd i ≤ s.tick) (hs : s.inputState i = 2) :
    s.startingEnd i = { s.setF Fld.input.state i 3 with
      rd := { s.rd with startEnd := sset (fun _ => 0) s.rd.startEnd i 0 } } :=
  if_pos (decide_eq_true ⟨h0, ht, hs⟩)

theorem State.rd_raiseWith (s : State) (f g : Field) (n v : Nat) : (s.raiseWith f n g v).rd = s.rd := by
  rw [State.raiseWith]
  split <;> simp only [State.raise_rd, State.setF_rd]

section
variable {i : Nat}

theorem State.adcOver_off (h : s.powered (domAT (i / 4)) = false ∨ s.inputState i = 1) : s.adcOver i = s := by
  have hnot : ¬ (s.powered (domAT (i / 4)) = true ∧ s.inputState i ≠ 1) := by
    rintro ⟨hp, hs⟩
    rcases h with h | h
    · exact Bool.false_ne_true (h.symm.trans hp)
    · exact hs h
  exact if_neg hnot

theorem State.adcOver_on (hp : s.powered (domAT (i / 4)) = true) (hs : s.inputState i ≠ 1) :
    s.adcOver i =
      { (s.raiseWith Fld.input.adcOvr i Fld.input.ovrTick s.tick).count 0x07 i 0 with
        rd := { s.rd with overs := (i, s.tick) :: s.rd.overs } } := by
  rw [State.adcOver, if_pos ⟨hp, hs⟩]
  simp only [State.count_rd, State.rd_raiseWith]

theorem State.raiseWith_clear (f g : Field) (v : Nat) (h : s.flag f i = false) :
    s.raiseWith f i g v = (s.setF g i v).raise f i :=
  if_neg (by simp [h])

theorem State.raiseWith_set (f g : Field) (v : Nat) (h : s.flag f i = true) : s.raiseWith f i g v = s.raise f i := if_pos h

end

/-! Points. -/

/-- The point of a window: a held one is stale and passes the demix stage. -/
def State.pointOf (s : State) (rc : Nat) (w : Win) (member : Bool) (z : Iq) (ovf held : Bool) : Pt :=
  ⟨rc, z, ovf, held, w.e + (if member then 46 else 42), w.e, w.s, w.shot, member, s.liveObj 0x09 (rc / 16), held, false⟩

/-- The state in which a window has given its point. -/
def State.pointTaken (s : State) (rc : Nat) (w : Win) (p : Pt) : State :=
  (({ s with rd := { s.rd with wins := dropWin rc w.e s.rd.wins, pts := s.rd.pts ++ [p] } }).setF Fld.rdch.lastEndTick rc
    w.e).count 0x06 rc 1

/-- Whether a channel is a member of its input's demixer. -/
def State.demixMember (s : State) (rc : Nat) : Bool :=
  decide (s.getL Fld.demix.demixEn (rc / 16) = 1) && bit (s.getL Fld.demix.member (rc / 16)) (rc % 16)

section
variable {rc : Nat} {w : Win} (hd : s.pointDue rc = some w)
include hd

theorem State.formPoint_held (hh : w.held = true) :
    s.formPoint rc =
      ((s.pointTaken rc w (s.pointOf rc w (s.demixMember rc) ⟨s.getSF Fld.rdch.lastI rc, s.getSF Fld.rdch.lastQ rc⟩ false
        true)).raise Fld.rdch.held rc).count 0x06 rc 2 := by
  rw [State.formPoint, hd]
  simp only [hh, Bool.not_true, Bool.false_and, Bool.false_eq_true, if_true, if_false, true_or]
  rfl

theorem State.formPoint_summed (hh : w.held = false) {a b : Int} (ha : rshift w.acc.i w.oshift = a)
    (hb : rshift w.acc.q w.oshift = b) {out ovf : Bool}
    (ho : ((saturates 32 a && !w.gsatI) || (saturates 32 b && !w.gsatQ)) = out)
    (hv : (w.gsatI || w.gsatQ || out) = ovf) :
    s.formPoint rc =
      (let t1 := s.pointTaken rc w (s.pointOf rc w (s.demixMember rc) ⟨sat 32 a, sat 32 b⟩ ovf false)
       let t2 := if out then (t1.raise Fld.rdch.outSat rc).count 0x06 rc 6 else t1
       let t3 := if ovf then t2.count 0x06 rc 5 else t2
       if s.demixMember rc then t3
       else (t3.setF Fld.rdch.lastI rc (ofS 32 (sat 32 a))).setF Fld.rdch.lastQ rc (ofS 32 (sat 32 b))) := by
  subst ha hb ho hv
  rw [State.formPoint, hd]
  simp only [hh, Bool.not_false, Bool.true_and, Bool.false_eq_true, if_false, false_or, shiftOut, Bool.or_assoc]
  rfl

end

/-! The demixer. -/

theorem cadd_zero (z : Iq) : cadd ⟨0, 0⟩ z = z := by
  simp [cadd]

/-- The value of a demixed point from the sum over its set: shifted, rounded and saturated. -/
def demixOut (z : Iq) : Iq := ⟨sat 32 (rshift z.i 16), sat 32 (rshift z.q 16)⟩

/-- Whether a component of the sum over a demix set saturates. -/
def demixClips (z : Iq) : Bool := saturates 32 (rshift z.i 16) || saturates 32 (rshift z.q 16)

section
variable {p x : Pt}

theorem sameSet_self (hm : p.member = true) (hs : p.stale = false) (hd : p.demixed = false) : sameSet p p = true := by
  simp [sameSet, hm, hs, hd]

theorem demixPoint_alone (hm : p.member = true) (hs : p.stale = false) (hd : p.demixed = false) {v : Iq}
    (hv : cmul (demixCoef p.demix (p.rc % 16) (p.rc % 16)) p.z = v) :
    demixPoint [p] p = (demixOut v, demixClips v, p.ovf || demixClips v, false) := by
  have hset : [p].filter (sameSet p) = [p] := by simp [sameSet_self hm hs hd]
  simp only [demixPoint, hset, List.foldl_cons, List.foldl_nil, cadd_zero, hv, List.filter_cons, ne_eq, not_true_eq_false,
    false_and, decide_false, Bool.false_eq_true, if_false, List.filter_nil, List.any_nil, Bool.or_false]
  rfl

section
variable (hp : p.member = true) (hx : x.member = true) (hi : p.rc / 16 = x.rc / 16) (hne : p.rc ≠ x.rc) (he : p.e = x.e)
  (hsp : p.stale = false) (hsx : x.stale = false) (hdp : p.demixed = false) (hdx : x.demixed = false)
  {v : Iq} (hv : cadd (cmul (demixCoef p.demix (p.rc % 16) (p.rc % 16)) p.z)
    (cmul (demixCoef p.demix (p.rc % 16) (x.rc % 16)) x.z) = v)
include hp hx hi hne he hsp hsx hdp hdx hv

theorem demixPoint_pair :
    demixPoint [p, x] p =
      (let others := [x].filter (fun _ => decide (demixCoef p.demix (p.rc % 16) (x.rc % 16) ≠ ⟨0, 0⟩))
       (demixOut v, demixClips v, p.ovf || demixClips v || others.any (fun q => q.ovf), decide (others ≠ []))) := by
  have hother : sameSet p x = true := by
    simp [sameSet, inputOfRc, hx, hsx, hdx, hi, he]
  have hset : [p, x].filter (sameSet p) = [p, x] := by simp [sameSet_self hp hsp hdp, hother]
  simp only [demixPoint, hset, List.foldl_cons, List.foldl_nil, cadd_zero, hv, List.filter_cons, ne_eq, not_true_eq_false,
    false_and, decide_false, Bool.false_eq_true, if_false, List.filter_nil, Ne.symm hne, not_false_eq_true, true_and]
  rfl

variable {i q : Int} (hri : rshift v.i 16 = i) (hrq : rshift v.q 16 = q) {clip : Bool}
  (hc : (saturates 32 i || saturates 32 q) = clip)
include hri hrq hc

theorem demixPoint_pair_mixed (hm : demixCoef p.demix (p.rc % 16) (x.rc % 16) ≠ ⟨0, 0⟩) :
    demixPoint [p, x] p = (⟨sat 32 i, sat 32 q⟩, clip, p.ovf || clip || x.ovf, true) := by
  subst hri hrq hc
  rw [demixPoint_pair hp hx hi hne he hsp hsx hdp hdx hv, List.filter_cons, if_pos (decide_eq_true hm)]
  simp [demixOut, demixClips]

theorem demixPoint_pair_apart (hm : demixCoef p.demix (p.rc % 16) (x.rc % 16) = ⟨0, 0⟩) :
    demixPoint [p, x] p = (⟨sat 32 i, sat 32 q⟩, clip, p.ovf || clip, false) := by
  subst hri hrq hc
  rw [demixPoint_pair hp hx hi hne he hsp hsx hdp hdx hv, List.filter_cons, if_neg (by simp [hm])]
  simp [demixOut, demixClips]

end

theorem State.demixBegin_alone (hpts : s.rd.pts = [p]) (hm : p.member = true) (hd : p.demixed = false)
    (hs : p.stale = false) (ht : p.e + 42 ≤ s.tick) {v : Iq}
    (hv : cmul (demixCoef p.demix (p.rc % 16) (p.rc % 16)) p.z = v) {i q : Int} (hi : rshift v.i 16 = i)
    (hq : rshift v.q 16 = q) {clip : Bool} (hc : (saturates 32 i || saturates 32 q) = clip) :
    s.demixBegin =
      (let u := (s.setF Fld.rdch.lastI p.rc (ofS 32 (sat 32 i))).setF Fld.rdch.lastQ p.rc (ofS 32 (sat 32 q))
       let u1 := if clip && !p.ovf then u.count 0x06 p.rc 5 else u
       let u2 := if clip then
           (u1.raiseWith Fld.demix.demixSat (p.rc / 16) Fld.demix.satTick (p.e + 42)).count 0x07 (p.rc / 16) 1
         else u1
       { u2 with rd := { u2.rd with pts :=
         [{ p with z := ⟨sat 32 i, sat 32 q⟩, ovf := p.ovf || clip, demixMark := false, demixed := true }] } }) := by
  have hout : demixOut v = ⟨sat 32 i, sat 32 q⟩ := by rw [demixOut, hi, hq]
  have hclip : demixClips v = clip := by rw [demixClips, hi, hq, hc]
  have hdue : (p.member && !p.demixed && decide (p.e + 42 ≤ s.tick)) = true := by simp [hm, hd, ht]
  have hdup : ∀ r : Bool, ((p.ovf || r) && !p.ovf) = (r && !p.ovf) := by
    intro r
    cases p.ovf <;> simp
  rw [State.demixBegin]
  simp only [hpts, List.filter_cons, List.filter_nil, hdue, if_true, List.foldl_cons, List.foldl_nil, List.map_cons,
    List.map_nil, demixPoint_alone hm hs hd hv, hdup, inputOfRc, hout, hclip]

end

/-- Settles O40: each event by the equations above. -/
theorem inputsStartAndWindowsFormPoints : Obligations.InputsStartAndWindowsFormPoints := by
  refine ⟨?start, ?overrange, ?point, ?alone, ?pair⟩
  case start =>
    intro i s h0 ht hs
    exact congrArg Host.Outcome.next (State.startingEnd_due h0 ht hs)
  case overrange =>
    intro i s
    refine ⟨fun h => congrArg Host.Outcome.next (State.adcOver_off h), fun hp hs hf => congrArg Host.Outcome.next ?_,
      fun hp hs hf => congrArg Host.Outcome.next ?_⟩
    · rw [State.adcOver_on hp hs, State.raiseWith_clear _ _ _ hf]
    · rw [State.adcOver_on hp hs, State.raiseWith_set _ _ _ hf]
  case point =>
    intro c w s hd a b out ovf member p t
    have hm : s.demixMember c.val = member := rfl
    have ha : rshift w.acc.i w.oshift = a := rfl
    have hb : rshift w.acc.q w.oshift = b := rfl
    have ho : ((saturates 32 a && !w.gsatI) || (saturates 32 b && !w.gsatQ)) = out := rfl
    have hv : (w.gsatI || w.gsatQ || out) = ovf := rfl
    have ht : ∀ z o held, t z o held = s.pointTaken c.val w (s.pointOf c.val w member z o held) := fun _ _ _ => rfl
    clear_value t
    clear p
    clear_value ovf out a b member
    simp only [ht, ← hm]
    refine ⟨fun hh => ⟨fun hmem => congrArg Host.Outcome.next ?_, fun hmem => congrArg Host.Outcome.next ?_⟩,
      fun hh => congrArg Host.Outcome.next (State.formPoint_held hd hh)⟩
    · exact (State.formPoint_summed hd hh ha hb ho hv).trans (if_pos hmem)
    · exact (State.formPoint_summed hd hh ha hb ho hv).trans (if_neg (by simp [hmem]))
  case alone =>
    intro p s hpts hm hd hs ht d i q clip
    have hi : rshift (cmul d p.z).i 16 = i := rfl
    have hq : rshift (cmul d p.z).q 16 = q := rfl
    have hc : (saturates 32 i || saturates 32 q) = clip := rfl
    clear_value clip i q
    exact State.demixBegin_alone hpts hm hd hs ht rfl hi hq hc
  case pair =>
    intro p x hp hx hi hne he hsp hsx hdp hdx d m i q clip
    have hri : rshift (cadd (cmul d p.z) (cmul m x.z)).i 16 = i := rfl
    have hrq : rshift (cadd (cmul d p.z) (cmul m x.z)).q 16 = q := rfl
    have hc : (saturates 32 i || saturates 32 q) = clip := rfl
    clear_value clip i q
    exact ⟨fun hm => demixPoint_pair_mixed hp hx hi hne he hsp hsx hdp hdx rfl hri hrq hc hm,
      fun hm => demixPoint_pair_apart hp hx hi hne he hsp hsx hdp hdx rfl hri hrq hc hm⟩

end Sys2Proof.Machine
end

/-! ### Verdicts (R191 to R200, R206 to R213) -/

section
namespace Sys2Proof.Machine

variable {s : State}

/-! The nearest centroid and the classification. -/

/-- The first index of the smallest value, over an increasing list of indexes. -/
theorem argmin_map (d : Nat → Int) (m : Nat) (t : List Nat) (h : Nat) (hs : (h :: t).Pairwise (· < ·)) (hm : m ∈ h :: t)
    (hmin : ∀ k ∈ h :: t, d m ≤ d k) (hfirst : ∀ k ∈ h :: t, k < m → d m < d k) :
    argmin (h, d h) (t.map (fun k => (k, d k))) = (m, d m) := by
  induction t generalizing h with
  | nil => rw [List.mem_singleton.1 hm, List.map_nil, argmin]
  | cons x t ih =>
    obtain ⟨hlt, hs'⟩ := List.pairwise_cons.1 hs
    obtain ⟨hxt, ht⟩ := List.pairwise_cons.1 hs'
    have hhx : h < x := hlt x List.mem_cons_self
    simp only [List.map_cons, argmin]
    by_cases hx : d x < d h
    · have hmh : m ≠ h := by
        rintro rfl
        exact absurd (hmin x (by simp)) (Int.not_le.2 hx)
      rw [if_pos hx]
      exact ih x hs' ((List.mem_cons.1 hm).resolve_left hmh) (fun k hk => hmin k (List.mem_cons_of_mem h hk))
        (fun k hk => hfirst k (List.mem_cons_of_mem h hk))
    · have hmx : m ≠ x := by
        rintro rfl
        exact hx (hfirst h (by simp) hhx)
      have hkeep : ∀ k ∈ h :: t, k ∈ h :: x :: t := by
        intro k hk
        rcases List.mem_cons.1 hk with rfl | hk
        · exact List.mem_cons_self
        · exact List.mem_cons_of_mem _ (List.mem_cons_of_mem _ hk)
      rw [if_neg hx]
      refine ih h (List.pairwise_cons.2 ⟨fun k hk => hlt k (List.mem_cons_of_mem x hk), ht⟩) ?_
        (fun k hk => hmin k (hkeep k hk)) (fun k hk => hfirst k (hkeep k hk))
      rcases List.mem_cons.1 hm with rfl | hm
      · exact List.mem_cons_self
      · exact List.mem_cons_of_mem _ ((List.mem_cons.1 hm).resolve_left hmx)

/-- The squared distance of a point from centroid k of a list, in units of 2^-32. -/
def sqDist (cs : List Iq) (z : Iq) (k : Nat) : Int :=
  (65536 * z.i - (cs.getD k ⟨0, 0⟩).i) ^ 2 + (65536 * z.q - (cs.getD k ⟨0, 0⟩).q) ^ 2

theorem dist2_scaled (z c : Iq) : dist2 (scaled z) c = (65536 * z.i - c.i) ^ 2 + (65536 * z.q - c.q) ^ 2 := by
  simp only [dist2, scaled]
  grind

theorem distances_eq {n : Nat} (hn : n ≤ 3) (c0 c1 c2 z : Iq) :
    ((List.range n).zip [c0, c1, c2]).map (fun e => (e.1, dist2 (scaled z) e.2)) =
      (List.range n).map (fun k => (k, sqDist [c0, c1, c2] z k)) := by
  have hcases : n = 0 ∨ n = 1 ∨ n = 2 ∨ n = 3 := by omega
  simp only [dist2_scaled, sqDist]
  rcases hcases with rfl | rfl | rfl | rfl <;> rfl

theorem cfgNcent_le (cfg : Nat) : cfgNcent cfg ≤ 3 := by
  have h : cfgNcent cfg < 2 ^ 2 := Nat.mod_lt _ (by decide)
  omega

/-- A list of indexes as its head and tail, with the images. -/
theorem exists_cons_of_mem {l : List Nat} {m : Nat} (hm : m ∈ l) : ∃ h t, l = h :: t := by
  cases l with
  | nil => exact absurd hm List.not_mem_nil
  | cons h t => exact ⟨h, t, rfl⟩

/-- The classification of a point inside its radius, over the other centroids with their distances. -/
def judgeMargin (cfg n : Nat) (dn : Int) (cs : List Iq) : List (Nat × Int) → Judged
  | [] => ⟨n, 0, n, true⟩
  | o :: os =>
    let m := argmin o os
    let g := m.2 - dn
    let l2 := dist2 (cs.getD m.1 ⟨0, 0⟩) (cs.getD n ⟨0, 0⟩)
    let mg := cfgMargin cfg * 65536
    let cm := cfgConf cfg * 65536
    if (l2 = 0 ∧ 0 < mg) ∨ g * g < 4 * (mg * mg) * l2 then ⟨3, 2, n, false⟩
    else ⟨n, 0, n, decide (cm = 0) || (decide (0 < l2) && decide (4 * (cm * cm) * l2 ≤ g * g))⟩

section
variable {cfg n : Nat} {c0 c1 c2 z : Iq} (hn : n < cfgNcent cfg)
  (hmin : ∀ k, k < cfgNcent cfg → sqDist [c0, c1, c2] z n ≤ sqDist [c0, c1, c2] z k)
  (hfirst : ∀ k, k < n → sqDist [c0, c1, c2] z n < sqDist [c0, c1, c2] z k)
include hn hmin hfirst

/-- The classification once the nearest centroid is known. -/
theorem judge_nearest :
    judge cfg [c0, c1, c2] z =
      if (65536 * cfgRadius cfg n) ^ 2 < sqDist [c0, c1, c2] z n then ⟨3, 1, n, false⟩
      else
        judgeMargin cfg n (sqDist [c0, c1, c2] z n) [c0, c1, c2]
          (((List.range (cfgNcent cfg)).filter (fun k => decide (k ≠ n))).map (fun k => (k, sqDist [c0, c1, c2] z k))) := by
  obtain ⟨h, t, hl⟩ := exists_cons_of_mem (List.mem_range.2 hn)
  have hsorted : (h :: t).Pairwise (· < ·) := hl ▸ List.pairwise_lt_range
  have hmem : n ∈ h :: t := hl ▸ List.mem_range.2 hn
  have hbest : argmin (h, sqDist [c0, c1, c2] z h) (t.map (fun k => (k, sqDist [c0, c1, c2] z k))) =
      (n, sqDist [c0, c1, c2] z n) :=
    argmin_map _ n t h hsorted hmem (fun k hk => hmin k (List.mem_range.1 (hl ▸ hk))) (fun k _ => hfirst k)
  have hsq : cfgRadius cfg n * 65536 * (cfgRadius cfg n * 65536) = (65536 * cfgRadius cfg n) ^ 2 := by grind
  have hfilter : ∀ l : List Nat, (l.map (fun k => (k, sqDist [c0, c1, c2] z k))).filter (fun e => decide (e.1 ≠ n)) =
      (l.filter (fun k => decide (k ≠ n))).map (fun k => (k, sqDist [c0, c1, c2] z k)) := by
    intro l
    rw [List.filter_map]
    rfl
  rw [judge, distances_eq (cfgNcent_le cfg), hl, List.map_cons]
  simp only [hbest, hsq, ← hfilter, List.map_cons]
  congr 1

theorem judge_outside (hr : (65536 * cfgRadius cfg n) ^ 2 < sqDist [c0, c1, c2] z n) :
    judge cfg [c0, c1, c2] z = ⟨3, 1, n, false⟩ :=
  (judge_nearest hn hmin hfirst).trans (if_pos hr)

variable (hr : sqDist [c0, c1, c2] z n ≤ (65536 * cfgRadius cfg n) ^ 2)
include hr

theorem judge_single (h1 : cfgNcent cfg = 1) : judge cfg [c0, c1, c2] z = ⟨n, 0, n, true⟩ := by
  have hn0 : n = 0 := by omega
  rw [judge_nearest hn hmin hfirst, if_neg (Int.not_lt.2 hr), h1, hn0]
  rfl

variable {m : Nat} (hm : m < cfgNcent cfg) (hmn : m ≠ n)
  (hmin2 : ∀ k, k < cfgNcent cfg → k ≠ n → sqDist [c0, c1, c2] z m ≤ sqDist [c0, c1, c2] z k)
  (hfirst2 : ∀ k, k < m → k ≠ n → sqDist [c0, c1, c2] z m < sqDist [c0, c1, c2] z k)
  {g l : Int} (hg : sqDist [c0, c1, c2] z m - sqDist [c0, c1, c2] z n = g)
  (hd : ((([c0, c1, c2] : List Iq).getD m ⟨0, 0⟩).i - (([c0, c1, c2] : List Iq).getD n ⟨0, 0⟩).i) ^ 2 +
    ((([c0, c1, c2] : List Iq).getD m ⟨0, 0⟩).q - (([c0, c1, c2] : List Iq).getD n ⟨0, 0⟩).q) ^ 2 = l)
include hm hmn hmin2 hfirst2 hg hd

/-- The classification once the second nearest centroid is known too. -/
theorem judge_second :
    judge cfg [c0, c1, c2] z =
      if (l = 0 ∧ 0 < 65536 * cfgMargin cfg) ∨ g ^ 2 < 4 * (65536 * cfgMargin cfg) ^ 2 * l then ⟨3, 2, n, false⟩
      else ⟨n, 0, n, decide (65536 * cfgConf cfg = 0 ∨ 0 < l ∧ 4 * (65536 * cfgConf cfg) ^ 2 * l ≤ g ^ 2)⟩ := by
  have hin : m ∈ (List.range (cfgNcent cfg)).filter (fun k => decide (k ≠ n)) :=
    List.mem_filter.2 ⟨List.mem_range.2 hm, decide_eq_true hmn⟩
  obtain ⟨h, t, hl⟩ := exists_cons_of_mem hin
  have hof : ∀ k ∈ h :: t, k < cfgNcent cfg ∧ k ≠ n := by
    intro k hk
    obtain ⟨hk1, hk2⟩ := List.mem_filter.1 (hl ▸ hk)
    exact ⟨List.mem_range.1 hk1, of_decide_eq_true hk2⟩
  have hsorted : (h :: t).Pairwise (· < ·) := hl ▸ List.pairwise_lt_range.filter _
  have hbest : argmin (h, sqDist [c0, c1, c2] z h) (t.map (fun k => (k, sqDist [c0, c1, c2] z k))) =
      (m, sqDist [c0, c1, c2] z m) :=
    argmin_map _ m t h hsorted (hl ▸ hin) (fun k hk => hmin2 k (hof k hk).1 (hof k hk).2)
      (fun k hk hlt => hfirst2 k hlt (hof k hk).2)
  have hl2 : dist2 (([c0, c1, c2] : List Iq).getD m ⟨0, 0⟩) (([c0, c1, c2] : List Iq).getD n ⟨0, 0⟩) = l := by
    rw [← hd, dist2]
    grind
  have hmg : cfgMargin cfg * 65536 = 65536 * cfgMargin cfg := Int.mul_comm _ _
  have hcm : cfgConf cfg * 65536 = 65536 * cfgConf cfg := Int.mul_comm _ _
  have hsq : ∀ x : Int, x * x = x ^ 2 := fun x => by grind
  rw [judge_nearest hn hmin hfirst, if_neg (Int.not_lt.2 hr), hl, List.map_cons]
  simp only [judgeMargin, hbest, hg, hl2, hmg, hcm, hsq, Bool.decide_or, Bool.decide_and]

theorem judge_boundary (hb : g ^ 2 < 4 * (65536 * cfgMargin cfg) ^ 2 * l ∨ l = 0 ∧ 0 < 65536 * cfgMargin cfg) :
    judge cfg [c0, c1, c2] z = ⟨3, 2, n, false⟩ :=
  (judge_second hn hmin hfirst hr hm hmn hmin2 hfirst2 hg hd).trans (if_pos hb.symm)

theorem judge_clear (hb : 4 * (65536 * cfgMargin cfg) ^ 2 * l ≤ g ^ 2) (h0 : l ≠ 0 ∨ 65536 * cfgMargin cfg ≤ 0) :
    judge cfg [c0, c1, c2] z =
      ⟨n, 0, n, decide (65536 * cfgConf cfg = 0 ∨ 0 < l ∧ 4 * (65536 * cfgConf cfg) ^ 2 * l ≤ g ^ 2)⟩ := by
  have hnot : ¬ ((l = 0 ∧ 0 < 65536 * cfgMargin cfg) ∨ g ^ 2 < 4 * (65536 * cfgMargin cfg) ^ 2 * l) := by
    rintro (⟨h1, h2⟩ | h1)
    · exact h0.elim (fun h => h h1) (fun h => absurd h2 (Int.not_lt.2 h))
    · exact absurd h1 (Int.not_lt.2 hb)
  exact (judge_second hn hmin hfirst hr hm hmn hmin2 hfirst2 hg hd).trans (if_neg hnot)

end

/-! Adaptation. -/

theorem drifts_eq (cfg n : Nat) (v : Iq) :
    drifts cfg n v = decide ((65536 * cfgDriftLim cfg) ^ 2 <
      (65536 * (cfgSeed cfg n).i - v.i) ^ 2 + (65536 * (cfgSeed cfg n).q - v.q) ^ 2) := by
  have hlim : cfgDriftLim cfg * 65536 * (cfgDriftLim cfg * 65536) = (65536 * cfgDriftLim cfg) ^ 2 := by grind
  have hdist : dist2 v (scaled (cfgSeed cfg n)) =
      (65536 * (cfgSeed cfg n).i - v.i) ^ 2 + (65536 * (cfgSeed cfg n).q - v.q) ^ 2 := by
    simp only [dist2, scaled]
    grind
  rw [drifts, hlim, hdist]

theorem proposed_eq (o z : Iq) (k : Nat) :
    proposed o z k = ⟨o.i + rshift (65536 * z.i - o.i) k, o.q + rshift (65536 * z.q - o.q) k⟩ := by
  simp only [proposed, scaled, Int.mul_comm z.i, Int.mul_comm z.q]

section
variable {c n p : Nat} {z v : Iq} (hv : proposed (s.centroid c n) z (cfgK (s.liveObj 0x08 c)) = v)
include hv

theorem State.adapt_near (hn : drifts (s.liveObj 0x08 c) n v = false) :
    s.adapt c n z p = (s.setCentroid c n v).count 0x06 c 20 := by
  simp only [State.adapt, hv, hn, Bool.false_eq_true, if_false]

theorem State.adapt_far (hf : drifts (s.liveObj 0x08 c) n v = true) :
    s.adapt c n z p = ({ s.raiseWith Fld.disc.drift c Fld.disc.driftTick p with vd := { s.vd with
      drift := s.vd.drift ||| (1 <<< c) } }).count 0x06 c 21 := by
  simp only [State.adapt, hv, hf, if_true]

end

/-! Production. -/

/-- The state in which a point of channel c has left its discriminator. -/
def State.pointLeft (s : State) (c : Nat) (pt : Pt) : State :=
  { s with rd := { s.rd with pts := dropPt c pt.p s.rd.pts } }

/-- The state in which a verdict of channel c is on its way, after the discriminator's answer. -/
def State.verdictSent (s : State) (c : Nat) (pt : Pt) (v : Verdict) (why p : Nat) : State :=
  ({ ((s.setF Fld.disc.lastProdTick c p).setF Fld.disc.lastCode c v.code).erasureEvent c v.code with
    vd := { (((s.setF Fld.disc.lastProdTick c p).setF Fld.disc.lastCode c v.code).erasureEvent c v.code).vd with
      flight := (((s.setF Fld.disc.lastProdTick c p).setF Fld.disc.lastCode c v.code).erasureEvent c v.code).vd.flight ++
        [(⟨c, v, 0, why, pt.z, pt.shot, pt.s⟩ : VPend)] } }).exportVerdict c v

theorem State.produceVerdict_eq {c : Nat} {pt : Pt} (hd : s.verdictDue c = some pt) {j : Judged} {s' : State}
    (hj : (s.pointLeft c pt).discriminate c pt.z pt.ovf pt.stale s.tick = (j, s')) {v : Verdict}
    (hv : v = ⟨true, j.code, pt.ovf, pt.stale, bit s'.vd.drift c, pt.demixMark, s.tick, s.tick + 16⟩) :
    s.produceVerdict c =
      if (s'.verdictSent c pt v j.why s.tick).getL Fld.disc.recordEn c = 1 then
        (s'.verdictSent c pt v j.why s.tick).addRecord ⟨s.tick, c, codeFlags v j.why j.nearest, pt.shot % 2 ^ 32, pt.s⟩
      else s'.verdictSent c pt v j.why s.tick := by
  subst hv
  rw [State.produceVerdict, hd]
  have hj' := hj
  simp only [State.pointLeft] at hj'
  simp only [hj']
  rfl

theorem State.discriminate_ovf (c : Nat) (z : Iq) (stale : Bool) (p : Nat) :
    s.discriminate c z true stale p = (⟨3, 3, 0, false⟩, s) := if_pos rfl

theorem State.adaptState_zero (c : Nat) :
    s.adaptState c = 0 ↔ bit s.vd.drift c = false ∧ s.getL Fld.disc.adaptEn c ≠ 0 := by
  rw [State.adaptState]
  cases hb : bit s.vd.drift c
  · by_cases ha : s.getL Fld.disc.adaptEn c = 0 <;> simp [ha]
  · simp

theorem State.discriminate_plain (c : Nat) (z : Iq) (stale : Bool) (p : Nat) {j : Judged}
    (hj : judge (s.liveObj 0x08 c) [s.centroid c 0, s.centroid c 1, s.centroid c 2] z = j) {moves : Prop}
    (hm : moves ↔ (j.code ≠ 3 ∧ j.conf = true ∧ stale = false ∧ bit s.vd.drift c = false ∧
      s.getL Fld.disc.adaptEn c ≠ 0)) [Decidable moves] :
    s.discriminate c z false stale p = (j, if moves then s.adapt c j.nearest z p else s) := by
  have hiff : (j.code ≠ 3 ∧ j.conf = true ∧ (!stale) = true ∧ s.adaptState c = 0) ↔ moves := by
    rw [hm, State.adaptState_zero, Bool.not_eq_true']
  subst hj
  rw [State.discriminate, if_neg Bool.false_ne_true]
  by_cases h : moves
  · rw [if_pos h]
    exact if_pos (hiff.2 h)
  · rw [if_neg h]
    exact if_neg (fun k => h (hiff.1 k))

/-! Delivery. -/

theorem State.countVerdict_objs (f : VPend) : (s.countVerdict f).objs = s.objs := by
  rw [State.countVerdict]
  split
  · rfl
  · dsimp only
    split <;> split <;> split <;> simp only [State.count_objs]

theorem State.countVerdict_pw (f : VPend) : (s.countVerdict f).pw = s.pw := by
  rw [State.countVerdict]
  split
  · rfl
  · dsimp only
    split <;> split <;> split <;> simp only [State.count_pw]

section
variable {f : VPend} (hf : s.vd.flight = [f])
include hf

theorem State.beat_later (ht : s.tick < f.v.deliv) : s.beat = [] := by
  simp [State.beat, hf, Nat.not_le.2 ht]

theorem State.beat_due (ht : f.v.deliv ≤ s.tick) : s.beat = [f] := by
  simp [State.beat, hf, ht, insertPend]

theorem State.flight_later (ht : s.tick < f.v.deliv) :
    s.vd.flight.filter (fun f => decide (s.tick < f.v.deliv)) = s.vd.flight := by
  simp [hf, ht]

theorem State.flight_due (ht : f.v.deliv ≤ s.tick) :
    s.vd.flight.filter (fun f => decide (s.tick < f.v.deliv)) = [] := by
  simp [hf, Nat.not_lt.2 ht]

theorem State.deliverTable_later (ht : s.tick < f.v.deliv) : s.deliverTable = s := by
  rw [State.deliverTable, State.beat_later hf ht, State.flight_later hf ht]
  exact ite_self _

theorem State.deliverVerdicts_later (ht : s.tick < f.v.deliv) : s.deliverVerdicts = s := by
  rw [State.deliverVerdicts, State.beat_later hf ht, ite_self, State.deliverTable_later hf ht]
  rfl

theorem State.deliverVerdicts_unpowered (ht : f.v.deliv ≤ s.tick) (hp : s.powered domMGMT1 = false) :
    s.deliverVerdicts = { s with vd := { s.vd with flight := [] } } := by
  rw [State.deliverVerdicts, if_neg (by simp [hp]), State.deliverTable, State.flight_due hf ht, if_neg (by simp [hp])]
  rfl

theorem State.deliverVerdicts_due (ht : f.v.deliv ≤ s.tick) (hp : s.powered domMGMT1 = true) (hi : f.idx < 512) :
    s.deliverVerdicts =
      ((({ s with vd := { s.vd with flight := [] } }).writeEntry f).countVerdict f).apDeliver f := by
  have hbeat : ∀ u : State, deliverBeat u [f] = (u.writeEntry f).countVerdict f := by
    intro u
    rw [deliverBeat, if_neg (by simp [displaced]), if_pos hi, deliverBeat]
  rw [State.deliverVerdicts, if_pos hp, State.deliverTable, State.beat_due hf ht, State.flight_due hf ht, if_pos hp, hbeat,
    List.foldl_cons, if_pos hi, List.foldl_nil]

end

theorem State.apDeliver_idle {f : VPend} (ha : s.apState (f.idx / 64) ≠ 2) : s.apDeliver f = s :=
  if_pos (.inr (.inl ha))

theorem State.viVerdicts_unpowered (hp : s.powered domVIT = false) (b : List VPend) : s.viVerdicts b = s :=
  if_pos (by simp [hp])

theorem State.viVerdicts_nil : s.viVerdicts [] = s := ite_self _

/-! Record blocks. -/

section
variable {r : VRec} {rest : List VRec} (hb : s.vd.block = r :: rest)
include hb

theorem State.recordsDue_eq : s.recordsDue = decide (r.p + 1000 ≤ s.tick) := by
  rw [State.recordsDue, hb]

theorem State.recordBlockClose_later (ht : s.tick < r.p + 1000) : s.recordBlockClose = s :=
  if_neg (by rw [State.recordsDue_eq hb]; simp [ht])

theorem State.recordBlockClose_due (ht : r.p + 1000 ≤ s.tick) : s.recordBlockClose = s.closeRecords :=
  if_pos (by rw [State.recordsDue_eq hb]; simp [ht])

theorem State.closeRecords_lost (hr : s.ringRoom 6 = false) :
    s.closeRecords = (({ s with vd := { s.vd with block := [] } }).ringLost 6 (r :: rest).length).markLost 0 := by
  rw [State.closeRecords, hb]
  exact if_neg (fun h : s.ringRoom 6 = true => Bool.false_ne_true (hr.symm.trans h))

end

/-- Settles O41: production, classification, adaptation, delivery and records by the equations above. -/
theorem verdictsAreProducedDeliveredAndRecorded : Obligations.VerdictsAreProducedDeliveredAndRecorded := by
  refine ⟨?erased, ?judged, ?judge, ?adapt, ?deliver, ?record⟩
  case erased =>
    intro c pt s hd ho s0 v s1 s3
    have hj : (s.pointLeft c.val pt).discriminate c.val pt.z pt.ovf pt.stale s.tick = (⟨3, 3, 0, false⟩, s0) := by
      rw [ho]
      exact State.discriminate_ovf ..
    have heq := State.produceVerdict_eq hd hj (v := v) (by rw [ho])
    exact ⟨fun hr => congrArg Host.Outcome.next (heq.trans (if_neg hr)),
      fun hr => congrArg Host.Outcome.next (heq.trans (if_pos hr))⟩
  case judged =>
    intro c pt s hd ho s0 j moves s' v s1 s3
    have hj : (s.pointLeft c.val pt).discriminate c.val pt.z pt.ovf pt.stale s.tick = (j, s') := by
      rw [ho]
      exact State.discriminate_plain (s := s0) c.val pt.z pt.stale s.tick (j := j) rfl (moves := moves) Iff.rfl
    have heq := State.produceVerdict_eq hd hj (v := v) (by rw [ho])
    exact ⟨fun hr => congrArg Host.Outcome.next (heq.trans (if_neg hr)),
      fun hr => congrArg Host.Outcome.next (heq.trans (if_pos hr))⟩
  case judge =>
    intro cfg n m c0 c1 c2 z c d radius margin conf g l hn hmin hfirst
    exact ⟨fun hr => judge_outside hn hmin hfirst hr, fun hr h1 => judge_single hn hmin hfirst hr h1,
      fun hr hm hmn hmin2 hfirst2 =>
        ⟨fun hb => judge_boundary hn hmin hfirst hr hm hmn hmin2 hfirst2 rfl rfl hb,
          fun hb h0 => judge_clear hn hmin hfirst hr hm hmn hmin2 hfirst2 rfl rfl hb h0⟩⟩
  case adapt =>
    intro c n p z s cfg o v far
    have hv : proposed (s.centroid c n) z (cfgK (s.liveObj 0x08 c)) = v := proposed_eq ..
    exact ⟨fun hf => State.adapt_near hv ((drifts_eq ..).trans (decide_eq_false (Int.not_lt.2 hf))),
      fun hf => State.adapt_far hv ((drifts_eq ..).trans (decide_eq_true hf))⟩
  case deliver =>
    intro f s hf hi
    refine ⟨fun ht hp => congrArg Host.Outcome.next ?_, fun ht hp => ?_, fun ht hp => congrArg Host.Outcome.next ?_⟩
    · rw [State.deliverVerdicts_later hf ht, State.beat_later hf ht, if_pos hp]
      exact State.viVerdicts_nil
    · intro t
      have hone : standing [f] = [f] := by simp [standing, displaced]
      have heq : s.deliverVerdicts.viVerdicts (if s.powered domMGMT1 then standing s.beat else []) =
          (t.apDeliver f).viVerdicts [f] := by
        rw [State.deliverVerdicts_due hf ht hp hi, State.beat_due hf ht, if_pos hp, hone]
      refine ⟨congrArg Host.Outcome.next heq, fun hv ha => congrArg Host.Outcome.next (heq.trans ?_)⟩
      have hobjs : t.objs = s.objs := State.countVerdict_objs f
      have hpw : t.pw = s.pw := State.countVerdict_pw f
      have ha' : t.apState (f.idx / 64) ≠ 2 := by rwa [State.apState, getF_of_objs_eq hobjs]
      have hv' : t.powered domVIT = false := by rwa [State.powered, hpw]
      rw [State.apDeliver_idle ha', State.viVerdicts_unpowered hv']
    · rw [State.deliverVerdicts_unpowered hf ht hp, if_neg (by simp [hp])]
      exact State.viVerdicts_nil
  case record =>
    intro r rest s hb
    exact ⟨fun ht => congrArg Host.Outcome.next (State.recordBlockClose_later hb ht),
      fun ht hr => congrArg Host.Outcome.next
        ((State.recordBlockClose_due hb ht).trans (State.closeRecords_lost hb hr)),
      fun ht _ => congrArg Host.Outcome.next (State.recordBlockClose_due hb ht)⟩

end Sys2Proof.Machine
end

/-! ### Survey streams and appraiser runs (R229 to R236, R242 to R256) -/

section
namespace Sys2Proof.Machine

variable {s : State} {n : Nat}

/-! Survey streams. -/

/-- The state in which a survey stream runs from its start tick. -/
def State.surveyBegun (s : State) (n : Nat) : State :=
  (s.setF Fld.survey.state n 2).setSvRun n { SvRun.none with
    cfg := s.obj 0x0A n, a := s.tick + fieldOf Fld.survey.delayInt (s.obj 0x0A n)
    intI := List.replicate (svOrder (s.obj 0x0A n)) 0, intQ := List.replicate (svOrder (s.obj 0x0A n)) 0
    combI := List.replicate (svOrder (s.obj 0x0A n)) [], combQ := List.replicate (svOrder (s.obj 0x0A n)) [] }

section
variable (ha : s.svState n = 1) (ht : s.getF Fld.survey.startTick n ≤ s.tick) (hs : s.surveyStopDue n = false)
include ha ht hs

theorem State.surveyStartDue_of : s.surveyStartDue n = true := by
  rw [State.surveyStartDue, decide_eq_true ⟨ha, ht⟩, hs]
  rfl

theorem State.surveyRunStart_runs (hi : s.inputState (svInput (s.obj 0x0A n)) = 3) :
    s.surveyRunStart n = s.surveyBegun n :=
  (if_neg (by simp [State.surveyStartDue_of ha ht hs])).trans (if_pos (.inl hi))

theorem State.surveyRunStart_halts (h3 : s.inputState (svInput (s.obj 0x0A n)) ≠ 3)
    (h4 : s.inputState (svInput (s.obj 0x0A n)) ≠ 4) : s.surveyRunStart n = (s.surveyBegun n).svHalt n 2 :=
  (if_neg (by simp [State.surveyStartDue_of ha ht hs])).trans (if_neg (not_or.2 ⟨h3, h4⟩))

end

theorem State.surveyStopTick_due (hs : s.svState n ≠ 0) (h0 : (sget (fun _ => (0, 0)) s.sv.stop n).1 ≠ 0)
    (ht : (sget (fun _ => (0, 0)) s.sv.stop n).1 ≤ s.tick + 1) : s.surveyStopTick n = s.svHalt n 1 :=
  if_pos (decide_eq_true ⟨h0, ht, hs⟩)

section
variable (hc : (s.svRun n).cfg ≠ 0)
include hc

theorem State.surveyBlockDue_eq :
    s.surveyBlockDue n = (decide (120 ≤ (s.svRun n).block.length) || (s.svRun n).drained s.tick) := by
  rw [State.surveyBlockDue, decide_eq_true hc, Bool.true_and]

theorem State.surveyBlock_full (hb : 120 ≤ (s.svRun n).block.length) : s.surveyBlock n = s.closeBlock n := by
  rw [State.surveyBlock, if_neg (by simp [State.surveyBlockDue_eq hc, hb])]
  exact if_pos hb

theorem State.surveyBlock_running (hb : (s.svRun n).block.length < 120) (ht : (s.svRun n).tp = none) :
    s.surveyBlock n = s :=
  if_pos (by simp [State.surveyBlockDue_eq hc, hb, SvRun.drained, ht])

section
variable {t : Nat} (ht : (s.svRun n).tp = some t) (hd : t + 35 ≤ s.tick)
include ht hd

theorem State.surveyBlock_last (hb : (s.svRun n).block.length < 120) :
    s.surveyBlock n =
      (let last := if (s.svRun n).block ≠ [] then (s.svRun n).block.length else if (s.svRun n).delivered = 0 then 0 else 120
       let s1 := (if (s.svRun n).block = [] then s else s.closeBlock n).setF Fld.survey.lastCount n last
       (s1.svSend n).setSvRun n SvRun.none) := by
  rw [State.surveyBlock, if_neg (by simp [State.surveyBlockDue_eq hc, SvRun.drained, ht, hd])]
  exact if_neg (Nat.not_le.2 hb)

theorem State.surveyBlock_empty (hb : (s.svRun n).block = []) :
    s.surveyBlock n = ((s.setF Fld.survey.lastCount n (if (s.svRun n).delivered = 0 then 0 else 120)).svSend n).setSvRun n
      SvRun.none := by
  rw [State.surveyBlock_last hc ht hd (by simp [hb])]
  simp only [hb, ne_eq, not_true_eq_false, if_false, if_true]

theorem State.surveyBlock_part (hb : (s.svRun n).block ≠ []) (hl : (s.svRun n).block.length < 120) :
    s.surveyBlock n = (((s.closeBlock n).setF Fld.survey.lastCount n (s.svRun n).block.length).svSend n).setSvRun n
      SvRun.none := by
  rw [State.surveyBlock_last hc ht hd hl]
  simp only [if_pos hb, if_neg hb]

end

end

/-! Runs of an appraiser. -/

section
variable (ha : s.apState n = 1) (ht : s.getF Fld.appraiser.startTick n ≤ s.tick) (hg : apTrig s n = false)
include ha ht hg

theorem State.apRunStart_begins : s.apRunStart n = s.apBegin n :=
  if_pos (by rw [State.apStartDue, decide_eq_true ⟨ha, ht⟩, hg]; rfl)

theorem State.apRunStart_runs (hb : (s.apRun n).bound = none) :
    s.apRunStart n =
      ((s.setF Fld.appraiser.startTick n s.tick).setF Fld.appraiser.state n 2).count 0x0A n 0 := by
  rw [State.apRunStart_begins ha ht hg, State.apBegin, hb]
  rfl

theorem State.apRunStart_over {b : Nat} (hb : (s.apRun n).bound = some b) (hle : b ≤ s.tick) :
    s.apRunStart n = (s.setF Fld.appraiser.startTick n s.tick).apFinish n := by
  rw [State.apRunStart_begins ha ht hg]
  exact if_pos (by simp [hb, hle])

end

section
variable {b : Nat} (hb : (s.apRun n).bound = some b)
include hb

theorem State.apRunEnd_armed (ha : s.apState n = 1) (ht : b ≤ s.tick) (he : (apTrig s n && s.apEvent n) = false) :
    s.apRunEnd n = s.apFinish n := by
  have hdue : s.apEndDue n = true := by simp [State.apEndDue, ha, hb, ht, he]
  rw [State.apRunEnd, if_neg (by simp [hdue])]
  exact if_neg (fun k => absurd (ha.symm.trans k.1) (by decide))

theorem State.apRunEnd_running (ha : s.apState n = 2) (ht : b + 15 ≤ s.tick) (hq : (s.apRun n).queue = [])
    (hd : (s.apRun n).doneAt = none) (hr : apRecipe (s.apRun n).cfg ≠ 2) : s.apRunEnd n = s.apFinish n := by
  have hdue : s.apEndDue n = true := by simp [State.apEndDue, ha, hb, ht, hq, hd]
  have hsearch : apSearch (s.apRun n).cfg = 0 := if_neg hr
  rw [State.apRunEnd, if_neg (by simp [hdue])]
  exact if_neg (fun k => k.2.2 hsearch)

end

/-! Points. -/

theorem apExcluded_of {r : ApRun} {x : ApPt}
    (h : x.stale = true ∨ (x.ovf = true ∧ apRecipe r.cfg ≠ 4) ∨
      (apRecipe r.cfg < 3 ∧ 4 ≤ fieldOf Fld.appraiser.stateFilt r.cfg ∧
        x.code ≠ fieldOf Fld.appraiser.stateFilt r.cfg % 4)) : apExcluded r x = true := by
  rcases h with h | ⟨h1, h2⟩ | ⟨h1, h2, h3⟩
  · simp [apExcluded, h]
  · simp [apExcluded, h1, h2]
  · simp [apExcluded, h1, h2, h3]

section
variable {r : ApRun} {x : ApPt} (hs : x.stale = false)
include hs

theorem apExcluded_correlate (ho : x.ovf = false) (hr : apRecipe r.cfg = 3) : apExcluded r x = !apPaired r x := by
  simp [apExcluded, hs, ho, hr]

theorem apExcluded_population (hr : apRecipe r.cfg = 4) : apExcluded r x = false := by
  simp [apExcluded, hs, hr]

theorem apExcluded_filtered (ho : x.ovf = false) (hr : apRecipe r.cfg < 3)
    (hf : fieldOf Fld.appraiser.stateFilt r.cfg < 4 ∨ x.code = fieldOf Fld.appraiser.stateFilt r.cfg % 4) :
    apExcluded r x = false := by
  have hne : apRecipe r.cfg ≠ 3 := by omega
  have hin : ¬ (4 ≤ fieldOf Fld.appraiser.stateFilt r.cfg ∧ x.code ≠ fieldOf Fld.appraiser.stateFilt r.cfg % 4) := by
    rintro ⟨h1, h2⟩
    exact hf.elim (fun h => absurd h1 (Nat.not_le.2 h)) h2
  simp only [apExcluded, hs, ho, decide_eq_false hne, decide_eq_false hin, Bool.false_and, Bool.and_false, Bool.or_false]

end

/-- A run that has taken the oldest point of its queue. -/
def ApRun.popped (r : ApRun) (rest : List ApPt) (p : Nat) : ApRun :=
  { r with queue := rest, seen := r.seen.filter (fun y => decide (y.p = p)) }

section
variable {x : ApPt} {rest : List ApPt} (hq : (s.apRun n).queue = x :: rest) (ha : s.apState n = 2) (ht : x.ready ≤ s.tick)
include hq ha ht

theorem State.apPointDue_of : ¬ ((!s.apPointDue n) = true) := by
  simp [State.apPointDue, hq, ha, ht]

theorem State.apTake_excluded (he : apExcluded ((s.apRun n).popped rest x.p) x = true) :
    s.apTake n = ((s.bump Fld.appraiser.excluded n).count 0x0A n 2).setApRun n
      { (s.apRun n).popped rest x.p with
        seen := ((s.apRun n).popped rest x.p).seen ++ [x]
        staleEx := ((s.apRun n).popped rest x.p).staleEx || x.stale } := by
  rw [State.apTake, if_neg (State.apPointDue_of hq ha ht)]
  simp only [hq]
  exact if_pos he

theorem State.apTake_accepted (he : apExcluded ((s.apRun n).popped rest x.p) x = false) :
    s.apTake n =
      ((((s.setApRun n { (s.apRun n).popped rest x.p with
        seen := ((s.apRun n).popped rest x.p).seen ++ [x]
        first := if ((s.apRun n).popped rest x.p).first.isSome then ((s.apRun n).popped rest x.p).first else some x.s
        erased := ((s.apRun n).popped rest x.p).erased || decide (x.code = 3) }).apOperate n
          (s.getF Fld.appraiser.accepted n) x).bump Fld.appraiser.accepted n).count 0x0A n 1).apLimit n x := by
  rw [State.apTake, if_neg (State.apPointDue_of hq ha ht)]
  simp only [hq]
  exact if_neg (fun h => Bool.false_ne_true (he.symm.trans h))

end

/-! Cells. -/

theorem sat_of_fits {w : Nat} {v : Int} (h : saturates w v = false) : sat w v = v :=
  Classical.not_not.1 (of_decide_eq_false h)

/-- A run whose cell k is w. -/
def ApRun.put (r : ApRun) (k : Nat) (w : Cell) : ApRun := { r with cells := sset (fun _ => Cell.zero) r.cells k w }

section
variable {r : ApRun} (hr : s.apRun n = r) {cell shot before : Nat} {w : Cell}
  (hw : sget (fun _ => Cell.zero) r.cells cell = w) {v : Iq}
include hr hw

theorem State.apAdd_eq :
    s.apAdd n cell shot before v =
      if (w.add v).2 then
        (s.setApRun n { r.put cell (w.add v).1 with ovf := r.ovf || (w.add v).2 }).apOverflow n shot before cell
      else s.setApRun n { r.put cell (w.add v).1 with ovf := r.ovf || (w.add v).2 } := by
  subst hr hw
  rfl

theorem State.apAdd_quiet {w' : Cell} (ha : w.add v = (w', false)) :
    s.apAdd n cell shot before v = s.setApRun n (r.put cell w') := by
  rw [State.apAdd_eq hr hw, ha, Bool.or_false]
  exact if_neg Bool.false_ne_true

theorem State.apAdd_overflow {w' : Cell} (ha : w.add v = (w', true)) :
    s.apAdd n cell shot before v =
      (s.setApRun n { r.put cell w' with ovf := true }).apOverflow n shot before cell := by
  rw [State.apAdd_eq hr hw, ha, Bool.or_true]
  exact if_pos rfl

end

section
variable {w : Cell} {v : Iq} (hq : w.satQ = false) (hqf : saturates 48 (w.q + v.q) = false)
include hq hqf

theorem Cell.add_plain (hi : w.satI = false) (hif : saturates 48 (w.i + v.i) = false) :
    w.add v = ({ w with i := w.i + v.i, q := w.q + v.q, n := w.n + 1 }, false) := by
  simp only [Cell.add, addGuard, hi, hq, hif, hqf, Bool.false_eq_true, if_false, sat_of_fits hif, sat_of_fits hqf,
    Bool.or_false]

theorem Cell.add_saturating (hi : w.satI = false) (hif : saturates 48 (w.i + v.i) = true) :
    w.add v = ({ w with i := sat 48 (w.i + v.i), q := w.q + v.q, n := w.n + 1, satI := true }, true) := by
  simp only [Cell.add, addGuard, hi, hq, hif, hqf, Bool.false_eq_true, if_false, sat_of_fits hqf, Bool.or_false]

theorem Cell.add_saturated (hi : w.satI = true) : w.add v = ({ w with q := w.q + v.q, n := w.n + 1 }, false) := by
  simp only [Cell.add, addGuard, hi, hq, hqf, Bool.false_eq_true, if_false, if_true, sat_of_fits hqf, Bool.or_false]

end

/-! Recipes. -/

/-- A cell of POPULATION that has counted a code. -/
def Cell.withCode (w : Cell) : Nat → Cell
  | 0 => { w with i := w.i + 1 }
  | 1 => { w with q := w.q + 1 }
  | 2 => { w with n := w.n + 1 }
  | _ => { w with m := w.m + 1 }

section
variable {before : Nat} {x : ApPt} {r : ApRun} (hr : s.apRun n = r)
include hr

theorem State.apOperate_sum (hc : apRecipe r.cfg = 0 ∨ apRecipe r.cfg = 2) :
    s.apOperate n before x =
      s.apAdd n (apRank r.cfg (x.rc % 64) * apNbins r.cfg + apBin r.cfg x.shot) x.shot before x.z := by
  subst hr
  rcases hc with hc | hc <;> simp only [State.apOperate, hc]

section
variable (hc : apRecipe r.cfg = 1) {bx yb : Int}
  (hx : (x.z.i - toS 32 (fieldOf Fld.appraiser.hOriginI r.cfg)) / (2 : Int) ^ fieldOf Fld.appraiser.hShift r.cfg = bx)
  (hy : (x.z.q - toS 32 (fieldOf Fld.appraiser.hOriginQ r.cfg)) / (2 : Int) ^ fieldOf Fld.appraiser.hShift r.cfg = yb)
include hc hx hy

theorem State.apOperate_inside (hin : 0 ≤ bx ∧ bx < 64 ∧ 0 ≤ yb ∧ yb < 64) {bin : Nat}
    (hb : apRank r.cfg (x.rc % 64) * 4096 + 64 * yb.toNat + bx.toNat = bin) :
    s.apOperate n before x = s.setApRun n (r.put bin { sget (fun _ => Cell.zero) r.cells bin with
      n := (sget (fun _ => Cell.zero) r.cells bin).n + 1 }) := by
  subst hr hx hy hb
  simp only [State.apOperate, hc]
  exact if_pos hin

theorem State.apOperate_outside (hout : ¬ (0 ≤ bx ∧ bx < 64 ∧ 0 ≤ yb ∧ yb < 64)) :
    s.apOperate n before x = s.setApRun n { r with
      outside := sset (fun _ => 0) r.outside (apRank r.cfg (x.rc % 64))
        (sget (fun _ => 0) r.outside (apRank r.cfg (x.rc % 64)) + 1) } := by
  subst hr hx hy
  simp only [State.apOperate, hc]
  exact if_neg hout

end

theorem State.apOperate_population (hc : apRecipe r.cfg = 4) {cell : Nat}
    (hk : apRank r.cfg (x.rc % 64) * apNbins r.cfg + apBin r.cfg x.shot = cell) {w : Cell}
    (hw : sget (fun _ => Cell.zero) r.cells cell = w) {w' : Cell}
    (hw' : w.withCode x.code = w') : s.apOperate n before x = s.setApRun n (r.put cell w') := by
  subst hr hk hw hw'
  simp only [State.apOperate, hc]
  rfl

section
variable (hc : apRecipe r.cfg = 3) {q a b : Nat} (hp : apPairs r.cfg = [(q, a, b)])
include hc hp

theorem State.apOperate_correlate :
    s.apOperate n before x =
      if a = x.rc % 64 ∧ b = x.rc % 64 then s.apCorrelate n q before x x
      else if a = x.rc % 64 then (apOther r x b).elim s (fun y => s.apCorrelate n q before x y)
      else if b = x.rc % 64 then (apOther r x a).elim s (fun y => s.apCorrelate n q before y x)
      else s := by
  subst hr
  simp only [State.apOperate, hc, hp, List.foldl_cons, List.foldl_nil]
  cases apOther (s.apRun n) x b <;> cases apOther (s.apRun n) x a <;> rfl

theorem State.apOperate_square (ha : x.rc % 64 = a) (hb : x.rc % 64 = b) :
    s.apOperate n before x = s.apCorrelate n q before x x := by
  rw [State.apOperate_correlate hr hc hp, if_pos ⟨ha.symm, hb.symm⟩]

theorem State.apOperate_first {y : ApPt} (ha : x.rc % 64 = a) (hb : x.rc % 64 ≠ b) (hy : apOther r x b = some y) :
    s.apOperate n before x = s.apCorrelate n q before x y := by
  rw [State.apOperate_correlate hr hc hp, if_neg (fun k => hb k.2.symm), if_pos ha.symm, hy]
  rfl

theorem State.apOperate_later {y : ApPt} (ha : x.rc % 64 ≠ a) (hb : x.rc % 64 = b) (hy : apOther r x a = some y) :
    s.apOperate n before x = s.apCorrelate n q before y x := by
  rw [State.apOperate_correlate hr hc hp, if_neg (fun k => ha k.1.symm), if_neg (Ne.symm ha), if_pos hb.symm, hy]
  rfl

end

theorem State.apLimit_reached {lim : Nat} (hl : fieldOf Fld.appraiser.pointLimit r.cfg = lim) (h0 : lim ≠ 0)
    (ha : s.getF Fld.appraiser.accepted n = lim) :
    s.apLimit n x = (s.setF Fld.appraiser.stopTick n (x.p + 1)).setApRun n { r with
      bound := some (x.p + 1), reason := 1, queue := [], doneAt := some (s.tick + apSearch r.cfg) } := by
  subst hr hl
  rw [State.apLimit, if_pos (.inl ⟨h0, ha⟩), if_pos ⟨h0, ha⟩]

theorem State.apLimit_below {lim : Nat} (hl : fieldOf Fld.appraiser.pointLimit r.cfg = lim)
    (hm : s.getF Fld.appraiser.accepted n ≠ 2 ^ 32 - 1) (ha : s.getF Fld.appraiser.accepted n ≠ lim) :
    s.apLimit n x = s := by
  subst hr hl
  exact if_neg (fun h => h.elim (fun h => ha h.2) hm)

end

/-! Products. -/

section
variable {q before : Nat} {a b : ApPt} {c : Nat} (hc : (s.apRun n).cfg = c) {i j : Int}
  (hi : rshift (a.z.i * b.z.i + a.z.q * b.z.q) (fieldOf Fld.appraiser.prodShift c) = i)
  (hj : rshift (a.z.q * b.z.i - a.z.i * b.z.q) (fieldOf Fld.appraiser.prodShift c) = j)
include hc hi hj

theorem State.apCorrelate_eq :
    s.apCorrelate n q before a b =
      (let hits := (if saturates 40 i then 1 else 0) + (if saturates 40 j then 1 else 0)
       (if hits = 0 then s
        else ((s.raise Fld.appraiser.prodSat n).countN 0x0A n 5 hits).setApRun n { s.apRun n with prodSat := true }).apAdd n
          (q * apNbins c + apBin c a.shot) a.shot before ⟨sat 40 i, sat 40 j⟩) := by
  subst hc hi hj
  rfl

theorem State.apCorrelate_fits (h1 : saturates 40 i = false) (h2 : saturates 40 j = false) :
    s.apCorrelate n q before a b = s.apAdd n (q * apNbins c + apBin c a.shot) a.shot before ⟨i, j⟩ := by
  rw [State.apCorrelate_eq hc hi hj, sat_of_fits h1, sat_of_fits h2, h1, h2]
  rfl

theorem State.apCorrelate_clips {hits : Nat} (h1 : saturates 40 i = true)
    (h2 : hits = 1 + if saturates 40 j then 1 else 0) :
    s.apCorrelate n q before a b =
      (((s.raise Fld.appraiser.prodSat n).countN 0x0A n 5 hits).setApRun n { s.apRun n with prodSat := true }).apAdd n
        (q * apNbins c + apBin c a.shot) a.shot before ⟨sat 40 i, sat 40 j⟩ := by
  have h0 : hits ≠ 0 := by omega
  rw [State.apCorrelate_eq hc hi hj, h1]
  simp only [if_true, ← h2, if_neg h0]

end

/-- Settles O42: streams, runs, points, cells and products by the equations above. -/
theorem surveyAndAppraiserRuns : Obligations.SurveyAndAppraiserRuns := by
  refine ⟨⟨?start, ?stop, ?block⟩, ?run, ?point, ?excluded, ?operate, ?product, ?done⟩
  case start =>
    intro n s ha ht hs c t
    exact ⟨fun h3 => congrArg Host.Outcome.next (State.surveyRunStart_runs ha ht hs h3),
      fun h3 h4 => congrArg Host.Outcome.next (State.surveyRunStart_halts ha ht hs h3 h4)⟩
  case stop =>
    intro n s hs h0 ht
    exact congrArg Host.Outcome.next (State.surveyStopTick_due hs h0 ht)
  case block =>
    intro n s hc
    exact ⟨fun hb => congrArg Host.Outcome.next (State.surveyBlock_full hc hb),
      fun t ht hd hb => congrArg Host.Outcome.next (State.surveyBlock_empty hc ht hd hb),
      fun t ht hd hb hl => congrArg Host.Outcome.next (State.surveyBlock_part hc ht hd hb hl),
      fun ht hb => congrArg Host.Outcome.next (State.surveyBlock_running hc hb ht)⟩
  case run =>
    intro n s ha ht hg
    exact ⟨fun hb => congrArg Host.Outcome.next (State.apRunStart_runs ha ht hg hb),
      fun b hb hle => congrArg Host.Outcome.next (State.apRunStart_over ha ht hg hb hle)⟩
  case point =>
    intro n x rest s hq ha ht r t
    exact ⟨fun he => congrArg Host.Outcome.next (State.apTake_excluded hq ha ht he),
      fun he => congrArg Host.Outcome.next (State.apTake_accepted hq ha ht he)⟩
  case excluded =>
    intro r x filt
    exact ⟨apExcluded_of, apExcluded_correlate, apExcluded_population, apExcluded_filtered⟩
  case operate =>
    intro n before x s r m cell w put h bx yb bin inside
    have hr : s.apRun n = r := rfl
    have hput : put = r.put := rfl
    have hw : sget (fun _ => Cell.zero) r.cells cell = w := rfl
    have hk : apRank r.cfg (x.rc % 64) * apNbins r.cfg + apBin r.cfg x.shot = cell := rfl
    clear_value put
    subst hput
    refine ⟨fun hc hi hq => ⟨fun hif hqf => ?_, fun hif hqf => ?_⟩, fun hc hi hq hqf => ?_,
      fun hc hin => State.apOperate_inside hr hc rfl rfl hin rfl, fun hc hout => State.apOperate_outside hr hc rfl rfl hout,
      fun hc => ⟨fun h => State.apOperate_population hr hc hk hw (by rw [h]; rfl), fun h => State.apOperate_population hr hc hk hw
          (by rw [h]; rfl), fun h => State.apOperate_population hr hc hk hw (by rw [h]; rfl),
        fun h => State.apOperate_population hr hc hk hw (by rw [h]; rfl)⟩,
      fun hc q a b hp => ⟨State.apOperate_square hr hc hp, fun _ => State.apOperate_first hr hc hp,
        fun _ => State.apOperate_later hr hc hp⟩,
      State.apLimit_reached hr rfl, State.apLimit_below hr rfl⟩
    · exact (State.apOperate_sum hr hc).trans (State.apAdd_quiet hr hw (Cell.add_plain hq hqf hi hif))
    · exact (State.apOperate_sum hr hc).trans (State.apAdd_overflow hr hw (Cell.add_saturating hq hqf hi hif))
    · exact (State.apOperate_sum hr hc).trans (State.apAdd_quiet hr hw (Cell.add_saturated hq hqf hi))
  case product =>
    intro n q before a b s c k i j cell u
    refine ⟨State.apCorrelate_fits rfl rfl rfl, fun h1 h2 => ?_,
      fun h1 h2 => State.apCorrelate_clips rfl rfl rfl h1 (by rw [h2]; rfl)⟩
    have hj : sat 40 j = j := sat_of_fits h2
    rw [State.apCorrelate_clips (hits := 1) rfl rfl rfl h1 (by rw [h2]; rfl), hj]
  case done =>
    intro n b s hb
    exact ⟨fun ha ht he => congrArg Host.Outcome.next (State.apRunEnd_armed hb ha ht he),
      fun ha ht hq hd hr => congrArg Host.Outcome.next (State.apRunEnd_running hb ha ht hq hd hr)⟩

end Sys2Proof.Machine
end

/-! ### Vitrine runs (R268 to R280) -/

section
namespace Sys2Proof.Machine

variable {s : State} {v : Nat}

theorem State.viStart_due (ha : s.viState v = 1) (ht : (s.viRun v).ta ≤ s.tick) (hs : (s.viRun v).started = false) :
    s.viStart v = s.setViRun v { s.viRun v with started := true } :=
  if_pos (by simp [State.viStartDue, ha, ht, hs])

/-! What a trigger does. -/

/-- The state in which an armed vitrine takes a trigger at ball tick t, sample k, of a source. -/
def State.viTaken (s : State) (v t k cause : Nat) : State :=
  ((s.setViRun v { s.viRun v with before := s.obj 0x0C v, byEvt := decide (cause = 0), unsettled := true }).setF
    Fld.vitrine.state v 2).viGeometry v t k cause

section
variable {t k cause : Nat}

theorem State.viTrigger_armed (ha : s.viState v = 1) (ht : viTakes (s.viRun v) t = true) :
    s.viTrigger v t k cause = (true, s.viTaken v t k cause) := if_pos ⟨ha, ht⟩

theorem State.viTrigger_early (ha : s.viState v = 1) (ht : viTakes (s.viRun v) t = false) :
    s.viTrigger v t k cause = (false, s.viIgnored v t) := by
  rw [State.viTrigger, if_neg (by simp [ht]), if_neg (by simp [ha]), if_neg (by simp [ha])]

theorem State.viTrigger_again (ha : s.viState v = 2) (ht : (s.viRun v).trig = t) :
    s.viTrigger v t k cause =
      (true, (s.setViRun v { s.viRun v with byEvt := (s.viRun v).byEvt || decide (cause = 0) }).setF Fld.vitrine.trigCause v
        (s.getF Fld.vitrine.trigCause v ||| (1 <<< cause))) := by
  rw [State.viTrigger, if_neg (by simp [ha]), if_pos ⟨ha, ht⟩]

theorem State.viTrigger_earlier (ha : s.viState v = 2) (hb : t < (s.viRun v).trig) (ht : viTakes (s.viRun v) t = true) :
    s.viTrigger v t k 2 = (true, (s.viIgnoreTaken v).viGeometry v t k 2) := by
  rw [State.viTrigger, if_neg (by simp [ha]), if_neg (fun h => absurd h.2 (Nat.ne_of_gt hb)), if_pos ⟨ha, rfl, hb, ht⟩]

theorem State.viTrigger_late (ha : s.viState v = 2)
    (hb : (s.viRun v).trig < t ∨ (t < (s.viRun v).trig ∧ viTakes (s.viRun v) t = false)) :
    s.viTrigger v t k cause = (false, s.viIgnored v t) := by
  have hne : (s.viRun v).trig ≠ t := by omega
  have hnot : ¬ (t < (s.viRun v).trig ∧ viTakes (s.viRun v) t = true) := by
    rintro ⟨h1, h2⟩
    rcases hb with hb | ⟨-, hb⟩
    · omega
    · exact Bool.false_ne_true (hb.symm.trans h2)
  rw [State.viTrigger, if_neg (by simp [ha]), if_neg (fun h => hne h.2), if_neg (fun h => hnot h.2.2)]

theorem State.viTrigger_idle (h1 : s.viState v ≠ 1) (h2 : s.viState v ≠ 2) :
    s.viTrigger v t k cause = (false, s.viIgnored v t) := by
  rw [State.viTrigger, if_neg (fun h => h1 h.1), if_neg (fun h => h2 h.1), if_neg (fun h => h2 h.1)]

end

/-! Level crossings, the time-base tick and events. -/

section
variable {n k : Nat} {l : List (Nat × Nat)} (hl : (s.viRun v).lvl = (n, k) :: l)
include hl

theorem State.viLevel_later (ht : s.tick < n) : s.viLevel v = s :=
  if_pos (by simp [State.viLevelDue, hl, Nat.not_le.2 ht])

theorem State.viLevel_due (ht : n ≤ s.tick) :
    s.viLevel v = ((s.setViRun v { s.viRun v with lvl := l }).viTrigger v n k 2).2 := by
  rw [State.viLevel, if_neg (by simp [State.viLevelDue, hl, ht]), hl]

end

theorem State.viCfg_of_run (ha : s.viState v = 1) : s.viCfg v = (s.viRun v).cfg :=
  if_neg (fun h => absurd (ha.symm.trans h) (by decide))

theorem State.viTbDue_of (hp : s.powered domVIT = true) (ha : s.viState v = 1)
    (hb : bit (fieldOf Fld.vitrine.trigEn (s.viRun v).cfg) 3 = true)
    (ht : fieldOf Fld.vitrine.tbTick (s.viRun v).cfg = s.tick) : s.viTbDue v = true := by
  rw [State.viTbDue, State.viCfg_of_run ha, hp, hb, decide_eq_true ht]
  rfl

theorem State.evtVitrine_absent (hp : s.powered domVIT = false) : s.evtVitrine v = s.absentDrop (128 + v) :=
  if_pos (by simp [hp])

section
variable (hp : s.powered domVIT = true) (ha : s.viState v = 1)
include hp ha

theorem State.evtVitrine_disabled (hb : bit (fieldOf Fld.vitrine.trigEn (s.viRun v).cfg) 0 = false) :
    s.evtVitrine v = s.busyDrop (128 + v) := by
  rw [State.evtVitrine, if_neg (by simp [hp]), State.viCfg_of_run ha, hb]
  rfl

variable (hb : bit (fieldOf Fld.vitrine.trigEn (s.viRun v).cfg) 0 = true)
include hb

theorem State.evtVitrine_enabled :
    s.evtVitrine v = if (s.viTrigger v s.tick 0 0).1 then (s.viTrigger v s.tick 0 0).2
      else (s.viTrigger v s.tick 0 0).2.busyDrop (128 + v) := by
  rw [State.evtVitrine, if_neg (by simp [hp]), State.viCfg_of_run ha, hb]
  rfl

theorem State.evtVitrine_taken (ht : viTakes (s.viRun v) s.tick = true) : s.evtVitrine v = s.viTaken v s.tick 0 0 := by
  rw [State.evtVitrine_enabled hp ha hb, State.viTrigger_armed ha ht]
  rfl

theorem State.evtVitrine_ignored (ht : viTakes (s.viRun v) s.tick = false) :
    s.evtVitrine v = (s.viIgnored v s.tick).busyDrop (128 + v) := by
  rw [State.evtVitrine_enabled hp ha hb, State.viTrigger_early ha ht]
  rfl

end

theorem State.viIgnored_known {t : Nat} (h : t ∈ (s.viRun v).ignored) : s.viIgnored v t = s :=
  if_pos (List.contains_iff_mem.2 h)

theorem State.viIgnored_new {t : Nat} (h : t ∉ (s.viRun v).ignored) :
    s.viIgnored v t = (s.setViRun v { s.viRun v with
      ignored := t :: (s.viRun v).ignored.filter (fun x => decide (s.tick < x + 128)) }).count 0x0B v 2 :=
  if_neg (fun k => h (List.contains_iff_mem.1 k))

/-! The end of a tick. -/

section
variable (hu : (s.viRun v).unsettled = true)
include hu

theorem State.viSettle_eq :
    s.viSettle v =
      (let t := (s.setViRun v { s.viRun v with unsettled := false }).count 0x0B v 1
       if (s.viRun v).byEvt then t.count 0x12 (128 + v) 0 else t) := by
  rw [State.viSettle, if_neg (by simp [hu])]
  rfl

end

theorem State.viTick_unclocked (hc : s.vitClocked = false) (hf : (s.viRun v).final = true) :
    s.viTick v = s.viSettle v := by
  simp only [State.viTick, hc, Bool.not_false, or_true, if_true, hf]

/-! The end of a fill. -/

theorem State.viRun_marked (s : State) (f g e : Field) (v n k c x : Nat) :
    ((((s.setF f v n).raise g v).setF e v k).count c v x).viRun v = s.viRun v := by
  simp only [State.viRun, State.count_vi, State.setF_vi, State.raise_vi]

theorem State.viViolation_due {t n : Nat} (ha : s.viState v = 2) (hd : (s.viRun v).doneAt = none)
    (hv : (s.viRun v).viol = some (t, n)) (ht : t ≤ s.tick) :
    s.viViolation v =
      (((((s.setF Fld.vitrine.violIndex v n).raise Fld.vitrine.violation v).setF Fld.vitrine.endReason v 2).count 0x0B v
        4).setViRun v { s.viRun v with cutAt := some (n + 1), doneAt := some (s.tick + 2) }).fire (168 + v) := by
  have hdue : s.viViolDue v = true := by simp [State.viViolDue, ha, hd, hv, ht]
  rw [State.viViolation, hdue, hv]
  simp only [State.viRun_marked]

section
variable (ha : s.viState v = 2) (hd : (s.viRun v).doneAt = none) (hv : (s.viRun v).viol = none)
include ha hd hv

theorem State.viFillEnd_due (hf : (s.viRun v).full = true)
    (ht : s.viArrival (s.viRun v).cfg (s.viRun v).nlast + 2 ≤ s.tick) : s.viFillEnd v = s.viFillOver v 1 :=
  if_pos (by simp [State.viFillDue, ha, hd, hv, hf, ht])

theorem State.viLimit_due (hf : (s.viRun v).full = false) (ht : (s.viRun v).nlast + 40 ≤ s.tick) :
    s.viLimit v = ((s.raise Fld.vitrine.srcLost v).count 0x0B v 5).viFillOver v 3 :=
  if_pos (by simp [State.viLimitDue, ha, hd, hv, hf, ht])

end

/-! Delivery. -/

theorem State.viMeasure_vi (r : ViRun) : (s.viMeasure r).2.vi = s.vi := by
  rw [State.viMeasure]
  split
  · rfl
  · exact (apply_ite (fun x : List Byte × State => x.2.vi) _ _ _).trans (ite_self _)

theorem State.viRun_viBlocks : (s.viBlocks v).2.viRun v = s.viRun v := by
  rw [State.viRun, State.viRun]
  exact congrArg (fun g => sget (fun _ => ViRun.none) g.run v) (State.viMeasure_vi (s.viRun v))

theorem State.viDone_due {t : Nat} (ha : s.viState v = 3) (hd : (s.viRun v).doneAt = some t) (ht : t ≤ s.tick) :
    s.viDone v =
      ((((((s.viBlocks v).2.setF Fld.vitrine.state v 4).setF Fld.vitrine.nsamples v (viRecord (s.viRun v)).length).raise
        Fld.vitrine.done v).setViRun v { s.viRun v with
          blocks := (s.viBlocks v).1, cap := [], doneAt := none }).count 0x0B v 3).fire (160 + v) := by
  have hdue : s.viDoneDue v = true := by simp [State.viDoneDue, ha, hd, ht]
  rw [State.viDone, if_neg (by simp [hdue])]
  simp only [State.viRun_viBlocks]

section
variable {b : Nat × Nat × List Byte} {rest : List (Nat × Nat × List Byte)} (ha : s.viState v = 4)
  (hb : (s.viRun v).blocks = b :: rest) (hp : s.powered domVIT = true)
include ha hb hp

theorem State.viWriteDue_eq : s.viWriteDue v = s.ringRoom (viRing (s.viRun v).cfg) := by
  simp [State.viWriteDue, ha, hb, hp]

theorem State.viWrite_waits (hr : s.ringRoom (viRing (s.viRun v).cfg) = false) : s.viWrite v = s :=
  if_pos (by rw [State.viWriteDue_eq ha hb hp, hr]; rfl)

theorem State.viWrite_writes (hr : s.ringRoom (viRing (s.viRun v).cfg) = true) :
    s.viWrite v =
      (let q := s.nextSeq (65 + v)
       let u := ((q.2.setViRun v { s.viRun v with blocks := rest }).clearLost (65 + v)).count 0x0B v 6
       let d := if rest = [] then u.setF Fld.vitrine.delivered v 1 else u
       let o := d.ringProduce (viRing (s.viRun v).cfg)
         (q.2.tag 0x03 v (b.2.1 + s.lostFlag (65 + v)) b.1 (q.1 % 65536) ++ b.2.2) (d.viTag v)
       o.1.viEntriesLost (viRing (s.viRun v).cfg) o.2) := by
  rw [State.viWrite, if_neg (by rw [State.viWriteDue_eq ha hb hp, hr]; simp)]
  simp only [hb]

end

/-- Settles O43: triggers, the end of a fill and the delivery of a record by the equations above. -/
theorem vitrineRuns : Obligations.VitrineRuns := by
  refine ⟨⟨?start, ?level, ?timebase, ?event, ?ignored, ?settle⟩, ?violation, ?fill, ?done, ?write⟩
  case start =>
    intro v s ha ht hs
    exact congrArg Host.Outcome.next (State.viStart_due ha ht hs)
  case level =>
    intro v n k l s hl r s0
    have hdue : n ≤ s.tick → exec (.levelTrigger v) s = .next (s0.viTrigger v.val n k 2).2 :=
      fun ht => congrArg Host.Outcome.next (State.viLevel_due hl ht)
    have hr : s0.viRun v.val = r := State.viRun_setViRun_same ..
    have hstate : s0.viState v.val = s.viState v.val := rfl
    have hobj : s0.obj 0x0C v.val = s.obj 0x0C v.val := rfl
    have hcause : s0.getF Fld.vitrine.trigCause v.val = s.getF Fld.vitrine.trigCause v.val := rfl
    rw [← hstate, ← hobj, ← hcause, ← hr]
    clear_value s0
    refine ⟨fun ht => congrArg Host.Outcome.next (State.viLevel_later hl ht), fun ht ha hk => ?_, fun ht ha hk => ?_,
      fun ht ha hk => ?_, fun ht ha hb hk => ?_, fun ht ha hb => ?_, fun ht h1 h2 => ?_⟩
    · rw [hdue ht, State.viTrigger_armed ha hk]
      rfl
    · rw [hdue ht, State.viTrigger_early ha hk]
    · rw [hdue ht, State.viTrigger_again ha hk]
      rfl
    · rw [hdue ht, State.viTrigger_earlier ha hb hk]
    · rw [hdue ht, State.viTrigger_late ha hb]
    · rw [hdue ht, State.viTrigger_idle h1 h2]
  case timebase =>
    intro v s hp ha hb ht
    have hdue : exec (.tbTick v) s = .next (s.viTrigger v.val s.tick 0 3).2 :=
      congrArg Host.Outcome.next (if_pos (State.viTbDue_of hp ha hb ht))
    refine ⟨fun hk => ?_, fun hk => ?_⟩
    · rw [hdue, State.viTrigger_armed ha hk]
      rfl
    · rw [hdue, State.viTrigger_early ha hk]
  case event =>
    intro v s
    exact ⟨fun hp => congrArg Host.Outcome.next (State.evtVitrine_absent hp),
      fun hp ha hb => congrArg Host.Outcome.next (State.evtVitrine_disabled hp ha hb),
      fun hp ha hb hk => congrArg Host.Outcome.next (State.evtVitrine_taken hp ha hb hk),
      fun hp ha hb hk => congrArg Host.Outcome.next (State.evtVitrine_ignored hp ha hb hk)⟩
  case ignored =>
    intro v t s
    exact ⟨State.viIgnored_known, State.viIgnored_new⟩
  case settle =>
    intro v s hc hu hf t
    have heq := (State.viTick_unclocked hc hf).trans (State.viSettle_eq hu)
    exact ⟨fun he => heq.trans (if_neg (by simp [he])), fun he => heq.trans (if_pos he)⟩
  case violation =>
    intro v t n s ha hd hv ht u
    exact congrArg Host.Outcome.next (State.viViolation_due ha hd hv ht)
  case fill =>
    intro v s ha hd hv
    exact ⟨fun hf ht => congrArg Host.Outcome.next (State.viFillEnd_due ha hd hv hf ht),
      fun hf ht => congrArg Host.Outcome.next (State.viLimit_due ha hd hv hf ht)⟩
  case done =>
    intro v t s ha hd ht b u
    exact congrArg Host.Outcome.next (State.viDone_due ha hd ht)
  case write =>
    intro v b rest s ha hb hp
    exact ⟨fun hr => congrArg Host.Outcome.next (State.viWrite_waits ha hb hp hr),
      fun hr => congrArg Host.Outcome.next (State.viWrite_writes ha hb hp hr)⟩

end Sys2Proof.Machine
end

/-! ### The dither of the main DAC (R287) -/

section
namespace Sys2Proof.Machine

/-! Counts over a list. -/

theorem countP_lt_of_imp {p q : Nat → Bool} {l : List Nat} (h : ∀ x ∈ l, p x = true → q x = true) {c : Nat} (hc : c ∈ l)
    (hq : q c = true) (hp : p c = false) : l.countP p < l.countP q := by
  induction l with
  | nil => exact absurd hc List.not_mem_nil
  | cons y l ih =>
    have hle : l.countP p ≤ l.countP q := List.countP_mono_left fun x hx => h x (List.mem_cons_of_mem y hx)
    rw [List.countP_cons, List.countP_cons]
    rcases List.mem_cons.1 hc with rfl | hl
    · rw [hp, hq, if_neg Bool.false_ne_true, if_pos rfl]
      omega
    · have hlt := ih (fun x hx => h x (List.mem_cons_of_mem y hx)) hl
      have hy := h y List.mem_cons_self
      cases hpy : p y with
      | false =>
        rw [if_neg Bool.false_ne_true]
        omega
      | true =>
        rw [hy hpy]
        omega

/-- A numbering that gives no number twice gives each number at most once. -/
theorem countP_eq_le_one {n : Nat} {g : Nat → Nat} (hinj : ∀ c d, c < n → d < n → g c = g d → c = d) (v : Nat) :
    (List.range n).countP (fun c => decide (g c = v)) ≤ 1 := by
  induction n with
  | zero => exact Nat.zero_le 1
  | succ n ih =>
    rw [List.range_succ, List.countP_append, List.countP_singleton]
    by_cases hn : g n = v
    · have hnone : (List.range n).countP (fun c => decide (g c = v)) = 0 := by
        rw [List.countP_eq_zero]
        intro c hc hv
        have hcn := List.mem_range.1 hc
        have heq := hinj c n (by omega) (by omega) ((of_decide_eq_true hv).trans hn.symm)
        omega
      rw [hnone]
      split
      · exact Nat.le_refl 1
      · exact Nat.zero_le 1
    · rw [decide_eq_false hn, if_neg Bool.false_ne_true]
      exact ih fun c d hc hd => hinj c d (by omega) (by omega)

/-- The cycles with a number below f + 1 are those below f and those with number f. -/
theorem countP_lt_succ (l : List Nat) (g : Nat → Nat) (f : Nat) :
    l.countP (fun c => decide (g c < f + 1)) =
      l.countP (fun c => decide (g c < f)) + l.countP (fun c => decide (g c = f)) := by
  induction l with
  | nil => rfl
  | cons y l ih =>
    rw [List.countP_cons, List.countP_cons, List.countP_cons, ih]
    simp only [decide_eq_true_eq]
    split <;> split <;> split <;> omega

/-- A numbering of the first n cycles by themselves gives as many of them a number below f as f says. -/
theorem countP_lt_of_numbering {n f : Nat} {g : Nat → Nat} (hinj : ∀ c d, c < n → d < n → g c = g d → c = d)
    (hlt : ∀ c, c < n → g c < n) (hf : f ≤ n) : (List.range n).countP (fun c => decide (g c < f)) = f := by
  have hup : ∀ f, (List.range n).countP (fun c => decide (g c < f)) ≤ f := by
    intro f
    induction f with
    | zero => exact Nat.le_of_eq (List.countP_eq_zero.2 fun c _ h => Nat.not_lt_zero _ (of_decide_eq_true h))
    | succ f ih =>
      have h1 := countP_eq_le_one hinj f
      rw [countP_lt_succ]
      omega
  have hdown : ∀ k, (List.range n).countP (fun c => decide (g c < f + k)) ≤
      (List.range n).countP (fun c => decide (g c < f)) + k := by
    intro k
    induction k with
    | zero => exact Nat.le_refl _
    | succ k ih =>
      have h1 := countP_eq_le_one hinj (f + k)
      rw [← Nat.add_assoc, countP_lt_succ]
      omega
  have hall : (List.range n).countP (fun c => decide (g c < n)) = n := by
    rw [List.countP_eq_length.2 fun c hc => decide_eq_true (hlt c (List.mem_range.1 hc)), List.length_range]
  have hn := hdown (n - f)
  rw [Nat.add_sub_cancel' hf, hall] at hn
  have hle := hup f
  omega

/-! The order of a period's cycles. -/

/-- Cycle x takes the higher level before cycle c. -/
def ditherBefore (b p x c : Nat) : Prop :=
  Config.dither b p x < Config.dither b p c ∨ (Config.dither b p x = Config.dither b p c ∧ x < c)

/-- The model's test of that order. -/
def ditherBeforeB (b p c x : Nat) : Bool :=
  decide (Config.dither b p x < Config.dither b p c) || (decide (Config.dither b p x = Config.dither b p c) && decide (x < c))

theorem ditherBeforeB_iff {b p c x : Nat} : ditherBeforeB b p c x = true ↔ ditherBefore b p x c := by
  simp only [ditherBeforeB, ditherBefore, Bool.or_eq_true, Bool.and_eq_true, decide_eq_true_eq]

theorem ditherRank_eq_countP (b p c : Nat) : ditherRank b p c = (List.range 256).countP (ditherBeforeB b p c) := by
  rw [List.countP_eq_length_filter]
  rfl

theorem ditherBeforeB_self (b p c : Nat) : ditherBeforeB b p c c = false := by
  rw [← Bool.not_eq_true, ditherBeforeB_iff, ditherBefore]
  omega

theorem ditherRank_lt_of_before {b p c d : Nat} (hc : c < 256) (h : ditherBefore b p c d) :
    ditherRank b p c < ditherRank b p d := by
  rw [ditherRank_eq_countP, ditherRank_eq_countP]
  refine countP_lt_of_imp (fun x _ hx => ?_) (List.mem_range.2 hc) (ditherBeforeB_iff.2 h) (ditherBeforeB_self b p c)
  rw [ditherBeforeB_iff] at hx ⊢
  unfold ditherBefore at *
  omega

theorem ditherRank_inj (b p c d : Nat) (hc : c < 256) (hd : d < 256) (he : ditherRank b p c = ditherRank b p d) : c = d := by
  have htotal : c = d ∨ ditherBefore b p c d ∨ ditherBefore b p d c := by
    unfold ditherBefore
    omega
  rcases htotal with h | h | h
  · exact h
  · exact absurd he (Nat.ne_of_lt (ditherRank_lt_of_before hc h))
  · exact absurd he.symm (Nat.ne_of_lt (ditherRank_lt_of_before hd h))

theorem ditherRank_lt (b p : Nat) {c : Nat} (hc : c < 256) : ditherRank b p c < 256 := by
  have h := countP_lt_of_imp (p := ditherBeforeB b p c) (q := fun _ => true) (l := List.range 256) (fun _ _ _ => rfl)
    (List.mem_range.2 hc) rfl (ditherBeforeB_self b p c)
  rw [List.countP_true, List.length_range] at h
  rwa [ditherRank_eq_countP]

theorem countP_ditherRank_lt (b p : Nat) {f : Nat} (hf : f ≤ 256) :
    (List.range 256).countP (fun c => decide (ditherRank b p c < f)) = f :=
  countP_lt_of_numbering (ditherRank_inj b p) (fun _ hc => ditherRank_lt b p hc) hf

theorem mainLevel_cycle {b code p c : Nat} (hc : c < 256) :
    mainLevel b code (256 * p + c) = code / 256 + if ditherRank b p c < code % 256 then 1 else 0 := by
  have h1 : (256 * p + c) / 256 = p := by omega
  have h2 : (256 * p + c) % 256 = c := by omega
  rw [mainLevel, h1, h2]

theorem bits_eq_div (x l w : Nat) : bits x l w = x / 2 ^ l % 2 ^ w := by
  rw [bits, Nat.shiftRight_eq_div_pow]

/-- Settles O60: the order of a period's cycles numbers them by 0 to 255. -/
theorem ditherPeriodHoldsTheFineCode : Obligations.DitherPeriodHoldsTheFineCode := by
  intro b code p hcode m f level
  have hm : m = code / 256 := by
    have h : m = code / 2 ^ 8 % 2 ^ 12 := bits_eq_div code 8 12
    omega
  have hf : f = code % 256 := by
    have h : f = code / 2 ^ 0 % 2 ^ 8 := bits_eq_div code 0 8
    omega
  have hlevel : ∀ c, c < 256 → level c = m + if ditherRank b p c < f then 1 else 0 := by
    intro c hc
    rw [hm, hf]
    exact mainLevel_cycle hc
  have hle : f ≤ 256 := by omega
  have hcount := countP_ditherRank_lt b p hle
  have hhigh : (List.range 256).countP (fun c => decide (level c = m + 1)) = f := by
    rw [← hcount]
    refine List.countP_congr fun c hc => ?_
    rw [hlevel c (List.mem_range.1 hc), decide_eq_true_eq, decide_eq_true_eq]
    split
    · omega
    · omega
  have hlow : (List.range 256).countP (fun c => decide (level c = m)) = 256 - f := by
    have hsplit := List.length_eq_countP_add_countP (l := List.range 256) (fun c => decide (ditherRank b p c < f))
    rw [hcount, List.length_range] at hsplit
    have heq : (List.range 256).countP (fun c => decide (level c = m)) =
        (List.range 256).countP (fun c => decide ¬ decide (ditherRank b p c < f) = true) := by
      refine List.countP_congr fun c hc => ?_
      rw [hlevel c (List.mem_range.1 hc), decide_eq_true_eq, decide_eq_true_eq, decide_eq_true_eq]
      split
      · omega
      · omega
    omega
  rw [List.countP_eq_length_filter] at hhigh hlow
  refine ⟨hhigh, hlow, fun s he ht => ?_⟩
  have hcycle : 256 * p + s.tick / 8 % 256 = s.tick / 8 := by omega
  rw [State.biasLevel, he]
  exact congrArg (mainLevel b code) hcycle.symm

end Sys2Proof.Machine
end

/-! ### A bank-clock edge that has passed (R294) -/

section
namespace Sys2Proof.Machine

/-- The reset state with SLEW_EN of bank 0 written, and its window of raw time taken in: the bank-clock edge of its tick, raw
time 0, has passed. -/
def edgePassed : State :=
  { State.reset.setF Fld.biasbank.slewEn 0 1 with tm := { State.reset.tm with lookFrom := 320, lookTo := 320 } }

/-- A setting of the limiter waits for the next edge while no edge lies in the window. -/
theorem slewEnApply_edgePassed : edgePassed.slewEnApply 0 = edgePassed := by
  have hedge : edgePassed.crosses 8 = false := by decide
  rw [State.slewEnApply]
  exact if_neg (by simp [State.slewApplyDue, hedge])

theorem steady_edgePassed : ∀ j : Fin 128, j.val / 32 = (0 : Fin 4).val →
    edgePassed.flag Fld.bias.slewing j.val = false ∧ edgePassed.flag Fld.bias.deglitch j.val = false := by
  decide +kernel

/-- Refutes O44: the new setting of the limiter is stated for every state at a tick that is a multiple of 8, while the model
applies it where the tick's window of raw time holds the edge. The state `edgePassed` has no edge in its window. -/
theorem not_biasEdgesAndSlewing : ¬ Obligations.BiasEdgesAndSlewing := by
  intro h
  obtain ⟨⟨-, -, happly⟩, -⟩ := h
  have hrow := happly 0 edgePassed (by decide +kernel) (by decide) (by decide) (by decide +kernel) steady_edgePassed
  have hsame : exec (.slewEnApply 0) edgePassed = .next edgePassed :=
    congrArg Host.Outcome.next slewEnApply_edgePassed
  have hgov := congrArg (fun t : State => t.bi.slewGov) (Host.Outcome.next.inj (hsame.symm.trans hrow))
  exact absurd hgov (by decide)

end Sys2Proof.Machine
end

/-! ### Bias pins, strobes, clears, supplies and overloads (R289, R296, R298, R302, R306, R444) -/

section
namespace Sys2Proof.Machine

variable {s : State}

section
variable {k : Nat}

theorem State.addStrobe_unpowered (hp : s.powered (domBB k) = false) (kind : Nat) : s.addStrobe k kind = s :=
  if_pos (by simp [hp])

variable (hp : s.powered (domBB k) = true)
include hp

theorem State.addStrobe_enabled {kind : Nat} (hb : bit (s.getF Fld.biasbank.srcEn k) kind = true) :
    s.addStrobe k kind =
      s.orStrobe k (s.getF Fld.biasbank.loadMask k ||| 2 ^ 32 ||| if kind = 2 then 2 ^ 33 else 0) := by
  rw [State.addStrobe, if_neg (by simp [hp])]
  exact if_pos hb

theorem State.addStrobe_disabled {kind : Nat} (hb : bit (s.getF Fld.biasbank.srcEn k) kind = false) :
    s.addStrobe k kind = s.orStrobe k (2 ^ 34 ||| if kind = 2 then 2 ^ 33 else 0) := by
  rw [State.addStrobe, if_neg (by simp [hp])]
  exact if_neg (by simp [hb])

end

/-! A step over the four banks. -/

/-- With every bank off, a step that leaves an unpowered bank alone does nothing. -/
theorem foldl_banks_off {f : State → Nat → State} (hf : ∀ u j, u.powered (domBB j) = false → f u j = u)
    (hp : ∀ k : Fin 4, s.powered (domBB k.val) = false) : [0, 1, 2, 3].foldl f s = s := by
  have h0 : f s 0 = s := hf s 0 (hp 0)
  have h1 : f s 1 = s := hf s 1 (hp 1)
  have h2 : f s 2 = s := hf s 2 (hp 2)
  have h3 : f s 3 = s := hf s 3 (hp 3)
  rw [List.foldl_cons, List.foldl_cons, List.foldl_cons, List.foldl_cons, List.foldl_nil, h0, h1, h2, h3]

/-- With one bank on, it is the step of that bank. -/
theorem foldl_banks_one {f : State → Nat → State} (hf : ∀ u j, u.powered (domBB j) = false → f u j = u) {k : Fin 4}
    (hp : ∀ j : Fin 4, j ≠ k → s.powered (domBB j.val) = false) (hpw : (f s k.val).pw = s.pw) :
    [0, 1, 2, 3].foldl f s = f s k.val := by
  have hbefore : ∀ j : Fin 4, j ≠ k → f s j.val = s := fun j hj => hf s j.val (hp j hj)
  have hafter : ∀ j : Fin 4, j ≠ k → f (f s k.val) j.val = f s k.val := by
    intro j hj
    refine hf _ j.val ?_
    rw [State.powered, hpw]
    exact hp j hj
  have hcases : k = 0 ∨ k = 1 ∨ k = 2 ∨ k = 3 := by omega
  have h0 : (0 : Fin 4) ≠ k → f s 0 = s := hbefore 0
  have h1 : (1 : Fin 4) ≠ k → f s 1 = s := hbefore 1
  have h2 : (2 : Fin 4) ≠ k → f s 2 = s := hbefore 2
  have h1' : (1 : Fin 4) ≠ k → f (f s k.val) 1 = f s k.val := hafter 1
  have h2' : (2 : Fin 4) ≠ k → f (f s k.val) 2 = f s k.val := hafter 2
  have h3' : (3 : Fin 4) ≠ k → f (f s k.val) 3 = f s k.val := hafter 3
  rw [List.foldl_cons, List.foldl_cons, List.foldl_cons, List.foldl_cons, List.foldl_nil]
  rcases hcases with rfl | rfl | rfl | rfl
  · exact (congrArg (fun u => f (f u 2) 3) (h1' (by decide))).trans
      ((congrArg (fun u => f u 3) (h2' (by decide))).trans (h3' (by decide)))
  · rw [h0 (by decide)]
    exact (congrArg (fun u => f u 3) (h2' (by decide))).trans (h3' (by decide))
  · rw [h0 (by decide), h1 (by decide)]
    exact h3' (by decide)
  · rw [h0 (by decide), h1 (by decide), h2 (by decide)]
    rfl

/-- A fold keeps what every step keeps. -/
theorem foldl_keeps {α β : Type} (g : State → β) {f : State → α → State} (hf : ∀ u x, g (f u x) = g u) (l : List α)
    (s : State) : g (l.foldl f s) = g s := by
  induction l generalizing s with
  | nil => rfl
  | cons x l ih => rw [List.foldl_cons, ih, hf]

/-! What the steps keep of the power unit. -/

theorem State.presetBank_pw (k i e : Nat) : (s.presetBank k i e).pw = s.pw :=
  foldl_keeps State.pw (fun _ _ => by rw [State.setF_pw, State.setF_pw, State.setF_pw]) _ s

theorem State.stillBank_pw (k : Nat) : (s.stillBank k).pw = s.pw := by
  rw [State.stillBank]
  dsimp only
  exact foldl_keeps State.pw (fun _ _ => by rw [State.setF_pw, State.setF_pw]) (bankOutputs k) s

theorem State.setClamp_pw (k : Nat) (b : Bool) : (s.setClamp k b).pw = s.pw :=
  foldl_keeps State.pw (fun _ _ => State.setF_pw _ _ _ _) _ s

theorem State.enterWait_pw (k : Nat) : (s.enterWait k).pw = s.pw := by
  rw [State.enterWait, State.stillBank_pw, State.setF_pw, State.presetBank_pw]

theorem State.endEmptyJobs_pw : s.endEmptyJobs.pw = s.pw :=
  foldl_keeps State.pw (fun u (j : CalJob) => (leavesUnits_completeId (u.dropJob j.id) j.id (Reply.mask .calFail 0)).pw) _ s

theorem State.dropBankWork_pw (k : Nat) : (s.dropBankWork k).pw = s.pw := rfl

theorem State.bankOff_pw (k : Nat) : (s.bankOff k).pw = s.pw := by
  have hdown : ∀ t : State, ((((t.setF Fld.biasbank.state k 1).setClamp k true).stillBank k).dropBankWork k).pw = t.pw := by
    intro t
    rw [State.dropBankWork_pw, State.stillBank_pw, State.setClamp_pw, State.setF_pw]
  rw [State.bankOff]
  split
  · exact State.endEmptyJobs_pw.trans (hdown _)
  · exact hdown s

/-! Clears. -/

theorem State.clrTaken_low (h : s.bi.clrLow = true) : s.clrTaken = s := if_pos h

theorem State.clrTaken_eq (h : s.bi.clrLow = false) :
    s.clrTaken = [0, 1, 2, 3].foldl (fun u k => if u.powered (domBB k) then u.setF Fld.biasbank.clrActive k 1 else u)
      ({ s with bi := { s.bi with clrLow := true } } : State).clearBanks :=
  if_neg (by simp [h])

theorem State.clearBanks_off (hp : ∀ k : Fin 4, s.powered (domBB k.val) = false) : s.clearBanks = s :=
  foldl_banks_off (fun _ _ hj => if_neg (by simp [hj])) hp

theorem State.clearBank_on {k : Nat} (hp : s.powered (domBB k) = true) :
    s.clearBank k = s.addUpd ⟨k, s.tick, updateEdge s.tick, true, [], false⟩ := if_pos hp

theorem State.clearBanks_on (hp : ∀ k : Fin 4, s.powered (domBB k.val) = true) :
    s.clearBanks = { s with bi := { s.bi with upd := s.bi.upd ++ [0, 1, 2, 3].map (fun k =>
      (⟨k, s.tick, updateEdge s.tick, true, [], false⟩ : BiUpd)) } } := by
  have hall : [0, 1, 2, 3].any (fun k => !s.powered (domBB k)) = false := by
    have h0 : s.powered (domBB 0) = true := hp 0
    have h1 : s.powered (domBB 1) = true := hp 1
    have h2 : s.powered (domBB 2) = true := hp 2
    have h3 : s.powered (domBB 3) = true := hp 3
    rw [List.any_cons, List.any_cons, List.any_cons, List.any_cons, List.any_nil, h0, h1, h2, h3]
    rfl
  rw [State.clearBanks, foldl_clearBank_powered [0, 1, 2, 3] s hall]
  simp only [List.foldl_cons, List.foldl_nil, State.addUpd, List.append_assoc, List.singleton_append, List.map_cons,
    List.map_nil]
  rfl

theorem State.setF_where_powered (f : Field) (v : Nat) (u : State) (k : Nat) :
    (if u.powered (domBB k) then u.setF f k v else u).bi = u.bi ∧
      (if u.powered (domBB k) then u.setF f k v else u).drv = u.drv ∧
        (if u.powered (domBB k) then u.setF f k v else u).cmd = u.cmd := by
  split
  · exact ⟨State.setF_bi .., State.setF_drv .., State.setF_cmd ..⟩
  · exact ⟨rfl, rfl, rfl⟩

/-! The supplies. -/

theorem State.supplyBecomesGood_off (hp : ∀ k : Fin 4, s.powered (domBB k.val) = false) :
    s.supplyBecomesGood = { s with bi := { s.bi with supplyGood := true } } :=
  foldl_banks_off (fun _ _ hj => if_pos (by simp [hj])) hp

theorem State.supplyLost_off (hp : ∀ k : Fin 4, s.powered (domBB k.val) = false) :
    s.supplyLost = { s with bi := { s.bi with supplyGood := false } } :=
  foldl_banks_off (fun _ _ hj => if_pos (by simp [hj])) hp

section
variable {k : Fin 4} (hp : s.powered (domBB k.val) = true) (ho : ∀ j : Fin 4, j ≠ k → s.powered (domBB j.val) = false)
include hp ho

theorem State.clrReleased_one :
    s.clrReleased = ({ s with bi := { s.bi with clrLow := false } } : State).setF Fld.biasbank.clrActive k.val 0 := by
  have hon : ({ s with bi := { s.bi with clrLow := false } } : State).powered (domBB k.val) = true := hp
  rw [State.clrReleased, foldl_banks_one (k := k) ?_ ?_ ?_]
  · exact if_pos hon
  · exact fun _ _ hj => if_neg (by simp [hj])
  · exact ho
  · rw [if_pos hon, State.setF_pw]

theorem State.supplyBecomesGood_one {v : State}
    (hv : ({ s with bi := { s.bi with supplyGood := true } } : State).setF Fld.biasbank.supplyGood k.val 1 = v) :
    s.supplyBecomesGood =
      if v.bankState k.val = 1 ∧ v.flag Fld.biasbank.bankEn k.val = true ∧ (!v.banksHeld) = true then v.enterWait k.val
      else v := by
  have hon : ¬ (!({ s with bi := { s.bi with supplyGood := true } } : State).powered (domBB k.val)) = true := by
    rw [show ({ s with bi := { s.bi with supplyGood := true } } : State).powered (domBB k.val) = true from hp]
    simp
  have hpw : v.pw = s.pw := by rw [← hv, State.setF_pw]
  rw [State.supplyBecomesGood]
  rw [foldl_banks_one (k := k) ?_ ?_ ?_]
  · simp only [if_neg hon, hv]
  · exact fun _ _ hj => if_pos (by simp [hj])
  · exact ho
  · simp only [if_neg hon, hv]
    split
    · exact (State.enterWait_pw _).trans hpw
    · exact hpw

theorem State.supplyLost_one {v : State}
    (hv : ({ s with bi := { s.bi with supplyGood := false } } : State).setF Fld.biasbank.supplyGood k.val 0 = v) :
    s.supplyLost =
      if v.bankState k.val = 1 then v
      else (((v.bankOff k.val).setF Fld.biasbank.bankEn k.val 0).raise Fld.biasbank.supplyLoss k.val).count 0x0D k.val 5 := by
  have hon : ¬ (!({ s with bi := { s.bi with supplyGood := false } } : State).powered (domBB k.val)) = true := by
    rw [show ({ s with bi := { s.bi with supplyGood := false } } : State).powered (domBB k.val) = true from hp]
    simp
  have hpw : v.pw = s.pw := by rw [← hv, State.setF_pw]
  rw [State.supplyLost]
  rw [foldl_banks_one (k := k) ?_ ?_ ?_]
  · simp only [if_neg hon, hv]
  · exact fun _ _ hj => if_pos (by simp [hj])
  · exact ho
  · simp only [if_neg hon, hv]
    split
    · exact hpw
    · rw [State.count_pw, State.raise_pw, State.setF_pw, State.bankOff_pw, hpw]

end

/-- Settles O45: pins, supplies and overloads by the equations above. -/
theorem biasPinsStrobeClearAndSupply : Obligations.BiasPinsStrobeClearAndSupply := by
  refine ⟨?strobe, ?off, ?low, ?clear, ?supply, ?overload⟩
  case strobe =>
    intro k s
    exact ⟨fun hp => ⟨congrArg Host.Outcome.next (State.addStrobe_unpowered hp 0),
        congrArg Host.Outcome.next (if_neg (by simp [hp]))⟩,
      fun hp hb => congrArg Host.Outcome.next (State.addStrobe_enabled hp hb),
      fun hp hb => congrArg Host.Outcome.next (State.addStrobe_disabled hp hb),
      fun hp hb => congrArg Host.Outcome.next ((if_pos hp).trans (State.addStrobe_enabled hp hb)),
      fun hp hb => congrArg Host.Outcome.next ((if_pos hp).trans (State.addStrobe_disabled hp hb))⟩
  case off =>
    intro s hp
    refine ⟨fun h => congrArg Host.Outcome.next ?_, congrArg Host.Outcome.next ?_,
      congrArg Host.Outcome.next (State.supplyBecomesGood_off hp), congrArg Host.Outcome.next (State.supplyLost_off hp)⟩
    · rw [State.clrTaken_eq h, State.clearBanks_off (s := { s with bi := { s.bi with clrLow := true } }) hp]
      exact foldl_banks_off (fun _ _ hj => if_neg (by simp [hj])) hp
    · exact foldl_banks_off (fun _ _ hj => if_neg (by simp [hj])) hp
  case low =>
    intro s h
    exact congrArg Host.Outcome.next (State.clrTaken_low h)
  case clear =>
    intro s h hp
    refine ⟨_, congrArg Host.Outcome.next (State.clrTaken_eq h), ?_, ?_, ?_, ?_⟩
    · rw [foldl_keeps (fun t => t.bi.clrLow) (fun u k => by rw [(State.setF_where_powered _ _ u k).1]),
        State.clearBanks_on (s := { s with bi := { s.bi with clrLow := true } }) hp]
    · rw [foldl_keeps (fun t => t.bi.upd) (fun u k => by rw [(State.setF_where_powered _ _ u k).1]),
        State.clearBanks_on (s := { s with bi := { s.bi with clrLow := true } }) hp]
      rfl
    · rw [foldl_keeps State.drv (fun u k => (State.setF_where_powered _ _ u k).2.1),
        State.clearBanks_on (s := { s with bi := { s.bi with clrLow := true } }) hp]
    · rw [foldl_keeps State.cmd (fun u k => (State.setF_where_powered _ _ u k).2.2),
        State.clearBanks_on (s := { s with bi := { s.bi with clrLow := true } }) hp]
  case supply =>
    intro k s hp ho good lost
    have hgood : s.supplyBecomesGood = if good.bankState k.val = 1 ∧ good.flag Fld.biasbank.bankEn k.val = true ∧
        (!good.banksHeld) = true then good.enterWait k.val else good := State.supplyBecomesGood_one hp ho rfl
    have hlost : s.supplyLost = if lost.bankState k.val = 1 then lost
        else (((lost.bankOff k.val).setF Fld.biasbank.bankEn k.val 0).raise Fld.biasbank.supplyLoss k.val).count 0x0D k.val
          5 := State.supplyLost_one hp ho rfl
    have hheld : good.banksHeld = s.pw.orderHolds.any (fun h => decide (h.1 = 5)) := by
      rw [State.banksHeld, State.setF_pw]
    rw [hheld] at hgood
    refine ⟨congrArg Host.Outcome.next (State.clrReleased_one hp ho), ?_⟩
    intro held
    have hh : s.pw.orderHolds.any (fun h => decide (h.1 = 5)) = held := rfl
    clear_value good lost held
    rw [hh] at hgood
    refine ⟨fun h1 h2 h3 => congrArg Host.Outcome.next (hgood.trans (if_pos ⟨h1, h2, by rw [h3]; rfl⟩)),
      fun hn => congrArg Host.Outcome.next (hgood.trans (if_neg ?_)),
      fun h1 => congrArg Host.Outcome.next (hlost.trans (if_pos h1)),
      fun h1 => congrArg Host.Outcome.next (hlost.trans (if_neg h1))⟩
    rintro ⟨h1, h2, h3⟩
    rcases hn with hn | hn | hn
    · exact hn h1
    · exact Bool.false_ne_true (hn.symm.trans h2)
    · rw [hn] at h3
      exact Bool.false_ne_true h3
  case overload =>
    intro b s
    refine ⟨fun hp hs => congrArg Host.Outcome.next (if_pos ⟨hp, hs⟩), fun h => congrArg Host.Outcome.next (if_neg ?_)⟩
    rintro ⟨hp, hs⟩
    rcases h with h | h
    · exact Bool.false_ne_true (h.symm.trans hp)
    · exact hs h

end Sys2Proof.Machine
end

/-! ### The event catalogue's inputs and outputs (R340, R346, R347, R349, R351 to R353) -/

section
namespace Sys2Proof.Machine

variable {s : State}

/-! GPIO pins. -/

/-- The state in which the outside drives a GPIO ball to a level. -/
def State.gpioDriven (s : State) (g : Nat) (level : Bool) : State :=
  { s with cat := { s.cat with
    gpioIn := if level then s.cat.gpioIn ||| (1 <<< g) else clearMask s.cat.gpioIn (1 <<< g) } }

section
variable {g fine : Nat} {level : Bool}

theorem State.gpioInput_same (h : (s.gpioDriven g level).gpioLevel g = s.gpioLevel g) :
    s.gpioInput g level fine = s.gpioDriven g level := if_pos h

theorem State.gpioInput_changed (h : (s.gpioDriven g level).gpioLevel g ≠ s.gpioLevel g) :
    s.gpioInput g level fine = (s.gpioDriven g level).gpioEdge g level fine := if_neg h

/-- Tick at which the sampler presents an edge of the present tick, its free number drawn. -/
def State.gpioShown (s : State) (fine : Nat) : Nat :=
  s.now / 16 + (if fine = 0 then 8 + Config.delay s.free % 5 else 9 + Config.delay s.free % 4)

theorem State.gpioEdge_first (h : ∀ e ∈ s.cat.due, e.2.1 ≠ 512 + g) :
    s.gpioEdge g level fine =
      (let c := bits (s.gpioByte g) 4 2
       let ev := if (level ∧ bit c 0) ∨ (!level ∧ bit c 1) then [(s.gpioShown fine, 200 + g, s.now + fine)] else []
       { s with
         free := s.free + 1
         cat := { s.cat with due := s.cat.due ++
           ((s.gpioShown fine, 512 + g, 2 * (s.now + fine) + (if level then 1 else 0)) :: ev) } }) := by
  have hnone : s.cat.due.filter (fun e => decide (e.2.1 = 512 + g)) = [] :=
    List.filter_eq_nil_iff.2 fun e he => by simp [h e he]
  simp only [State.gpioEdge, hnone, List.getLast?_nil, Option.any_none, Bool.false_and, Bool.false_eq_true, if_false,
    Option.map_none, Option.getD_none, Nat.max_zero, State.draw]
  rfl

theorem State.gpioEdge_plain (h : ∀ e ∈ s.cat.due, e.2.1 ≠ 512 + g) (hc : bits (s.gpioByte g) 4 2 = 0) :
    s.gpioEdge g level fine = { s with
      free := s.free + 1
      cat := { s.cat with due := s.cat.due ++
        [(s.gpioShown fine, 512 + g, 2 * (s.now + fine) + (if level then 1 else 0))] } } := by
  have hbit : ∀ k, bit 0 k = false := fun k => Nat.zero_testBit k
  rw [State.gpioEdge_first h, hc]
  simp only [hbit, Bool.false_eq_true, and_false, or_self, if_false]

theorem State.gpioEdge_fires (h : ∀ e ∈ s.cat.due, e.2.1 ≠ 512 + g) (hc : bits (s.gpioByte g) 4 2 = 3) :
    s.gpioEdge g level fine = { s with
      free := s.free + 1
      cat := { s.cat with due := s.cat.due ++
        [(s.gpioShown fine, 512 + g, 2 * (s.now + fine) + (if level then 1 else 0)),
          (s.gpioShown fine, 200 + g, s.now + fine)] } } := by
  have h0 : bit 3 0 = true := by decide
  have h1 : bit 3 1 = true := by decide
  have hev : (level = true ∧ bit 3 0 = true) ∨ ((!level) = true ∧ bit 3 1 = true) := by
    cases level <;> simp [h0, h1]
  rw [State.gpioEdge_first h, hc]
  simp only [if_pos hev]

end

section
variable {g : Nat}

theorem State.evtGpio_input (hb : bit (s.gpioByte g) 0 = false) : s.evtGpio g = s.busyDrop (164 + g) :=
  if_pos (by simp [hb])

variable (hb : bit (s.gpioByte g) 0 = true)
include hb

theorem State.evtGpio_toggles (ht : bit (s.gpioByte g) 3 = true) :
    s.evtGpio g =
      ((s.draw.2).gpioLater (s.now / 16 + 2 + Config.delay s.free % 4) g 0).count 0x12 (164 + g) 0 :=
  (if_neg (by simp [hb])).trans (if_pos ht)

variable (ht : bit (s.gpioByte g) 3 = false)
include ht

theorem State.evtGpio_busy (he : sget (fun _ => 0) s.cat.gpioEnd g ≠ 0) : s.evtGpio g = s.busyDrop (164 + g) :=
  (if_neg (by simp [hb])).trans ((if_neg (by simp [ht])).trans (if_pos he))

theorem State.evtGpio_pulses (he : sget (fun _ => 0) s.cat.gpioEnd g = 0) :
    s.evtGpio g =
      (let at_ := s.now / 16 + 2 + Config.delay s.free % 4
       let t := ((s.draw.2).gpioLater at_ g 1).count 0x12 (164 + g) 0
       { t with cat := { t.cat with
         gpioEnd := sset (fun _ => 0) t.cat.gpioEnd g (at_ + gpioWidth (bits (s.gpioByte g) 1 2)) } }) :=
  (if_neg (by simp [hb])).trans ((if_neg (by simp [ht])).trans (if_neg (fun h => h he)))

end

theorem State.gpioPulseEnd_due {g : Nat} (h0 : sget (fun _ => 0) s.cat.gpioEnd g ≠ 0)
    (ht : sget (fun _ => 0) s.cat.gpioEnd g ≤ s.now / 16) :
    s.gpioPulseEnd g = ({ s with cat := { s.cat with gpioEnd := sset (fun _ => 0) s.cat.gpioEnd g 0 } }).gpioDrive g false :=
  if_pos ⟨h0, ht⟩

/-! Cue words. -/

section
variable {n : Nat}

theorem State.evtCue_sends (h0 : sget (fun _ => 0) s.cat.cueEnd n = 0) (hg : s.pw.tripGated = false) :
    s.evtCue n =
      (let r := roundUp (16 * (s.tick + 4)) 640
       let o := bits (s.obj 0x10 0) (4608 + 16 * n) 16
       let t := (s.emit (.cue n [(true, 0x3C), (false, o % 256), (false, o / 256 % 256)] r)).count 0x12 (180 + n) 0
       { t with cat := { t.cat with
         cueEnd := sset (fun _ => 0) s.cat.cueEnd n (r / 16 + 120)
         cueWord := sset (fun _ => 0) s.cat.cueWord n o } }) := by
  rw [State.evtCue, if_neg (by simp [h0, hg])]
  rfl

theorem State.evtCue_busy (h : sget (fun _ => 0) s.cat.cueEnd n ≠ 0 ∨ s.pw.tripGated = true) :
    s.evtCue n = s.busyDrop (180 + n) := if_pos h

theorem State.cueWord_off {w : Nat} {err : Bool} (h : s.powered domMGMT1 = false ∨ s.pw.tripGated = true) :
    s.cueWord n w err = s :=
  if_pos (h.imp_left fun hp => by simp [hp])

theorem State.cueWord_on {w : Nat} {err : Bool} (hp : s.powered domMGMT1 = true) (hg : s.pw.tripGated = false) :
    s.cueWord n w err = if err then s.count 0x0C n 0 else ((s.matchCue n w).viCue n w).forwardCue n w :=
  if_neg (by simp [hp, hg])

theorem State.cueWordEnd_due (h0 : sget (fun _ => 0) s.cat.cueEnd n ≠ 0) (ht : sget (fun _ => 0) s.cat.cueEnd n ≤ s.tick) :
    s.cueWordEnd n = { s with cat := { s.cat with cueEnd := sset (fun _ => 0) s.cat.cueEnd n 0 } } := if_pos ⟨h0, ht⟩

end

/-! LUT cells. -/

section
variable {r : Nat} {v : Bool} {rest : List (Nat × Bool)}

/-- Of a queue whose first change alone lies before e0, that change is the level there. -/
theorem LutRt.levelAt_first {c : LutRt} {e0 : Nat} (hq : c.queue = (r, v) :: rest) (hr : r < e0)
    (hrest : ∀ e ∈ rest, e0 ≤ e.1) : c.levelAt (e0 - 1) = v := by
  have hnone : rest.filter (fun e => decide (e.1 ≤ e0 - 1)) = [] :=
    List.filter_eq_nil_iff.2 fun e he => by
      have := hrest e he
      simp only [decide_eq_true_eq]
      omega
  have hfirst : r ≤ e0 - 1 := by omega
  simp [LutRt.levelAt, hq, hnone, hfirst]

theorem State.lutChange_first {j : Nat} (hq : (s.lutRt j).queue = (r, v) :: rest) (hr : r < s.now)
    (hrest : ∀ e ∈ rest, s.now ≤ e.1) :
    s.lutChange j =
      (let t := s.setLut j { s.lutRt j with out := v, queue := rest }
       if v then t.fireAt (224 + j) r none else t) := by
  have hcome : ((r, v) :: rest).filter (fun e => decide (e.1 < s.now)) = [(r, v)] := by
    have hnone : rest.filter (fun e => decide (e.1 < s.now)) = [] :=
      List.filter_eq_nil_iff.2 fun e he => by simp [hrest e he]
    simp [hr, hnone]
  have hstay : ((r, v) :: rest).filter (fun e => !decide (e.1 < s.now)) = rest := by
    have hall : rest.filter (fun e => !decide (e.1 < s.now)) = rest :=
      List.filter_eq_self.2 fun e he => by simp [hrest e he]
    simp [hr, hall]
  rw [State.lutChange, State.lutChangeBy]
  simp only [LutRt.levelAt_first hq hr hrest, hq, hcome, hstay, List.foldl_cons, List.foldl_nil]

end

/-! Groups. -/

theorem State.reachOf_nothing (hf : s.cat.flight = []) (t : Nat) : s.reachOf t = s.now := by
  simp [State.reachOf, hf]

theorem State.groupEvent_alone {g r : Nat} {en : Bool} (hg : s.cat.groupEv = []) :
    s.groupEvent g r en =
      ((({ s with cat := { s.cat with groupEv :=
        [(g, r, (if en then 2 else 0) + if bit (s.getF Fld.catalogue.groupLive 0) g ≠ en then 1 else 0)] } }).count 0x13 g
        (if en then 0 else 1)).count 0x12 (if en then 220 + g else 236 + g) 0).setGroup g en := by
  simp only [State.groupEvent, hg, List.any_nil, Bool.not_false, Bool.and_true, Bool.false_eq_true, if_false,
    decide_eq_true_eq]
  rfl

/-- Settles O46: pins, cues, cells and groups by the equations above. -/
theorem catalogueInputsAndOutputsAct : Obligations.CatalogueInputsAndOutputsAct := by
  refine ⟨?edge, ?output, ?cue, ?cell, ?group⟩
  case edge =>
    intro g lv f s t ball at_
    refine ⟨fun h => congrArg Host.Outcome.next (State.gpioInput_same h), fun h hdue => ⟨fun hc => ?_, fun hc => ?_⟩⟩
    · exact congrArg Host.Outcome.next
        ((State.gpioInput_changed h).trans (State.gpioEdge_plain (s := s.gpioDriven g.val lv) hdue hc))
    · exact congrArg Host.Outcome.next
        ((State.gpioInput_changed h).trans (State.gpioEdge_fires (s := s.gpioDriven g.val lv) hdue hc))
  case output =>
    intro g s
    exact ⟨fun hb => congrArg Host.Outcome.next (State.evtGpio_input hb),
      fun hb ht => congrArg Host.Outcome.next (State.evtGpio_toggles hb ht),
      fun hb ht he => congrArg Host.Outcome.next (State.evtGpio_busy hb ht he),
      fun hb ht he => congrArg Host.Outcome.next (State.evtGpio_pulses hb ht he),
      fun h0 ht => congrArg Host.Outcome.next (State.gpioPulseEnd_due h0 ht)⟩
  case cue =>
    intro n w err s
    refine ⟨fun hp h0 hg => congrArg Host.Outcome.next ((if_pos hp).trans (State.evtCue_sends h0 hg)),
      fun hp h => congrArg Host.Outcome.next ((if_pos hp).trans (State.evtCue_busy h)),
      fun hp => ⟨congrArg Host.Outcome.next (if_neg (by simp [hp])),
        congrArg Host.Outcome.next (State.cueWord_off (.inl hp))⟩,
      fun hg => congrArg Host.Outcome.next (State.cueWord_off (.inr hg)),
      fun hp hg => ⟨congrArg Host.Outcome.next (State.cueWord_on hp hg),
        congrArg Host.Outcome.next (State.cueWord_on hp hg)⟩,
      fun h0 ht => congrArg Host.Outcome.next (State.cueWordEnd_due h0 ht)⟩
  case cell =>
    intro j r v rest s hq hr hrest t
    exact congrArg Host.Outcome.next (State.lutChange_first hq hr hrest)
  case group =>
    intro g s hg hf was
    have hwas : bit (s.getF Fld.catalogue.groupLive 0) g.val = was := rfl
    clear_value was
    have hev : ∀ en, s.groupEvent g.val s.now en = _ := fun en => State.groupEvent_alone hg
    rw [hwas] at hev
    constructor
    · refine congrArg Host.Outcome.next ?_
      rw [State.reachOf_nothing hf, hev true]
      cases was <;> rfl
    · refine congrArg Host.Outcome.next ?_
      rw [State.reachOf_nothing hf, hev false]
      cases was <;> rfl

end Sys2Proof.Machine
end

/-! ### The interval of a producer (R340, R346, R347) -/

section
namespace Sys2Proof.Machine

variable {s : State} {p r : Nat} {ball : Option Nat}

/-- The state in which producer p has fired at instant x. -/
def State.producerFired (s : State) (p x : Nat) : State :=
  ({ s with cat := { s.cat with last := sset (fun _ => 0) s.cat.last p (x + 1) } }).count 0x11 p 0

theorem State.getF_producerFired (f : Field) (x n : Nat) : (s.producerFired p x).getF f n = s.getF f n := rfl

theorem State.rowGroup_producerFired (x q : Nat) : (s.producerFired p x).rowGroup q = s.rowGroup q := rfl

theorem State.matrixRow_producerFired (x q : Nat) : (s.producerFired p x).matrixRow q = s.matrixRow q := rfl

theorem State.gate_sure {x : Nat} (hu : s.gateUnsure p x = false) :
    s.gate p x = (bit (s.getF Fld.catalogue.groupLive 0) (s.rowGroup p), s) := by
  rw [State.gate, if_neg (by simp [hu])]

theorem State.gate_unsure {x : Nat} (hu : s.gateUnsure p x = true) :
    s.gate p x = (Config.choice s.free, { s with free := s.free + 1 }) := by
  rw [State.gate, if_pos hu]
  rfl

section
variable (hp : s.powered (producerDom p) = true) {x : Nat} (hx : s.lift r = x)
include hp hx

theorem State.fireAt_tooSoon (h : s.tooSoon p x = true) :
    s.fireAt p r ball = (s.raise Fld.catalogue.loopDrop 0).count 0x11 p 1 := by
  simp only [State.fireAt, hp, hx, h, Bool.not_true, Bool.false_eq_true, if_false, if_true]

variable (h : s.tooSoon p x = false)
include h

theorem State.fireAt_fires {passes : Bool} {u : State} (hg : (s.producerFired p x).gate p x = (passes, u)) :
    s.fireAt p r ball = if passes then u.forkEvent (s.matrixRow p) x ball else u.count 0x11 p 2 := by
  have hgate : State.gate (({ s with cat := { s.cat with last := sset (fun _ => 0) s.cat.last p (x + 1) } }).count 0x11 p 0)
      p x = (passes, u) := hg
  have hrow := State.matrixRow_producerFired (s := s) (p := p) x p
  rw [State.producerFired] at hrow
  simp only [State.fireAt, hp, hx, h, hgate, hrow, Bool.not_true, Bool.false_eq_true, if_false]
  cases passes <;> rfl

theorem State.fireAt_gated (hu : (s.producerFired p x).gateUnsure p x = false)
    (hg : bit (s.getF Fld.catalogue.groupLive 0) (s.rowGroup p) = false) :
    s.fireAt p r ball = (s.producerFired p x).count 0x11 p 2 := by
  rw [State.fireAt_fires hp hx h (State.gate_sure hu), State.getF_producerFired, State.rowGroup_producerFired, hg]
  exact if_neg Bool.false_ne_true

theorem State.fireAt_forks (hu : (s.producerFired p x).gateUnsure p x = false)
    (hg : bit (s.getF Fld.catalogue.groupLive 0) (s.rowGroup p) = true) :
    s.fireAt p r ball = (s.producerFired p x).forkEvent (s.matrixRow p) x ball := by
  rw [State.fireAt_fires hp hx h (State.gate_sure hu), State.getF_producerFired, State.rowGroup_producerFired, hg]
  exact if_pos rfl

theorem State.fireAt_unsure (hu : (s.producerFired p x).gateUnsure p x = true) :
    s.fireAt p r ball =
      if Config.choice s.free then
        ({ s.producerFired p x with free := s.free + 1 }).forkEvent (s.matrixRow p) x ball
      else ({ s.producerFired p x with free := s.free + 1 }).count 0x11 p 2 :=
  State.fireAt_fires hp hx h (State.gate_unsure hu)

end

/-- Settles O47: an event comes too soon, or fires and passes its group's gate or not. -/
theorem producersFireAtMostOnceInEightTicks : Obligations.ProducersFireAtMostOnceInEightTicks := by
  intro p r ball s hp x last f
  have hlast : s.lastFired p = last := rfl
  have hx : s.lift r = x := rfl
  have hf : s.producerFired p x = f := rfl
  clear_value f
  clear_value last x
  subst hf
  refine ⟨fun l hl hlt => State.fireAt_tooSoon hp hx ?_, fun l hl => ?_⟩
  · rw [State.tooSoon, hlast]
    exact decide_eq_true (by omega)
  · have hlate : s.tooSoon p x = false := by
      rw [State.tooSoon, hlast]
      exact decide_eq_false (by omega)
    exact ⟨State.fireAt_gated hp hx hlate, State.fireAt_forks hp hx hlate, State.fireAt_unsure hp hx hlate⟩

end Sys2Proof.Machine
end

/-! ### The time domains (R314 to R323) -/

section
namespace Sys2Proof.Machine

variable {s : State} {b : Bool}

/-! #### Edges and misses -/

theorem State.ppsEdge_unused {q : Nat} (h : s.follower = true ∨ s.domState b = 0) : s.ppsEdge b q = s := if_pos h

section
variable (hf : s.follower = false) {q : Nat}
include hf

theorem State.ppsEdge_used (h : s.domState b ≠ 0) :
    s.ppsEdge b q =
      (let r : Int := q - s.ppsDelay b
       if s.domState b = 3 then (s.setDomState b 1).setDom b { s.dom b with edges := [r], misses := 0, lockAt := none }
       else if s.domState b = 1 then s.acquire b r
       else if (r - s.expectedEdge b).natAbs ≤ s.pulseWin.toNat then
         ((s.onPulse b r).count 0x0F 0 (if b then 5 else 0)).fireAt (if b then 182 else 181) q none
       else (s.raise Fld.time.pulseReject 0).count 0x0F 0 ((if b then 5 else 0) + 1)) :=
  if_neg (by simp [hf, h])

theorem State.ppsEdge_lost (h : s.domState b = 3) :
    s.ppsEdge b q =
      (s.setDomState b 1).setDom b { s.dom b with edges := [(q : Int) - s.ppsDelay b], misses := 0, lockAt := none } :=
  (State.ppsEdge_used hf (by omega)).trans (if_pos h)

theorem State.ppsEdge_acquiring (h : s.domState b = 1) : s.ppsEdge b q = s.acquire b ((q : Int) - s.ppsDelay b) :=
  (State.ppsEdge_used hf (by omega)).trans ((if_neg (by omega)).trans (if_pos h))

variable (h : s.domState b = 2)
include h

theorem State.ppsEdge_accepted (hw : ((q : Int) - s.ppsDelay b - s.expectedEdge b).natAbs ≤ s.pulseWin.toNat) :
    s.ppsEdge b q = ((s.onPulse b ((q : Int) - s.ppsDelay b)).count 0x0F 0 (if b then 5 else 0)).fireAt
      (if b then 182 else 181) q none :=
  (State.ppsEdge_used hf (by omega)).trans ((if_neg (by omega)).trans ((if_neg (by omega)).trans (if_pos hw)))

theorem State.ppsEdge_rejected (hw : s.pulseWin.toNat < ((q : Int) - s.ppsDelay b - s.expectedEdge b).natAbs) :
    s.ppsEdge b q = (s.raise Fld.time.pulseReject 0).count 0x0F 0 (if b then 6 else 1) := by
  rw [State.ppsEdge_used hf (by omega)]
  dsimp only
  rw [if_neg (by omega), if_neg (by omega), if_neg (by omega)]
  cases b <;> rfl

theorem State.pulseMiss_first (hm : s.missTick b ≤ s.tick) (h0 : (s.dom b).misses = 0) :
    s.pulseMiss b =
      (s.setDom b { s.dom b with misses := 1, expect := (s.dom b).expect + 1 }).count 0x0F 0 (if b then 7 else 2) := by
  have hd : s.missDue b = true := by simp [State.missDue, hf, h, hm]
  rw [State.pulseMiss, if_neg (by simp [hd])]
  dsimp only
  rw [h0, if_pos (by omega)]
  cases b <;> rfl

end

/-! #### Locks and loop updates -/

theorem State.objs_setDom (d : DomRt) : (s.setDom b d).objs = s.objs := by cases b <;> rfl

theorem State.objs_changeSet (k : Bool) (r : Nat) (f : TimeSet → TimeSet) : (s.changeSet k r f).objs = s.objs := by
  rw [State.changeSet]
  split <;> rfl

theorem State.domains_changeSet (k : Bool) (r : Nat) (f : TimeSet → TimeSet) :
    (s.changeSet k r f).tm.domA = s.tm.domA ∧ (s.changeSet k r f).tm.domB = s.tm.domB ∧
      (s.changeSet k r f).tm.epoch = s.tm.epoch := by
  rw [State.changeSet]
  split <;> exact ⟨rfl, rfl, rfl⟩

/-- The states of the two domains lie beside each other in OBJ_TIME: setting one leaves the other. -/
theorem State.domState_not_setDomState (v : Nat) : (s.setDomState b v).domState (!b) = s.domState (!b) := by
  cases b
  · exact State.getF_setF_apart _ _ _ _ _ rfl (by decide)
  · exact State.getF_setF_apart _ _ _ _ _ rfl (by decide)

theorem State.domState_of_objs {t : State} (h : t.objs = s.objs) : t.domState b = s.domState b :=
  getF_of_objs_eq h _ _

section
variable {t : Nat} {rate r4 : Int} (hl : (s.dom b).lockAt = some (t, rate, r4))
include hl

theorem State.lockDue_of_lockAt : s.lockDue b = (decide (s.domState b = 1 ∧ t ≤ s.tick) && !s.follower) := by
  rw [State.lockDue, hl]

theorem State.domainLock_early (h : s.tick < t) : s.domainLock b = s := by
  have hd : s.lockDue b = false := by rw [State.lockDue_of_lockAt hl]; simp [Nat.not_le.2 h]
  rw [State.domainLock, hl]
  exact if_pos (by simp [hd])

/-- The lock of a domain that is not the active one while the other is not LOST. -/
theorem State.domainLock_passive (ht : t ≤ s.tick) (h1 : s.domState b = 1) (hf : s.follower = false) (ha : s.tm.now.act ≠ b)
    (ho : s.domState (!b) ≠ 3) {n off : Int}
    (hn : roundDiv (s.sysAt r4.toNat) sysSecond + (s.tm.now.steps - (s.setAtRaw r4.toNat).steps) = n)
    (hoff : n * sysSecond - (r4 * 2 ^ 12 + r4 * rate / 2 ^ 36) = off) :
    s.domainLock b = (((s.changeTime s.changeInstant (fun q => withDom q b rate off)).setDomState b 2).setDom b
        { s.dom b with
          edges := [], rf := rate, rprev := r4, everLocked := true, misses := 0, lockAt := none, updates := []
          expect := n + 1 }).count 0x0F 0 (if b then 9 else 4) := by
  have hd : s.lockDue b = true := by rw [State.lockDue_of_lockAt hl]; simp [hf, h1, ht]
  have hact : s.tm.now.act = !b := by cases b <;> simpa using ha
  rw [State.domainLock, hl]
  dsimp only
  rw [if_neg (by simp [hd]), hn, hoff]
  simp only [ha, decide_false, Bool.false_eq_true, if_false, false_and]
  refine if_neg fun h => ho ?_
  rw [← h.2, hact]
  rw [State.domState_of_objs ((State.count_objs _ _ _ _).trans (State.objs_setDom _)), State.domState_not_setDomState]
  exact (State.domState_of_objs (State.objs_changeSet _ _ _)).symm

end

section
variable {w : Nat × Int} {rest : List (Nat × Int)} (hu : (s.dom b).updates = w :: rest)
include hu

theorem State.loopUpdate_of_updates :
    s.loopUpdate b =
      if s.tick < w.1 then s
      else
        let s1 := s.setDom b { s.dom b with updates := rest }
        if s.domState b ≠ 2 then s1
        else
          let u : Int := s.raw
          s1.changeTime s.now (fun q => withDom q b w.2 (offOf q b + u * rateOf q b / 2 ^ 36 - u * w.2 / 2 ^ 36)) := by
  rw [State.loopUpdate, hu]

theorem State.loopUpdate_early (h : s.tick < w.1) : s.loopUpdate b = s :=
  (State.loopUpdate_of_updates hu).trans (if_pos h)

theorem State.loopUpdate_unlocked (h : w.1 ≤ s.tick) (h2 : s.domState b ≠ 2) :
    s.loopUpdate b = s.setDom b { s.dom b with updates := rest } :=
  (State.loopUpdate_of_updates hu).trans ((if_neg (by omega)).trans (if_pos h2))

theorem State.loopUpdate_locked (h : w.1 ≤ s.tick) (h2 : s.domState b = 2) :
    s.loopUpdate b = (s.setDom b { s.dom b with updates := rest }).changeTime s.now (fun q => withDom q b w.2
      (offOf q b + (s.raw : Int) * rateOf q b / 2 ^ 36 - (s.raw : Int) * w.2 / 2 ^ 36)) :=
  (State.loopUpdate_of_updates hu).trans ((if_neg (by omega)).trans (if_neg (by omega)))

end

/-! #### Switches and epoch steps -/

/-- The state in which no TIME_SWITCH waits. -/
def State.noSwitches (s : State) : State := { s with tm := { s.tm with switches := [] } }

section
variable {t id : Nat} {step : Bool} (hw : s.tm.switches = [(t, b, step, id)])
include hw

theorem State.domainSwitch_early (h : s.tick < t) : s.domainSwitch = s := by
  rw [State.domainSwitch, hw, List.find?_cons_of_neg (by simp [h]), List.find?_nil]

theorem State.domainSwitch_due (h : t ≤ s.tick) :
    s.domainSwitch =
      if s.domState b ≠ 2 then s.noSwitches.completeId id (Reply.fail .state)
      else if s.tm.now.act = b then s.noSwitches.completeId id Reply.ok
      else (s.noSwitches.switchTo b step).completeId id (Reply.ok64 s.tick) := by
  have hrest : ([(t, b, step, id)] : List (Nat × Bool × Bool × Nat)).filter (fun v => decide (v.2.2.2 ≠ id)) = [] := by simp
  rw [State.domainSwitch, hw, List.find?_cons_of_pos (by simp [h])]
  dsimp only
  rw [hrest]
  rfl

end

section
variable {t e id r : Nat} (he : s.tm.epoch = [(t, e, id)]) (hr : s.secondSlot (s.lift (16 * t)) = some r)
include he hr

theorem State.epochStep_alone {d : Int} (hd : (e : Int) - sysTime (s.setAtRaw r) r / sysSecond = d) {u : State}
    (hu : s.changeTime r (fun q => { q with
      offA := q.offA + d * sysSecond, offB := q.offB + d * sysSecond, steps := q.steps + d }) = u) :
    s.epochStep = (((({ u with tm := { u.tm with
      epoch := []
      domA := { s.tm.domA with expect := s.tm.domA.expect + d }
      domB := { s.tm.domB with expect := s.tm.domB.expect + d } } } : State).setF Fld.time.epochSet 0 1).raise
        Fld.time.timeStepped 0).count 0x0F 0 11).completeId id (Reply.ok64 (w64 r / 16)) := by
  have hs : s.epochSlot = some ((t, e, id), r) := by rw [State.epochSlot, he]; dsimp only; rw [hr]
  obtain ⟨hA, hB, hE⟩ : u.tm.domA = s.tm.domA ∧ u.tm.domB = s.tm.domB ∧ u.tm.epoch = s.tm.epoch := by
    rw [← hu]
    exact State.domains_changeSet _ _ _
  rw [State.epochStep, hs]
  dsimp only
  rw [hd, hu, hA, hB, hE, he, List.drop_one, List.tail_cons]

end

/-- Settles O48: edges, misses, locks, loop updates, switches and epoch steps act as the state of their domain says. -/
theorem domainsAcquireLockMissAndSwitch : Obligations.DomainsAcquireLockMissAndSwitch := by
  refine ⟨?edge, ?miss, ?lock, ?loop, ?switch, ?epoch⟩
  case edge =>
    intro b f s q r
    exact ⟨fun h => congrArg Host.Outcome.next (State.ppsEdge_unused h),
      fun hf h => congrArg Host.Outcome.next (State.ppsEdge_acquiring hf h),
      fun hf h hw => congrArg Host.Outcome.next (State.ppsEdge_accepted hf h hw),
      fun hf h => congrArg Host.Outcome.next (State.ppsEdge_lost hf h),
      fun hf h hw => congrArg Host.Outcome.next (State.ppsEdge_rejected hf h hw)⟩
  case miss => exact fun b s h2 hf hm h0 => congrArg Host.Outcome.next (State.pulseMiss_first hf h2 hm h0)
  case lock =>
    intro b t rate r4 s hl
    exact ⟨fun h => congrArg Host.Outcome.next (State.domainLock_early hl h),
      fun ht h1 hf ha ho _ => congrArg Host.Outcome.next (State.domainLock_passive hl ht h1 hf ha ho rfl rfl)⟩
  case loop =>
    intro b w rest s hu
    exact ⟨fun h => congrArg Host.Outcome.next (State.loopUpdate_early hu h),
      fun h h2 => congrArg Host.Outcome.next (State.loopUpdate_unlocked hu h h2),
      fun h h2 => congrArg Host.Outcome.next (State.loopUpdate_locked hu h h2)⟩
  case switch =>
    intro t id b step s hw
    refine ⟨fun h => congrArg Host.Outcome.next (State.domainSwitch_early hw h), fun h => ?_⟩
    have hdue := State.domainSwitch_due hw h
    exact ⟨fun h2 => congrArg Host.Outcome.next (hdue.trans (if_pos h2)),
      fun h2 ha => congrArg Host.Outcome.next (hdue.trans ((if_neg (by omega)).trans (if_pos ha))),
      fun h2 ha => congrArg Host.Outcome.next (hdue.trans ((if_neg (by omega)).trans (if_neg ha)))⟩
  case epoch =>
    intro s t e id r he hr d u v
    exact congrArg Host.Outcome.next (State.epochStep_alone he hr rfl rfl)

/-! #### Continuity of a switch (R323) -/

theorem State.tm_reachInput (t r st : Nat) : (s.reachInput t r st).tm = s.tm := rfl

theorem State.tm_forkEvent (row r : Nat) (ball : Option Nat) : (s.forkEvent row r ball).tm = s.tm := by
  rw [State.forkEvent]
  refine foldl_keeps State.tm (fun u t => ?_) _ _
  dsimp only
  rw [State.tm_reachInput, State.draw_tm]

theorem State.tm_gate (p r : Nat) : (s.gate p r).2.tm = s.tm := by
  rw [State.gate]
  split <;> rfl

theorem State.tm_fireAt (p r : Nat) (ball : Option Nat) : (s.fireAt p r ball).tm = s.tm := by
  rw [State.fireAt]
  dsimp only
  split
  · rfl
  · split
    · rw [State.count_tm, State.raise_tm]
    · split
      · rw [State.count_tm, State.tm_gate, State.count_tm]
      · rw [State.tm_forkEvent, State.tm_gate, State.count_tm]

/-- A switch without STEP changes no parameters but by its one change of time. -/
theorem State.tm_switchTo :
    (s.switchTo b false).tm = (s.changeTime s.changeInstant (fun q => { q with
      act := b
      cont0 := domAt s.tm.now s.tm.now.act (w64 s.changeInstant) + contAt s.tm.now s.changeInstant -
        domAt s.tm.now b (w64 s.changeInstant)
      contAt := s.changeInstant })).tm := by
  rw [State.switchTo, State.tm_fireAt, if_neg Bool.false_ne_true, if_neg Bool.false_ne_true, State.count_tm, State.setF_tm, State.raise_tm]

/-- At the instant from which it decays, a continuity offset has its first value. -/
theorem contAt_start (p : TimeSet) : contAt p p.contAt = p.cont0 := by
  rw [contAt, Int.sub_self, Int.zero_mul, Int.zero_mul, Int.zero_ediv, Int.sub_zero]
  split <;> split <;> omega

theorem sysTime_eq (p : TimeSet) (r : Nat) : sysTime p r = domAt p p.act (w64 r) + contAt p r := by
  cases h : p.act <;> simp [sysTime, domAt, domTime, rateOf, offOf, h]

theorem sysTime_of_switched {p q : TimeSet} {r : Nat} (hrate : rateOf q b = rateOf p b) (hoff : offOf q b = offOf p b)
    (hact : q.act = b) (hat : q.contAt = r)
    (hc : q.cont0 = domAt p p.act (w64 r) + contAt p r - domAt p b (w64 r)) : sysTime q r = sysTime p r := by
  have hdom : domAt q b (w64 r) = domAt p b (w64 r) := by rw [domAt, domAt, hrate, hoff]
  have hcont : contAt q r = q.cont0 := by rw [← hat, contAt_start]
  rw [sysTime_eq p, sysTime_eq, hact, hdom, hcont, hc]
  omega

/-- Settles O49: the continuity offset takes up the difference of the domains. -/
theorem switchKeepsSystemTimeContinuous : Obligations.SwitchKeepsSystemTimeContinuous := by
  intro s b
  rw [State.tm_switchTo, State.changeTime, State.changeSet]
  split
  · rfl
  · exact sysTime_of_switched (b := b) (by cases b <;> rfl) (by cases b <;> rfl) rfl rfl rfl

end Sys2Proof.Machine
end

/-! ### Time pulses, PPS_OUT and stamps (R325 to R328) -/

section
namespace Sys2Proof.Machine

variable {s : State} {n : Nat}

theorem State.tpOnce_of_none (h : s.tpDue n = none) : s.tpOnce n = s := by rw [State.tpOnce, h]

theorem State.tpOnce_of_edge {r k : Nat} (h : s.tpDue n = some (some r, k)) : s.tpOnce n = s.tpRise n r := by
  rw [State.tpOnce, h]

theorem State.tpOnce_of_skip {k : Nat} (h : s.tpDue n = some (none, k)) : s.tpOnce n = s.tpSkip n k := by
  rw [State.tpOnce, h]

theorem State.getF_emit (f : Field) (m : Nat) (o : Outgoing) : (s.emit o).getF f m = s.getF f m := rfl

theorem State.getF_tpLevel (f : Field) (m r : Nat) (high : Bool) : (s.tpLevel n high r).getF f m = s.getF f m := rfl

/-- The end of a pulse changes no field of its block but TP_ACTIVE. -/
theorem State.getF_tpFall (f : Field) (r : Nat) (hf : f.lsb + f.width ≤ Fld.tp.tpActive.lsb ∨
    Fld.tp.tpActive.lsb + Fld.tp.tpActive.width ≤ f.lsb) :
    (s.tpFall n r).getF (tpF n f) 0 = s.getF (tpF n f) 0 := by
  have hlsb : (tpF n f).lsb + (tpF n f).width ≤ (tpF n Fld.tp.tpActive).lsb ∨
      (tpF n Fld.tp.tpActive).lsb + (tpF n Fld.tp.tpActive).width ≤ (tpF n f).lsb := by
    simp only [tpF]
    omega
  rw [State.tpFall]
  dsimp only
  rw [State.getF_tpLevel, State.getF_setF_apart _ (tpF n Fld.tp.tpActive) (tpF n f) _ _ rfl hlsb]
  exact getF_of_objs_eq rfl _ _

section
variable (h : s.tpEndDue n = true)
include h

theorem State.tpPulseEnd_due :
    s.tpPulseEnd n =
      (let s1 := s.tpFall n (sget (fun _ => 0) s.tm.tpEnd n)
       if s1.getF (tpF n Fld.tp.period) 0 = 0 then s1.setF (tpF n Fld.tp.tpEn) 0 0 else s1) :=
  if_neg (by simp [h])

theorem State.tpPulseEnd_train (hp : s.getF (tpF n Fld.tp.period) 0 ≠ 0) :
    s.tpPulseEnd n = s.tpFall n (sget (fun _ => 0) s.tm.tpEnd n) :=
  (State.tpPulseEnd_due h).trans (if_neg (by rwa [State.getF_tpFall _ _ (by decide)]))

theorem State.tpPulseEnd_single (hp : s.getF (tpF n Fld.tp.period) 0 = 0) :
    s.tpPulseEnd n = (s.tpFall n (sget (fun _ => 0) s.tm.tpEnd n)).setF (tpF n Fld.tp.tpEn) 0 0 :=
  (State.tpPulseEnd_due h).trans (if_pos (by rwa [State.getF_tpFall _ _ (by decide)]))

end

theorem State.ppsOutEdge_off (h : s.flag Fld.time.ppsOutEn 0 = false) : s.ppsOutEdge = s := by
  have hslot : s.ppsOutSlot = none := by rw [State.ppsOutSlot, if_pos (by simp [h])]
  rw [State.ppsOutEdge, hslot]

/-- A rise of PPS_OUT at slot r; `u` is the state after the pulse that ends by then. -/
theorem State.ppsOutEdge_of_slot {r : Nat} (h : s.ppsOutSlot = some r) {u : State}
    (hu : (if s.tm.ppsFall ≠ 0 ∧ s.tm.ppsFall ≤ r then s.emit (.edge 4 false (w64 s.tm.ppsFall)) else s) = u) :
    s.ppsOutEdge = ((({ u with tm := { s.tm with
      ppsLast := s.ppsSecond (s.setAtRaw r) r + 1, ppsFall := r + 16 * s.getF Fld.time.ppsOutWidth 0
      ppsSpan := (r + 1, r + 16 * s.getF Fld.time.ppsOutWidth 0) } } : State).emit (.edge 4 true (w64 r))).fireAt 180 r none) := by
  have htm : u.tm = s.tm := by
    rw [← hu]
    split <;> rfl
  rw [State.ppsOutEdge, h]
  dsimp only
  rw [hu, htm]

theorem State.ppsOutFall_due (h0 : s.tm.ppsFall ≠ 0) (h : s.tm.ppsFall < s.tm.lookTo) :
    s.ppsOutFall = ({ s with tm := { s.tm with ppsFall := 0 } } : State).emit (.edge 4 false (w64 s.tm.ppsFall)) :=
  if_pos (decide_eq_true ⟨h0, h⟩)

theorem State.tm_delivered (t : Nat) : (s.delivered t).tm = s.tm := rfl

section
variable {stamp l : Nat} (hl : (s.tm.stamps.filter (fun e => decide (e.1 = n))).length = l)
include hl

theorem State.stampEvent_full (h : 64 ≤ l) :
    s.stampEvent n stamp = ((s.count 0x12 (148 + n) 0).markLost (82 + n)).count 0x10 n 1 := by
  rw [State.stampEvent]
  exact if_pos (by rwa [State.tm_delivered, hl])

theorem State.stampEvent_room (h : l < 64) :
    s.stampEvent n stamp = ({ s.count 0x12 (148 + n) 0 with tm := { s.tm with
      stamps := s.tm.stamps ++ [(n, w64 stamp, sget (fun _ => 0) s.tm.stampCount n + 1)]
      stampCount := sset (fun _ => 0) s.tm.stampCount n (sget (fun _ => 0) s.tm.stampCount n + 1) } } : State).count 0x10 n 0 := by
  rw [State.stampEvent]
  exact if_neg (by rw [State.tm_delivered, hl]; omega)

end

/-- Settles O50: edges, falls and stamps follow what the tick holds for their unit. -/
theorem timePulsesAndStampsFollowTheirInstants : Obligations.TimePulsesAndStampsFollowTheirInstants := by
  refine ⟨?pulse, ?pps, ?stamp⟩
  case pulse =>
    intro n r k s
    refine ⟨fun h => congrArg Host.Outcome.next ?_, fun h => congrArg Host.Outcome.next ?_,
      fun h => congrArg Host.Outcome.next ?_, fun h hp _ => congrArg Host.Outcome.next (State.tpPulseEnd_train h hp),
      fun h hp _ => congrArg Host.Outcome.next (State.tpPulseEnd_single h hp)⟩
    · rw [State.tpEdge, State.tpOnce_of_none h, State.tpOnce_of_none h, State.tpOnce_of_none h, State.tpOnce_of_none h]
    · rw [State.tpEdge, State.tpOnce_of_edge h]
    · rw [State.tpEdge, State.tpOnce_of_skip h]
  case pps =>
    intro s r
    exact ⟨fun h => congrArg Host.Outcome.next (State.ppsOutEdge_off h),
      fun h => congrArg Host.Outcome.next (State.ppsOutEdge_of_slot h rfl),
      fun h0 h => congrArg Host.Outcome.next (State.ppsOutFall_due h0 h)⟩
  case stamp =>
    intro n f s t l c
    have hw : w64 f.toNat = f.toNat := Nat.mod_eq_of_lt f.isLt
    refine ⟨fun h => congrArg Host.Outcome.next ?_, fun h => congrArg Host.Outcome.next (State.stampEvent_full rfl h)⟩
    rw [State.stampEvent_room rfl h, hw]

end Sys2Proof.Machine
end

/-! ### The Ethernet port (R330, R331, R400, R401, R404) -/

section
namespace Sys2Proof.Machine

variable {s : State} {rx : EthRx} {k : EthTraffic} {msg : List Byte}

/-- The state in which the port has taken note of a frame with an error. -/
def State.ethRxError (s : State) : State :=
  { s.raise Fld.eth.rxErr 0 with eth := { s.eth with rxErrs := s.eth.rxErrs + 1 } }

/-! #### Reception -/

theorem State.ethTake_down (h : s.ethUp = false) : s.ethTake rx = (false, s) := if_pos (by simp [h])

section
variable (h : s.ethUp = true)
include h

theorem State.ethTake_error (hb : rx.bad = true ∨ 9000 < rx.size.toNat) : s.ethTake rx = (false, s.ethRxError) := by
  rw [State.ethTake, if_neg (by simp [h]), if_pos hb]
  dsimp only
  rw [State.raise_eth, State.ethRxError]

section
variable (hb : rx.bad = false) (hs : rx.size.toNat ≤ 9000)
include hb hs

theorem State.ethTake_untagged (hv : s.vlanOk rx = false) : s.ethTake rx = (false, s.ethDrop) := by
  rw [State.ethTake, if_neg (by simp [h]), if_neg (by simp [hb, hs]), if_pos (by simp [hv])]

theorem State.ethTake_taken (hv : s.vlanOk rx = true) : s.ethTake rx = (true, s) := by
  rw [State.ethTake, if_neg (by simp [h]), if_neg (by simp [hb, hs]), if_neg (by simp [hv])]

end

theorem State.ethSend_free {e : TxEntry} (hp : s.eth.pauseEnd ≤ s.tick) (hq : s.eth.txq = []) :
    s.ethSend e = s.frameSent e := by
  obtain ⟨hd, hl⟩ := Bool.and_eq_true_iff.1 h
  rw [State.ethSend, if_neg (by simp [hd, hl]), if_pos ⟨hp, hq⟩]

end

/-- A frame that the port does not take goes nowhere. -/
theorem State.ethRequest_refused {t : State} (h : s.ethTake rx = (false, t)) : s.ethRequest rx k = t := by
  rw [State.ethRequest, h]
  rfl

theorem State.ptpMessage_refused {t : State} (h : s.ethTake rx = (false, t)) : s.ptpMessage rx msg = t := by
  rw [State.ptpMessage, h]
  rfl

section
variable (h : s.ethTake rx = (true, s))
include h

theorem State.ethRequest_answered (ha : s.ethAnswers rx.target.toNat k = true) :
    s.ethRequest rx k = s.ethSend ⟨.ethAnswer (s.ethTx rx.mac.toNat) rx.ip.toNat k, 0, 0⟩ := by
  rw [State.ethRequest, h]
  dsimp only
  rw [if_neg (by decide), if_pos ha]

theorem State.ethRequest_dropped (ha : s.ethAnswers rx.target.toNat k = false) : s.ethRequest rx k = s.ethDrop := by
  rw [State.ethRequest, h]
  dsimp only
  rw [if_neg (by decide), if_neg (by simp [ha])]

/-! #### PTP messages -/

theorem State.ptpMessage_off (ho : s.ptpOn = false) : s.ptpMessage rx msg = s.ethDrop := by
  rw [State.ptpMessage, h]
  dsimp only
  rw [if_neg (by decide), if_pos (.inl (by simp [ho]))]

section
variable (ho : s.ptpOn = true) (ht : rx.target.toNat = (ptpGroup (s.getF Fld.time.ptpTransport 0) false).1)
include ho ht

theorem State.ptpMessage_otherDomain (hd : beNat (sub msg 4 1) ≠ s.getF Fld.time.ptpDomain 0) :
    s.ptpMessage rx msg = ({ s.count 0x0F 0 22 with free := s.free + 1 } : State).count 0x0F 0 24 := by
  rw [State.ptpMessage, h]
  dsimp only
  rw [if_neg (by decide), if_neg (by simp [ho, ht]), if_pos (.inr (.inr hd))]
  rfl

theorem State.ptpMessage_announce (hl : 64 ≤ msg.length) (hv : beNat (sub msg 1 1) % 16 = 2)
    (hd : beNat (sub msg 4 1) = s.getF Fld.time.ptpDomain 0) (hk : ptpKind msg = 0xB)
    (hm : s.flag Fld.time.ptpMasterOnly 0 = false) :
    s.ptpMessage rx msg =
      if announceTaken msg then ({ s.count 0x0F 0 22 with free := s.free + 1 } : State).announced msg
      else ({ s.count 0x0F 0 22 with free := s.free + 1 } : State).count 0x0F 0 24 := by
  have hlen : ¬ msg.length < ptpLength (ptpKind msg) := by rw [hk]; exact Nat.not_lt.2 hl
  rw [State.ptpMessage, h]
  dsimp only
  rw [if_neg (by decide), if_neg (by simp [ho, ht]), if_neg (by simp [hlen, hv, hd]), hk]
  cases ha : announceTaken msg
  · exact if_pos (.inr (by simp))
  · exact if_neg (by simp [hm])

end
end

/-! #### What a master sends -/

/-- A master whose Announce alone is due sends it. -/
theorem State.ptpInterval_announce (hu : s.ethUp = true) (ho : s.ptpOn = true) (hs : s.ptpState = 6)
    (hsync : s.tick < s.eth.syncAt) (ha : s.eth.announceAt ≤ s.tick) (hp : s.flag Fld.time.ptpP2p 0 = false) :
    s.ptpInterval = ({ s with eth := { s.eth with
      announceAt := s.tick + logTicks (toS 4 (s.getF Fld.time.logAnnounce 0)) } } : State).sendAnnounce := by
  have hreq : s.ptpRequests = false := by rw [State.ptpRequests, hp, hs]; rfl
  have hdue : s.ptpDue = true := by simp [State.ptpDue, hu, ho, hs, ha]
  rw [State.ptpInterval, if_neg (by simp [hdue])]
  dsimp only
  have hann : decide (s.ptpState = 6) = true ∧ s.eth.announceAt ≤ s.tick := ⟨decide_eq_true hs, ha⟩
  have hno : ¬(decide (s.ptpState = 6) = true ∧ s.eth.syncAt ≤ s.tick) := fun h => by omega
  rw [if_neg (by simp [hreq]), if_pos hann, if_neg hno]

/-- An Announce that the port can send at once. -/
theorem State.sendAnnounce_free (hu : s.ethUp = true) (hp : s.eth.pauseEnd ≤ s.tick) (hq : s.eth.txq = []) :
    s.sendAnnounce =
      (({ s with eth := { s.eth with
        ptp := { s.eth.ptp with announceSeq := (s.eth.ptp.announceSeq + 1) % 2 ^ 16 } } } : State).emit
        (.ptp (s.ethTx (ptpGroup (s.getF Fld.time.ptpTransport 0) false).2) (ptpGroup (s.getF Fld.time.ptpTransport 0) false).1
          (s.ptpBytes 0xB (if s.flag Fld.time.epochArb 0 then 0 else 8) 0 s.eth.ptp.announceSeq
            (ptpField 0 ++ beBytes 2 (s.getF Fld.time.utcOffset 0) ++ beBytes 1 0 ++ beBytes 14 s.ownWord ++ beBytes 2 0 ++
              beBytes 1 (s.getF Fld.time.timeSource 0))))).count 0x0F 0 21 := by
  rw [State.sendAnnounce, State.ptpSend]
  dsimp only
  rw [State.ethSend_free (by exact hu) (by exact hp) (by exact hq)]
  rfl

/-! #### PAUSE and the link -/

theorem State.pauseFrame_down {q : Nat} (h : s.ethUp = false) : s.pauseFrame q = s := if_pos (by simp [h])

theorem State.pauseFrame_mode2 {q : Nat} (h : s.ethUp = true) (hm : s.getF Fld.eth.ethMode 0 = 2) :
    s.pauseFrame q = { s with eth := { s.eth with pauseEnd := s.tick + (512 * q + 24) / 25 } } := by
  rw [State.pauseFrame, if_neg (by simp [h]), hm]
  rfl

theorem State.ptpInterval_down (h : s.ethUp = false) : s.ptpInterval = s := if_pos (by simp [State.ptpDue, h])

theorem State.ethLinkDown_unqueued (hp : s.powered domETH = true) (hq : s.eth.txq = []) :
    s.ethLinkDown = { s.setF Fld.eth.linkUp 0 0 with eth := { s.eth with txq := [], pauseEnd := 0 } } := by
  rw [State.ethLinkDown, if_neg (by simp [hp]), State.dropQueue, State.setF_eth, hq]
  rfl

/-- Settles O51: frames, messages, pauses and the link, each from the lemma of its case. -/
theorem ethernetPortAnswersPausesAndLinks : Obligations.EthernetPortAnswersPausesAndLinks := by
  refine ⟨?down, ?up, ?link, ?message, ?master⟩
  case down =>
    intro rx k q msg s h
    exact ⟨congrArg Host.Outcome.next (State.ethRequest_refused (State.ethTake_down h)),
      congrArg Host.Outcome.next (State.pauseFrame_down h),
      congrArg Host.Outcome.next (State.ptpMessage_refused (State.ethTake_down h)),
      congrArg Host.Outcome.next (State.ptpInterval_down h)⟩
  case up =>
    intro rx k q msg s h drop t err
    refine ⟨fun hb => ?_, fun hb hs hv => ?_, fun hb hs hv => ?_, fun hm => congrArg Host.Outcome.next (State.pauseFrame_mode2 h hm)⟩
    · have he := State.ethTake_error h hb
      exact ⟨congrArg Host.Outcome.next (State.ethRequest_refused he), congrArg Host.Outcome.next (State.ptpMessage_refused he)⟩
    · have he := State.ethTake_untagged h hb hs hv
      exact ⟨congrArg Host.Outcome.next (State.ethRequest_refused he), congrArg Host.Outcome.next (State.ptpMessage_refused he)⟩
    · have he := State.ethTake_taken h hb hs hv
      exact ⟨fun ha hp hq => congrArg Host.Outcome.next ((State.ethRequest_answered he ha).trans (State.ethSend_free h hp hq)),
        fun ha => congrArg Host.Outcome.next (State.ethRequest_dropped he ha),
        fun ho => congrArg Host.Outcome.next (State.ptpMessage_off he ho)⟩
  case link =>
    exact fun s => ⟨fun hp hm => congrArg Host.Outcome.next (if_pos ⟨hp, hm⟩),
      fun h => congrArg Host.Outcome.next (if_neg (by rcases h with h | h <;> simp [h])),
      fun hp hq => congrArg Host.Outcome.next (State.ethLinkDown_unqueued hp hq)⟩
  case message =>
    intro rx msg s h hb hs hv ho ht t
    have he := State.ethTake_taken h hb hs hv
    exact ⟨fun hd => congrArg Host.Outcome.next (State.ptpMessage_otherDomain he ho ht hd),
      fun hl hver hd hk hm => congrArg Host.Outcome.next (State.ptpMessage_announce he ho ht hl hver hd hk hm)⟩
  case master =>
    intro s hu ho hs hsync ha hp hpause hq g t
    exact congrArg Host.Outcome.next ((State.ptpInterval_announce hu ho hs hsync ha hp).trans
      (State.sendAnnounce_free (by exact hu) (by exact hpause) (by exact hq)))

end Sys2Proof.Machine
end

/-! ### The lane scrambler (R431) -/

section
namespace Sys2Proof.Machine

theorem scramble_state (a b n x : Nat) : (scramble a n x).1 = (scramble b n x).1 := by
  induction n generalizing x with
  | zero => rfl
  | succ n ih => exact ih _

/-- The bit that the scrambler adds, and its state after it. -/
def scramBit (x : Nat) : Bool := bit x 27 != bit x 30

def scramNext (x : Nat) : Nat := (2 * x + b2n (scramBit x)) % 2 ^ 31

theorem scramble_succ (w n x : Nat) :
    (scramble w (n + 1) x).2 =
      (scramble w n (scramNext x)).2 + b2n (bit w (64 - (n + 1)) != scramBit x) * 2 ^ (64 - (n + 1)) := rfl

/-- The n bits that are still to come lie at the top. -/
theorem dvd_scramble (w n x : Nat) (hn : n ≤ 64) : 2 ^ (64 - n) ∣ (scramble w n x).2 := by
  induction n generalizing x with
  | zero => exact Nat.dvd_zero _
  | succ n ih =>
    rw [scramble_succ]
    exact Nat.dvd_add (Nat.dvd_trans (Nat.pow_dvd_pow 2 (by omega)) (ih _ (by omega))) (Nat.dvd_mul_left _ _)

theorem bit_mul_pow_add (q k : Nat) (c : Bool) : bit (q * 2 ^ (k + 1) + b2n c * 2 ^ k) k = c := by
  have h : q * 2 ^ (k + 1) + b2n c * 2 ^ k = 2 ^ k * (2 * q + b2n c) := by grind
  rw [bit, h, Nat.testBit_two_pow_mul]
  cases c <;> simp [b2n, Nat.add_mod]

theorem bit_mul_pow_add_above (q k i : Nat) (c : Bool) (hi : k < i) :
    bit (q * 2 ^ (k + 1) + b2n c * 2 ^ k) i = bit (q * 2 ^ (k + 1)) i := by
  have h : q * 2 ^ (k + 1) + b2n c * 2 ^ k = 2 ^ k * (2 * q + b2n c) := by grind
  have hq : q * 2 ^ (k + 1) = 2 ^ k * (2 * q) := by grind
  obtain ⟨j, rfl⟩ : ∃ j, i = k + (j + 1) := ⟨i - k - 1, by omega⟩
  have hc : b2n c ≤ 1 := by cases c with
    | false => decide
    | true => decide
  have hdiv : (2 * q + b2n c) / 2 = 2 * q / 2 := by omega
  rw [bit, bit, h, hq, Nat.testBit_two_pow_mul, Nat.testBit_two_pow_mul, Nat.add_sub_cancel_left, Nat.testBit_succ,
    Nat.testBit_succ, hdiv]

/-- The part of a number from bit k on, by its part from bit k + 1 on. -/
theorem div_pow_mul_succ (x k : Nat) : x / 2 ^ (k + 1) * 2 ^ (k + 1) + b2n (bit x k) * 2 ^ k = x / 2 ^ k * 2 ^ k := by
  have hb : b2n (bit x k) = x / 2 ^ k % 2 := by
    rw [bit, Nat.testBit_eq_decide_div_mod_eq, b2n]
    rcases Nat.mod_two_eq_zero_or_one (x / 2 ^ k) with h | h <;> simp [h]
  have hd : x / 2 ^ (k + 1) = x / 2 ^ k / 2 := by rw [Nat.pow_succ, Nat.div_div_eq_div_mul]
  have hs := Nat.div_add_mod (x / 2 ^ k) 2
  calc x / 2 ^ (k + 1) * 2 ^ (k + 1) + b2n (bit x k) * 2 ^ k
      = (2 * (x / 2 ^ k / 2) + x / 2 ^ k % 2) * 2 ^ k := by rw [hb, hd]; grind
    _ = x / 2 ^ k * 2 ^ k := by rw [hs]

/-- Scrambling again what was scrambled from the same state gives the bits back. -/
theorem scramble_scrambled (a v n x : Nat) (hn : n ≤ 64)
    (hv : ∀ i, 64 - n ≤ i → i < 64 → bit v i = bit (scramble a n x).2 i) :
    (scramble v n x).2 = a % 2 ^ 64 / 2 ^ (64 - n) * 2 ^ (64 - n) := by
  induction n generalizing x with
  | zero => rw [Nat.div_eq_of_lt (Nat.mod_lt _ (by decide)), Nat.zero_mul]; rfl
  | succ n ih =>
    obtain ⟨k, hk⟩ : ∃ k, 64 - (n + 1) = k := ⟨_, rfl⟩
    have hk1 : 64 - n = k + 1 := by omega
    obtain ⟨q, hq⟩ := dvd_scramble a n (scramNext x) (by omega)
    rw [hk1, Nat.mul_comm] at hq
    rw [scramble_succ, hk, hq] at hv
    have hbit : bit v k = (bit a k != scramBit x) :=
      (hv k (by omega) (by omega)).trans (bit_mul_pow_add q k _)
    have hrest := ih (scramNext x) (by omega) fun i hi h64 => by
      rw [hq, hv i (by omega) h64, bit_mul_pow_add_above q k i _ (by omega)]
    have ha : bit a k = bit (a % 2 ^ 64) k := by
      rw [bit, bit, Nat.testBit_mod_two_pow, decide_eq_true (by omega : k < 64), Bool.true_and]
    rw [scramble_succ, hk, hrest, hk1, hbit, ha, Bool.bne_assoc, bne_self_eq_false, Bool.bne_false, div_pow_mul_succ]

theorem scramble_scramble (a x : Nat) : (scramble (scramble a 64 x).2 64 x).2 = a % 2 ^ 64 := by
  rw [scramble_scrambled a _ 64 x (Nat.le_refl _) fun _ _ _ => rfl]
  simp

end Sys2Proof.Machine
end

/-! ### Courier ports (R432 to R440) -/

section
namespace Sys2Proof.Machine

variable {s : State} {p : Nat}

theorem State.linkState_setCpRt (r : CpRt) (q : Nat) : (s.setCpRt q r).linkState p = s.linkState p := rfl

theorem State.linkState_count (c n e : Nat) : (s.count c n e).linkState p = s.linkState p := rfl

theorem State.cpRt_count (c n e : Nat) : (s.count c n e).cpRt p = s.cpRt p := rfl

theorem State.cpRt_raise (f : Field) (n : Nat) : (s.raise f n).cpRt p = s.cpRt p := rfl

/-! #### Frames -/

section
variable {f fine : Nat}

theorem State.courierFrame_unused (h : s.powered (domCP p) = false ∨ s.linkState p < 2) : s.courierFrame p f fine = s :=
  if_pos (h.imp_left fun h => by simp [h])

variable (hp : s.powered (domCP p) = true) (h2 : 2 ≤ s.linkState p)
include hp h2

/-- The eighth bad frame in a row makes the port leave. -/
theorem State.courierFrame_bad (hg : frameGood f = false) {t : State}
    (ht : ((s.count 0x17 p 1).errFrame p).raise Fld.courier.crcErr p = t) :
    s.courierFrame p f fine =
      if 7 ≤ (s.cpRt p).crcRun then (t.setCpRt p { t.cpRt p with crcRun := (t.cpRt p).crcRun + 1 }).mustLeave p
      else t.setCpRt p { t.cpRt p with crcRun := (t.cpRt p).crcRun + 1 } := by
  have hrun : (t.cpRt p).crcRun = (s.cpRt p).crcRun := by
    rw [← ht, State.cpRt_raise, State.errFrame, State.cpRt_count, State.cpRt_setCpRt_same, State.cpRt_count]
  rw [State.courierFrame, if_neg (by simp [hp]; omega)]
  dsimp only
  rw [if_pos (by simp [hg]), ht, State.cpRt_setCpRt_same]
  refine ite_congr (propext ?_) (fun _ => rfl) (fun _ => rfl)
  dsimp only
  omega

section
variable (hg : frameGood f = true) {g : State}
    (hc : (s.count 0x17 p 1).setCpRt p
      { (s.count 0x17 p 1).cpRt p with crcRun := 0, peerUp := decide (bits f 8 3 = 3) } = g)
include hg hc

theorem State.courierFrame_good :
    s.courierFrame p f fine =
      if s.linkState p = 2 then
        if bits f 8 3 = 0 then g.goDown p else if bits f 4 2 = 2 then g.takeBulk p (s.raw + fine) (bits f 208 32) else g
      else
        let s2 := if bits f 4 2 = 0 then
            let t := g.takeVerdicts p f
            let t1 := if bit f 6 ∧ t.getL Fld.courier.cueRxEn p = 1 ∧ t.powered domMGMT1 ∧ !t.pw.tripGated then
                t.matchCue (t.getL Fld.courier.cueDst p) (bits f 128 16) else t
            t1.takeTsync p (bits f 144 64)
          else g
        if bits f 8 3 = 3 then s2 else s2.mustLeave p := by
  have hl : g.linkState p = s.linkState p := by rw [← hc, State.linkState_setCpRt, State.linkState_count]
  have hr : g.raw = s.raw := by rw [← hc]; rfl
  rw [State.courierFrame, if_neg (by simp [hp]; omega)]
  dsimp only
  rw [if_neg (by simp [hg]), hc, hl, hr]

theorem State.courierFrame_measure_down (hm : s.linkState p = 2) (hd : bits f 8 3 = 0) :
    s.courierFrame p f fine = g.goDown p :=
  (State.courierFrame_good hp h2 hg hc).trans ((if_pos hm).trans (if_pos hd))

theorem State.courierFrame_measure (hm : s.linkState p = 2) (hd : bits f 8 3 ≠ 0) :
    s.courierFrame p f fine = if bits f 4 2 = 2 then g.takeBulk p (s.raw + fine) (bits f 208 32) else g :=
  (State.courierFrame_good hp h2 hg hc).trans ((if_pos hm).trans (if_neg hd))

variable (hm : s.linkState p ≠ 2)
include hm

theorem State.courierFrame_otherKind (hk : bits f 4 2 ≠ 0) :
    s.courierFrame p f fine = if bits f 8 3 = 3 then g else g.mustLeave p := by
  rw [State.courierFrame_good hp h2 hg hc, if_neg hm]
  dsimp only
  rw [if_neg hk]

section
variable (hk : bits f 4 2 = 0) {v : State} (hv : g.takeVerdicts p f = v) {cue : Bool}
    (hcue : (bit f 6 && decide (v.getL Fld.courier.cueRxEn p = 1) && v.powered domMGMT1 && !v.pw.tripGated) = cue)
include hk hv hcue

theorem State.courierFrame_verdicts {w : State}
    (hw : (if cue then v.matchCue (v.getL Fld.courier.cueDst p) (bits f 128 16) else v) = w) :
    s.courierFrame p f fine =
      if bits f 8 3 = 3 then w.takeTsync p (bits f 144 64) else (w.takeTsync p (bits f 144 64)).mustLeave p := by
  have hcond : (bit f 6 ∧ v.getL Fld.courier.cueRxEn p = 1 ∧ v.powered domMGMT1 ∧ !v.pw.tripGated) ↔ cue = true := by
    rw [← hcue]
    simp only [Bool.and_eq_true, decide_eq_true_eq, and_assoc]
  rw [State.courierFrame_good hp h2 hg hc, if_neg hm]
  dsimp only
  rw [if_pos hk, hv, ite_congr (propext hcond) (fun _ => rfl) (fun _ => rfl), hw]

end
end
end

/-! #### Marks and echoes -/

section
variable {at_ w : Nat}

theorem State.takeBulk_mark (h : bits w 28 4 = 1) : s.takeBulk p at_ w = s.setCpRt p { s.cpRt p with owed := some at_ } := by
  rw [State.takeBulk, h]
  rfl

theorem State.takeBulk_echo {m : Nat} {l : List Nat} (h : bits w 28 4 = 2) (hm : (s.cpRt p).marks = m :: l) :
    s.takeBulk p at_ w = s.setCpRt p { s.cpRt p with
      marks := l, echoes := (s.cpRt p).echoes + 1, maxR := max (s.cpRt p).maxR (at_ - m - bits w 0 28) } := by
  rw [State.takeBulk, h]
  dsimp only
  rw [hm]
  rfl

end

/-! #### Bounds, frame lock and measurement -/

theorem State.trainingFallback_early (h : s.fallbackDue p = false) : s.trainingFallback p = s := if_pos (by simp [h])

theorem State.linkTimeout_early (h : s.linkTimeoutDue p = false) : s.linkTimeout p = s := by
  obtain ⟨hport, hwait⟩ := Bool.or_eq_false_iff.1 h
  have hnone : s.cmd.open_.filter (s.linkWaitOver p) = [] := by
    rw [List.filter_eq_nil_iff]
    exact fun c hc => by simpa using List.any_eq_false.1 hwait c hc
  rw [State.linkTimeout, hnone, State.portBoundOver, if_pos (by simp [hport])]
  rfl

/-- The port's own bound is over while it trains. -/
theorem State.linkTimeout_training (ho : s.cmd.open_ = []) (hl : s.linkState p = 1) (h0 : (s.cpRt p).boundAt ≠ 0)
    (hb : (s.cpRt p).boundAt < s.tick) {t : State} (ht : (s.goDown p).raise Fld.courier.trainFail p = t) :
    s.linkTimeout p = t.setCpRt p { t.cpRt p with boundAt := 0, fallAt := 0, want := false } := by
  have hup : s.linkUp p = false := by rw [State.linkUp, hl]; exact Bool.and_false _
  have hdue : s.portBoundDue p = true := by simp [State.portBoundDue, hup, hl, h0, hb]
  rw [State.linkTimeout, ho, State.portBoundOver, if_neg (by simp [hdue])]
  dsimp only
  rw [hl, if_neg (show ¬ (1 : Nat) = 0 by decide), if_pos (show (1 : Nat) = 1 from rfl), ht]
  rfl

/-- A port that went to DOWN is in no state of R434 that a frame lock meets. -/
theorem State.linkState_goDown : (s.goDown p).linkState p = 0 := by
  rw [State.goDown, State.linkState_setCpRt, State.linkState,
    State.getF_setF_apart _ Fld.courier.laneOk Fld.courier.linkState _ _ rfl (by decide), State.getF_setF_same]
  rfl

theorem State.getF_raise_apart (f g : Field) (hc : g.cls = f.cls) (h : g.lsb + g.width ≤ f.lsb ∨ f.lsb + f.width ≤ g.lsb) :
    (s.raise f p).getF g p = s.getF g p :=
  (getF_of_objs_eq rfl g p).trans (State.getF_setF_apart s f g p 1 hc h)

theorem State.frameLock_settled {t : State} (ht : (s.trainingFallback p).linkTimeout p = t)
    (h : t.powered (domCP p) = false ∨ t.linkState p ≠ 1) : s.frameLock p = t := by
  rw [State.frameLock, ht]
  exact if_pos (h.imp_left fun h => by simp [h])

theorem State.frameLock_training {t : State} (ht : (s.trainingFallback p).linkTimeout p = t)
    (hp : t.powered (domCP p) = true) (hl : t.linkState p = 1) :
    s.frameLock p = ((t.setF Fld.courier.linkState p 2).setF Fld.courier.laneOk p 15).setCpRt p
      { t.cpRt p with
        measStart := roundUp t.tick (t.framePeriod p)
        measEnd := roundUp t.tick (t.framePeriod p) + 1024 * t.framePeriod p, fallAt := 0, echoes := 0, maxR := 0
        marks := [], owed := none, ready := false, peerUp := false, crcRun := 0 } := by
  rw [State.frameLock, ht]
  exact if_neg (by simp [hp, hl])

section
variable (hp : s.powered (domCP p) = true) (hl : s.linkState p = 2) (he : (s.cpRt p).measEnd ≤ s.tick)
    (hr : (s.cpRt p).ready = false)
include hp hl he hr

theorem State.measureEnd_due {h : Nat} (hh : ((s.cpRt p).maxR + 1) / 2 = h) :
    s.measureEnd p =
      if (s.cpRt p).echoes < 16 ∨ 800 < h then ((s.setF Fld.courier.hopMeas p h).goDown p).raise Fld.courier.budget p
      else ((s.setF Fld.courier.hopMeas p h).setF Fld.courier.pad p (832 - h)).setCpRt p { s.cpRt p with ready := true } := by
  have hdue : s.measureDue p = true := by simp [State.measureDue, hp, hl, he, hr]
  rw [State.measureEnd, if_neg (by simp [hdue])]
  dsimp only
  rw [hh]

end

/-- A training whose bound is over ends before the frame lock. -/
theorem State.frameLock_bound (ho : s.cmd.open_ = []) (hl : s.linkState p = 1) (h0 : (s.cpRt p).boundAt ≠ 0)
    (hb : (s.cpRt p).boundAt < s.tick) (hf : (s.cpRt p).fallAt = 0) {t : State}
    (ht : (s.goDown p).raise Fld.courier.trainFail p = t) :
    s.frameLock p = t.setCpRt p { t.cpRt p with boundAt := 0, fallAt := 0, want := false } := by
  have hfall : s.fallbackDue p = false := by simp [State.fallbackDue, hf]
  have hdown : t.linkState p = 0 := by
    rw [← ht]
    exact (State.getF_raise_apart Fld.courier.trainFail Fld.courier.linkState rfl (by decide)).trans State.linkState_goDown
  refine State.frameLock_settled ?_ (.inr ?_)
  · rw [State.trainingFallback_early hfall]
    exact State.linkTimeout_training ho hl h0 hb ht
  · rw [State.linkState_setCpRt, hdown]
    decide

theorem State.trainingFallback_due (hp : s.powered (domCP p) = true) (hl : s.linkState p = 1) (h0 : (s.cpRt p).fallAt ≠ 0)
    (hf : (s.cpRt p).fallAt < s.tick) {t : State}
    (ht : ({ s with free := s.free + 1 } : State).setCpRt p { s.cpRt p with fallAt := 0 } = t) :
    s.trainingFallback p =
      if s.flag Fld.courier.genFallback p = true ∧ Config.choice s.free = true then
        ((t.setCpRt p { t.cpRt p with scram := [0, 1, 2, 3].map (fun k =>
          Config.scramblerSeed (4 * s.free + k) % 2 ^ 31) }).setF Fld.courier.liveGen p 0).raise Fld.courier.fellBack p
      else t := by
  have hdue : s.fallbackDue p = true := by simp [State.fallbackDue, hp, hl, h0, hf]
  have hrange : List.range 4 = [0, 1, 2, 3] := rfl
  subst ht
  rw [State.trainingFallback, if_neg (by simp [hdue]), hrange]
  rfl

/-- A CP_LINK that waits for the port completes at its own bound. -/
theorem State.linkTimeout_waiting {c : Cmd} {h : Hdr} {m g : BitVec 8} (ho : s.cmd.open_ = [c]) (hi : c.instr = .cpLink h m g)
    (hst : c.st = .waiting) (hm : bit c.mask p = true) (hres : c.res < s.tick) (h0 : (s.cpRt p).boundAt = 0)
    (hl : s.linkState p ≠ 2) :
    s.linkTimeout p = s.completeId c.id { Reply.fail .timeout with r0 := s.upMask } := by
  have hport : s.portBoundDue p = false := by simp [State.portBoundDue, h0]
  have hwait : s.linkWaitOver p c = true := by
    rw [State.linkWaitOver, hi, hst]
    simp [hm, hres, hl]
  rw [State.linkTimeout, ho, State.portBoundOver, if_pos (by simp [hport]), List.filter_cons_of_pos hwait, List.filter_nil]
  rfl

/-! #### Leaving UP -/

theorem State.linkDown_notDue {c : DownCause} (h : s.linkState p ≠ 3) : s.linkDown p c = s :=
  if_neg (by simp [State.downDue, h])

theorem State.linkDown_due {c : DownCause} (h : s.downDue p c = true) : s.linkDown p c = s.leaveUp p := if_pos h

theorem State.downDue_frame (h : s.linkState p = 3) (he : (s.cpRt p).measEnd ≠ 0) (hb : s.frameBoundary p = true) :
    s.downDue p (if 8 ≤ (s.cpRt p).crcRun then .crcRun else .peerDown) = true := by
  split
  · next hc => simp [State.downDue, h, he, hb, hc]
  · next hc => simp [State.downDue, h, he, hb, Nat.lt_of_not_le hc]

/-! #### Messages of the reference -/

theorem State.timeMessage_unsent (h : s.upMask = 0) : s.timeMessage = s := if_pos (by simp [State.timeMsgDue, h])

theorem State.paramMessage_unsent (h : s.upMask = 0) : s.paramMessage = s := if_pos (by simp [State.paramMsgDue, h])

section
variable (hf : s.follower = false) (hu : s.upMask ≠ 0)
include hf hu

theorem State.timeMessage_due (h : s.cp.timeAt ≤ s.tick) {t : State}
    (ht : (setPositions s.upMask 4).foldl (fun t p => t.sendMsg p 0 [tsWord 1 0]) s = t) :
    s.timeMessage = { t with cp := { t.cp with timeAt := s.tick + 1024 } } := by
  subst ht
  exact if_neg (by simp [State.timeMsgDue, hf, hu, h])

theorem State.paramMessage_due (h : s.cp.paramAt ≤ s.tick) {t : State}
    (ht : (setPositions s.upMask 4).foldl
      (fun t p => (s.futureSets.map paramMsg).foldl (fun u m => u.sendMsg p 1 m) t) s = t) :
    s.paramMessage = { t with cp := { t.cp with paramAt := s.tick + 1000000 } } := by
  subst ht
  exact if_neg (by simp [State.paramMsgDue, hf, hu, h])

end

/-- Settles O52: frames, marks, the scrambler, bounds, locks, measurements, causes to leave UP, and the reference's messages. -/
theorem courierLinks : Obligations.CourierLinks := by
  refine ⟨⟨?frame, ?bulk, ?lanes, ?lock, ?lockLate, ?measure, ?fallback, ?bound, ?wait, ?leave⟩, ?messages⟩
  case frame =>
    intro p f s w
    refine ⟨fun h => congrArg Host.Outcome.next (State.courierFrame_unused h), ?bad, ?good⟩
    case bad =>
      intro hp h2 hg t u
      have hbad := State.courierFrame_bad (fine := f.fine.toNat) hp h2 hg (t := t) rfl
      exact ⟨fun h => congrArg Host.Outcome.next (hbad.trans (if_neg (by omega))),
        fun h => congrArg Host.Outcome.next (hbad.trans (if_pos h))⟩
    case good =>
      intro hp h2 hg ls kind c g v cue stay
      have hgd : (s.count 0x17 p.val 1).setCpRt p.val
          { (s.count 0x17 p.val 1).cpRt p.val with crcRun := 0, peerUp := decide (bits w 8 3 = 3) } = g := rfl
      have hv : g.takeVerdicts p.val w = v := rfl
      have hcue : (bit w 6 && decide (v.getL Fld.courier.cueRxEn p.val = 1) && v.powered domMGMT1 && !v.pw.tripGated) = cue := rfl
      clear_value cue v g
      refine ⟨fun hm hd => congrArg Host.Outcome.next (State.courierFrame_measure_down hp h2 hg hgd hm hd),
        fun hm hd => congrArg Host.Outcome.next (State.courierFrame_measure hp h2 hg hgd hm hd),
        fun hm hk => congrArg Host.Outcome.next (State.courierFrame_otherKind hp h2 hg hgd hm hk),
        fun hm hk hc => congrArg Host.Outcome.next (State.courierFrame_verdicts hp h2 hg hgd hm hk hv hcue ?_),
        fun hm hk hc => congrArg Host.Outcome.next (State.courierFrame_verdicts hp h2 hg hgd hm hk hv hcue ?_)⟩
      · exact if_neg (by simp [hc])
      · exact if_pos hc
  case bulk => exact fun p at_ w s => ⟨State.takeBulk_mark, fun m l => State.takeBulk_echo⟩
  case lanes =>
    intro a b x scram
    refine ⟨scramble_state a b 64 x, scramble_scramble a x, fun k hk => ?_⟩
    simp [laneBits, hk]
  case lock =>
    intro p s hf ht
    have hsame : (s.trainingFallback p.val).linkTimeout p.val = s := by
      rw [State.trainingFallback_early hf, State.linkTimeout_early ht]
    refine ⟨?_, fun h => congrArg Host.Outcome.next (State.frameLock_settled hsame h)⟩
    intro hp hl b
    exact congrArg Host.Outcome.next (State.frameLock_training hsame hp hl)
  case lockLate =>
    intro p s ho hl h0 hb hf t
    exact congrArg Host.Outcome.next (State.frameLock_bound ho hl h0 hb hf rfl)
  case measure =>
    intro p s hp hl he hr h
    have hdue := State.measureEnd_due hp hl he hr (h := h) rfl
    exact ⟨fun hc => congrArg Host.Outcome.next (hdue.trans (if_pos hc)),
      fun hc h8 => congrArg Host.Outcome.next (hdue.trans (if_neg (by omega)))⟩
  case fallback =>
    intro p s hp hl h0 hf t
    exact congrArg Host.Outcome.next (State.trainingFallback_due hp hl h0 hf rfl)
  case bound =>
    intro p s h0 hb hl ho t
    exact congrArg Host.Outcome.next (State.linkTimeout_training ho hl h0 hb rfl)
  case wait =>
    exact fun p h m g c s ho hi hst hm hres h0 hl =>
      congrArg Host.Outcome.next (State.linkTimeout_waiting ho hi hst hm hres h0 hl)
  case leave =>
    intro p c s
    refine ⟨fun h => congrArg Host.Outcome.next (State.linkDown_notDue h), fun h => ⟨?_, fun hw => ?_, fun hp => ?_, fun he hb => ?_⟩⟩
    · exact congrArg Host.Outcome.next (State.linkDown_due (by simp [State.downDue, h]))
    · exact congrArg Host.Outcome.next (State.linkDown_due (by simp [State.downDue, h, hw]))
    · exact congrArg Host.Outcome.next (State.linkDown_due (by simp [State.downDue, h, hp]))
    · exact congrArg Host.Outcome.next (State.linkDown_due (State.downDue_frame h he hb))
  case messages =>
    intro s hf
    refine ⟨fun hu => ⟨congrArg Host.Outcome.next (State.timeMessage_unsent hu),
      congrArg Host.Outcome.next (State.paramMessage_unsent hu)⟩, ?time, ?param⟩
    case time =>
      intro hu h t
      exact congrArg Host.Outcome.next (State.timeMessage_due hf hu h rfl)
    case param =>
      intro hu h t
      exact congrArg Host.Outcome.next (State.paramMessage_due hf hu h rfl)

end Sys2Proof.Machine
end

/-! ### Canonical stores (log entry 5)

Every operation of the model writes the stores of objects, live copies and counters by `sset` and `filter`, or leaves them. One
lemma per operation says that it keeps `State.Canonical`; each follows from those of the operations it is made of. A lemma's
name is the operation's, so `.setF (.raise hs)` reads as the operation does, from the outside in; `.same` is for an update of
another part of the state. -/

section
namespace Sys2Proof.Machine

variable {s t u : State}

theorem State.Canonical.same (hs : s.Canonical) (ho : t.objs = s.objs) (hl : t.live = s.live)
    (hc : t.ldg.cnt = s.ldg.cnt) : t.Canonical :=
  canonical_of_stores hs ho hl hc

theorem State.Canonical.setObj {c n v : Nat} (hs : s.Canonical) : (s.setObj c n v).Canonical := canonical_setObj hs c n v

theorem State.Canonical.setF {f : Field} {n v : Nat}
    (hs : s.Canonical) : (s.setF f n v).Canonical := canonical_setF hs f n v

theorem State.Canonical.setLiveObj {c n v : Nat} (hs : s.Canonical) : (s.setLiveObj c n v).Canonical :=
  canonical_setLiveObj hs c n v

theorem State.Canonical.setL {f : Field} {n v : Nat}
    (hs : s.Canonical) : (s.setL f n v).Canonical := canonical_setL hs f n v

theorem State.Canonical.changeLive {c n v : Nat} {b : Bool} (hs : s.Canonical) : (s.changeLive c n v b).Canonical :=
  canonical_changeLive hs c n v b

theorem State.Canonical.raise {f : Field} {n : Nat} (hs : s.Canonical) : (s.raise f n).Canonical := canonical_raise hs f n

theorem State.Canonical.countN {c n e k : Nat} (hs : s.Canonical) : (s.countN c n e k).Canonical :=
  canonical_of_leavesUnits (leavesUnits_countN _ _ _ _ _) hs

theorem State.Canonical.count {c n e : Nat} (hs : s.Canonical) : (s.count c n e).Canonical := canonical_count hs c n e

theorem State.Canonical.foldl {α : Type} {f : State → α → State} {l : List α}
    (hf : ∀ u x, u.Canonical → (f u x).Canonical) (hs : s.Canonical) : (l.foldl f s).Canonical :=
  canonical_foldl f hf l s hs

theorem State.Canonical.ite {c : Prop} [Decidable c] (hs : s.Canonical) (ht : t.Canonical) :
    (if c then s else t).Canonical := by
  split
  · exact hs
  · exact ht

theorem State.Canonical.ite_fst {α : Type} {c : Prop} [Decidable c] {a b : State × α} (ha : a.1.Canonical)
    (hb : b.1.Canonical) : (if c then a else b).1.Canonical := by
  split
  · exact ha
  · exact hb

theorem State.Canonical.ite_snd {α : Type} {c : Prop} [Decidable c] {a b : α × State} (ha : a.2.Canonical)
    (hb : b.2.Canonical) : (if c then a else b).2.Canonical := by
  split
  · exact ha
  · exact hb

theorem State.Canonical.dite {c : Prop} [Decidable c] {f : c → State} {g : ¬c → State} (hf : ∀ h, (f h).Canonical)
    (hg : ∀ h, (g h).Canonical) : (if h : c then f h else g h).Canonical := by
  split
  · exact hf _
  · exact hg _

theorem State.Canonical.foldl_fst {α β : Type} {f : State × β → α → State × β} {l : List α} {a : State × β}
    (hf : ∀ a x, a.1.Canonical → (f a x).1.Canonical) (ha : a.1.Canonical) :
    (l.foldl f a).1.Canonical := by
  induction l generalizing a with
  | nil => exact ha
  | cons x l ih => exact ih (hf a x ha)

theorem State.Canonical.foldl_snd {α β : Type} {f : β × State → α → β × State} {l : List α} {a : β × State}
    (hf : ∀ a x, a.2.Canonical → (f a x).2.Canonical) (ha : a.2.Canonical) :
    (l.foldl f a).2.Canonical := by
  induction l generalizing a with
  | nil => exact ha
  | cons x l ih => exact ih (hf a x ha)

theorem State.Canonical.withDrv {g : DrvGroup} (hs : s.Canonical) : ({ s with drv := g } : State).Canonical :=
  .same hs rfl rfl rfl

theorem State.Canonical.withRd {g : RdGroup} (hs : s.Canonical) : ({ s with rd := g } : State).Canonical :=
  .same hs rfl rfl rfl

theorem State.Canonical.withVd {g : VdGroup} (hs : s.Canonical) : ({ s with vd := g } : State).Canonical :=
  .same hs rfl rfl rfl

theorem State.Canonical.withBi {g : BiGroup} (hs : s.Canonical) : ({ s with bi := g } : State).Canonical :=
  .same hs rfl rfl rfl

theorem State.Canonical.withTm {g : TmGroup} (hs : s.Canonical) : ({ s with tm := g } : State).Canonical :=
  .same hs rfl rfl rfl

theorem State.Canonical.withHost {g : HostGroup} (hs : s.Canonical) : ({ s with host := g } : State).Canonical :=
  .same hs rfl rfl rfl

theorem State.Canonical.withCmd {g : CmdGroup} (hs : s.Canonical) : ({ s with cmd := g } : State).Canonical :=
  .same hs rfl rfl rfl

theorem State.Canonical.withPw {g : PwGroup} (hs : s.Canonical) : ({ s with pw := g } : State).Canonical :=
  .same hs rfl rfl rfl

theorem State.Canonical.withCal {g : CalGroup} (hs : s.Canonical) : ({ s with cal := g } : State).Canonical :=
  .same hs rfl rfl rfl

theorem State.Canonical.withBt {g : BtGroup} (hs : s.Canonical) : ({ s with bt := g } : State).Canonical :=
  .same hs rfl rfl rfl

theorem State.Canonical.withEth {g : EthGroup} (hs : s.Canonical) : ({ s with eth := g } : State).Canonical :=
  .same hs rfl rfl rfl

theorem State.Canonical.setStored {k v : Nat} (hs : s.Canonical) :
    ({ s with objs := sset objDefault s.objs k v } : State).Canonical :=
  ⟨swf_sset objDefault s.objs k v hs.objs, hs.live, hs.counters⟩

/-- The units of some domains taken from one ledger into another keep its form. -/
theorem swf_takeUnits {other : Nat → Bool} {l m : Sparse Nat} (hl : swf (fun _ => 0) l = true) :
    swf (fun _ => 0) (takeUnits other l m) = true := by
  rw [takeUnits]
  have h1 := swf_filter (fun _ => 0) (fun e => !other (keyUnitDom e.1)) l hl
  generalize l.filter (fun e => !other (keyUnitDom e.1)) = a at h1
  induction m.filter (fun e => other (keyUnitDom e.1)) generalizing a with
  | nil => exact h1
  | cons e m ih => exact ih _ (swf_sset _ _ _ _ h1)

/-- A command's own effect that keeps the stores canonical. -/
def Own.KeepsCanonical (own : Own) : Prop := ∀ id s, s.Canonical → (own id s).1.Canonical

/-! #### Machine/Flags -/

theorem State.Canonical.markNow {key mask : Nat} (hs : s.Canonical) : (s.markNow key mask).Canonical := by
  rw [State.markNow]
  exact .same hs rfl rfl rfl

theorem State.Canonical.raiseWith {f : Field} {inst : Nat} {g : Field} {v : Nat} (hs : s.Canonical) :
    (s.raiseWith f inst g v).Canonical := by
  rw [State.raiseWith]
  exact .ite (.raise hs) (.raise (.setF hs))

theorem State.Canonical.nextSeq {src : Nat} (hs : s.Canonical) : (s.nextSeq src).2.Canonical := by
  rw [State.nextSeq]
  exact .count hs

/-! #### Machine/Ops -/

theorem State.Canonical.draw (hs : s.Canonical) : s.draw.2.Canonical := by
  rw [State.draw]
  exact .same hs rfl rfl rfl

theorem State.Canonical.askReset {r : ResetAsk} (hs : s.Canonical) : (s.askReset r).Canonical := by
  rw [State.askReset]
  exact .same hs rfl rfl rfl

theorem State.Canonical.setRaw {r : Nat} (hs : s.Canonical) : (s.setRaw r).Canonical := by
  rw [State.setRaw]
  exact .same hs rfl rfl rfl

theorem State.Canonical.rememberPower {d : Nat} {lost : List (Nat × Nat)} (hs : s.Canonical) :
    (s.rememberPower d lost).Canonical := by
  rw [State.rememberPower]
  exact .same hs rfl rfl rfl

theorem State.Canonical.markLost {src : Nat} (hs : s.Canonical) : (s.markLost src).Canonical := by
  rw [State.markLost]
  exact .same hs rfl rfl rfl

theorem State.Canonical.capturesLost {units : Nat} (hs : s.Canonical) : (s.capturesLost units).Canonical := by
  rw [State.capturesLost]
  exact canonical_of_leavesUnits (leavesUnits_capturesLost _ _) hs

theorem State.Canonical.clearLost {src : Nat} (hs : s.Canonical) : (s.clearLost src).Canonical := by
  rw [State.clearLost]
  exact .same hs rfl rfl rfl

theorem State.Canonical.emit {o : Outgoing} (hs : s.Canonical) : (s.emit o).Canonical := by
  rw [State.emit]
  exact .same hs rfl rfl rfl

/-! #### Machine/Catalogue -/

theorem State.Canonical.busyDrop {t : Nat} (hs : s.Canonical) : (s.busyDrop t).Canonical := by
  rw [State.busyDrop]
  exact .count (.raise hs)

theorem State.Canonical.delivered {t : Nat} (hs : s.Canonical) : (s.delivered t).Canonical := by
  rw [State.delivered]
  exact .count hs

theorem State.Canonical.absentDrop {t : Nat} (hs : s.Canonical) : (s.absentDrop t).Canonical := by
  rw [State.absentDrop]
  exact .count (.raise hs)

theorem State.Canonical.reachInput {t r st : Nat} (hs : s.Canonical) : (s.reachInput t r st).Canonical := by
  rw [State.reachInput]
  exact .same hs rfl rfl rfl

theorem State.Canonical.countMerged (hs : s.Canonical) : s.countMerged.Canonical := by
  rw [State.countMerged]
  exact .foldl (fun _ _ hu => .countN (.raise hu)) hs

theorem State.Canonical.forkEvent {row r : Nat} {ball : Option Nat} (hs : s.Canonical) :
    (s.forkEvent row r ball).Canonical := by
  rw [State.forkEvent]
  exact .foldl (fun _ _ hu => .reachInput (.draw hu)) hs

theorem State.Canonical.gate {p r : Nat} (hs : s.Canonical) : (s.gate p r).2.Canonical := by
  rw [State.gate]
  exact .ite_snd (.draw hs) hs

theorem State.Canonical.fireAt {p r : Nat} {ball : Option Nat} (hs : s.Canonical) : (s.fireAt p r ball).Canonical := by
  rw [State.fireAt]
  exact .ite hs
    (.ite (.count (.raise hs))
      (.ite (.count (.gate (.count (.same hs rfl rfl rfl)))) (.forkEvent (.gate (.count (.same hs rfl rfl rfl))))))

theorem State.Canonical.fire {p : Nat} (hs : s.Canonical) : (s.fire p).Canonical := by
  rw [State.fire]
  exact .fireAt hs

theorem State.Canonical.setLut {j : Nat} {r : LutRt} (hs : s.Canonical) : (s.setLut j r).Canonical := by
  rw [State.setLut]
  exact .same hs rfl rfl rfl

theorem State.Canonical.lutSlot {r j : Nat} (hs : s.Canonical) : (s.lutSlot r j).Canonical := by
  rw [State.lutSlot]
  exact .ite (.setLut hs) (.setLut (.draw hs))

theorem State.Canonical.lutScan {n : Nat} (hs : s.Canonical) : (s.lutScan n).Canonical := by
  rw [State.lutScan]
  split
  · exact hs
  · exact .foldl (fun _ _ hu => .foldl (fun _ _ hu2 => .lutSlot hu2) hu) hs

theorem State.Canonical.lutChangeBy {e0 j : Nat} (hs : s.Canonical) : (s.lutChangeBy e0 j).Canonical := by
  rw [State.lutChangeBy]
  exact .foldl (fun _ _ hu => .ite (.fireAt hu) hu) (.setLut hs)

theorem State.Canonical.lutChange {j : Nat} (hs : s.Canonical) : (s.lutChange j).Canonical := by
  rw [State.lutChange]
  exact .lutChangeBy hs

theorem State.Canonical.lutTick (hs : s.Canonical) : s.lutTick.Canonical := by
  rw [State.lutTick]
  exact .foldl (fun _ _ hu => .lutChangeBy hu) (.lutScan hs)

theorem State.Canonical.setGroup {g : Nat} {en : Bool} (hs : s.Canonical) : (s.setGroup g en).Canonical := by
  rw [State.setGroup]
  exact .setF hs

theorem State.Canonical.groupEvent {g reach : Nat} {en : Bool} (hs : s.Canonical) :
    (s.groupEvent g reach en).Canonical := by
  rw [State.groupEvent]
  exact .ite (.count (.raise (.setGroup (.delivered (.count (.same hs rfl rfl rfl))))))
    (.setGroup (.delivered (.count (.same hs rfl rfl rfl))))

theorem State.Canonical.gpioEdge {g : Nat} {level : Bool} {fine : Nat} (hs : s.Canonical) :
    (s.gpioEdge g level fine).Canonical := by
  rw [State.gpioEdge]
  exact .ite (.same (.draw hs) rfl rfl rfl) (.same (.draw hs) rfl rfl rfl)

theorem State.Canonical.gpioInput {g : Nat} {level : Bool} {fine : Nat} (hs : s.Canonical) :
    (s.gpioInput g level fine).Canonical := by
  rw [State.gpioInput]
  exact .ite (.same hs rfl rfl rfl) (.gpioEdge (.same hs rfl rfl rfl))

theorem State.Canonical.gpioDrive {g : Nat} {level : Bool} (hs : s.Canonical) : (s.gpioDrive g level).Canonical := by
  rw [State.gpioDrive]
  exact .ite (.same hs rfl rfl rfl) (.gpioEdge (.same hs rfl rfl rfl))

theorem State.Canonical.gpioLater {at_ g kind : Nat} (hs : s.Canonical) : (s.gpioLater at_ g kind).Canonical := by
  rw [State.gpioLater]
  exact .same hs rfl rfl rfl

theorem State.Canonical.evtGpio {g : Nat} (hs : s.Canonical) : (s.evtGpio g).Canonical := by
  rw [State.evtGpio]
  exact .ite (.busyDrop hs)
    (.ite (.delivered (.gpioLater (.draw hs)))
      (.ite (.busyDrop hs) (.same (.delivered (.gpioLater (.draw hs))) rfl rfl rfl)))

theorem State.Canonical.gpioDue (hs : s.Canonical) : s.gpioDue.Canonical := by
  rw [State.gpioDue]
  exact .foldl (fun _ _ hu => .ite (.fireAt hu) (.ite (.gpioDrive hu) (.same hu rfl rfl rfl))) (.same hs rfl rfl rfl)

theorem State.Canonical.gpioPulseEnd {g : Nat} (hs : s.Canonical) : (s.gpioPulseEnd g).Canonical := by
  rw [State.gpioPulseEnd]
  exact .ite (.gpioDrive (.same hs rfl rfl rfl)) hs

theorem State.Canonical.evtCue {n : Nat} (hs : s.Canonical) : (s.evtCue n).Canonical := by
  rw [State.evtCue]
  exact .ite (.busyDrop hs) (.same (.delivered (.emit hs)) rfl rfl rfl)

theorem State.Canonical.cueWordEnd {n : Nat} (hs : s.Canonical) : (s.cueWordEnd n).Canonical := by
  rw [State.cueWordEnd]
  exact .ite (.same hs rfl rfl rfl) hs

theorem State.Canonical.matchCue {n w : Nat} (hs : s.Canonical) : (s.matchCue n w).Canonical := by
  rw [State.matchCue]
  exact .foldl (fun _ _ hu => .ite (.fire hu) hu) hs

/-! #### Machine/HostLink -/

theorem State.Canonical.setFn {f : Fn} {r : FnRegs} (hs : s.Canonical) : (s.setFn f r).Canonical := by
  cases f with
  | pf0 => exact .withHost hs
  | pf1 => exact .withHost hs

theorem State.Canonical.raiseVector {f : Fn} {v : Nat} (hs : s.Canonical) : (s.raiseVector f v).Canonical := by
  rw [State.raiseVector]
  exact canonical_of_leavesUnits (leavesUnits_raiseVector _ _ _) hs

theorem State.Canonical.unmaskVector {f : Fn} {v : Nat} (hs : s.Canonical) : (s.unmaskVector f v).Canonical := by
  rw [State.unmaskVector]
  exact canonical_of_leavesUnits (leavesUnits_unmaskVector _ _ _) hs

theorem State.Canonical.setCatPending {f : Fn} {j : Nat} (hs : s.Canonical) : (s.setCatPending f j).Canonical := by
  rw [State.setCatPending]
  exact canonical_of_leavesUnits (leavesUnits_setCatPending _ _ _) hs

theorem State.Canonical.setMbox {m : Nat} {b : Mbox} (hs : s.Canonical) : (s.setMbox m b).Canonical := by
  rw [State.setMbox]
  exact .same hs rfl rfl rfl

theorem State.Canonical.mbCause {m kind : Nat} (hs : s.Canonical) : (s.mbCause m kind).Canonical := by
  rw [State.mbCause]
  exact canonical_of_leavesUnits (leavesUnits_mbCause _ _ _) hs

theorem State.Canonical.setRing {n : Nat} {r : Ring} (hs : s.Canonical) : (s.setRing n r).Canonical := by
  rw [State.setRing]
  exact .same hs rfl rfl rfl

theorem State.Canonical.ringCauseSet {n : Nat} (hs : s.Canonical) : (s.ringCauseSet n).Canonical := by
  rw [State.ringCauseSet]
  exact canonical_of_leavesUnits (leavesUnits_ringCauseSet _ _) hs

theorem State.Canonical.ringIrqCount {n : Nat} (hs : s.Canonical) : (s.ringIrqCount n).Canonical := by
  rw [State.ringIrqCount]
  exact canonical_of_leavesUnits (leavesUnits_ringIrqCount _ _) hs

theorem State.Canonical.ringCount {n : Nat} (hs : s.Canonical) : (s.ringCount n).Canonical := by
  rw [State.ringCount]
  exact canonical_of_leavesUnits (leavesUnits_ringCount _ _) hs

theorem State.Canonical.ringIrqTime {n : Nat} (hs : s.Canonical) : (s.ringIrqTime n).Canonical := by
  rw [State.ringIrqTime]
  exact .ite (.ringCauseSet (.setRing hs)) hs

theorem State.Canonical.ringWriteBack {n idx : Nat} (hs : s.Canonical) : (s.ringWriteBack n idx).Canonical := by
  rw [State.ringWriteBack]
  exact canonical_of_leavesUnits (leavesUnits_ringWriteBack _ _ _) hs

theorem State.Canonical.ringLost {n k : Nat} (hs : s.Canonical) : (s.ringLost n k).Canonical := by
  rw [State.ringLost]
  exact canonical_of_leavesUnits (leavesUnits_ringLost _ _ _) hs

theorem State.Canonical.ringProduce {n : Nat} {entry : List Byte} {tag : Nat} (hs : s.Canonical) :
    (s.ringProduce n entry tag).1.Canonical := by
  rw [State.ringProduce]
  exact canonical_of_leavesUnits (leavesUnits_ringProduce _ _ _ _) hs

theorem State.Canonical.postEntry {n : Nat} {notice : Bool} {f : Nat} {bytes : List Byte} (hs : s.Canonical) :
    (s.postEntry n notice f bytes).Canonical := by
  rw [State.postEntry]
  exact canonical_of_leavesUnits (leavesUnits_postEntry _ _ _ _ _) hs

theorem State.Canonical.heldWrite {k : Nat} (hs : s.Canonical) : (s.heldWrite k).Canonical := by
  rw [State.heldWrite]
  exact canonical_of_leavesUnits (leavesUnits_heldWrite _ _) hs

theorem State.Canonical.dropMessages {gone : Nat × List Byte → Bool} (hs : s.Canonical) :
    (s.dropMessages gone).Canonical := by
  rw [State.dropMessages]
  exact .foldl (fun _ _ hu => .capturesLost hu) (.same hs rfl rfl rfl)

theorem State.Canonical.noticeTo {f : Fn} {code r1 r2 r3 : Nat} (hs : s.Canonical) :
    (s.noticeTo f code r1 r2 r3).Canonical := by
  rw [State.noticeTo]
  exact canonical_of_leavesUnits (leavesUnits_noticeTo _ _ _ _ _ _) hs

theorem State.Canonical.notice {code r1 r2 r3 : Nat} (hs : s.Canonical) : (s.notice code r1 r2 r3).Canonical := by
  rw [State.notice]
  exact canonical_of_leavesUnits (leavesUnits_notice _ _ _ _ _) hs

theorem State.Canonical.h2dExpire {m : Nat} (hs : s.Canonical) : (s.h2dExpire m).Canonical := by
  rw [State.h2dExpire]
  exact .ite (.mbCause (.count (.markNow (.setMbox hs)))) hs

theorem State.Canonical.d2hExpire {m : Nat} (hs : s.Canonical) : (s.d2hExpire m).Canonical := by
  rw [State.d2hExpire]
  exact .ite (.count (.setMbox hs)) hs

theorem State.Canonical.h2dDoorbell {m len : Nat} (hs : s.Canonical) : (s.h2dDoorbell m len).Canonical := by
  rw [State.h2dDoorbell]
  exact .ite hs (.count (.setMbox hs))

theorem State.Canonical.h2dTaken {m : Nat} (hs : s.Canonical) : (s.h2dTaken m).Canonical := by
  rw [State.h2dTaken]
  exact .mbCause (.markNow (.setMbox (.h2dExpire hs)))

theorem State.Canonical.d2hTaken {m : Nat} (hs : s.Canonical) : (s.d2hTaken m).Canonical := by
  rw [State.d2hTaken]
  exact .ite (.setMbox (.d2hExpire hs)) hs

theorem State.Canonical.h2dWithdraw {m : Nat} (hs : s.Canonical) : (s.h2dWithdraw m).Canonical := by
  rw [State.h2dWithdraw]
  exact .ite (.mbCause (.count (.markNow (.setMbox (.h2dExpire hs))))) hs

theorem State.Canonical.d2hWithdraw {m : Nat} (hs : s.Canonical) : (s.d2hWithdraw m).Canonical := by
  rw [State.d2hWithdraw]
  exact .ite (.mbCause (.count (.markNow (.setMbox (.d2hExpire hs))))) hs

theorem State.Canonical.h2dMarkReset {m : Nat} (hs : s.Canonical) : (s.h2dMarkReset m).Canonical := by
  rw [State.h2dMarkReset]
  exact .ite (.mbCause (.count (.setMbox hs))) hs

theorem State.Canonical.d2hMarkReset {m : Nat} (hs : s.Canonical) : (s.d2hMarkReset m).Canonical := by
  rw [State.d2hMarkReset]
  exact .ite (.mbCause (.count (.setMbox hs))) hs

theorem State.Canonical.ringWriteLength {n v : Nat} (hs : s.Canonical) : (s.ringWriteLength n v).Canonical := by
  rw [State.ringWriteLength]
  exact .ite (.markNow (.setRing hs)) (.ite (.setRing hs) (.count (.setRing hs)))

theorem State.Canonical.ringPtrErr {n : Nat} (hs : s.Canonical) : (s.ringPtrErr n).Canonical := by
  rw [State.ringPtrErr]
  exact .markNow (.setRing hs)

theorem State.Canonical.ringWriteProd {n v : Nat} (hs : s.Canonical) : (s.ringWriteProd n v).Canonical := by
  rw [State.ringWriteProd]
  exact .ite hs
    (by
      split
      · exact .ite (.ite (.ringPtrErr hs) (.ringLost (.count (.setRing (.countN hs)))))
          (.ite (.ringPtrErr hs) (.setRing (.countN hs)))
      · exact .ite (.ringPtrErr hs) (.setRing (.countN hs)))

theorem State.Canonical.ringWriteCons {n v : Nat} (hs : s.Canonical) : (s.ringWriteCons n v).Canonical := by
  rw [State.ringWriteCons]
  exact .ite hs (.ite (.ringPtrErr hs) (.setRing (.countN hs)))

theorem State.Canonical.ringWriteCtl {n v : Nat} (hs : s.Canonical) : (s.ringWriteCtl n v).Canonical := by
  rw [State.ringWriteCtl]
  exact .setRing hs

theorem State.Canonical.ringWrite {f : Fn} {n off v : Nat} (hs : s.Canonical) : (s.ringWrite f n off v).Canonical := by
  unfold State.ringWrite
  dsimp only
  split
  · exact hs
  · split
    · exact .setRing hs
    · exact .setRing hs
    · exact .ringWriteLength hs
    · exact .ringWriteCtl hs
    · exact .ringWriteProd hs
    · exact .ringWriteCons hs
    · exact .setRing hs
    · exact .setRing hs
    · exact .setRing hs
    · exact .setRing hs
    · exact hs

theorem State.Canonical.mbWrite {m off v : Nat} (hs : s.Canonical) : (s.mbWrite m off v).Canonical := by
  unfold State.mbWrite
  dsimp only
  split
  · exact .ite hs (.setMbox hs)
  · split
    · exact .ite (.h2dDoorbell hs) (.setMbox hs)
    · exact .setMbox hs
    · exact .setMbox hs
    · exact .ite (.d2hTaken hs) hs
    · exact .setMbox hs
    · exact .setMbox hs
    · exact hs

theorem State.Canonical.resend {f : Fn} {mask n : Nat} {vec : Nat → Nat} (hs : s.Canonical) :
    (s.resend f mask n vec).Canonical := by
  rw [State.resend]
  exact .foldl (fun _ _ hu => .raiseVector hu) hs

theorem State.Canonical.catClear {f : Fn} {v : Nat} (hs : s.Canonical) : (s.catClear f v).Canonical := by
  rw [State.catClear]
  exact .resend (.foldl (fun _ _ hu => .markNow (.count hu)) (.setFn hs))

theorem State.Canonical.ringCauseClear {f : Fn} {v : Nat} (hs : s.Canonical) : (s.ringCauseClear f v).Canonical := by
  rw [State.ringCauseClear]
  exact .resend (.same hs rfl rfl rfl)

theorem State.Canonical.mbCauseClear {f : Fn} {v : Nat} (hs : s.Canonical) : (s.mbCauseClear f v).Canonical := by
  rw [State.mbCauseClear]
  exact .resend (.setFn hs)

theorem State.Canonical.msixWrite {f : Fn} {off v : Nat} (hs : s.Canonical) : (s.msixWrite f off v).Canonical := by
  rw [State.msixWrite]
  exact .ite (.unmaskVector (.setFn hs)) (.setFn hs)

theorem State.Canonical.barWrite {f : Fn} {off v : Nat} (hs : s.Canonical) : (s.barWrite f off v).Canonical := by
  rw [State.barWrite]
  exact .ite hs
    (.ite (.setFn hs)
      (.ite (.msixWrite hs)
        (.ite (.catClear hs)
          (.ite (.ringCauseClear hs)
            (.ite (.ringCauseClear hs)
              (.ite (.ringCauseClear hs)
                (.ite (.mbCauseClear hs) (.ite (.setFn hs) (.ite (.ringWrite hs) (.ite (.mbWrite hs) hs))))))))))

theorem State.Canonical.mbReadTakes {m off : Nat} (hs : s.Canonical) : (s.mbReadTakes m off).Canonical := by
  rw [State.mbReadTakes]
  exact .ite (.d2hTaken hs) hs

theorem State.Canonical.latchTime {f : Fn} (hs : s.Canonical) : (s.latchTime f).Canonical := by
  rw [State.latchTime]
  exact .setFn hs

theorem State.Canonical.barReadActs {f : Fn} {off : Nat} (hs : s.Canonical) : (s.barReadActs f off).Canonical := by
  rw [State.barReadActs]
  exact .ite hs (.ite (.latchTime hs) (.ite (.mbReadTakes hs) hs))

theorem State.Canonical.hostTickEnd (hs : s.Canonical) : s.hostTickEnd.Canonical := by
  rw [State.hostTickEnd]
  exact .foldl (fun _ _ hu => .setFn (.foldl (fun _ _ hu2 => .count (.raise hu2)) hu)) hs

/-! #### Machine/Commands -/

theorem State.Canonical.queueCompletion {ord op tag : Nat} {p : Path} {peer port mac extptr : Nat} {rep : Reply} {cinfo : Nat}
    (hs : s.Canonical) :
    (s.queueCompletion ord op tag p peer port mac extptr rep cinfo).Canonical := by
  rw [State.queueCompletion]
  exact .same hs rfl rfl rfl

theorem State.Canonical.queueData {ord : Nat} {p : Path} {extptr units : Nat} {data : List Byte} (hs : s.Canonical) :
    (s.queueData ord p extptr units data).Canonical := by
  rw [State.queueData]
  exact .same hs rfl rfl rfl

theorem State.Canonical.answerCompletion {discard : Bool} {ord : Nat} {i : Instr} {h : Hdr} {rep : Reply} {cinfo : Nat}
    (hs : s.Canonical) :
    (s.answerCompletion discard ord i h rep cinfo).Canonical := by
  rw [State.answerCompletion]
  exact canonical_of_leavesUnits (leavesUnits_answerCompletion _ _ _ _ _ _ _) hs

theorem State.Canonical.complete {id : Nat} {i : Instr} {h : Hdr} {rep : Reply} {cinfo : Nat} (hs : s.Canonical) :
    (s.complete id i h rep cinfo).Canonical := by
  rw [State.complete]
  exact canonical_of_leavesUnits (leavesUnits_complete _ _ _ _ _ _) hs

theorem State.Canonical.completeId {id : Nat} {rep : Reply} (hs : s.Canonical) : (s.completeId id rep).Canonical := by
  rw [State.completeId]
  exact canonical_of_leavesUnits (leavesUnits_completeId _ _ _) hs

theorem State.Canonical.setCmd {id mask res : Nat} (hs : s.Canonical) : (s.setCmd id mask res).Canonical := by
  rw [State.setCmd]
  exact .same hs rfl rfl rfl

theorem State.Canonical.work {id bound : Nat} {nv : Bool} {vals : List (Nat × Nat)} {rep : Reply} (hs : s.Canonical) :
    (s.work id bound nv vals rep).1.Canonical := by
  rw [State.work]
  exact .same (.draw hs) rfl rfl rfl

theorem State.Canonical.gated_fst {i : Instr} {h : Hdr} {own : Own} {id : Nat} (ho : own.KeepsCanonical)
    (hs : s.Canonical) : (gated i h own id s).1.Canonical := by
  unfold gated
  exact .ite_fst hs (.ite_fst hs (ho id s hs))

theorem State.Canonical.execute {id : Nat} {i : Instr} {h : Hdr} {own : Own} (ho : own.KeepsCanonical) (hs : s.Canonical) :
    (s.execute id i h own).Canonical := by
  unfold State.execute
  exact .ite (.gated_fst ho hs) (.complete (.gated_fst ho hs))

theorem State.Canonical.openCmd {id : Nat} {i : Instr} {h : Hdr} {st : CmdState} (hs : s.Canonical) :
    (s.openCmd id i h st).Canonical := by
  rw [State.openCmd]
  exact .same hs rfl rfl rfl

theorem State.Canonical.restate {id : Nat} {st : CmdState} (hs : s.Canonical) : (s.restate id st).Canonical := by
  rw [State.restate]
  exact .same hs rfl rfl rfl

theorem State.Canonical.acceptNow {id : Nat} (hs : s.Canonical) : (s.acceptNow id).Canonical := by
  rw [State.acceptNow]
  exact .same hs rfl rfl rfl

theorem State.Canonical.startCmd {id : Nat} {i : Instr} {h : Hdr} {own : Own} (ho : own.KeepsCanonical)
    (hs : s.Canonical) : (s.startCmd id i h own).Canonical := by
  unfold State.startCmd
  split
  · exact .complete hs
  · split
    · exact .restate hs
    · split
      · exact .restate hs
      · exact .execute ho (.restate hs)

theorem State.Canonical.skipCmd {id : Nat} {i : Instr} {h : Hdr} (hs : s.Canonical) : (s.skipCmd id i h).Canonical := by
  rw [State.skipCmd]
  exact .complete hs

theorem State.Canonical.newId {p : Path} (hs : s.Canonical) : (s.newId p).2.Canonical := by
  rw [State.newId]
  exact .same hs rfl rfl rfl

theorem State.Canonical.keepFirst {p : Path} {prev : Nat} (hs : s.Canonical) : (s.keepFirst p prev).Canonical := by
  rw [State.keepFirst]
  exact .ite (.same hs rfl rfl rfl) hs

theorem State.Canonical.issue {i : Instr} {h : Hdr} {own : Own} (ho : own.KeepsCanonical) (hs : s.Canonical) :
    (s.issue i h own).Canonical := by
  unfold State.issue
  dsimp only
  refine .ite hs (.ite hs ?_)
  split
  · exact .keepFirst (.complete (.newId hs))
  · exact .ite (.complete (.newId hs))
      (.ite (.openCmd (.newId hs))
        (.ite (.skipCmd (.newId hs))
          (.ite (.keepFirst (.startCmd ho (.openCmd (.newId hs)))) (.startCmd ho (.openCmd (.newId hs))))))

theorem State.Canonical.frameSent {e : TxEntry} (hs : s.Canonical) : (s.frameSent e).Canonical := by
  rw [State.frameSent]
  exact .ite (.emit hs) (.countN (.emit hs))

theorem State.Canonical.streamLost {src : Nat} (hs : s.Canonical) : (s.streamLost src).Canonical := by
  rw [State.streamLost]
  split
  · exact .markLost hs
  · exact .same hs rfl rfl rfl

theorem State.Canonical.frameDropped {e : TxEntry} (hs : s.Canonical) : (s.frameDropped e).Canonical := by
  rw [State.frameDropped]
  split
  · exact .ite (.capturesLost (.same (.raise hs) rfl rfl rfl)) (.streamLost (.countN (.raise hs)))
  · exact hs

theorem State.Canonical.ethSend {e : TxEntry} (hs : s.Canonical) : (s.ethSend e).Canonical := by
  rw [State.ethSend]
  exact .ite (.frameDropped hs)
    (.ite (.frameSent hs) (.ite (.frameDropped (.draw hs)) (.same (.draw hs) rfl rfl rfl)))

theorem State.Canonical.pauseOver (hs : s.Canonical) : s.pauseOver.Canonical := by
  rw [State.pauseOver]
  exact .ite (.foldl (fun _ _ hu => .frameSent hu) (.same hs rfl rfl rfl)) hs

theorem State.Canonical.dropQueue (hs : s.Canonical) : s.dropQueue.Canonical := by
  rw [State.dropQueue]
  exact .foldl (fun _ _ hu => .frameDropped hu) (.same hs rfl rfl rfl)

theorem State.Canonical.sendOut {e : OutEntry} (hs : s.Canonical) : (s.sendOut e).Canonical := by
  rw [State.sendOut]
  split
  · exact .ite (.ite hs (.emit hs)) (.postEntry (.ite hs (.emit hs)))
  · exact .same hs rfl rfl rfl
  · exact .ethSend hs

theorem State.Canonical.flushOut (hs : s.Canonical) : s.flushOut.Canonical := by
  rw [State.flushOut]
  exact .foldl (fun _ _ hu => .sendOut hu) (.same hs rfl rfl rfl)

/-! #### Machine/Commits -/

theorem State.Canonical.clearDirty {keys : List Nat} (hs : s.Canonical) : (s.clearDirty keys).Canonical := by
  unfold State.clearDirty
  exact .foldl (fun _ _ hu => .setStored hu) hs

theorem State.Canonical.addCommit {c : Commit} (hs : s.Canonical) : (s.addCommit c).Canonical := by
  rw [State.addCommit]
  exact .same hs rfl rfl rfl

theorem State.Canonical.commitOwn_fst {tick : Nat} {keys : List Nat} {mk : Nat → Commit} (hs : s.Canonical) :
    (commitOwn s tick keys mk).1.Canonical := by
  rw [commitOwn]
  exact .ite_fst hs
    (by
      split
      · exact hs
      · exact .clearDirty (.addCommit hs))

/-! #### Machine/Frames -/

theorem State.Canonical.noteConflict {f : Nat} {isSet : Bool} (hs : s.Canonical) : (s.noteConflict f isSet).Canonical := by
  rw [State.noteConflict]
  exact .ite (.count (.raiseWith hs)) hs

theorem State.Canonical.inReplicas {f : Nat} {g : Nat → Nat} (hs : s.Canonical) : (s.inReplicas f g).Canonical := by
  rw [State.inReplicas]
  exact .foldl
    (fun _ _ hu => by
      split
      · exact .changeLive hu
      · exact hu) hs

theorem State.Canonical.holdFrame {c : FrameChange} (hs : s.Canonical) : (s.holdFrame c).Canonical := by
  rw [State.holdFrame]
  exact .same hs rfl rfl rfl

theorem State.Canonical.frameOp {f fop arg : Nat} (hs : s.Canonical) : (s.frameOp f fop arg).Canonical := by
  rw [State.frameOp]
  exact .ite hs (.ite (.holdFrame hs) (.noteConflict (.inReplicas (.changeLive hs))))

theorem State.Canonical.wordFrameOp {f fop arg : Nat} (hs : s.Canonical) : (s.wordFrameOp f fop arg).Canonical := by
  rw [State.wordFrameOp]
  exact .ite hs (.ite (.count (.raise hs)) (.frameOp hs))

theorem State.Canonical.commitFrame {f cap : Nat} {keep : Bool} (hs : s.Canonical) :
    (s.commitFrame f cap keep).Canonical := by
  rw [State.commitFrame]
  exact .ite (.holdFrame hs) (.inReplicas (.changeLive hs))

theorem State.Canonical.framesResume (hs : s.Canonical) : s.framesResume.Canonical := by
  rw [State.framesResume]
  exact .foldl
    (fun _ _ hu => by
      split
      · exact .frameOp hu
      · exact .commitFrame hu) (.same hs rfl rfl rfl)

theorem State.Canonical.masterLost (hs : s.Canonical) : s.masterLost.Canonical := by
  rw [State.masterLost]
  exact .foldl (fun _ _ hu => .changeLive (.foldl (fun _ _ hu2 => .ite (.changeLive hu2) hu2) hu))
    (.same hs rfl rfl rfl)

/-! #### Machine/Drive -/

theorem State.Canonical.fetchRacing {key lo : Nat} {val : Nat × Nat} {l : List LoadRec} (hs : s.Canonical) :
    (fetchRacing key lo s val l).2.Canonical := by
  induction l generalizing s val with
  | nil => exact hs
  | cons x l ih => exact .ite_snd (.ite_snd (ih (.draw hs)) (ih hs)) hs

theorem State.Canonical.fetchEnvelope {o addr t : Nat} (hs : s.Canonical) : (s.fetchEnvelope o addr t).2.Canonical := by
  rw [State.fetchEnvelope]
  split
  · exact .fetchRacing hs
  · exact .count (.fetchRacing hs)
  · exact .count (.raise (.fetchRacing hs))

theorem State.Canonical.cmdArchiveLoad_fst {h : Hdr} {bank start count id : Nat} (hs : s.Canonical) :
    (cmdArchiveLoad h bank start count id s).1.Canonical := by
  rw [cmdArchiveLoad]
  exact .ite_fst hs (.ite_fst hs (.same hs rfl rfl rfl))

theorem State.Canonical.cmdArchiveRead_fst {h : Hdr} {bank start count id : Nat} (hs : s.Canonical) :
    (cmdArchiveRead h bank start count id s).1.Canonical := by
  rw [cmdArchiveRead]
  exact .ite_fst hs (.ite_fst hs hs)

theorem State.Canonical.cmdKernelLoad_fst {h : Hdr} {start count id : Nat} (hs : s.Canonical) :
    (cmdKernelLoad h start count id s).1.Canonical := by
  rw [cmdKernelLoad]
  exact .ite_fst hs (.ite_fst hs (.same hs rfl rfl rfl))

theorem State.Canonical.cmdKernelRead_fst {h : Hdr} {start count id : Nat} (hs : s.Canonical) :
    (cmdKernelRead h start count id s).1.Canonical := by
  rw [cmdKernelRead]
  exact .ite_fst hs (.ite_fst hs hs)

theorem State.Canonical.descWritten {d old : Nat} (hs : s.Canonical) : (s.descWritten d old).Canonical := by
  rw [State.descWritten]
  exact .ite hs (.same hs rfl rfl rfl)

theorem State.Canonical.fetchSample {p : Play} {n : Nat} (hs : s.Canonical) : (s.fetchSample p n).2.Canonical := by
  rw [State.fetchSample]
  exact .ite_snd (.ite_snd (.fetchEnvelope (.fetchEnvelope hs)) (.fetchEnvelope hs)) (.fetchEnvelope hs)

theorem State.Canonical.startPlay {slot d fine t0 : Nat} (hs : s.Canonical) : (s.startPlay slot d fine t0).Canonical := by
  rw [State.startPlay]
  exact .same
    (.ite (.count (.raise (.ite (.count (.raise (.count (.setF (.setF hs))))) (.count (.setF (.setF hs))))))
      (.ite (.count (.raise (.count (.setF (.setF hs))))) (.count (.setF (.setF hs))))) rfl rfl rfl

theorem State.Canonical.bandMark {k : Nat} {p : Play} (hs : s.Canonical) : (s.bandMark k p).Canonical := by
  rw [State.bandMark]
  exact .ite hs (.count (.same (.raise hs) rfl rfl rfl))

theorem State.Canonical.bandTick {t : Nat} (hs : s.Canonical) : (s.bandTick t).Canonical := by
  rw [State.bandTick]
  exact .foldl (fun _ _ hu => .ite (.bandMark hu) hu) hs

theorem State.Canonical.sumClip {o : Nat} {clips : Bool} (hs : s.Canonical) : (s.sumClip o clips).Canonical := by
  rw [State.sumClip]
  exact .ite (.count (.raise hs)) hs

theorem State.Canonical.setSumRows {o : Nat} {l : List SumRow} (hs : s.Canonical) : (s.setSumRows o l).Canonical := by
  rw [State.setSumRows]
  exact .same hs rfl rfl rfl

theorem State.Canonical.setSum {o : Nat} {r : SumRow} (hs : s.Canonical) : (s.setSum o r).Canonical := by
  rw [State.setSum]
  exact .setSumRows hs

theorem State.Canonical.dacClip {o t : Nat} (hs : s.Canonical) : (s.dacClip o t).Canonical := by
  rw [State.dacClip]
  exact .ite (.ite hs (.countN (.raise hs))) hs

theorem State.Canonical.sumComplex {o t : Nat} {ps : List Play} (hs : s.Canonical) : (s.sumComplex o t ps).Canonical := by
  rw [State.sumComplex]
  exact .setSum (.sumClip hs)

theorem State.Canonical.sumReal {o t : Nat} {ps : List Play} (hs : s.Canonical) : (s.sumReal o t ps).Canonical := by
  rw [State.sumReal]
  exact .setSum (.foldl (fun _ _ hu => .sumClip hu) hs)

theorem State.Canonical.outputSample {t o : Nat} (hs : s.Canonical) : (s.outputSample t o).Canonical := by
  rw [State.outputSample]
  exact .ite (.sumReal hs) (.sumComplex hs)

theorem State.Canonical.mutedPlays {t : Nat} (hs : s.Canonical) : (s.mutedPlays t).Canonical := by
  rw [State.mutedPlays]
  exact .foldl (fun _ _ hu => .ite (.count (.raise (.same hu rfl rfl rfl))) hu) hs

theorem State.Canonical.dropPlays {t : Nat} (hs : s.Canonical) : (s.dropPlays t).Canonical := by
  rw [State.dropPlays]
  exact .same hs rfl rfl rfl

theorem State.Canonical.notePlaying {t : Nat} (hs : s.Canonical) : (s.notePlaying t).Canonical := by
  rw [State.notePlaying]
  exact .foldl (fun _ _ hu => .same hu rfl rfl rfl) hs

theorem State.Canonical.driveFetch (hs : s.Canonical) : s.driveFetch.Canonical := by
  rw [State.driveFetch]
  exact .foldl (fun _ _ hu => .ite (.same (.fetchSample hu) rfl rfl rfl) hu) hs

theorem State.Canonical.driveSums (hs : s.Canonical) : s.driveSums.Canonical := by
  rw [State.driveSums]
  exact .foldl (fun _ _ hu => .ite (.ite hu (.outputSample hu)) (.dacClip (.ite hu (.outputSample hu))))
    (.driveFetch hs)

theorem State.Canonical.driveTick (hs : s.Canonical) : s.driveTick.Canonical := by
  rw [State.driveTick]
  exact .same (.ite (.dropPlays (.mutedPlays (.notePlaying (.bandTick hs)))) hs) rfl rfl rfl

theorem State.Canonical.enableOutput {o : Nat} (hs : s.Canonical) : (s.enableOutput o).Canonical := by
  rw [State.enableOutput]
  exact .setF hs

theorem State.Canonical.cmdOutputEnable_fst {mask id : Nat} (hs : s.Canonical) :
    (cmdOutputEnable mask id s).1.Canonical := by
  rw [cmdOutputEnable]
  exact .ite_fst hs (.ite_fst hs (.ite_fst hs (.ite_fst hs (.foldl (fun _ _ hu => .enableOutput hu) hs))))

theorem State.Canonical.cmdOutputDisable_fst {mask id : Nat} (hs : s.Canonical) :
    (cmdOutputDisable mask id s).1.Canonical := by
  rw [cmdOutputDisable]
  exact .ite_fst hs (.foldl (fun _ _ hu => .ite hu (.setF hu)) hs)

theorem State.Canonical.applyCapture {key img : Nat} (hs : s.Canonical) : (s.applyCapture key img).Canonical := by
  rw [State.applyCapture]
  exact .changeLive hs

theorem State.Canonical.cmdOutputCommit_fst {tick id : Nat} (hs : s.Canonical) :
    (cmdOutputCommit tick id s).1.Canonical := by
  rw [cmdOutputCommit]
  exact .ite_fst hs (.commitOwn_fst hs)

theorem State.Canonical.applyOutputCommit {c : Commit} (hs : s.Canonical) : (s.applyOutputCommit c).Canonical := by
  rw [State.applyOutputCommit]
  exact .foldl (fun _ _ hu => .applyCapture hu) hs

theorem State.Canonical.faultMute {point : Nat} (hs : s.Canonical) : (s.faultMute point).Canonical := by
  rw [State.faultMute]
  exact .foldl (fun _ _ hu => .ite (.count (.setF (.raise (.setF (.draw hu))))) hu) hs

theorem State.Canonical.fscChanged {o : Nat} (hs : s.Canonical) : (s.fscChanged o).Canonical := by
  rw [State.fscChanged]
  exact .ite (.count (.setF (.same (.setF hs) rfl rfl rfl))) (.same (.setF hs) rfl rfl rfl)

theorem State.Canonical.fscMuteEnd {o : Nat} (hs : s.Canonical) : (s.fscMuteEnd o).Canonical := by
  rw [State.fscMuteEnd]
  exact .ite (.ite (.setF (.same (.setF hs) rfl rfl rfl)) (.same (.setF hs) rfl rfl rfl)) hs

theorem State.Canonical.slotPowerUp {slot : Nat} (hs : s.Canonical) : (s.slotPowerUp slot).Canonical := by
  rw [State.slotPowerUp]
  exact .ite hs (.ite (.changeLive (.setF hs)) hs)

/-! #### Machine/Readout -/

theorem State.Canonical.setFrames {rc : Nat} {l : List (Nat × Nat)} (hs : s.Canonical) : (s.setFrames rc l).Canonical := by
  rw [State.setFrames]
  exact .same hs rfl rfl rfl

theorem State.Canonical.addFrame {rc first f : Nat} (hs : s.Canonical) : (s.addFrame rc first f).Canonical := by
  rw [State.addFrame]
  exact .setFrames hs

theorem State.Canonical.dropFrames {rc : Nat} {starts : List Nat} (hs : s.Canonical) :
    (s.dropFrames rc starts).Canonical := by
  rw [State.dropFrames]
  exact .setFrames hs

theorem State.Canonical.armRefused {rc : Nat} (hs : s.Canonical) : (s.armRefused rc).Canonical := by
  rw [State.armRefused]
  exact .count (.raise hs)

theorem State.Canonical.abandon {rc : Nat} {p : Win → Bool} (hs : s.Canonical) : (s.abandon rc p).Canonical := by
  rw [State.abandon]
  exact .ite hs (.countN (.raise (.dropFrames (.same hs rfl rfl rfl))))

theorem State.Canonical.armChannel {rc slot desc t0 cur shot : Nat} (hs : s.Canonical) :
    (s.armChannel rc slot desc t0 cur shot).Canonical := by
  unfold State.armChannel
  exact .ite hs (.ite (.armRefused hs) (.ite (.armRefused (.abandon hs))
    (.withRd (.addFrame (.count (.setF (.abandon hs)))))))

theorem State.Canonical.armMeas {slot d t0 cur shot : Nat} (hs : s.Canonical) :
    (s.armMeas slot d t0 cur shot).2.Canonical := by
  rw [State.armMeas]
  exact .ite_snd hs (.ite_snd (.count hs) (.armChannel hs))

theorem State.Canonical.fetchKernel {rc addr : Nat} (hs : s.Canonical) : (s.fetchKernel rc addr).2.Canonical := by
  rw [State.fetchKernel]
  split
  · exact .fetchRacing hs
  · exact .count (.count (.fetchRacing hs))
  · exact .count (.raise (.fetchRacing hs))

theorem State.Canonical.noteOvf {rc n tap : Nat} (hs : s.Canonical) : (s.noteOvf rc n tap).Canonical := by
  rw [State.noteOvf]
  exact .ite (.raise hs) (.raise (.setF (.setF hs)))

theorem State.Canonical.tap {w : Win} {n : Nat} (hs : s.Canonical) : (s.tap w n).2.Canonical := by
  rw [State.tap]
  exact .ite_snd hs
    (.ite
      (.noteOvf
        (.ite (.ite (.fetchKernel hs) (.count (.raise (.fetchKernel hs))))
          (.countN (.raise (.ite (.fetchKernel hs) (.count (.raise (.fetchKernel hs))))))))
      (.ite (.ite (.fetchKernel hs) (.count (.raise (.fetchKernel hs))))
        (.countN (.raise (.ite (.fetchKernel hs) (.count (.raise (.fetchKernel hs))))))))

theorem State.Canonical.readoutTick (hs : s.Canonical) : s.readoutTick.Canonical := by
  unfold State.readoutTick
  exact .ite hs (.withRd (.foldl_snd (fun _ _ hu => .ite_snd (.tap hu) hu) hs))

theorem State.Canonical.formPoint {rc : Nat} (hs : s.Canonical) : (s.formPoint rc).Canonical := by
  rw [State.formPoint]
  split
  · exact hs
  · exact .ite
      (.ite
        (.count
          (.ite
            (.count
              (.raise
                (.ite (.count (.raise (.count (.setF (.same hs rfl rfl rfl)))))
                  (.count (.setF (.same hs rfl rfl rfl))))))
            (.ite (.count (.raise (.count (.setF (.same hs rfl rfl rfl))))) (.count (.setF (.same hs rfl rfl rfl))))))
        (.ite
          (.count
            (.raise
              (.ite (.count (.raise (.count (.setF (.same hs rfl rfl rfl)))))
                (.count (.setF (.same hs rfl rfl rfl))))))
          (.ite (.count (.raise (.count (.setF (.same hs rfl rfl rfl))))) (.count (.setF (.same hs rfl rfl rfl))))))
      (.setF
        (.setF
          (.ite
            (.count
              (.ite
                (.count
                  (.raise
                    (.ite (.count (.raise (.count (.setF (.same hs rfl rfl rfl)))))
                      (.count (.setF (.same hs rfl rfl rfl))))))
                (.ite (.count (.raise (.count (.setF (.same hs rfl rfl rfl)))))
                  (.count (.setF (.same hs rfl rfl rfl))))))
            (.ite
              (.count
                (.raise
                  (.ite (.count (.raise (.count (.setF (.same hs rfl rfl rfl)))))
                    (.count (.setF (.same hs rfl rfl rfl))))))
              (.ite (.count (.raise (.count (.setF (.same hs rfl rfl rfl)))))
                (.count (.setF (.same hs rfl rfl rfl))))))))

theorem State.Canonical.demixBegin (hs : s.Canonical) : s.demixBegin.Canonical := by
  rw [State.demixBegin]
  exact .same
    (.foldl
      (fun _ _ hu =>
        .ite (.count (.raiseWith (.ite (.count (.setF (.setF hu))) (.setF (.setF hu)))))
          (.ite (.count (.setF (.setF hu))) (.setF (.setF hu)))) hs) rfl rfl rfl

theorem State.Canonical.abandonInput {i : Nat} (hs : s.Canonical) : (s.abandonInput i).Canonical := by
  rw [State.abandonInput]
  exact .foldl (fun _ _ hu => .abandon hu) hs

theorem State.Canonical.inputEnWritten {i : Nat} {en : Bool} (hs : s.Canonical) : (s.inputEnWritten i en).Canonical := by
  unfold State.inputEnWritten
  exact .ite (.ite (.withRd (.setF hs)) hs) (.withRd (.abandonInput (.setF hs)))

theorem State.Canonical.startingEnd {i : Nat} (hs : s.Canonical) : (s.startingEnd i).Canonical := by
  rw [State.startingEnd]
  exact .ite (.same (.setF hs) rfl rfl rfl) hs

theorem State.Canonical.applyInput {key img : Nat} (hs : s.Canonical) : (s.applyInput key img).Canonical := by
  rw [State.applyInput]
  exact .same (.applyCapture hs) rfl rfl rfl

theorem State.Canonical.adcOver {i : Nat} (hs : s.Canonical) : (s.adcOver i).Canonical := by
  rw [State.adcOver]
  exact .ite (.same (.count (.raiseWith hs)) rfl rfl rfl) hs

/-! #### Machine/Strongroom -/

theorem State.Canonical.setNv {key : Nat} {r : NvRec} (hs : s.Canonical) : (s.setNv key r).Canonical := by
  rw [State.setNv]
  exact .same hs rfl rfl rfl

theorem State.Canonical.nvWrite {key len body : Nat} (hs : s.Canonical) : (s.nvWrite key len body).Canonical := by
  rw [State.nvWrite]
  exact .setNv hs

theorem State.Canonical.nvSpoil {key len body : Nat} (hs : s.Canonical) : (s.nvSpoil key len body).Canonical := by
  rw [State.nvSpoil]
  exact .setNv hs

/-! #### Machine/Verdicts -/

theorem State.Canonical.setCentroid {c k : Nat} {v : Iq} (hs : s.Canonical) : (s.setCentroid c k v).Canonical := by
  rw [State.setCentroid]
  exact .setObj hs

theorem State.Canonical.adapt {c n : Nat} {z : Iq} {p : Nat} (hs : s.Canonical) : (s.adapt c n z p).Canonical := by
  rw [State.adapt]
  exact .ite (.count (.same (.raiseWith hs) rfl rfl rfl)) (.count (.setCentroid hs))

theorem State.Canonical.discriminate {c : Nat} {z : Iq} {ovf stale : Bool} {p : Nat} (hs : s.Canonical) :
    (s.discriminate c z ovf stale p).2.Canonical := by
  rw [State.discriminate]
  exact .ite_snd hs (.ite_snd (.adapt hs) hs)

theorem State.Canonical.closeRecords (hs : s.Canonical) : s.closeRecords.Canonical := by
  rw [State.closeRecords]
  split
  · exact hs
  · exact .ite
      (.ite (.clearLost (.ringProduce (.same hs rfl rfl rfl)))
        (.markLost (.clearLost (.ringProduce (.same hs rfl rfl rfl))))) (.markLost (.ringLost (.same hs rfl rfl rfl)))

theorem State.Canonical.recordBlockClose (hs : s.Canonical) : s.recordBlockClose.Canonical := by
  rw [State.recordBlockClose]
  exact .ite (.closeRecords hs) hs

theorem State.Canonical.addRecord {r : VRec} (hs : s.Canonical) : (s.addRecord r).Canonical := by
  rw [State.addRecord]
  exact .ite (.closeRecords (.same (.count (.nextSeq (.recordBlockClose hs))) rfl rfl rfl))
    (.same (.count (.nextSeq (.recordBlockClose hs))) rfl rfl rfl)

theorem State.Canonical.setCpRt {p : Nat} {r : CpRt} (hs : s.Canonical) : (s.setCpRt p r).Canonical := by
  rw [State.setCpRt]
  exact .same hs rfl rfl rfl

theorem State.Canonical.exportVerdict {c : Nat} {v : Verdict} (hs : s.Canonical) : (s.exportVerdict c v).Canonical := by
  rw [State.exportVerdict]
  exact .foldl (fun _ _ hu => .ite (.foldl (fun _ _ hu2 => .ite (.setCpRt hu2) hu2) hu) hu) hs

theorem State.Canonical.erasureEvent {c code : Nat} (hs : s.Canonical) : (s.erasureEvent c code).Canonical := by
  rw [State.erasureEvent]
  exact .ite (.fire hs) hs

theorem State.Canonical.produceVerdict {c : Nat} (hs : s.Canonical) : (s.produceVerdict c).Canonical := by
  unfold State.produceVerdict
  split
  · exact hs
  case _ pt _ =>
    have h0 : ({ s with rd := { s.rd with pts := dropPt c pt.p s.rd.pts } } : State).Canonical := .withRd hs
    exact .ite (.addRecord (.exportVerdict (.withVd (.erasureEvent (.setF (.setF (.discriminate h0)))))))
      (.exportVerdict (.withVd (.erasureEvent (.setF (.setF (.discriminate h0))))))

theorem State.Canonical.countVerdict {f : VPend} (hs : s.Canonical) : (s.countVerdict f).Canonical := by
  rw [State.countVerdict]
  exact .ite hs
    (.ite (.count (.ite (.count (.ite (.count hs) (.count (.count hs)))) (.ite (.count hs) (.count (.count hs)))))
      (.ite (.count (.ite (.count hs) (.count (.count hs)))) (.ite (.count hs) (.count (.count hs)))))

theorem State.Canonical.writeEntry {f : VPend} (hs : s.Canonical) : (s.writeEntry f).Canonical := by
  rw [State.writeEntry]
  exact .same hs rfl rfl rfl

theorem State.Canonical.deliverBeat {l : List VPend} (hs : s.Canonical) : (deliverBeat s l).Canonical := by
  induction l generalizing s with
  | nil => exact hs
  | cons f l ih =>
    exact ih (.ite (.count hs) (.ite (.countVerdict (.writeEntry hs)) (.count (.writeEntry hs))))

theorem State.Canonical.deliverTable (hs : s.Canonical) : s.deliverTable.Canonical := by
  rw [State.deliverTable]
  exact .ite (.deliverBeat (.same hs rfl rfl rfl)) (.same hs rfl rfl rfl)

theorem State.Canonical.reseed {c : Nat} (hs : s.Canonical) : (s.reseed c).Canonical := by
  rw [State.reseed]
  exact .same (.foldl (fun _ _ hu => .setCentroid hu) hs) rfl rfl rfl

theorem State.Canonical.cmdReadoutCommit_fst {tick id : Nat} (hs : s.Canonical) :
    (cmdReadoutCommit tick id s).1.Canonical := by
  rw [cmdReadoutCommit]
  exact .ite_fst hs (.commitOwn_fst hs)

theorem State.Canonical.applyDisc {seeds : List Nat} {key img : Nat} (hs : s.Canonical) :
    (s.applyDisc seeds key img).Canonical := by
  rw [State.applyDisc]
  exact .applyCapture hs

theorem State.Canonical.applyReadoutObj {seeds : List Nat} {key img : Nat} (hs : s.Canonical) :
    (s.applyReadoutObj seeds key img).Canonical := by
  rw [State.applyReadoutObj]
  exact .ite (.applyInput hs) (.ite (.applyDisc hs) (.applyCapture hs))

theorem State.Canonical.applyReadoutCommit {c : Commit} (hs : s.Canonical) : (s.applyReadoutCommit c).Canonical := by
  rw [State.applyReadoutCommit]
  exact .foldl (fun _ _ hu => .reseed hu) (.foldl (fun _ _ hu => .applyReadoutObj hu) hs)

theorem State.Canonical.cmdDiscRebase_fst {h : Hdr} {tick id : Nat} (hs : s.Canonical) :
    (cmdDiscRebase h tick id s).1.Canonical := by
  rw [cmdDiscRebase]
  exact .ite_fst hs (.ite_fst hs (.commitOwn_fst hs))

theorem State.Canonical.rebase {c : Nat} (hs : s.Canonical) : (s.rebase c).Canonical := by
  rw [State.rebase]
  exact .same (.setObj (.setLiveObj hs)) rfl rfl rfl

theorem State.Canonical.applyRebase {c : Commit} (hs : s.Canonical) : (s.applyRebase c).Canonical := by
  rw [State.applyRebase]
  exact .foldl (fun _ _ hu => .rebase hu) hs

theorem State.Canonical.cmdDiscSeedStore_fst {h : Hdr} {id : Nat} (hs : s.Canonical) :
    (cmdDiscSeedStore h id s).1.Canonical := by
  rw [cmdDiscSeedStore]
  exact .ite_fst hs (.ite_fst hs (.ite_fst hs (.ite_fst hs (.work hs))))

theorem State.Canonical.storeSeeds {l : List (Nat × Nat)} (hs : s.Canonical) : (s.storeSeeds l).Canonical := by
  rw [State.storeSeeds]
  exact .foldl (fun _ _ hu => .nvWrite hu) hs

theorem State.Canonical.storePart {w : Timed} (hs : s.Canonical) : (s.storePart w).Canonical := by
  rw [State.storePart]
  exact .storeSeeds (.draw hs)

theorem State.Canonical.restoreSeed {c : Nat} (hs : s.Canonical) : (s.restoreSeed c).Canonical := by
  rw [State.restoreSeed]
  split
  · exact hs
  · exact .setF (.setF (.setObj hs))

theorem State.Canonical.cmdDiscSeedRestore_fst {h : Hdr} {id : Nat} (hs : s.Canonical) :
    (cmdDiscSeedRestore h id s).1.Canonical := by
  rw [cmdDiscSeedRestore]
  exact .ite_fst hs (.ite_fst hs (.ite_fst hs (.work (.foldl (fun _ _ hu => .restoreSeed hu) hs))))

/-! #### Machine/Appraiser -/

theorem State.Canonical.setApRun {n : Nat} {r : ApRun} (hs : s.Canonical) : (s.setApRun n r).Canonical := by
  rw [State.setApRun]
  exact .same hs rfl rfl rfl

theorem State.Canonical.bump {f : Field} {n : Nat} (hs : s.Canonical) : (s.bump f n).Canonical := by
  rw [State.bump]
  exact .setF hs

theorem State.Canonical.apDeliver {f : VPend} (hs : s.Canonical) : (s.apDeliver f).Canonical := by
  rw [State.apDeliver]
  exact .ite hs (.ite hs (.ite (.setApRun (.count (.raise (.bump hs)))) (.setApRun hs)))

theorem State.Canonical.deliverVerdicts (hs : s.Canonical) : s.deliverVerdicts.Canonical := by
  rw [State.deliverVerdicts]
  exact .foldl (fun _ _ hu => .ite (.apDeliver hu) hu) (.deliverTable hs)

theorem State.Canonical.apOverflow {n shot before cell : Nat} (hs : s.Canonical) :
    (s.apOverflow n shot before cell).Canonical := by
  rw [State.apOverflow]
  exact .count (.raise (.ite hs (.setF (.setF (.setF hs)))))

theorem State.Canonical.apAdd {n cell shot before : Nat} {v : Iq} (hs : s.Canonical) :
    (s.apAdd n cell shot before v).Canonical := by
  rw [State.apAdd]
  exact .ite (.apOverflow (.setApRun hs)) (.setApRun hs)

theorem State.Canonical.apCorrelate {n q before : Nat} {a b : ApPt} (hs : s.Canonical) :
    (s.apCorrelate n q before a b).Canonical := by
  rw [State.apCorrelate]
  exact .apAdd (.ite hs (.setApRun (.countN (.raise hs))))

theorem State.Canonical.apOperate {n before : Nat} {x : ApPt} (hs : s.Canonical) : (s.apOperate n before x).Canonical := by
  rw [State.apOperate]
  split
  · exact .ite (.setApRun hs) (.setApRun hs)
  · exact .foldl
      (fun _ _ hu =>
        .ite (.apCorrelate hu)
          (.ite
            (by
              split
              · exact .apCorrelate hu
              · exact hu)
            (.ite
              (by
                split
                · exact .apCorrelate hu
                · exact hu) hu))) hs
  · exact .setApRun hs
  · exact .apAdd hs

theorem State.Canonical.apLimit {n : Nat} {x : ApPt} (hs : s.Canonical) : (s.apLimit n x).Canonical := by
  rw [State.apLimit]
  exact .ite (.setApRun (.setF hs)) hs

theorem State.Canonical.apTake {n : Nat} (hs : s.Canonical) : (s.apTake n).Canonical := by
  rw [State.apTake]
  exact .ite hs
    (by
      split
      · exact hs
      · exact .ite (.setApRun (.count (.bump hs))) (.apLimit (.count (.bump (.apOperate (.setApRun hs))))))

theorem State.Canonical.apDoneSeen {n : Nat} {rep : Reply} (hs : s.Canonical) : (s.apDoneSeen n rep).Canonical := by
  rw [State.apDoneSeen]
  exact .foldl
    (fun _ _ hu => by
      split
      · exact .ite (.completeId hu) hu
      · exact .ite (.completeId hu) hu
      · exact hu) hs

theorem State.Canonical.apFinish {n : Nat} (hs : s.Canonical) : (s.apFinish n).Canonical := by
  rw [State.apFinish]
  exact .apDoneSeen (.setF (.setF hs))

theorem State.Canonical.apClear {n stop : Nat} (hs : s.Canonical) : (s.apClear n stop).Canonical := by
  rw [State.apClear]
  exact .setApRun (.setF (.setF (.setF (.setF hs))))

theorem State.Canonical.cmdAppStart_fst {app start stop id : Nat} (hs : s.Canonical) :
    (cmdAppStart app start stop id s).1.Canonical := by
  rw [cmdAppStart]
  exact .ite_fst hs
    (.ite_fst hs
      (.ite_fst hs
        (.ite_fst hs
          (.ite_fst hs
            (.ite_fst (.setF (.apClear hs))
              (by
                split
                · exact hs
                · exact .setF (.setF (.apClear hs))))))))

theorem State.Canonical.apBegin {n : Nat} (hs : s.Canonical) : (s.apBegin n).Canonical := by
  rw [State.apBegin]
  exact .ite (.apFinish (.setF hs)) (.count (.setF (.setF hs)))

theorem State.Canonical.apRunStart {n : Nat} (hs : s.Canonical) : (s.apRunStart n).Canonical := by
  rw [State.apRunStart]
  exact .ite (.apBegin hs) hs

theorem State.Canonical.apRunEnd {n : Nat} (hs : s.Canonical) : (s.apRunEnd n).Canonical := by
  rw [State.apRunEnd]
  exact .ite hs (.ite (.setApRun hs) (.apFinish hs))

theorem State.Canonical.cmdAppStop_fst {app stop id : Nat} (hs : s.Canonical) : (cmdAppStop app stop id s).1.Canonical := by
  rw [cmdAppStop]
  exact .ite_fst hs
    (.ite_fst hs (.ite_fst hs (.ite_fst hs (.ite_fst (.apFinish (.setApRun (.setF hs))) (.setApRun (.setF hs))))))

theorem State.Canonical.cmdAppRead_fst {h : Hdr} {app id : Nat} (hs : s.Canonical) :
    (cmdAppRead h app id s).1.Canonical := by
  rw [cmdAppRead]
  exact .ite_fst hs (.ite_fst hs (.ite_fst hs (.ite_fst hs (.count (.nextSeq hs)))))

theorem State.Canonical.appraiserWritten {n : Nat} (hs : s.Canonical) : (s.appraiserWritten n).Canonical := by
  rw [State.appraiserWritten]
  exact .ite (.setApRun (.setF hs)) hs

theorem State.Canonical.evtAppraiser {n : Nat} (hs : s.Canonical) : (s.evtAppraiser n).Canonical := by
  rw [State.evtAppraiser]
  exact .ite (.absentDrop hs) (.ite (.delivered (.apBegin hs)) (.busyDrop hs))

/-! #### Machine/Avs -/

theorem State.Canonical.avsWrite {v : Nat} (hs : s.Canonical) : (s.avsWrite v).Canonical := by
  rw [State.avsWrite]
  exact .emit (.setF (.setF hs))

theorem State.Canonical.avsShot {c : Nat} (hs : s.Canonical) : (s.avsShot c).Canonical := by
  unfold State.avsShot
  exact .ite hs (.ite hs (.withPw (.avsWrite hs)))

theorem State.Canonical.avsTarget (hs : s.Canonical) : s.avsTarget.Canonical := by
  rw [State.avsTarget]
  exact .ite (.avsWrite (.setF (.draw hs)))
    (.ite (.ite (.same (.setF (.draw hs)) rfl rfl rfl) (.ite (.raise (.setF (.draw hs))) (.setF (.draw hs))))
      (.same (.setF (.draw hs)) rfl rfl rfl))

theorem State.Canonical.avsTickEnd {active : Bool} (hs : s.Canonical) : (s.avsTickEnd active).Canonical := by
  rw [State.avsTickEnd]
  exact .ite (.ite (.raise hs) hs) (.ite (.same hs rfl rfl rfl) hs)

/-! #### Machine/Bias -/

theorem State.Canonical.setClamp {k : Nat} {closed : Bool} (hs : s.Canonical) : (s.setClamp k closed).Canonical := by
  rw [State.setClamp]
  exact .foldl (fun _ _ hu => .setF hu) hs

theorem State.Canonical.presetBank {k input eff : Nat} (hs : s.Canonical) : (s.presetBank k input eff).Canonical := by
  rw [State.presetBank]
  exact .foldl (fun _ _ hu => .setF (.setF (.setF hu))) hs

theorem State.Canonical.stillBank {k : Nat} (hs : s.Canonical) : (s.stillBank k).Canonical := by
  unfold State.stillBank
  exact .withBi (.foldl (fun _ _ hu => .setF (.setF hu)) hs)

theorem State.Canonical.writeInput {b code : Nat} (hs : s.Canonical) : (s.writeInput b code).Canonical := by
  rw [State.writeInput]
  exact .setF (.ite hs (.same hs rfl rfl rfl))

theorem State.Canonical.orStrobe {k m : Nat} (hs : s.Canonical) : (s.orStrobe k m).Canonical := by
  rw [State.orStrobe]
  exact .same hs rfl rfl rfl

theorem State.Canonical.addStrobe {k kind : Nat} (hs : s.Canonical) : (s.addStrobe k kind).Canonical := by
  rw [State.addStrobe]
  exact .ite hs (.ite (.orStrobe hs) (.orStrobe hs))

theorem State.Canonical.addOwnStrobe {k mask : Nat} (hs : s.Canonical) : (s.addOwnStrobe k mask).Canonical := by
  rw [State.addOwnStrobe]
  exact .ite hs (.orStrobe hs)

theorem State.Canonical.addUpd {e : BiUpd} (hs : s.Canonical) : (s.addUpd e).Canonical := by
  rw [State.addUpd]
  exact .same hs rfl rfl rfl

theorem State.Canonical.applyStrobe {k mask : Nat} (hs : s.Canonical) : (s.applyStrobe k mask).Canonical := by
  unfold State.applyStrobe
  exact .ite (.withBi (.addUpd (.count hs))) (.addUpd (.count hs))

theorem State.Canonical.strobeEvent {k w : Nat} {taken : Bool} (hs : s.Canonical) :
    (s.strobeEvent k w taken).Canonical := by
  rw [State.strobeEvent]
  exact .ite hs (.ite (.delivered hs) (.busyDrop hs))

theorem State.Canonical.setDeferred {k w : Nat} (hs : s.Canonical) : (s.setDeferred k w).Canonical := by
  rw [State.setDeferred]
  exact .same hs rfl rfl rfl

theorem State.Canonical.dropStrobe {k w : Nat} (hs : s.Canonical) : (s.dropStrobe k w).Canonical := by
  rw [State.dropStrobe]
  exact .strobeEvent (.count (.raise hs))

theorem State.Canonical.deferStrobe {k w : Nat} (hs : s.Canonical) : (s.deferStrobe k w).Canonical := by
  rw [State.deferStrobe]
  exact .strobeEvent (.count (.raise hs))

theorem State.Canonical.strobeOutcome {k w d : Nat} {calEnds : Bool} (hs : s.Canonical) :
    (s.strobeOutcome k w d calEnds).2.Canonical := by
  rw [State.strobeOutcome]
  exact .ite_snd hs
    (.ite_snd (.dropStrobe hs)
      (.ite_snd
        (.ite_snd (.deferStrobe (.setDeferred hs))
          (.ite_snd (.applyStrobe (.deferStrobe hs)) (.strobeEvent (.applyStrobe hs))))
        (.ite (.applyStrobe (.ite hs (.dropStrobe hs))) (.ite hs (.dropStrobe hs)))))

theorem State.Canonical.decideStrobe {k : Nat} (hs : s.Canonical) : (s.decideStrobe k).2.Canonical := by
  rw [State.decideStrobe]
  exact .strobeOutcome (.ite (.setDeferred hs) hs)

theorem State.Canonical.strobeReplies {applied : Nat} (hs : s.Canonical) : (s.strobeReplies applied).Canonical := by
  rw [State.strobeReplies]
  exact .foldl
    (fun _ _ hu => by
      split
      · exact .completeId hu
      · exact hu) (.same hs rfl rfl rfl)

theorem State.Canonical.strobeTick (hs : s.Canonical) : s.strobeTick.Canonical := by
  unfold State.strobeTick
  exact .strobeReplies (.withBi (.foldl_snd (fun _ _ hu => .ite_snd (.decideStrobe hu) hu) hs))

theorem State.Canonical.hold {b u : Nat} (hs : s.Canonical) : (s.hold b u).Canonical := by
  rw [State.hold]
  exact .same (.ite hs (.count (.setF hs))) rfl rfl rfl

theorem State.Canonical.loadDac {b code u : Nat} (hs : s.Canonical) : (s.loadDac b code u).Canonical := by
  unfold State.loadDac
  have h1 : (((s.setF Fld.bias.dacCode b code).setF Fld.bias.lastLoadTick b u).count 0x0E b 0).Canonical :=
    .count (.setF (.setF hs))
  exact .ite (.setF h1)
    (.ite h1 (.ite (.setF (.withBi h1)) (.ite (.hold (.setF (.setF (.withBi h1)))) (.setF (.setF (.withBi h1))))))

theorem State.Canonical.releaseBank {k : Nat} (hs : s.Canonical) : (s.releaseBank k).Canonical := by
  rw [State.releaseBank]
  exact .ite (.same hs rfl rfl rfl) (.foldl (fun _ _ hu => .setF hu) (.setClamp (.setF (.same hs rfl rfl rfl))))

theorem State.Canonical.clearEdge {k u : Nat} (hs : s.Canonical) : (s.clearEdge k u).Canonical := by
  rw [State.clearEdge]
  exact .count (.setF (.raise (.foldl (fun _ _ hu => .loadDac (.setF hu)) hs)))

theorem State.Canonical.updEdge {e : BiUpd} (hs : s.Canonical) : (s.updEdge e).Canonical := by
  rw [State.updEdge]
  exact .ite (.clearEdge hs) (.ite (.releaseBank hs) (.ite hs (.foldl (fun _ _ hu => .loadDac hu) hs)))

theorem State.Canonical.slewOutput {b : Nat} (hs : s.Canonical) : (s.slewOutput b).Canonical := by
  rw [State.slewOutput]
  exact .ite hs (.setF (.setF hs))

theorem State.Canonical.biasUpdateEdge {k : Nat} (hs : s.Canonical) : (s.biasUpdateEdge k).Canonical := by
  rw [State.biasUpdateEdge]
  exact .ite hs
    (.ite (.same hs rfl rfl rfl)
      (.foldl (fun _ _ hu => .slewOutput hu) (.foldl (fun _ _ hu => .updEdge hu) (.same hs rfl rfl rfl))))

theorem State.Canonical.slewBegin (hs : s.Canonical) : s.slewBegin.Canonical := by
  rw [State.slewBegin]
  exact .ite hs (.foldl (fun _ _ hu => .ite (.foldl (fun _ _ hu2 => .slewOutput hu2) hu) hu) hs)

theorem State.Canonical.deglitchEnd {b : Nat} (hs : s.Canonical) : (s.deglitchEnd b).Canonical := by
  rw [State.deglitchEnd]
  exact .ite (.same (.setF hs) rfl rfl rfl) hs

theorem State.Canonical.slewEnApply {k : Nat} (hs : s.Canonical) : (s.slewEnApply k).Canonical := by
  rw [State.slewEnApply]
  exact .ite (.same hs rfl rfl rfl) hs

theorem State.Canonical.dropBankWork {k : Nat} (hs : s.Canonical) : (s.dropBankWork k).Canonical := by
  rw [State.dropBankWork]
  exact .same hs rfl rfl rfl

theorem State.Canonical.dropJob {id : Nat} (hs : s.Canonical) : (s.dropJob id).Canonical := by
  rw [State.dropJob]
  exact .same hs rfl rfl rfl

theorem State.Canonical.failUnit {kind u : Nat} (hs : s.Canonical) : (s.failUnit kind u).Canonical := by
  rw [State.failUnit]
  exact .same hs rfl rfl rfl

theorem State.Canonical.endEmptyJobs (hs : s.Canonical) : s.endEmptyJobs.Canonical := by
  rw [State.endEmptyJobs]
  exact .foldl (fun _ _ hu => .completeId (.dropJob hu)) hs

theorem State.Canonical.calBiasFail {k : Nat} (hs : s.Canonical) : (s.calBiasFail k).Canonical := by
  rw [State.calBiasFail]
  exact .endEmptyJobs (.failUnit hs)

theorem State.Canonical.bankOff {k : Nat} (hs : s.Canonical) : (s.bankOff k).Canonical := by
  rw [State.bankOff]
  exact .ite (.endEmptyJobs (.dropBankWork (.stillBank (.setClamp (.setF (.ite (.failUnit hs) hs))))))
    (.dropBankWork (.stillBank (.setClamp (.setF (.ite (.failUnit hs) hs)))))

theorem State.Canonical.enterWait {k : Nat} (hs : s.Canonical) : (s.enterWait k).Canonical := by
  rw [State.enterWait]
  exact .stillBank (.setF (.presetBank hs))

theorem State.Canonical.bankEnWritten {k : Nat} {en : Bool} (hs : s.Canonical) : (s.bankEnWritten k en).Canonical := by
  rw [State.bankEnWritten]
  exact .ite (.ite hs (.bankOff hs)) (.ite (.enterWait hs) hs)

theorem State.Canonical.supplyBecomesGood (hs : s.Canonical) : s.supplyBecomesGood.Canonical := by
  rw [State.supplyBecomesGood]
  exact .foldl (fun _ _ hu => .ite hu (.ite (.enterWait (.setF hu)) (.setF hu))) (.same hs rfl rfl rfl)

theorem State.Canonical.supplyLost (hs : s.Canonical) : s.supplyLost.Canonical := by
  rw [State.supplyLost]
  exact .foldl (fun _ _ hu => .ite hu (.ite (.setF hu) (.count (.raise (.setF (.bankOff (.setF hu)))))))
    (.same hs rfl rfl rfl)

theorem State.Canonical.clearBank {k : Nat} (hs : s.Canonical) : (s.clearBank k).Canonical := by
  rw [State.clearBank]
  exact .ite (.addUpd hs) hs

theorem State.Canonical.clearBanks (hs : s.Canonical) : s.clearBanks.Canonical := by
  rw [State.clearBanks]
  exact .foldl (fun _ _ hu => .clearBank hu) hs

theorem State.Canonical.clrTaken (hs : s.Canonical) : s.clrTaken.Canonical := by
  rw [State.clrTaken]
  exact .ite hs (.foldl (fun _ _ hu => .ite (.setF hu) hu) (.clearBanks (.same hs rfl rfl rfl)))

theorem State.Canonical.clrReleased (hs : s.Canonical) : s.clrReleased.Canonical := by
  rw [State.clrReleased]
  exact .foldl (fun _ _ hu => .ite (.setF hu) hu) (.same hs rfl rfl rfl)

theorem State.Canonical.lockBank {k : Nat} (hs : s.Canonical) : (s.lockBank k).Canonical := by
  rw [State.lockBank]
  exact .ite hs (.foldl (fun _ _ hu => .same (.deglitchEnd hu) rfl rfl rfl) (.setF hs))

theorem State.Canonical.lockBanks (hs : s.Canonical) : s.lockBanks.Canonical := by
  rw [State.lockBanks]
  exact .foldl (fun _ _ hu => .lockBank hu) hs

theorem State.Canonical.unlockBank {k : Nat} (hs : s.Canonical) : (s.unlockBank k).Canonical := by
  rw [State.unlockBank]
  exact .ite hs (.foldl (fun _ _ hu => .same hu rfl rfl rfl) (.same (.setF hs) rfl rfl rfl))

theorem State.Canonical.unlockBanks (hs : s.Canonical) : s.unlockBanks.Canonical := by
  rw [State.unlockBanks]
  exact .foldl (fun _ _ hu => .unlockBank hu) hs

theorem State.Canonical.bankCalEnd {k : Nat} (hs : s.Canonical) : (s.bankCalEnd k).Canonical := by
  rw [State.bankCalEnd]
  exact .ite hs (.foldl (fun _ _ hu => .ite hu (.ite (.setF hu) (.setF (.setF hu)))) (.same (.setF hs) rfl rfl rfl))

theorem State.Canonical.changeSpan {k span : Nat} (hs : s.Canonical) : (s.changeSpan k span).Canonical := by
  rw [State.changeSpan]
  exact .ite (.count (.setF (.setF (.dropBankWork (.stillBank (.presetBank (.setF hs)))))))
    (.same
      (.ite
        (.calBiasFail
          (.setClamp (.setF (.count (.setF (.setF (.dropBankWork (.stillBank (.presetBank (.setF hs))))))))))
        (.setClamp (.setF (.count (.setF (.setF (.dropBankWork (.stillBank (.presetBank (.setF hs)))))))))) rfl rfl
      rfl)

theorem State.Canonical.applyBiasCommit {c : Commit} (hs : s.Canonical) : (s.applyBiasCommit c).Canonical := by
  rw [State.applyBiasCommit]
  exact .foldl (fun _ _ hu => .ite (.applyCapture hu) (.changeSpan (.applyCapture hu))) hs

theorem State.Canonical.cmdBiasWrite_fst {h : Hdr} {bank first count : Nat} {after : Bool} {id : Nat} (hs : s.Canonical) :
    (cmdBiasWrite h bank first count after id s).1.Canonical := by
  rw [cmdBiasWrite]
  exact .ite_fst hs
    (.ite_fst hs
      (.ite_fst hs
        (.ite_fst (.same (.foldl (fun _ _ hu => .writeInput hu) hs) rfl rfl rfl)
          (.foldl (fun _ _ hu => .writeInput hu) hs))))

theorem State.Canonical.cmdBiasStrobe_fst {masks id : Nat} (hs : s.Canonical) : (cmdBiasStrobe masks id s).1.Canonical := by
  unfold cmdBiasStrobe
  exact .ite_fst hs (.withBi (.setCmd (.foldl (fun _ _ hu => .addOwnStrobe hu) hs)))

theorem State.Canonical.cmdBiasClear_fst {banks id : Nat} (hs : s.Canonical) : (cmdBiasClear banks id s).1.Canonical := by
  rw [cmdBiasClear]
  exact .ite_fst hs (.ite_fst hs (.foldl (fun _ _ hu => .clearBank hu) hs))

theorem State.Canonical.cmdBiasCommit_fst {tick id : Nat} (hs : s.Canonical) : (cmdBiasCommit tick id s).1.Canonical := by
  rw [cmdBiasCommit]
  exact .ite_fst hs (.ite_fst hs (.commitOwn_fst hs))

theorem State.Canonical.strobesAfter (hs : s.Canonical) : s.strobesAfter.Canonical := by
  rw [State.strobesAfter]
  exact .foldl (fun _ _ hu => .addOwnStrobe hu) (.same hs rfl rfl rfl)

theorem State.Canonical.biasbankWritten {k mask : Nat} (hs : s.Canonical) : (s.biasbankWritten k mask).Canonical := by
  rw [State.biasbankWritten]
  exact .ite (.bankEnWritten (.ite (.setF hs) hs)) (.ite (.setF hs) hs)

theorem State.Canonical.bankPowerOff {k : Nat} (hs : s.Canonical) : (s.bankPowerOff k).Canonical := by
  unfold State.bankPowerOff
  exact .withBi (.dropBankWork (.stillBank (.ite (.calBiasFail hs) hs)))

theorem State.Canonical.bankPowerUp {k : Nat} (hs : s.Canonical) : (s.bankPowerUp k).Canonical := by
  rw [State.bankPowerUp]
  exact .setF (.setF hs)

/-! #### Machine/Curators -/

theorem State.Canonical.setCurRt {c : Nat} {r : CurRt} (hs : s.Canonical) : (s.setCurRt c r).Canonical := by
  rw [State.setCurRt]
  exact .same hs rfl rfl rfl

theorem State.Canonical.stopSeen {c byId : Nat} {shot : Bool} (hs : s.Canonical) : (s.stopSeen c byId shot).Canonical := by
  rw [State.stopSeen]
  exact .foldl
    (fun _ _ hu => by
      split
      · exact .ite hu (.ite (.completeId (.setCmd hu)) (.setCmd hu))
      · exact hu) hs

theorem State.Canonical.haltCurator {c reason th : Nat} (hs : s.Canonical) : (s.haltCurator c reason th).Canonical := by
  rw [State.haltCurator]
  exact .stopSeen (.count (.setCurRt (.setF (.setF (.setF (.setF (.setF hs)))))))

theorem State.Canonical.cutSlots {c : Nat} (hs : s.Canonical) : (s.cutSlots c).Canonical := by
  rw [State.cutSlots]
  exact .same hs rfl rfl rfl

theorem State.Canonical.faultCurator {c code pc : Nat} (hs : s.Canonical) : (s.faultCurator c code pc).Canonical := by
  rw [State.faultCurator]
  exact .stopSeen
    (.notice (.count (.cutSlots (.setCurRt (.setF (.setF (.setF (.setF (.setF (.setF (.setF hs)))))))))))

theorem State.Canonical.staleRead {c : Nat} (hs : s.Canonical) : (s.staleRead c).Canonical := by
  rw [State.staleRead]
  exact .ite (.raise hs) (.count (.setCurRt (.raise hs)))

theorem State.Canonical.evalCond {c w tk : Nat} (hs : s.Canonical) : (s.evalCond c w tk).2.Canonical := by
  rw [State.evalCond]
  exact .ite_snd hs
    (.ite_snd hs
      (.ite_snd hs
        (.ite_snd (.ite_snd (.count (.setF hs)) hs)
          (.ite_snd hs (.ite_snd (.ite_snd (.ite (.staleRead hs) hs) hs) (.ite_snd hs hs))))))

theorem State.Canonical.goTo {c addr t : Nat} (hs : s.Canonical) : (s.goTo c addr t).Canonical := by
  rw [State.goTo]
  exact .setCurRt hs

theorem State.Canonical.decideCycle {c tk : Nat} (hs : s.Canonical) : (s.decideCycle c tk).Canonical := by
  rw [State.decideCycle]
  exact .ite hs
    (.ite (.ite (.ite (.goTo (.evalCond hs)) (.evalCond hs)) hs)
      (.ite (.ite (.setCurRt hs) (.goTo (.evalCond hs))) hs))

theorem State.Canonical.curatorsBegin (hs : s.Canonical) : s.curatorsBegin.Canonical := by
  rw [State.curatorsBegin]
  exact .ite hs (.foldl (fun _ _ hu => .ite (.decideCycle hu) hu) hs)

theorem State.Canonical.barrierArrive {c b : Nat} (hs : s.Canonical) : (s.barrierArrive c b).Canonical := by
  rw [State.barrierArrive]
  exact .ite (.same (.setF hs) rfl rfl rfl) (.setF hs)

theorem State.Canonical.barrierRelease {b : Nat} (hs : s.Canonical) : (s.barrierRelease b).Canonical := by
  rw [State.barrierRelease]
  exact .ite hs (.foldl (fun _ _ hu => .ite (.goTo (.setF hu)) hu) (.same hs rfl rfl rfl))

theorem State.Canonical.barrierTimeout {c : Nat} (hs : s.Canonical) : (s.barrierTimeout c).Canonical := by
  rw [State.barrierTimeout]
  exact .ite (.goTo (.count (.raise (.setF hs)))) hs

theorem State.Canonical.waitExpire {c : Nat} (hs : s.Canonical) : (s.waitExpire c).Canonical := by
  rw [State.waitExpire]
  exact .ite (.goTo (.count (.raise hs))) hs

theorem State.Canonical.counterOp {c w : Nat} (hs : s.Canonical) : (s.counterOp c w).Canonical := by
  rw [State.counterOp]
  split
  · exact .setF hs
  · exact .ite (.raise hs) (.setF hs)
  · exact .setF hs
  · exact hs

theorem State.Canonical.playSlot {c w slot : Nat} (hs : s.Canonical) : (s.playSlot c w slot).Canonical := by
  unfold State.playSlot
  dsimp only
  split
  · exact .count (.raise hs)
  · split
    · exact .startPlay hs
    · split
      · exact .setCurRt (.armMeas (.startPlay hs))
      · exact .armMeas (.startPlay hs)

theorem State.Canonical.wordActions {c w : Nat} (hs : s.Canonical) : (s.wordActions c w).Canonical := by
  rw [State.wordActions]
  exact .ite
    (.fire
      (.count
        (.foldl (fun _ _ hu => .addStrobe hu)
          (.foldl (fun _ _ hu => .playSlot hu)
            (.wordFrameOp (.counterOp (.ite (.avsShot (.count (.setF hs))) hs)))))))
    (.foldl (fun _ _ hu => .addStrobe hu)
      (.foldl (fun _ _ hu => .playSlot hu) (.wordFrameOp (.counterOp (.ite (.avsShot (.count (.setF hs))) hs)))))

theorem State.Canonical.wordStart {c : Nat} (hs : s.Canonical) : (s.wordStart c).Canonical := by
  rw [State.wordStart]
  exact .ite hs
    (.ite (.faultCurator hs)
      (.ite (.faultCurator (.count (.setF hs)))
        (.ite (.faultCurator (.count (.setF (.ite (.count (.raise hs)) hs))))
          (.ite (.haltCurator (.ite (.count (.raise hs)) hs))
            (.ite (.faultCurator (.count (.setF (.ite (.count (.raise hs)) hs))))
              (.ite
                (.barrierArrive (.wordActions (.setF (.setCurRt (.count (.setF (.ite (.count (.raise hs)) hs)))))))
                (.decideCycle
                  (.wordActions (.setF (.setCurRt (.count (.setF (.ite (.count (.raise hs)) hs)))))))))))))

theorem State.Canonical.curatorStart {c : Nat} (hs : s.Canonical) : (s.curatorStart c).Canonical := by
  rw [State.curatorStart]
  exact .ite (.goTo (.setF hs)) hs

theorem State.Canonical.curatorHalt {c : Nat} (hs : s.Canonical) : (s.curatorHalt c).Canonical := by
  rw [State.curatorHalt]
  split
  · exact .haltCurator hs
  · exact hs

theorem State.Canonical.haltBySystem {c : Nat} (hs : s.Canonical) : (s.haltBySystem c).Canonical := by
  rw [State.haltBySystem]
  exact .ite (.haltCurator hs) (.setCurRt hs)

theorem State.Canonical.haltSystem {armedToo runningToo : Bool} (hs : s.Canonical) :
    (s.haltSystem armedToo runningToo).Canonical := by
  rw [State.haltSystem]
  exact .foldl (fun _ _ hu => .ite (.haltBySystem hu) hu) hs

theorem State.Canonical.stopAtShotAll (hs : s.Canonical) : s.stopAtShotAll.Canonical := by
  rw [State.stopAtShotAll]
  exact .foldl (fun _ _ hu => .ite (.setCurRt hu) hu) hs

theorem State.Canonical.evtFlag {c : Nat} (hs : s.Canonical) : (s.evtFlag c).Canonical := by
  rw [State.evtFlag]
  exact .ite (.absentDrop hs) (.ite (.busyDrop hs) (.delivered (.setCurRt (.setF hs))))

theorem State.Canonical.armCurator {c t : Nat} (hs : s.Canonical) : (s.armCurator c t).Canonical := by
  rw [State.armCurator]
  exact .foldl (fun _ _ hu => .setF (.setF hu)) (.setCurRt (.setF (.setF (.setF (.setF (.setF (.setF hs)))))))

theorem State.Canonical.cmdCurStart_fst {mask tick id : Nat} (hs : s.Canonical) :
    (cmdCurStart mask tick id s).1.Canonical := by
  rw [cmdCurStart]
  exact .ite_fst hs
    (.ite_fst hs
      (.ite_fst hs
        (.ite_fst hs (.ite_fst hs (.ite_fst hs (.ite_fst hs (.foldl (fun _ _ hu => .armCurator hu) hs)))))))

theorem State.Canonical.cmdCurStop_fst {mask tick : Nat} {atShot : Bool} {id : Nat} (hs : s.Canonical) :
    (cmdCurStop mask tick atShot id s).1.Canonical := by
  rw [cmdCurStop]
  exact .ite_fst hs (.foldl (fun _ _ hu => .ite (.haltCurator (.setCurRt hu)) (.setCurRt hu)) (.setCmd hs))

theorem State.Canonical.cmdCurBarrier_fst {b mask id : Nat} (hs : s.Canonical) :
    (cmdCurBarrier b mask id s).1.Canonical := by
  rw [cmdCurBarrier]
  exact .ite_fst hs (.ite_fst hs (.same hs rfl rfl rfl))

theorem State.Canonical.cmdCurReadback_fst {h : Hdr} {cur addr count id : Nat} (hs : s.Canonical) :
    (cmdCurReadback h cur addr count id s).1.Canonical := by
  rw [cmdCurReadback]
  exact .ite_fst hs (.ite_fst hs hs)

theorem State.Canonical.writeStore {c : Nat} {words : List Nat} (hs : s.Canonical) : (s.writeStore c words).Canonical := by
  rw [State.writeStore]
  exact .same hs rfl rfl rfl

theorem State.Canonical.beginAccession {c : Nat} {img : List Byte} (hs : s.Canonical) :
    (s.beginAccession c img).Canonical := by
  rw [State.beginAccession]
  exact .setCurRt (.writeStore (.setF (.setF (.setF hs))))

theorem State.Canonical.endAccession {c : Nat} {img : List Byte} (hs : s.Canonical) : (s.endAccession c img).Canonical := by
  rw [State.endAccession]
  exact .ite (.setF (.setF (.setF (.setF (.setF hs))))) (.setCurRt hs)

theorem State.Canonical.cmdCurAccession_fst {h : Hdr} {id : Nat} (hs : s.Canonical) :
    (cmdCurAccession h id s).1.Canonical := by
  rw [cmdCurAccession]
  exact .ite_fst hs
    (.ite_fst hs
      (.ite_fst hs (.ite_fst hs (.ite_fst hs (.ite_fst hs (.work (.foldl (fun _ _ hu => .beginAccession hu) hs)))))))

theorem State.Canonical.finishAccession {id lost : Nat} {img : List Byte} (hs : s.Canonical) :
    (s.finishAccession id lost img).Canonical := by
  rw [State.finishAccession]
  exact .completeId (.foldl (fun _ _ hu => .endAccession hu) hs)

theorem State.Canonical.clusterOff {k : Nat} (hs : s.Canonical) : (s.clusterOff k).Canonical := by
  rw [State.clusterOff]
  exact .foldl (fun _ _ hu => .same hu rfl rfl rfl)
    (.foldl
      (fun _ _ hu => by
        split
        · exact .ite (.completeId hu) hu
        · exact .setCmd hu
        · exact hu) hs)

/-! #### Machine/Calibration -/

theorem State.Canonical.setTrims {keys : List Nat} {f : Nat → Nat} (hs : s.Canonical) : (s.setTrims keys f).Canonical := by
  rw [State.setTrims]
  exact .same hs rfl rfl rfl

theorem State.Canonical.loadFactory {u : Nat} {keys : List Nat} (hs : s.Canonical) : (s.loadFactory u keys).Canonical := by
  rw [State.loadFactory]
  exact .setTrims hs

theorem State.Canonical.loadFactories {d : Nat} (hs : s.Canonical) : (s.loadFactories d).Canonical := by
  rw [State.loadFactories]
  exact .ite (.foldl (fun _ _ hu => .loadFactory hu) hs)
    (.ite (.foldl (fun _ _ hu => .loadFactory hu) hs) (.ite (.foldl (fun _ _ hu => .loadFactory hu) hs) hs))

theorem State.Canonical.trimsLost {d : Nat} (hs : s.Canonical) : (s.trimsLost d).Canonical := by
  rw [State.trimsLost]
  exact .ite (.same hs rfl rfl rfl) (.ite (.same hs rfl rfl rfl) (.ite (.same hs rfl rfl rfl) hs))

theorem State.Canonical.drawPasses {us : List Nat} (hs : s.Canonical) : (s.drawPasses us).2.Canonical := by
  rw [State.drawPasses]
  exact .foldl_snd (fun _ _ hu => .draw hu) hs

theorem State.Canonical.calDomainLost {d : Nat} (hs : s.Canonical) : (s.calDomainLost d).Canonical := by
  rw [State.calDomainLost]
  exact .foldl (fun _ _ hu => .ite hu (.ite (.dropJob (.completeId hu)) (.same (.completeId hu) rfl rfl rfl))) hs

theorem State.Canonical.addJob {kind mask endAt id : Nat} {level : Int} {freq : Nat} (hs : s.Canonical) :
    (s.addJob kind mask endAt id level freq).Canonical := by
  rw [State.addJob]
  exact .same hs rfl rfl rfl

theorem State.Canonical.cmdCalOutput_fst {mask id : Nat} (hs : s.Canonical) : (cmdCalOutput mask id s).1.Canonical := by
  rw [cmdCalOutput]
  exact .ite_fst hs (.ite_fst hs (.ite_fst hs (.addJob (.draw hs))))

theorem State.Canonical.dropZero {i : Nat} (hs : s.Canonical) : (s.dropZero i).Canonical := by
  rw [State.dropZero]
  exact .same hs rfl rfl rfl

theorem State.Canonical.enterInputCal {i : Nat} (hs : s.Canonical) : (s.enterInputCal i).Canonical := by
  unfold State.enterInputCal
  exact .withRd (.dropZero (.setF hs))

theorem State.Canonical.cmdCalInput_fst {mask id : Nat} (hs : s.Canonical) : (cmdCalInput mask id s).1.Canonical := by
  rw [cmdCalInput]
  exact .ite_fst hs (.ite_fst hs (.addJob (.foldl (fun _ _ hu => .enterInputCal hu) hs)))

theorem State.Canonical.cmdCalBias_fst {banks id : Nat} (hs : s.Canonical) : (cmdCalBias banks id s).1.Canonical := by
  rw [cmdCalBias]
  exact .ite_fst hs (.ite_fst hs (.ite_fst hs (.addJob (.foldl (fun _ _ hu => .setF hu) hs))))

theorem State.Canonical.passItem {kind u : Nat} (hs : s.Canonical) : (s.passItem kind u).Canonical := by
  rw [State.passItem]
  exact .setTrims (.draw hs)

theorem State.Canonical.completeJob {j : CalJob} (hs : s.Canonical) : (s.completeJob j).Canonical := by
  rw [State.completeJob]
  exact .completeId (.dropJob (.foldl (fun _ _ hu => .passItem hu) (.drawPasses hs)))

theorem State.Canonical.calOutputEnd (hs : s.Canonical) : s.calOutputEnd.Canonical := by
  rw [State.calOutputEnd]
  split
  · exact .completeJob hs
  · exact hs

theorem State.Canonical.calInputEnd (hs : s.Canonical) : s.calInputEnd.Canonical := by
  rw [State.calInputEnd]
  split
  · exact .completeJob (.foldl (fun _ _ hu => .ite (.setF hu) hu) hs)
  · exact hs

theorem State.Canonical.calBiasEnd (hs : s.Canonical) : s.calBiasEnd.Canonical := by
  rw [State.calBiasEnd]
  split
  · exact .completeJob (.foldl (fun _ _ hu => .bankCalEnd hu) hs)
  · exact hs

theorem State.Canonical.lockCalBank {k : Nat} (hs : s.Canonical) : (s.lockCalBank k).Canonical := by
  rw [State.lockCalBank]
  exact .ite hs (.lockBank (.same (.setF (.failUnit hs)) rfl rfl rfl))

theorem State.Canonical.lockAllBanks (hs : s.Canonical) : s.lockAllBanks.Canonical := by
  rw [State.lockAllBanks]
  exact .endEmptyJobs (.foldl (fun _ _ hu => .lockCalBank hu) (.lockBanks hs))

theorem State.Canonical.calInputLost {i : Nat} (hs : s.Canonical) : (s.calInputLost i).Canonical := by
  rw [State.calInputLost]
  exact .endEmptyJobs (.failUnit hs)

theorem State.Canonical.startSystem {kind i id : Nat} {level : Int} {freq : Nat} (hs : s.Canonical) :
    (s.startSystem kind i id level freq).Canonical := by
  rw [State.startSystem]
  exact .addJob (.draw (.setApRun (.setF hs)))

theorem State.Canonical.cmdCalSysZero_fst {i id : Nat} (hs : s.Canonical) : (cmdCalSysZero i id s).1.Canonical := by
  rw [cmdCalSysZero]
  exact .ite_fst hs
    (by
      split
      · exact hs
      · exact .startSystem hs)

theorem State.Canonical.cmdCalSysFull_fst {i ampl freq id : Nat} (hs : s.Canonical) :
    (cmdCalSysFull i ampl freq id s).1.Canonical := by
  rw [cmdCalSysFull]
  exact .ite_fst hs
    (.ite_fst hs
      (by
        split
        · exact hs
        · exact .ite_fst (.startSystem hs) hs))

theorem State.Canonical.setCorrection {i : Nat} {diff off : Int} (hs : s.Canonical) :
    (s.setCorrection i diff off).Canonical := by
  rw [State.setCorrection]
  exact .same hs rfl rfl rfl

theorem State.Canonical.loadTrim {i : Nat} (hs : s.Canonical) : (s.loadTrim i).Canonical := by
  rw [State.loadTrim]
  exact .same hs rfl rfl rfl

theorem State.Canonical.zeroEnd {i id : Nat} {run : Bool} (hs : s.Canonical) : (s.zeroEnd i id run).Canonical := by
  unfold State.zeroEnd
  exact .ite (.completeId (.withCal (.dropZero (.draw hs)))) (.completeId (.draw hs))

theorem State.Canonical.fullEnd {i id : Nat} {run : Bool} (hs : s.Canonical) : (s.fullEnd i id run).Canonical := by
  rw [State.fullEnd]
  exact .ite (.completeId (.setCorrection (.dropZero (.draw hs)))) (.completeId (.dropZero (.draw hs)))

theorem State.Canonical.sysMeasurementEnd (hs : s.Canonical) : s.sysMeasurementEnd.Canonical := by
  rw [State.sysMeasurementEnd]
  split
  · exact hs
  · exact .ite (.zeroEnd (.dropJob (.setF hs))) (.fullEnd (.dropJob (.setF hs)))

theorem State.Canonical.cmdCalSysStore_fst {mask id : Nat} (hs : s.Canonical) : (cmdCalSysStore mask id s).1.Canonical := by
  rw [cmdCalSysStore]
  exact .ite_fst hs (.ite_fst hs (.work hs))

theorem State.Canonical.storeCorrections {l : List (Nat × Nat)} (hs : s.Canonical) : (s.storeCorrections l).Canonical := by
  rw [State.storeCorrections]
  exact .foldl (fun _ _ hu => .nvWrite hu) hs

theorem State.Canonical.calTileOff {t : Nat} (hs : s.Canonical) : (s.calTileOff t).Canonical := by
  rw [State.calTileOff]
  exact .same hs rfl rfl rfl

theorem State.Canonical.trackTrim {k : Nat} (hs : s.Canonical) : (s.trackTrim k).Canonical := by
  rw [State.trackTrim]
  exact .ite hs (.ite (.draw hs) (.same (.draw hs) rfl rfl rfl))

theorem State.Canonical.interleave {i : Nat} (hs : s.Canonical) : (s.interleave i).Canonical := by
  rw [State.interleave]
  exact .ite (.ite (.foldl (fun _ _ hu => .trackTrim hu) (.draw hs)) (.draw hs)) hs

theorem State.Canonical.rotateSource {o : Nat} (hs : s.Canonical) : (s.rotateSource o).Canonical := by
  rw [State.rotateSource]
  exact .ite (.same hs rfl rfl rfl) hs

/-! #### Machine/CatalogueCommands -/

theorem State.Canonical.showCatPending (hs : s.Canonical) : s.showCatPending.Canonical := by
  rw [State.showCatPending]
  exact .setF hs

theorem State.Canonical.cmdCatCommit_fst {h : Hdr} {tick id : Nat} (hs : s.Canonical) :
    (cmdCatCommit h tick id s).1.Canonical := by
  rw [cmdCatCommit]
  exact .ite_fst hs (.ite_fst hs (.ite_fst (.count hs) (.ite_fst hs (.showCatPending (.commitOwn_fst hs)))))

theorem State.Canonical.lutCommitted {old j : Nat} (hs : s.Canonical) : (s.lutCommitted old j).Canonical := by
  rw [State.lutCommitted]
  exact .ite hs (.setLut hs)

theorem State.Canonical.applyCatCommit {c : Commit} (hs : s.Canonical) : (s.applyCatCommit c).Canonical := by
  rw [State.applyCatCommit]
  split
  · exact hs
  · exact .showCatPending (.count (.setF (.setF (.foldl (fun _ _ hu => .lutCommitted hu) (.applyCapture hs)))))

theorem State.Canonical.cmdCatGroup_fst {mask id : Nat} (hs : s.Canonical) : (cmdCatGroup mask id s).1.Canonical := by
  rw [cmdCatGroup]
  exact .setF hs

theorem State.Canonical.gpioWritten {was : State} (hs : s.Canonical) : (s.gpioWritten was).Canonical := by
  rw [State.gpioWritten]
  exact .foldl (fun _ _ hu2 => .ite hu2 (.gpioEdge hu2)) hs

/-! #### Machine/Ledger -/

theorem State.Canonical.mirrorNow (hs : s.Canonical) : s.mirrorNow.Canonical := by
  rw [State.mirrorNow]
  exact .same hs rfl rfl rfl

theorem State.Canonical.ledgerMirror (hs : s.Canonical) : s.ledgerMirror.Canonical := by
  rw [State.ledgerMirror]
  exact .ite (.mirrorNow hs) hs

theorem State.Canonical.ledgerResume {d : Nat} (hs : s.Canonical) : (s.ledgerResume d).Canonical where
  objs := hs.objs
  live := hs.live
  counters := swf_takeUnits (other := fun x => decide (x = d)) (m := s.ldg.mirror) hs.counters

theorem State.Canonical.ledgerLoss {d : Nat} (hs : s.Canonical) : (s.ledgerLoss d).Canonical := by
  rw [State.ledgerLoss]
  exact .same hs rfl rfl rfl

theorem State.Canonical.scheduleSnapshot {t origin originNum sentTo : Nat} (hs : s.Canonical) :
    (s.scheduleSnapshot t origin originNum sentTo).Canonical := by
  rw [State.scheduleSnapshot]
  exact .same hs rfl rfl rfl

theorem State.Canonical.ledgerSnapshot (hs : s.Canonical) : s.ledgerSnapshot.Canonical := by
  rw [State.ledgerSnapshot]
  exact .ite hs (.count (.same hs rfl rfl rfl))

theorem State.Canonical.evtLedger (hs : s.Canonical) : s.evtLedger.Canonical := by
  rw [State.evtLedger]
  exact .same hs rfl rfl rfl

theorem State.Canonical.ledgerRelease (hs : s.Canonical) : s.ledgerRelease.Canonical := by
  rw [State.ledgerRelease]
  exact .same hs rfl rfl rfl

theorem State.Canonical.ledgerWaits (hs : s.Canonical) : s.ledgerWaits.Canonical := by
  rw [State.ledgerWaits]
  exact .foldl (fun _ _ hu => .completeId hu) (.same hs rfl rfl rfl)

theorem State.Canonical.ledgerEvent (hs : s.Canonical) : s.ledgerEvent.Canonical := by
  rw [State.ledgerEvent]
  exact .ite (.delivered (.scheduleSnapshot hs)) (.busyDrop hs)

theorem State.Canonical.ledgerTickEnd (hs : s.Canonical) : s.ledgerTickEnd.Canonical := by
  rw [State.ledgerTickEnd]
  exact .foldl (fun _ _ hu => .ledgerEvent hu) (.same hs rfl rfl rfl)

theorem State.Canonical.peerSnapshot {p t originNum : Nat} (hs : s.Canonical) :
    (s.peerSnapshot p t originNum).Canonical := by
  rw [State.peerSnapshot]
  exact .ite (.scheduleSnapshot hs) (.count hs)

theorem State.Canonical.ledgerReset (hs : s.Canonical) : s.ledgerReset.Canonical := by
  rw [State.ledgerReset]
  exact .same hs rfl rfl rfl

/-! #### Machine/Time -/

theorem State.Canonical.setDom {b : Bool} {d : DomRt} (hs : s.Canonical) : (s.setDom b d).Canonical := by
  rw [State.setDom]
  exact .ite (.same hs rfl rfl rfl) (.same hs rfl rfl rfl)

theorem State.Canonical.setDomState {b : Bool} {v : Nat} (hs : s.Canonical) : (s.setDomState b v).Canonical := by
  rw [State.setDomState]
  exact .setF hs

theorem State.Canonical.paramsChanged (hs : s.Canonical) : s.paramsChanged.Canonical := by
  rw [State.paramsChanged]
  exact .same hs rfl rfl rfl

theorem State.Canonical.changeSet {kept : Bool} {r : Nat} {f : TimeSet → TimeSet} (hs : s.Canonical) :
    (s.changeSet kept r f).Canonical := by
  rw [State.changeSet]
  exact .ite hs (.paramsChanged (.same hs rfl rfl rfl))

theorem State.Canonical.changeTime {r : Nat} {f : TimeSet → TimeSet} (hs : s.Canonical) : (s.changeTime r f).Canonical := by
  rw [State.changeTime]
  exact .changeSet hs

theorem State.Canonical.switchTo {b step : Bool} (hs : s.Canonical) : (s.switchTo b step).Canonical := by
  rw [State.switchTo]
  exact .fireAt (.ite (.raise (.count (.setF (.raise (.changeTime hs))))) (.count (.setF (.raise (.changeTime hs)))))

theorem State.Canonical.autoSwitch {b : Bool} (hs : s.Canonical) : (s.autoSwitch b).Canonical := by
  rw [State.autoSwitch]
  exact .ite (.switchTo hs) hs

theorem State.Canonical.domainSwitch (hs : s.Canonical) : s.domainSwitch.Canonical := by
  rw [State.domainSwitch]
  split
  · exact hs
  · exact .ite (.completeId (.same hs rfl rfl rfl))
      (.ite (.completeId (.same hs rfl rfl rfl)) (.completeId (.switchTo (.same hs rfl rfl rfl))))

theorem State.Canonical.acquire {b : Bool} {r : Int} (hs : s.Canonical) : (s.acquire b r).Canonical := by
  unfold State.acquire
  dsimp only
  split
  · exact hs
  · split
    · exact .ite (.paramsChanged (.setDom hs)) (.setDom hs)
    · exact .setDom hs

theorem State.Canonical.onPulse {b : Bool} {r : Int} (hs : s.Canonical) : (s.onPulse b r).Canonical := by
  rw [State.onPulse]
  exact .setF (.setF (.paramsChanged (.setDom hs)))

theorem State.Canonical.ppsEdge {b : Bool} {q : Nat} (hs : s.Canonical) : (s.ppsEdge b q).Canonical := by
  rw [State.ppsEdge]
  exact .ite hs
    (.ite (.setDom (.setDomState hs))
      (.ite (.acquire hs) (.ite (.fireAt (.count (.onPulse hs))) (.count (.raise hs)))))

theorem State.Canonical.pulseMiss {b : Bool} (hs : s.Canonical) : (s.pulseMiss b).Canonical := by
  rw [State.pulseMiss]
  exact .ite hs
    (.ite (.count (.setDom hs))
      (.autoSwitch (.notice (.fire (.raise (.count (.setDom (.setDomState (.count (.setDom hs))))))))))

theorem State.Canonical.domainLock {b : Bool} (hs : s.Canonical) : (s.domainLock b).Canonical := by
  rw [State.domainLock]
  split
  · exact hs
  · exact .ite hs
      (.ite
        (.autoSwitch
          (.ite (.raise (.count (.setDom (.setDomState (.changeTime hs)))))
            (.count (.setDom (.setDomState (.changeTime hs))))))
        (.ite (.raise (.count (.setDom (.setDomState (.changeTime hs)))))
          (.count (.setDom (.setDomState (.changeTime hs))))))

theorem State.Canonical.loopUpdate {b : Bool} (hs : s.Canonical) : (s.loopUpdate b).Canonical := by
  rw [State.loopUpdate]
  split
  · exact hs
  · exact .ite hs (.ite (.setDom hs) (.changeTime (.setDom hs)))

theorem State.Canonical.epochStep (hs : s.Canonical) : s.epochStep.Canonical := by
  rw [State.epochStep]
  split
  · exact hs
  · exact .completeId (.count (.raise (.setF (.same (.changeTime hs) rfl rfl rfl))))

theorem State.Canonical.ppsOutEdge (hs : s.Canonical) : s.ppsOutEdge.Canonical := by
  rw [State.ppsOutEdge]
  split
  · exact hs
  · exact .fireAt (.emit (.same (.ite (.emit hs) hs) rfl rfl rfl))

theorem State.Canonical.ppsOutFall (hs : s.Canonical) : s.ppsOutFall.Canonical := by
  rw [State.ppsOutFall]
  exact .ite (.emit (.same hs rfl rfl rfl)) hs

theorem State.Canonical.tpSkip {n k' : Nat} (hs : s.Canonical) : (s.tpSkip n k').Canonical := by
  rw [State.tpSkip]
  exact .countN (.raise (.same hs rfl rfl rfl))

theorem State.Canonical.tpLevel {n : Nat} {high : Bool} {r : Nat} (hs : s.Canonical) : (s.tpLevel n high r).Canonical := by
  rw [State.tpLevel]
  exact .emit hs

theorem State.Canonical.tpFall {n r : Nat} (hs : s.Canonical) : (s.tpFall n r).Canonical := by
  rw [State.tpFall]
  exact .tpLevel (.setF (.same hs rfl rfl rfl))

theorem State.Canonical.tpRise {n r : Nat} (hs : s.Canonical) : (s.tpRise n r).Canonical := by
  rw [State.tpRise]
  exact .fireAt (.tpLevel (.count (.setF (.same (.ite (.tpFall hs) hs) rfl rfl rfl))))

theorem State.Canonical.tpOnce {n : Nat} (hs : s.Canonical) : (s.tpOnce n).Canonical := by
  rw [State.tpOnce]
  split
  · exact hs
  · exact .tpRise hs
  · exact .tpSkip hs

theorem State.Canonical.tpEdge {n : Nat} (hs : s.Canonical) : (s.tpEdge n).Canonical := by
  rw [State.tpEdge]
  exact .tpOnce (.tpOnce (.tpOnce (.tpOnce hs)))

theorem State.Canonical.tpPulseEnd {n : Nat} (hs : s.Canonical) : (s.tpPulseEnd n).Canonical := by
  rw [State.tpPulseEnd]
  exact .ite hs (.ite (.setF (.tpFall hs)) (.tpFall hs))

theorem State.Canonical.stampEvent {n stamp : Nat} (hs : s.Canonical) : (s.stampEvent n stamp).Canonical := by
  rw [State.stampEvent]
  exact .ite (.count (.markLost (.delivered hs))) (.count (.same (.delivered hs) rfl rfl rfl))

theorem State.Canonical.stampRecord {n : Nat} (hs : s.Canonical) : (s.stampRecord n).1.Canonical := by
  rw [State.stampRecord]
  split
  · exact hs
  · exact .clearLost (.same (.nextSeq hs) rfl rfl rfl)

theorem State.Canonical.cmdTimeSetEpoch_fst {secs id : Nat} (hs : s.Canonical) :
    (cmdTimeSetEpoch secs id s).1.Canonical := by
  rw [cmdTimeSetEpoch]
  exact .paramsChanged (.same hs rfl rfl rfl)

theorem State.Canonical.cmdTimeSwitch_fst {dom : Nat} {step : Bool} {tick id : Nat} (hs : s.Canonical) :
    (cmdTimeSwitch dom step tick id s).1.Canonical := by
  rw [cmdTimeSwitch]
  exact .ite_fst hs
    (.ite_fst hs
      (by
        split
        · exact hs
        · exact .paramsChanged (.same hs rfl rfl rfl)))

theorem State.Canonical.cmdTimeCaptureRead_fst {h : Hdr} {units id : Nat} (hs : s.Canonical) :
    (cmdTimeCaptureRead h units id s).1.Canonical := by
  rw [cmdTimeCaptureRead]
  exact .ite_fst hs (.foldl_fst (fun _ _ hu => .stampRecord hu) hs)

theorem State.Canonical.domEnWritten {b : Bool} {old new : Nat} (hs : s.Canonical) :
    (s.domEnWritten b old new).Canonical := by
  rw [State.domEnWritten]
  exact .ite hs (.setDomState (.setDom hs))

theorem State.Canonical.domEnSwitch {old new : Nat} (hs : s.Canonical) : (s.domEnSwitch old new).Canonical := by
  rw [State.domEnSwitch]
  exact .ite (.switchTo hs) hs

theorem State.Canonical.tpEnWritten {n old new : Nat} (hs : s.Canonical) : (s.tpEnWritten n old new).Canonical := by
  rw [State.tpEnWritten]
  exact .ite hs
    (.ite
      (by
        split
        · exact .same hs rfl rfl rfl
        · exact hs) (.ite (.same hs rfl rfl rfl) (.tpFall (.same hs rfl rfl rfl))))

theorem State.Canonical.slewWritten {new : Nat} (hs : s.Canonical) : (s.slewWritten new).Canonical := by
  rw [State.slewWritten]
  exact .ite hs (.changeSet hs)

theorem State.Canonical.ppsOutWritten {old new : Nat} (hs : s.Canonical) : (s.ppsOutWritten old new).Canonical := by
  unfold State.ppsOutWritten
  exact .ite (.emit (.withTm (.ite (.withTm hs) hs))) (.ite (.withTm hs) hs)

theorem State.Canonical.timeWritten {old new : Nat} (hs : s.Canonical) : (s.timeWritten old new).Canonical := by
  rw [State.timeWritten]
  exact .foldl (fun _ _ hu => .tpEnWritten hu)
    (.ppsOutWritten (.domEnSwitch (.domEnWritten (.domEnWritten (.slewWritten hs)))))

/-! #### Machine/Vitrine -/

theorem State.Canonical.setViRun {v : Nat} {r : ViRun} (hs : s.Canonical) : (s.setViRun v r).Canonical := by
  rw [State.setViRun]
  exact .same hs rfl rfl rfl

theorem State.Canonical.viCapture {v n : Nat} (hs : s.Canonical) : (s.viCapture v n).Canonical := by
  rw [State.viCapture]
  exact .ite (.raise (.setViRun hs)) (.setViRun hs)

theorem State.Canonical.viTest {v : Nat} (hs : s.Canonical) : (s.viTest v).Canonical := by
  unfold State.viTest
  dsimp only
  split
  · exact hs
  · split
    · exact .setViRun hs
    · exact .setViRun hs

theorem State.Canonical.viTakeTick {v n : Nat} (hs : s.Canonical) : (s.viTakeTick v n).Canonical := by
  rw [State.viTakeTick]
  exact .ite (.viCapture hs) (.ite (.setViRun hs) (.setViRun hs))

theorem State.Canonical.viSettle {v : Nat} (hs : s.Canonical) : (s.viSettle v).Canonical := by
  rw [State.viSettle]
  exact .ite hs (.ite (.delivered (.count (.setViRun hs))) (.count (.setViRun hs)))

theorem State.Canonical.viTick {v : Nat} (hs : s.Canonical) : (s.viTick v).Canonical := by
  rw [State.viTick]
  exact .ite (.viSettle (.ite hs (.viTest (.foldl (fun _ _ hu => .viTakeTick hu) hs))))
    (.ite hs (.viTest (.foldl (fun _ _ hu => .viTakeTick hu) hs)))

theorem State.Canonical.vitrineTick (hs : s.Canonical) : s.vitrineTick.Canonical := by
  rw [State.vitrineTick]
  exact .ite hs (.foldl (fun _ _ hu => .viTick hu) hs)

theorem State.Canonical.viIgnored {v t : Nat} (hs : s.Canonical) : (s.viIgnored v t).Canonical := by
  rw [State.viIgnored]
  exact .ite hs (.count (.setViRun hs))

theorem State.Canonical.viGeometry {v t k cause : Nat} (hs : s.Canonical) : (s.viGeometry v t k cause).Canonical := by
  rw [State.viGeometry]
  exact .viTest (.setViRun (.ite (.raise (.setF (.setF hs))) (.setF (.setF hs))))

theorem State.Canonical.viIgnoreTaken {v : Nat} (hs : s.Canonical) : (s.viIgnoreTaken v).Canonical := by
  rw [State.viIgnoreTaken]
  exact .ite (.busyDrop (.setViRun (.viIgnored hs))) (.viIgnored hs)

theorem State.Canonical.viTrigger {v t k cause : Nat} (hs : s.Canonical) : (s.viTrigger v t k cause).2.Canonical := by
  rw [State.viTrigger]
  exact .ite_snd (.viGeometry (.setF (.setViRun hs)))
    (.ite_snd (.setF (.setViRun hs)) (.ite_snd (.viGeometry (.viIgnoreTaken hs)) (.viIgnored hs)))

theorem State.Canonical.viVerdicts {b : List VPend} (hs : s.Canonical) : (s.viVerdicts b).Canonical := by
  rw [State.viVerdicts]
  exact .ite hs (.foldl (fun _ _ hu => .foldl (fun _ _ hu2 => .ite (.viTrigger hu2) hu2) hu) hs)

theorem State.Canonical.viCue {n w : Nat} (hs : s.Canonical) : (s.viCue n w).Canonical := by
  rw [State.viCue]
  exact .ite hs (.foldl (fun _ _ hu => .ite (.viTrigger hu) hu) hs)

theorem State.Canonical.viLevel {v : Nat} (hs : s.Canonical) : (s.viLevel v).Canonical := by
  rw [State.viLevel]
  exact .ite hs
    (by
      split
      · exact .viTrigger (.setViRun hs)
      · exact hs)

theorem State.Canonical.viMeasure {r : ViRun} (hs : s.Canonical) : (s.viMeasure r).2.Canonical := by
  rw [State.viMeasure]
  exact .ite_snd hs (.ite_snd (.draw hs) hs)

theorem State.Canonical.viBlocks {v : Nat} (hs : s.Canonical) : (s.viBlocks v).2.Canonical := by
  rw [State.viBlocks]
  exact .viMeasure hs

theorem State.Canonical.viStart {v : Nat} (hs : s.Canonical) : (s.viStart v).Canonical := by
  rw [State.viStart]
  exact .ite (.setViRun hs) hs

theorem State.Canonical.viFillOver {v reason : Nat} (hs : s.Canonical) : (s.viFillOver v reason).Canonical := by
  rw [State.viFillOver]
  exact .setViRun (.ite (.setF hs) (.setF (.setF hs)))

theorem State.Canonical.viViolation {v : Nat} (hs : s.Canonical) : (s.viViolation v).Canonical := by
  rw [State.viViolation]
  split
  · exact .fire (.setViRun (.count (.setF (.raise (.setF hs)))))
  · exact hs

theorem State.Canonical.viFillEnd {v : Nat} (hs : s.Canonical) : (s.viFillEnd v).Canonical := by
  rw [State.viFillEnd]
  exact .ite (.viFillOver hs) hs

theorem State.Canonical.viLimit {v : Nat} (hs : s.Canonical) : (s.viLimit v).Canonical := by
  rw [State.viLimit]
  exact .ite (.viFillOver (.count (.raise hs))) hs

theorem State.Canonical.viDone {v : Nat} (hs : s.Canonical) : (s.viDone v).Canonical := by
  rw [State.viDone]
  exact .ite hs (.fire (.count (.setViRun (.raise (.setF (.setF (.viBlocks hs)))))))

theorem State.Canonical.viDiscard {v : Nat} (hs : s.Canonical) : (s.viDiscard v).Canonical := by
  rw [State.viDiscard]
  exact .ite hs (.markLost (.setViRun (.countN (.countN hs))))

theorem State.Canonical.viEntriesLost {ring : Nat} {l : List Nat} (hs : s.Canonical) :
    (s.viEntriesLost ring l).Canonical := by
  rw [State.viEntriesLost]
  exact .foldl (fun _ _ hu => .ite (.viDiscard (.ringLost (.markLost hu))) (.markLost hu)) hs

theorem State.Canonical.viWrite {v : Nat} (hs : s.Canonical) : (s.viWrite v).Canonical := by
  unfold State.viWrite
  dsimp only
  split
  · exact hs
  · split
    · exact hs
    · exact .viEntriesLost
        (.ringProduce
          (.ite (.setF (.count (.clearLost (.setViRun (.nextSeq hs)))))
            (.count (.clearLost (.setViRun (.nextSeq hs))))))

theorem State.Canonical.copyF {f : Field} {inst img : Nat} (hs : s.Canonical) : (s.copyF f inst img).Canonical := by
  rw [State.copyF]
  exact .setF hs

theorem State.Canonical.viUntake {v : Nat} (hs : s.Canonical) : (s.viUntake v).Canonical := by
  rw [State.viUntake]
  exact .foldl (fun _ _ hu => .copyF hu) (.setViRun (.viIgnoreTaken hs))

theorem State.Canonical.viIdle {v : Nat} (hs : s.Canonical) : (s.viIdle v).Canonical := by
  rw [State.viIdle]
  exact .setViRun hs

theorem State.Canonical.viLost {v : Nat} (hs : s.Canonical) : (s.viLost v).Canonical := by
  rw [State.viLost]
  exact .ite (.viIdle (.count (.raise (.setF (.ite (.viUntake hs) hs))))) (.ite (.setViRun hs) hs)

theorem State.Canonical.vitrineInputOff {i : Nat} (hs : s.Canonical) : (s.vitrineInputOff i).Canonical := by
  rw [State.vitrineInputOff]
  exact .foldl (fun _ _ hu => .ite (.viLost hu) hu) hs

theorem State.Canonical.vitrineOutputOff {o : Nat} (hs : s.Canonical) : (s.vitrineOutputOff o).Canonical := by
  rw [State.vitrineOutputOff]
  exact .foldl (fun _ _ hu => .ite (.viLost hu) hu) hs

theorem State.Canonical.armVitrine {v ta : Nat} (hs : s.Canonical) : (s.armVitrine v ta).Canonical := by
  rw [State.armVitrine]
  exact .count (.setViRun (.setF (.setF (.setF (.foldl (fun _ _ hu => .setF hu) hs)))))

theorem State.Canonical.cmdVitArm_fst {mask tick id : Nat} (hs : s.Canonical) : (cmdVitArm mask tick id s).1.Canonical := by
  rw [cmdVitArm]
  exact .ite_fst hs
    (.ite_fst hs
      (.ite_fst hs
        (.ite_fst hs (.ite_fst hs (.ite_fst hs (.ite_fst hs (.foldl (fun _ _ hu => .armVitrine hu) hs)))))))

theorem State.Canonical.cmdVitTrigger_fst {mask id : Nat} (hs : s.Canonical) : (cmdVitTrigger mask id s).1.Canonical := by
  rw [cmdVitTrigger]
  exact .ite_fst hs (.foldl_snd (fun _ _ hu => .viTrigger hu) hs)

theorem State.Canonical.viAbort {v : Nat} (hs : s.Canonical) : (s.viAbort v).Canonical := by
  rw [State.viAbort]
  exact .ite hs (.viIdle (.viSettle (.viDiscard (.ite (.viUntake (.setF (.setF hs))) (.setF (.setF hs))))))

theorem State.Canonical.cmdVitAbort_fst {mask id : Nat} (hs : s.Canonical) : (cmdVitAbort mask id s).1.Canonical := by
  rw [cmdVitAbort]
  exact .ite_fst hs (.foldl (fun _ _ hu => .viAbort hu) hs)

theorem State.Canonical.evtVitrine {v : Nat} (hs : s.Canonical) : (s.evtVitrine v).Canonical := by
  rw [State.evtVitrine]
  exact .ite (.absentDrop hs) (.ite (.busyDrop hs) (.ite (.viTrigger hs) (.busyDrop (.viTrigger hs))))

theorem State.Canonical.forwardCue {n w : Nat} (hs : s.Canonical) : (s.forwardCue n w).Canonical := by
  rw [State.forwardCue]
  exact .foldl (fun _ _ hu => .ite (.setCpRt hu) hu) hs

theorem State.Canonical.cueWord {n w : Nat} {err : Bool} (hs : s.Canonical) : (s.cueWord n w err).Canonical := by
  rw [State.cueWord]
  exact .ite hs (.ite (.count hs) (.forwardCue (.viCue (.matchCue hs))))

/-! #### Machine/Courier -/

theorem State.Canonical.sendMsg {p prec : Nat} {msg : List Nat} (hs : s.Canonical) : (s.sendMsg p prec msg).Canonical := by
  rw [State.sendMsg]
  exact .setCpRt hs

theorem State.Canonical.takeParams {m : List Nat} (hs : s.Canonical) : (s.takeParams m).Canonical := by
  rw [State.takeParams]
  exact .ite (.same hs rfl rfl rfl)
    (by
      split
      · exact hs
      · exact .same hs rfl rfl rfl)

theorem State.Canonical.loadRaw {r : Nat} (hs : s.Canonical) : (s.loadRaw r).Canonical := by
  rw [State.loadRaw]
  exact .same hs rfl rfl rfl

theorem State.Canonical.takeTime {p dep : Nat} (hs : s.Canonical) : (s.takeTime p dep).Canonical := by
  rw [State.takeTime]
  exact .ite (.setF (.foldl (fun _ _ hu => .takeParams hu) (.same (.loadRaw (.draw hs)) rfl rfl rfl)))
    (.ite (.raise (.setF (.draw hs))) (.setF (.draw hs)))

theorem State.Canonical.errFrame {p : Nat} (hs : s.Canonical) : (s.errFrame p).Canonical := by
  rw [State.errFrame]
  exact .count (.setCpRt hs)

theorem State.Canonical.takeMessage {p : Nat} {m : List Nat} (hs : s.Canonical) : (s.takeMessage p m).Canonical := by
  rw [State.takeMessage]
  split
  · exact .peerSnapshot (.setCpRt hs)
  · exact .ite (.takeParams (.setCpRt hs)) (.setCpRt hs)
  · exact .ite (.takeTime (.setCpRt hs)) (.setCpRt hs)

theorem State.Canonical.takeTsync {p w : Nat} (hs : s.Canonical) : (s.takeTsync p w).Canonical := by
  rw [State.takeTsync]
  exact .ite (.setCpRt hs)
    (.ite (.ite (.takeMessage hs) (.setCpRt hs))
      (.ite
        (by
          split
          · exact hs
          · exact .ite (.ite (.takeMessage hs) (.setCpRt hs)) (.setCpRt hs)) (.errFrame hs)))

theorem State.Canonical.goDown {p : Nat} (hs : s.Canonical) : (s.goDown p).Canonical := by
  rw [State.goDown]
  exact .setCpRt (.setF (.setF hs))

theorem State.Canonical.leaveUp {p : Nat} (hs : s.Canonical) : (s.leaveUp p).Canonical := by
  rw [State.leaveUp]
  exact .notice (.fire (.count (.setF (.raise (.goDown hs)))))

theorem State.Canonical.linkOff {p : Nat} (hs : s.Canonical) : (s.linkOff p).Canonical := by
  rw [State.linkOff]
  exact .ite (.leaveUp hs) (.ite hs (.goDown hs))

theorem State.Canonical.courierPowerOff {p : Nat} (hs : s.Canonical) : (s.courierPowerOff p).Canonical := by
  rw [State.courierPowerOff]
  exact .setCpRt (.ite (.leaveUp hs) hs)

theorem State.Canonical.startTraining {p : Nat} (hs : s.Canonical) : (s.startTraining p).Canonical := by
  rw [State.startTraining]
  exact .setCpRt (.setF (.setF (.draw hs)))

theorem State.Canonical.portUp {p : Nat} (hs : s.Canonical) : (s.portUp p).Canonical := by
  rw [State.portUp]
  exact .foldl
    (fun _ _ hu => by
      split
      · exact .ite hu (.ite (.completeId hu) (.setCmd hu))
      · exact hu) hs

theorem State.Canonical.enterUp {p : Nat} (hs : s.Canonical) : (s.enterUp p).Canonical := by
  rw [State.enterUp]
  exact .ite (.portUp (.setCpRt (.setF (.setF hs)))) hs

theorem State.Canonical.trainingFallback {p : Nat} (hs : s.Canonical) : (s.trainingFallback p).Canonical := by
  rw [State.trainingFallback]
  exact .ite hs (.ite (.raise (.setF (.setCpRt (.setCpRt (.draw hs))))) (.setCpRt (.draw hs)))

theorem State.Canonical.portBoundOver {p : Nat} (hs : s.Canonical) : (s.portBoundOver p).Canonical := by
  rw [State.portBoundOver]
  exact .ite hs (.setCpRt (.ite (.raise (.ite hs (.goDown hs))) (.ite hs (.goDown hs))))

theorem State.Canonical.linkTimeout {p : Nat} (hs : s.Canonical) : (s.linkTimeout p).Canonical := by
  rw [State.linkTimeout]
  exact .foldl (fun _ _ hu => .completeId hu) (.portBoundOver hs)

theorem State.Canonical.frameLock {p : Nat} (hs : s.Canonical) : (s.frameLock p).Canonical := by
  rw [State.frameLock]
  exact .ite (.linkTimeout (.trainingFallback hs)) (.setCpRt (.setF (.setF (.linkTimeout (.trainingFallback hs)))))

theorem State.Canonical.measureEnd {p : Nat} (hs : s.Canonical) : (s.measureEnd p).Canonical := by
  rw [State.measureEnd]
  exact .ite hs (.ite (.raise (.goDown (.setF hs))) (.setCpRt (.setF (.setF hs))))

theorem State.Canonical.linkDown {p : Nat} {c : DownCause} (hs : s.Canonical) : (s.linkDown p c).Canonical := by
  rw [State.linkDown]
  exact .ite (.leaveUp hs) hs

theorem State.Canonical.mustLeave {p : Nat} (hs : s.Canonical) : (s.mustLeave p).Canonical := by
  rw [State.mustLeave]
  exact .ite hs (.ite (.leaveUp hs) (.setCpRt hs))

theorem State.Canonical.takeVerdicts {p f : Nat} (hs : s.Canonical) : (s.takeVerdicts p f).Canonical := by
  rw [State.takeVerdicts]
  exact .foldl (fun _ _ hu => .ite hu (.count (.same hu rfl rfl rfl))) hs

theorem State.Canonical.takeBulk {p at_ w : Nat} (hs : s.Canonical) : (s.takeBulk p at_ w).Canonical := by
  rw [State.takeBulk]
  split
  · exact .setCpRt hs
  · exact by
      split
      · exact hs
      · exact .setCpRt hs
  · exact hs

theorem State.Canonical.courierFrame {p f fine : Nat} (hs : s.Canonical) : (s.courierFrame p f fine).Canonical := by
  rw [State.courierFrame]
  exact .ite hs
    (.ite (.ite (.mustLeave (.setCpRt (.raise (.errFrame (.count hs))))) (.setCpRt (.raise (.errFrame (.count hs)))))
      (.ite (.ite (.goDown (.setCpRt (.count hs))) (.ite (.takeBulk (.setCpRt (.count hs))) (.setCpRt (.count hs))))
        (.ite
          (.ite
            (.takeTsync
              (.ite (.matchCue (.takeVerdicts (.setCpRt (.count hs)))) (.takeVerdicts (.setCpRt (.count hs)))))
            (.setCpRt (.count hs)))
          (.mustLeave
            (.ite
              (.takeTsync
                (.ite (.matchCue (.takeVerdicts (.setCpRt (.count hs)))) (.takeVerdicts (.setCpRt (.count hs)))))
              (.setCpRt (.count hs)))))))

theorem State.Canonical.sendFrame {p : Nat} (hs : s.Canonical) : (s.sendFrame p).Canonical := by
  rw [State.sendFrame]
  exact .countN (.count (.emit (.setCpRt hs)))

theorem State.Canonical.courierTick (hs : s.Canonical) : s.courierTick.Canonical := by
  rw [State.courierTick]
  exact .foldl (fun _ _ hu => .ite hu (.sendFrame (.enterUp hu))) hs

theorem State.Canonical.timeMessage (hs : s.Canonical) : s.timeMessage.Canonical := by
  rw [State.timeMessage]
  exact .ite hs (.same (.foldl (fun _ _ hu => .sendMsg hu) hs) rfl rfl rfl)

theorem State.Canonical.changesOf {t : Nat} (hs : s.Canonical) : (s.changesOf t).Canonical := by
  rw [State.changesOf]
  exact .domainSwitch (.domainLock (.domainLock (.epochStep (.loopUpdate (.loopUpdate (.same hs rfl rfl rfl))))))

theorem State.Canonical.paramMessage (hs : s.Canonical) : s.paramMessage.Canonical := by
  rw [State.paramMessage]
  exact .ite hs (.same (.foldl (fun _ _ hu => .foldl (fun _ _ hu2 => .sendMsg hu2) hu) hs) rfl rfl rfl)

theorem State.Canonical.cmdCpLink_fst {ports up id : Nat} (hs : s.Canonical) : (cmdCpLink ports up id s).1.Canonical := by
  rw [cmdCpLink]
  exact .ite_fst hs
    (.ite_fst hs
      (.ite_fst (.foldl (fun _ _ hu => .ite (.ite (.startTraining hu) (.setCpRt hu)) (.setCpRt (.linkOff hu))) hs)
        (.setCmd (.foldl (fun _ _ hu => .ite (.ite (.startTraining hu) (.setCpRt hu)) (.setCpRt (.linkOff hu))) hs))))

theorem State.Canonical.cmdCpCommit_fst {tick id : Nat} (hs : s.Canonical) : (cmdCpCommit tick id s).1.Canonical := by
  rw [cmdCpCommit]
  exact .ite_fst hs (.commitOwn_fst hs)

theorem State.Canonical.applyCpCommit {c : Commit} (hs : s.Canonical) : (s.applyCpCommit c).Canonical := by
  rw [State.applyCpCommit]
  exact .foldl (fun _ _ hu => .applyCapture hu) hs

/-! #### Machine/FrameCommands -/

theorem State.Canonical.cmdFrameOp_fst {frame fop farg id : Nat} (hs : s.Canonical) :
    (cmdFrameOp frame fop farg id s).1.Canonical := by
  rw [cmdFrameOp]
  exact .ite_fst hs (.ite_fst hs (.frameOp hs))

theorem State.Canonical.cmdFrameCommit_fst {tick : Nat} {keep : Bool} {id : Nat} (hs : s.Canonical) :
    (cmdFrameCommit tick keep id s).1.Canonical := by
  rw [cmdFrameCommit]
  exact .ite_fst hs (.commitOwn_fst hs)

theorem State.Canonical.applyFrameCommit {c : Commit} (hs : s.Canonical) : (s.applyFrameCommit c).Canonical := by
  rw [State.applyFrameCommit]
  exact .foldl (fun _ _ hu => .commitFrame hu) hs

/-! #### Machine/CommitApply -/

theorem State.Canonical.inputCommitted {was : State} {i : Nat} (hs : s.Canonical) : (s.inputCommitted was i).Canonical := by
  rw [State.inputCommitted]
  exact .ite hs (.ite (.dropZero hs) (.loadTrim (.dropZero hs)))

theorem State.Canonical.applyReadout {c : Commit} (hs : s.Canonical) : (s.applyReadout c).Canonical := by
  rw [State.applyReadout]
  exact .foldl (fun _ _ hu => .inputCommitted hu) (.applyReadoutCommit hs)

theorem State.Canonical.applyKind {c : Commit} (hs : s.Canonical) : (s.applyKind c).Canonical := by
  rw [State.applyKind]
  split
  · exact .applyFrameCommit hs
  · exact .applyOutputCommit hs
  · exact .applyReadout hs
  · exact .applyBiasCommit hs
  · exact .applyCatCommit hs
  · exact .applyCpCommit hs
  · exact .applyRebase hs

theorem State.Canonical.commitApply (hs : s.Canonical) : s.commitApply.Canonical := by
  rw [State.commitApply]
  split
  · exact hs
  · exact .completeId (.applyKind (.same hs rfl rfl rfl))

/-! #### Machine/Ethernet -/

theorem State.Canonical.ethDrop (hs : s.Canonical) : s.ethDrop.Canonical := by
  rw [State.ethDrop]
  exact .same hs rfl rfl rfl

theorem State.Canonical.ethTake {rx : EthRx} (hs : s.Canonical) : (s.ethTake rx).2.Canonical := by
  unfold State.ethTake
  exact .ite_snd hs (.ite_snd (.withEth (.raise hs)) (.ite_snd (.ethDrop hs) hs))

theorem State.Canonical.ptpSend {kind flags : Nat} {corr : Int} {seq : Nat} {body : List Byte} (hs : s.Canonical) :
    (s.ptpSend kind flags corr seq body).Canonical := by
  rw [State.ptpSend]
  exact .count (.ethSend hs)

theorem State.Canonical.ptpTime {r : Nat} (hs : s.Canonical) : (s.ptpTime r).2.Canonical := by
  rw [State.ptpTime]
  exact .draw hs

theorem State.Canonical.setPtp {p : PtpRt} (hs : s.Canonical) : (s.setPtp p).Canonical := by
  rw [State.setPtp]
  exact .same hs rfl rfl rfl

theorem State.Canonical.announced {msg : List Byte} (hs : s.Canonical) : (s.announced msg).Canonical := by
  rw [State.announced]
  exact .same hs rfl rfl rfl

theorem State.Canonical.sendSync (hs : s.Canonical) : s.sendSync.Canonical := by
  rw [State.sendSync]
  exact .ite (.ptpSend (.setPtp (.ptpTime hs))) (.ptpSend (.ptpSend (.setPtp (.ptpTime hs))))

theorem State.Canonical.sendAnnounce (hs : s.Canonical) : s.sendAnnounce.Canonical := by
  rw [State.sendAnnounce]
  exact .ptpSend (.setPtp hs)

theorem State.Canonical.sendRequest (hs : s.Canonical) : s.sendRequest.Canonical := by
  rw [State.sendRequest]
  exact .ptpSend (.setPtp (.ptpTime hs))

theorem State.Canonical.ptpInterval (hs : s.Canonical) : s.ptpInterval.Canonical := by
  unfold State.ptpInterval
  split
  · exact hs
  · dsimp only
    exact .ite (.sendRequest (.withEth (.ite (.sendAnnounce (.withEth (.ite (.sendSync (.withEth hs)) hs)))
      (.ite (.sendSync (.withEth hs)) hs))))
      (.ite (.sendAnnounce (.withEth (.ite (.sendSync (.withEth hs)) hs))) (.ite (.sendSync (.withEth hs)) hs))

theorem State.Canonical.servePtp (hs : s.Canonical) : s.servePtp.2.Canonical := by
  unfold State.servePtp
  exact .ite_snd (.withEth (.ite (.withEth hs) hs)) (.count (.ite (.withEth hs) hs))

theorem State.Canonical.answerDelay {msg : List Byte} {t : Int} (hs : s.Canonical) : (s.answerDelay msg t).Canonical := by
  rw [State.answerDelay]
  exact .ite (.servePtp hs)
    (.ite (.ptpSend (.servePtp hs))
      (.ite (.ptpSend (.ptpTime (.servePtp hs))) (.ptpSend (.ptpSend (.ptpTime (.servePtp hs))))))

theorem State.Canonical.ptpIgnored (hs : s.Canonical) : s.ptpIgnored.Canonical := by
  rw [State.ptpIgnored]
  exact .count hs

theorem State.Canonical.ptpMeasured {diff : Int} (hs : s.Canonical) : (s.ptpMeasured diff).Canonical := by
  rw [State.ptpMeasured]
  exact .setF (.setPtp hs)

theorem State.Canonical.ptpSync {msg : List Byte} {t : Int} (hs : s.Canonical) : (s.ptpSync msg t).Canonical := by
  rw [State.ptpSync]
  exact .ite (.ptpIgnored hs) (.ite (.ite (.setPtp hs) (.ptpMeasured hs)) (.ite (.ptpMeasured hs) (.ptpIgnored hs)))

theorem State.Canonical.ptpAnswer {msg : List Byte} {t : Int} (hs : s.Canonical) : (s.ptpAnswer msg t).Canonical := by
  rw [State.ptpAnswer]
  exact .ite (.ptpIgnored hs)
    (by
      split
      · exact .ite (.setPtp hs) (.ptpIgnored hs)
      · exact .ite (.setPtp hs) (.setPtp hs)
      · exact .setPtp hs)

theorem State.Canonical.ptpMessage {rx : EthRx} {msg : List Byte} (hs : s.Canonical) : (s.ptpMessage rx msg).Canonical := by
  rw [State.ptpMessage]
  exact .ite (.ethTake hs)
    (.ite (.ethDrop (.ethTake hs))
      (.ite (.ptpIgnored (.ptpTime (.count (.ethTake hs))))
        (by
          split
          · exact .ptpSync (.ptpTime (.count (.ethTake hs)))
          · exact .ptpSync (.ptpTime (.count (.ethTake hs)))
          · exact .ite (.answerDelay (.ptpTime (.count (.ethTake hs)))) (.ptpIgnored (.ptpTime (.count (.ethTake hs))))
          · exact .ite (.answerDelay (.ptpTime (.count (.ethTake hs)))) (.ptpIgnored (.ptpTime (.count (.ethTake hs))))
          · exact .ite (.ptpIgnored (.ptpTime (.count (.ethTake hs)))) (.ptpAnswer (.ptpTime (.count (.ethTake hs))))
          · exact .ite (.ptpAnswer (.ptpTime (.count (.ethTake hs)))) (.ptpIgnored (.ptpTime (.count (.ethTake hs))))
          · exact .ite (.ptpAnswer (.ptpTime (.count (.ethTake hs)))) (.ptpIgnored (.ptpTime (.count (.ethTake hs))))
          · exact .ite (.ptpIgnored (.ptpTime (.count (.ethTake hs)))) (.announced (.ptpTime (.count (.ethTake hs))))
          · exact .ptpIgnored (.ptpTime (.count (.ethTake hs))))))

theorem State.Canonical.ethRequest {rx : EthRx} {k : EthTraffic} (hs : s.Canonical) : (s.ethRequest rx k).Canonical := by
  rw [State.ethRequest]
  exact .ite (.ethTake hs) (.ite (.ethSend (.ethTake hs)) (.ethDrop (.ethTake hs)))

theorem State.Canonical.pauseFrame {quanta : Nat} (hs : s.Canonical) : (s.pauseFrame quanta).Canonical := by
  rw [State.pauseFrame]
  exact .ite hs (.same hs rfl rfl rfl)

theorem State.Canonical.ethLinkUp (hs : s.Canonical) : s.ethLinkUp.Canonical := by
  rw [State.ethLinkUp]
  exact .ite (.setF hs) hs

theorem State.Canonical.ethLinkDown (hs : s.Canonical) : s.ethLinkDown.Canonical := by
  rw [State.ethLinkDown]
  exact .ite hs (.dropQueue (.setF hs))

/-! #### Machine/LedgerCommands -/

theorem State.Canonical.cmdLdgSnap_fst {tick : Nat} {peers : Bool} {id : Nat} (hs : s.Canonical) :
    (cmdLdgSnap tick peers id s).1.Canonical := by
  rw [cmdLdgSnap]
  exact .ite_fst (.count hs)
    (.ite_fst hs
      (by
        split
        · exact hs
        · exact .same (.foldl (fun _ _ hu => .sendMsg hu) (.scheduleSnapshot hs)) rfl rfl rfl))

theorem State.Canonical.cmdLdgRead_fst {h : Hdr} {cls first count id : Nat} (hs : s.Canonical) :
    (cmdLdgRead h cls first count id s).1.Canonical := by
  rw [cmdLdgRead]
  exact .ite_fst hs (.ite_fst hs (.nextSeq hs))

theorem State.Canonical.cmdLdgRelease_fst {id : Nat} (hs : s.Canonical) : (cmdLdgRelease id s).1.Canonical := by
  rw [cmdLdgRelease]
  exact .ite_fst (.ledgerRelease hs) hs

/-! #### Machine/Survey -/

theorem State.Canonical.setSvRun {n : Nat} {r : SvRun} (hs : s.Canonical) : (s.setSvRun n r).Canonical := by
  rw [State.setSvRun]
  exact .same hs rfl rfl rfl

theorem State.Canonical.svClip {n : Nat} {clip : Bool} (hs : s.Canonical) : (s.svClip n clip).Canonical := by
  rw [State.svClip]
  exact .ite (.count (.raise hs)) hs

theorem State.Canonical.svTake {n m : Nat} (hs : s.Canonical) : (s.svTake n m).Canonical := by
  rw [State.svTake]
  exact .ite (.setSvRun hs)
    (.ite (.setSvRun (.svClip (.svClip hs)))
      (.ite (.setSvRun (.svClip (.svClip (.svClip hs))))
        (.setSvRun (.ite (.setF (.svClip (.svClip (.svClip hs)))) (.svClip (.svClip (.svClip hs)))))))

theorem State.Canonical.svNext {n m : Nat} (hs : s.Canonical) : (s.svNext n m).Canonical := by
  rw [State.svNext]
  exact .ite (.svTake hs) hs

theorem State.Canonical.surveyTick (hs : s.Canonical) : s.surveyTick.Canonical := by
  rw [State.surveyTick]
  exact .ite hs (.foldl (fun _ _ hu => .svNext hu) hs)

theorem State.Canonical.streamsLost {l : List Nat} (hs : s.Canonical) : (s.streamsLost l).Canonical := by
  rw [State.streamsLost]
  exact .foldl (fun _ _ hu => .markLost hu) hs

theorem State.Canonical.svSend {n : Nat} (hs : s.Canonical) : (s.svSend n).Canonical := by
  rw [State.svSend]
  exact .ite hs (.ethSend (.setSvRun hs))

theorem State.Canonical.svDropped (hs : s.Canonical) : s.svDropped.Canonical := by
  rw [State.svDropped]
  exact .foldl (fun _ _ hu => .ite hu (.markLost (.countN hu))) hs

theorem State.Canonical.closeBlock {n : Nat} (hs : s.Canonical) : (s.closeBlock n).Canonical := by
  rw [State.closeBlock]
  exact .ite
    (.ite
      (.streamsLost
        (.ringProduce
          (.count (.setSvRun (.clearLost (.ite (.count (.count (.nextSeq hs))) (.count (.nextSeq hs))))))))
      (.streamsLost
        (.count (.ringLost (.setSvRun (.clearLost (.ite (.count (.count (.nextSeq hs))) (.count (.nextSeq hs)))))))))
    (.ite (.svSend (.setSvRun (.setSvRun (.clearLost (.ite (.count (.count (.nextSeq hs))) (.count (.nextSeq hs)))))))
      (.setSvRun (.setSvRun (.clearLost (.ite (.count (.count (.nextSeq hs))) (.count (.nextSeq hs)))))))

theorem State.Canonical.surveyBlock {n : Nat} (hs : s.Canonical) : (s.surveyBlock n).Canonical := by
  rw [State.surveyBlock]
  exact .ite hs (.ite (.closeBlock hs) (.setSvRun (.svSend (.setF (.ite hs (.closeBlock hs))))))

theorem State.Canonical.cmdSurveyStart_fst {mask tick id : Nat} (hs : s.Canonical) :
    (cmdSurveyStart mask tick id s).1.Canonical := by
  rw [cmdSurveyStart]
  exact .ite_fst hs
    (.ite_fst hs
      (.ite_fst hs
        (.ite_fst hs
          (.ite_fst hs
            (.ite_fst hs
              (by
                split
                · exact hs
                · exact .foldl (fun _ _ hu => .setF (.setF (.setF (.setF hu)))) hs))))))

theorem State.Canonical.svIdleSeen {n byId : Nat} (hs : s.Canonical) : (s.svIdleSeen n byId).Canonical := by
  rw [State.svIdleSeen]
  exact .foldl
    (fun _ _ hu => by
      split
      · exact .ite hu (.ite (.completeId (.setCmd hu)) (.setCmd hu))
      · exact hu) hs

theorem State.Canonical.svHalt {n cause : Nat} (hs : s.Canonical) : (s.svHalt n cause).Canonical := by
  rw [State.svHalt]
  exact .svIdleSeen
    (.ite
      (.raise (.same (.ite (.setSvRun (.setF (.setF (.setF hs)))) (.setF (.setF (.setF (.setF hs))))) rfl rfl rfl))
      (.same (.ite (.setSvRun (.setF (.setF (.setF hs)))) (.setF (.setF (.setF (.setF hs))))) rfl rfl rfl))

theorem State.Canonical.cmdSurveyStop_fst {mask tick id : Nat} (hs : s.Canonical) :
    (cmdSurveyStop mask tick id s).1.Canonical := by
  rw [cmdSurveyStop]
  exact .ite_fst hs
    (.ite_fst hs
      (.ite
        (.foldl (fun _ _ hu => .ite hu (.svHalt hu))
          (.foldl (fun _ _ hu => .ite hu (.same hu rfl rfl rfl)) (.setCmd hs)))
        (.foldl (fun _ _ hu => .ite hu (.same hu rfl rfl rfl)) (.setCmd hs))))

theorem State.Canonical.surveyStopTick {n : Nat} (hs : s.Canonical) : (s.surveyStopTick n).Canonical := by
  rw [State.surveyStopTick]
  exact .ite (.svHalt hs) hs

theorem State.Canonical.surveyRunStart {n : Nat} (hs : s.Canonical) : (s.surveyRunStart n).Canonical := by
  rw [State.surveyRunStart]
  exact .ite hs (.ite (.setSvRun (.setF hs)) (.svHalt (.setSvRun (.setF hs))))

theorem State.Canonical.svFull {n : Nat} (hs : s.Canonical) : (s.svFull n).Canonical := by
  rw [State.svFull]
  exact .ite (.closeBlock hs) hs

theorem State.Canonical.svFinish {n : Nat} (hs : s.Canonical) : (s.svFinish n).Canonical := by
  rw [State.svFinish]
  exact .foldl (fun _ _ hu => .ite (.svNext (.svFull hu)) hu) hs

theorem State.Canonical.surveySourceOff {i : Nat} (hs : s.Canonical) : (s.surveySourceOff i).Canonical := by
  rw [State.surveySourceOff]
  exact .foldl (fun _ _ hu => .ite (.svFinish (.ite (.svHalt hu) hu)) hu) hs

theorem State.Canonical.surveyAllOff (hs : s.Canonical) : s.surveyAllOff.Canonical := by
  rw [State.surveyAllOff]
  exact .foldl (fun _ _ hu => .ite (.svHalt hu) hu) hs

/-! #### Machine/Power -/

theorem State.Canonical.absentCommands {d : Nat} (hs : s.Canonical) : (s.absentCommands d).Canonical := by
  unfold State.absentCommands
  refine .foldl (fun u c hu => ?_) hs
  refine .ite (.completeId (.withCmd ?_)) hu
  split
  · exact .storePart hu
  · exact hu

theorem State.Canonical.restage {keys seeds : List Nat} (hs : s.Canonical) : (s.restage keys seeds).Canonical := by
  unfold State.restage
  exact .foldl (fun _ _ hu => .setStored hu) hs

theorem State.Canonical.cancelCommits {d : Nat} (hs : s.Canonical) : (s.cancelCommits d).Canonical := by
  rw [State.cancelCommits]
  exact .foldl (fun _ _ hu => .completeId (.restage hu)) (.same hs rfl rfl rfl)

theorem State.Canonical.dacTileOff {t : Nat} (hs : s.Canonical) : (s.dacTileOff t).Canonical := by
  unfold State.dacTileOff
  exact .withDrv (.foldl (fun _ _ hu => .vitrineOutputOff hu) hs)

theorem State.Canonical.adcTileOff {t : Nat} (hs : s.Canonical) : (s.adcTileOff t).Canonical := by
  unfold State.adcTileOff
  have h1 : ([0, 1, 2, 3].foldl (fun u j => ((u.abandonInput (4 * t + j)).surveySourceOff (4 * t + j)).vitrineInputOff
      (4 * t + j)) s).Canonical :=
    .foldl (fun _ _ hu => .vitrineInputOff (.surveySourceOff (.abandonInput hu))) hs
  dsimp only
  generalize [0, 1, 2, 3].foldl _ s = u at h1 ⊢
  exact .calTileOff (.same h1 rfl rfl rfl)

theorem State.Canonical.archiveOff {n : Nat} (hs : s.Canonical) : (s.archiveOff n).Canonical := by
  rw [State.archiveOff]
  exact .same hs rfl rfl rfl

theorem State.Canonical.pcieOff (hs : s.Canonical) : s.pcieOff.Canonical := by
  rw [State.pcieOff]
  exact .same hs rfl rfl rfl

theorem State.Canonical.blockLost (hs : s.Canonical) : s.blockLost.Canonical := by
  rw [State.blockLost]
  exact .ite hs (.markLost (.ringLost (.same hs rfl rfl rfl)))

theorem State.Canonical.hubOff (hs : s.Canonical) : s.hubOff.Canonical := by
  rw [State.hubOff]
  exact .same (.blockLost hs) rfl rfl rfl

theorem State.Canonical.ethOff (hs : s.Canonical) : s.ethOff.Canonical := by
  rw [State.ethOff]
  exact .same (.dropQueue hs) rfl rfl rfl

theorem State.Canonical.vitOff (hs : s.Canonical) : s.vitOff.Canonical := by
  unfold State.vitOff
  have h1 : ((List.range 8).foldl State.viSettle s).svDropped.Canonical := .svDropped (.foldl (fun _ _ hu => .viSettle hu) hs)
  generalize ((List.range 8).foldl State.viSettle s).svDropped = u at h1
  exact .same h1 rfl rfl rfl

theorem State.Canonical.unitsOff {d : Nat} (hs : s.Canonical) : (s.unitsOff d).Canonical := by
  rw [State.unitsOff]
  exact .ite (.masterLost hs)
    (.ite (.hubOff hs)
      (.ite (.pcieOff hs)
        (.ite (.ethOff hs)
          (.ite (.courierPowerOff hs)
            (.ite (.dacTileOff hs)
              (.ite (.adcTileOff hs)
                (.ite (.clusterOff hs) (.ite (.bankPowerOff hs) (.ite (.vitOff hs) (.ite (.archiveOff hs) hs))))))))))

theorem State.Canonical.takePower {d : Nat} {planned : Bool} (hs : s.Canonical) : (s.takePower d planned).Canonical := by
  unfold State.takePower
  refine .ite hs ?_
  have h0 : (((((s.calDomainLost d).trimsLost d).unitsOff d).cancelCommits d).absentCommands d).Canonical :=
    .absentCommands (.cancelCommits (.unitsOff (.trimsLost (.calDomainLost hs))))
  generalize ((((s.calDomainLost d).trimsLost d).unitsOff d).cancelCommits d).absentCommands d = t at h0
  have h1 : (if planned then t.mirrorNow else t).Canonical := .ite (.mirrorNow h0) h0
  exact ⟨swf_filter _ _ _ h1.objs, swf_filter _ _ _ h1.live, h1.counters⟩

theorem State.Canonical.powerOff {d : Nat} (hs : s.Canonical) : (s.powerOff d).Canonical := by
  rw [State.powerOff]
  exact .takePower hs

theorem State.Canonical.powerOn {d : Nat} (hs : s.Canonical) : (s.powerOn d).Canonical := by
  unfold State.powerOn
  dsimp only
  refine .ite hs ?_
  have h1 : (({ s.rememberPower d [] with pw := { (s.rememberPower d []).pw with
      on := (s.rememberPower d []).pw.on ||| (1 <<< d) } }.ledgerResume d).loadFactories d).Canonical :=
    .loadFactories (.ledgerResume (.withPw (.rememberPower hs)))
  exact .ite (.foldl (fun _ _ hu => .slotPowerUp hu) h1)
    (.ite (.foldl (fun _ _ hu => .loadTrim hu) h1) (.ite (.bankPowerUp h1) (.ite (.setF h1) h1)))

theorem State.Canonical.powerOffAll {ds : List Nat} (hs : s.Canonical) : (s.powerOffAll ds).Canonical := by
  rw [State.powerOffAll]
  exact .foldl (fun _ _ hu => .powerOff hu) hs

theorem State.Canonical.powerLoss {d : Nat} (hs : s.Canonical) : (s.powerLoss d).Canonical := by
  unfold State.powerLoss
  exact .ite hs
    (.ite (.withBt (.notice (.faultMute (.ledgerLoss (.takePower hs)))))
      (.notice (.faultMute (.ledgerLoss (.takePower hs)))))

theorem State.Canonical.cmdPwrDomain_fst {h : Hdr} {mask on id : Nat} (hs : s.Canonical) :
    (cmdPwrDomain h mask on id s).1.Canonical := by
  rw [cmdPwrDomain]
  exact .ite_fst hs (.ite_fst hs (.ite_fst hs (.ite_fst hs (.work (.powerOffAll (.same hs rfl rfl rfl))))))

theorem State.Canonical.finishPwrDomain {id on : Nat} (hs : s.Canonical) : (s.finishPwrDomain id on).Canonical := by
  rw [State.finishPwrDomain]
  exact .completeId (.foldl (fun _ _ hu => .powerOn hu) hs)

theorem State.Canonical.setPower {v : Nat} (hs : s.Canonical) : (s.setPower v).Canonical := by
  rw [State.setPower]
  exact .ite (.setF (.ite (.setF hs) (.same (.setF hs) rfl rfl rfl))) (.ite (.setF hs) (.same (.setF hs) rfl rfl rfl))

theorem State.Canonical.tilesOff (hs : s.Canonical) : s.tilesOff.Canonical := by
  rw [State.tilesOff]
  exact .powerOffAll (.surveyAllOff hs)

theorem State.Canonical.toQuiet (hs : s.Canonical) : s.toQuiet.Canonical := by
  rw [State.toQuiet]
  exact .setPower (.tilesOff (.foldl (fun _ _ hu => .ite (.setF hu) hu) hs))

theorem State.Canonical.cmdPwrState_fst {target id : Nat} (hs : s.Canonical) : (cmdPwrState target id s).1.Canonical := by
  rw [cmdPwrState]
  exact .ite_fst hs
    (.ite_fst hs
      (.ite_fst hs
        (.ite_fst hs
          (.ite_fst (.ite_fst hs (.same hs rfl rfl rfl))
            (.ite_fst (.ite_fst hs (.ite_fst hs (.work hs)))
              (.ite_fst (.work (.toQuiet hs)) (.ite_fst (.work (.setPower hs)) (.work hs))))))))

theorem State.Canonical.finishPwrState {id target : Nat} (hs : s.Canonical) : (s.finishPwrState id target).Canonical := by
  rw [State.finishPwrState]
  exact .ite (.completeId hs)
    (.ite (.ite (.completeId hs) (.completeId (.setPower (.foldl (fun _ _ hu => .powerOn hu) hs))))
      (.completeId (.setPower hs)))

theorem State.Canonical.dormantEntry (hs : s.Canonical) : s.dormantEntry.Canonical := by
  rw [State.dormantEntry]
  exact .ite hs (.setPower (.same (.foldl (fun _ _ hu => .completeId hu) (.powerOffAll hs)) rfl rfl rfl))

theorem State.Canonical.thermalWarn {t : Int} {sensor : Nat} (hs : s.Canonical) : (s.thermalWarn t sensor).Canonical := by
  rw [State.thermalWarn]
  exact .ite (.notice (.fire (.raise (.setF hs)))) (.ite (.setF hs) hs)

theorem State.Canonical.graceMissed {miss : List Nat} (hs : s.Canonical) : (s.graceMissed miss).Canonical := by
  rw [State.graceMissed]
  exact .ite hs (.raise (.setF hs))

theorem State.Canonical.mutePoint (hs : s.Canonical) : s.mutePoint.Canonical := by
  unfold State.mutePoint
  exact .ite hs (.withPw (.setF (.lockAllBanks (.faultMute (.graceMissed (.foldl (fun _ _ hu => .haltBySystem hu) hs))))))

theorem State.Canonical.stopRecord {t : Int} {sensor : Nat} (hs : s.Canonical) : (s.stopRecord t sensor).Canonical := by
  rw [State.stopRecord]
  exact .setF (.setF (.setF (.raise (.notice (.fire hs)))))

theorem State.Canonical.graceBegin (hs : s.Canonical) : s.graceBegin.Canonical := by
  unfold State.graceBegin
  exact .withPw (.haltSystem (.stopAtShotAll hs))

theorem State.Canonical.thermalStop {t : Int} {sensor : Nat} (hs : s.Canonical) : (s.thermalStop t sensor).Canonical := by
  rw [State.thermalStop]
  exact .ite (.mutePoint (.graceBegin (.stopRecord hs))) (.graceBegin (.stopRecord hs))

theorem State.Canonical.thermalTrip {t : Int} {sensor : Nat} (hs : s.Canonical) : (s.thermalTrip t sensor).Canonical := by
  rw [State.thermalTrip]
  exact .ite hs
    (.same
      (.ite
        (.setF (.setF (.setF (.raise (.notice (.fire (.lockAllBanks (.clearBanks (.haltSystem (.faultMute hs))))))))))
        (.ite (.setF (.setF (.raise (.notice (.fire (.lockAllBanks (.clearBanks (.haltSystem (.faultMute hs)))))))))
          (.setF
            (.graceMissed
              (.setF
                (.setF (.raise (.notice (.fire (.lockAllBanks (.clearBanks (.haltSystem (.faultMute hs)))))))))))))
      rfl rfl rfl)

theorem State.Canonical.scanTrims (hs : s.Canonical) : s.scanTrims.Canonical := by
  rw [State.scanTrims]
  exact .ite (.setF (.setTrims (.draw hs))) (.setTrims (.draw hs))

theorem State.Canonical.thermalScan {given : List Nat} (hs : s.Canonical) : (s.thermalScan given).Canonical := by
  rw [State.thermalScan]
  exact .ite hs
    (.ite
      (.ite (.raise (.thermalTrip (.thermalWarn (.setF (.setF (.same (.scanTrims hs) rfl rfl rfl))))))
        (.thermalStop (.thermalWarn (.setF (.setF (.same (.scanTrims hs) rfl rfl rfl))))))
      (.ite (.thermalTrip (.thermalWarn (.setF (.setF (.same (.scanTrims hs) rfl rfl rfl)))))
        (.thermalWarn (.setF (.setF (.same (.scanTrims hs) rfl rfl rfl))))))

theorem State.Canonical.tilePowerDown (hs : s.Canonical) : s.tilePowerDown.Canonical := by
  rw [State.tilePowerDown]
  exact .ite hs
    (.ite (.setF (.ite (.setPower (.tilesOff (.same hs rfl rfl rfl))) (.tilesOff (.same hs rfl rfl rfl))))
      (.ite (.setPower (.tilesOff (.same hs rfl rfl rfl))) (.tilesOff (.same hs rfl rfl rfl))))

theorem State.Canonical.cmdResume_fst {id : Nat} (hs : s.Canonical) : (cmdResume id s).1.Canonical := by
  rw [cmdResume]
  exact .ite_fst hs (.ite_fst hs (.framesResume (.unlockBanks (.same (.setF hs) rfl rfl rfl))))

theorem State.Canonical.domUnlock {b : Bool} (hs : s.Canonical) : (s.domUnlock b).Canonical := by
  rw [State.domUnlock]
  exact .ite (.setDomState (.setDom hs)) (.setDom hs)

theorem State.Canonical.pllUnlock (hs : s.Canonical) : s.pllUnlock.Canonical := by
  unfold State.pllUnlock
  exact .ite hs
    (.withTm (.domUnlock (.domUnlock (.count (.raise (.setF (.notice (.fire (.haltSystem (.faultMute hs))))))))))

theorem State.Canonical.pllRelock {fine : Nat} (hs : s.Canonical) : (s.pllRelock fine).Canonical := by
  rw [State.pllRelock]
  exact .ite hs (.ite (.notice (.setF (.same hs rfl rfl rfl))) (.same hs rfl rfl rfl))

/-! #### Machine/Objects -/

theorem State.Canonical.cmdObjRead_fst {h : Hdr} {cls inst off len id : Nat} (hs : s.Canonical) :
    (cmdObjRead h cls inst off len id s).1.Canonical := by
  rw [cmdObjRead]
  exact .ite_fst hs (.ite_fst hs (.ite_fst hs (.ite_fst hs (.ite_fst hs hs))))

theorem State.Canonical.beforeWrite {cls inst new mask : Nat} (hs : s.Canonical) :
    (s.beforeWrite cls inst new mask).Canonical := by
  rw [State.beforeWrite]
  exact .ite (.writeInput hs) hs

theorem State.Canonical.inputGone {i : Nat} (hs : s.Canonical) : (s.inputGone i).Canonical := by
  rw [State.inputGone]
  exact .calInputLost (.vitrineInputOff (.surveySourceOff hs))

theorem State.Canonical.afterWrite {was : State} {cls inst old new mask : Nat} (hs : s.Canonical) :
    (s.afterWrite was cls inst old new mask).Canonical := by
  unfold State.afterWrite
  split
  · exact .ite (.fscChanged hs) hs
  · exact .descWritten hs
  · exact .ite hs (.ite (.inputGone (.inputEnWritten hs)) (.inputEnWritten hs))
  · exact .appraiserWritten hs
  · exact .biasbankWritten hs
  · exact .timeWritten hs
  · exact .gpioWritten hs
  · exact .ite (.ethLinkDown hs) hs
  · exact hs

theorem State.Canonical.writeObj {secure : Bool} {cls inst data mask : Nat} (hs : s.Canonical) :
    (s.writeObj secure cls inst data mask).1.Canonical := by
  rw [State.writeObj]
  split
  · exact hs
  · exact .afterWrite (.setObj (.beforeWrite hs))

theorem State.Canonical.cmdObjWrite_fst {h : Hdr} {cls inst off len data id : Nat} (hs : s.Canonical) :
    (cmdObjWrite h cls inst off len data id s).1.Canonical := by
  rw [cmdObjWrite]
  exact .ite_fst hs (.ite_fst hs (.ite_fst hs (.ite_fst hs (.ite_fst hs (.writeObj hs)))))

theorem State.Canonical.cmdFieldWrite_fst {h : Hdr} {cls inst : Nat} {l : List (Field × Nat)} {id : Nat}
    (hs : s.Canonical) :
    (cmdFieldWrite h cls inst l id s).1.Canonical := by
  rw [cmdFieldWrite]
  exact .ite_fst hs (.writeObj hs)

theorem State.Canonical.cmdInputEn_fst {h : Hdr} {i : Nat} {v : Bool} {id : Nat} (hs : s.Canonical) :
    (cmdInputEn h i v id s).1.Canonical := by
  rw [cmdInputEn]
  exact .cmdFieldWrite_fst hs

theorem State.Canonical.cmdFsc_fst {h : Hdr} {o v id : Nat} (hs : s.Canonical) : (cmdFsc h o v id s).1.Canonical := by
  rw [cmdFsc]
  exact .cmdFieldWrite_fst hs

theorem State.Canonical.cmdBankEn_fst {h : Hdr} {k : Nat} {v : Bool} {id : Nat} (hs : s.Canonical) :
    (cmdBankEn h k v id s).1.Canonical := by
  rw [cmdBankEn]
  exact .cmdFieldWrite_fst hs

theorem State.Canonical.cmdTpEn_fst {h : Hdr} {n : Nat} {v : Bool} {id : Nat} (hs : s.Canonical) :
    (cmdTpEn h n v id s).1.Canonical := by
  rw [cmdTpEn]
  exact .cmdFieldWrite_fst hs

theorem State.Canonical.cmdSlewEn_fst {h : Hdr} {k : Nat} {v : Bool} {id : Nat} (hs : s.Canonical) :
    (cmdSlewEn h k v id s).1.Canonical := by
  rw [cmdSlewEn]
  exact .cmdFieldWrite_fst hs

theorem State.Canonical.cmdDomEn_fst {h : Hdr} {b v : Bool} {id : Nat} (hs : s.Canonical) :
    (cmdDomEn h b v id s).1.Canonical := by
  rw [cmdDomEn]
  exact .cmdFieldWrite_fst hs

theorem State.Canonical.cmdEthMode_fst {h : Hdr} {mode : Nat} {fec : Bool} {id : Nat} (hs : s.Canonical) :
    (cmdEthMode h mode fec id s).1.Canonical := by
  rw [cmdEthMode]
  exact .cmdFieldWrite_fst hs

theorem State.Canonical.cmdInputCode_fst {h : Hdr} {b code id : Nat} (hs : s.Canonical) :
    (cmdInputCode h b code id s).1.Canonical := by
  rw [cmdInputCode]
  exact .cmdFieldWrite_fst hs

/-! #### Machine/Security -/

theorem State.Canonical.booted {img : List Byte} {src : Nat} {alt : Bool} (hs : s.Canonical) :
    (s.booted img src alt).Canonical := by
  rw [State.booted]
  exact .ite (.same (.foldl (fun _ _ hu => .powerOn hu) hs) rfl rfl rfl)
    (.notice (.same (.foldl (fun _ _ hu => .powerOn hu) hs) rfl rfl rfl))

theorem State.Canonical.bootAlt {alt : Bool} (hs : s.Canonical) : (s.bootAlt alt).Canonical := by
  rw [State.bootAlt]
  exact .same hs rfl rfl rfl

theorem State.Canonical.bootHalt {code : Nat} (hs : s.Canonical) : (s.bootHalt code).Canonical := by
  rw [State.bootHalt]
  exact .same hs rfl rfl rfl

theorem State.Canonical.bootWait {code : Nat} (hs : s.Canonical) : (s.bootWait code).Canonical := by
  rw [State.bootWait]
  exact .same hs rfl rfl rfl

theorem State.Canonical.trySlots {code : Nat} {alt : Bool} {l : List (Nat × Slot)} {t : State} (hs : s.Canonical)
    (ht : trySlots s code alt l = .inl t) : t.Canonical := by
  induction l generalizing code alt with
  | nil => cases ht
  | cons e l ih =>
    obtain ⟨src, d⟩ := e
    simp only [Machine.trySlots] at ht
    split at ht
    · cases ht
      exact .booted hs
    · exact ih ht

theorem State.Canonical.bootPower (hs : s.Canonical) : s.bootPower.Canonical := by
  rw [State.bootPower]
  exact .powerOn (.powerOn hs)

theorem State.Canonical.bootRun (hs : s.Canonical) : s.bootRun.Canonical := by
  unfold State.bootRun
  have h1 : s.bootPower.Canonical := .bootPower hs
  refine .ite hs (.ite (.bootHalt (.bootAlt h1)) (.ite (.bootHalt (.bootAlt h1)) (.ite (.bootWait (.bootAlt h1)) ?_)))
  split
  case _ t ht => exact .trySlots h1 ht
  · exact .ite (.bootWait (.bootAlt h1)) (.bootHalt (.bootAlt h1))

theorem State.Canonical.bootGo {image : Option (List Byte)} (hs : s.Canonical) : (s.bootGo image).Canonical := by
  unfold State.bootGo
  split
  · exact hs
  · exact .ite (.booted (.emit hs)) (.withBt (.emit hs))

theorem State.Canonical.regWrite {f : Fn} {off v : Nat} (hs : s.Canonical) : (s.regWrite f off v).Canonical := by
  unfold State.regWrite
  split
  · exact hs
  · split
    · exact .withBt hs
    · exact .withBt hs
    · exact .withBt hs
    · exact .barWrite hs

theorem State.Canonical.cmdSecPolicy_fst {policy : Bool} {id : Nat} (hs : s.Canonical) :
    (cmdSecPolicy policy id s).1.Canonical := by
  rw [cmdSecPolicy]
  exact .ite_fst hs (.ite_fst hs (.work hs))

theorem State.Canonical.cmdSecKeyLoad_fst {h : Hdr} {slot id : Nat} (hs : s.Canonical) :
    (cmdSecKeyLoad h slot id s).1.Canonical := by
  rw [cmdSecKeyLoad]
  exact .ite_fst hs (.ite_fst hs (.ite_fst hs (.work hs)))

theorem State.Canonical.readBack (hs : s.Canonical) : s.readBack.2.Canonical := by
  rw [State.readBack]
  exact .draw hs

theorem State.Canonical.finishSecure {id key len body : Nat} {rep : Reply} (hs : s.Canonical) :
    (s.finishSecure id key len body rep).Canonical := by
  rw [State.finishSecure]
  exact .ite (.completeId (.nvWrite (.readBack hs))) (.completeId (.nvSpoil (.readBack hs)))

theorem State.Canonical.finishPolicy {id policy : Nat} {rep : Reply} (hs : s.Canonical) :
    (s.finishPolicy id policy rep).Canonical := by
  rw [State.finishPolicy]
  exact .finishSecure hs

theorem State.Canonical.finishKey {id slot x y : Nat} {rep : Reply} (hs : s.Canonical) :
    (s.finishKey id slot x y rep).Canonical := by
  rw [State.finishKey]
  exact .finishSecure hs

theorem State.Canonical.setSlot {n : Nat} {o : Slot} (hs : s.Canonical) : (s.setSlot n o).Canonical := by
  rw [State.setSlot]
  exact .same hs rfl rfl rfl

theorem State.Canonical.cmdSecFwUpdate_fst {h : Hdr} {id : Nat} (hs : s.Canonical) :
    (cmdSecFwUpdate h id s).1.Canonical := by
  rw [cmdSecFwUpdate]
  exact .ite_fst hs (.ite_fst hs (.ite_fst hs (.work (.setSlot hs))))

theorem State.Canonical.cutUpdate (hs : s.Canonical) : s.cutUpdate.Canonical := by
  rw [State.cutUpdate]
  exact .foldl (fun _ _ hu => .completeId hu) (.same hs rfl rfl rfl)

theorem State.Canonical.finishUpdate {id slot seq : Nat} {img : List Byte} {rep : Reply} (hs : s.Canonical) :
    (s.finishUpdate id slot seq img rep).Canonical := by
  rw [State.finishUpdate]
  exact .ite (.completeId (.setSlot (.readBack hs))) (.completeId (.readBack hs))

theorem State.Canonical.cmdSecDebugUnlock_fst {h : Hdr} {id : Nat} (hs : s.Canonical) :
    (cmdSecDebugUnlock h id s).1.Canonical := by
  rw [cmdSecDebugUnlock]
  exact .ite_fst hs (.ite_fst hs (.same (.draw hs) rfl rfl rfl))

/-! #### Machine/Supplies -/

theorem State.Canonical.nvWatch {good : Bool} (hs : s.Canonical) : (s.nvWatch good).Canonical := by
  rw [State.nvWatch]
  exact .ite hs (.ite (.same hs rfl rfl rfl) (.ite (.same hs rfl rfl rfl) hs))

theorem State.Canonical.endHolds (hs : s.Canonical) : s.endHolds.Canonical := by
  rw [State.endHolds]
  exact .foldl (fun _ _ hu => .powerOn hu) (.same hs rfl rfl rfl)

theorem State.Canonical.recordOrder {code : Nat} (hs : s.Canonical) : (s.recordOrder code).Canonical := by
  rw [State.recordOrder]
  exact .raise (.ite (.setF hs) hs)

theorem State.Canonical.suppliesRise {mask : Nat} (hs : s.Canonical) : (s.suppliesRise mask).Canonical := by
  rw [State.suppliesRise]
  exact .nvWatch (.endHolds (.ite (.recordOrder (.same hs rfl rfl rfl)) (.same hs rfl rfl rfl)))

theorem State.Canonical.supplyRead (hs : s.Canonical) : s.supplyRead.Canonical := by
  rw [State.supplyRead]
  exact .ite hs (.nvWatch (.ite (.same hs rfl rfl rfl) (.suppliesRise (.same hs rfl rfl rfl))))

theorem State.Canonical.sagNotice (hs : s.Canonical) : s.sagNotice.Canonical := by
  rw [State.sagNotice]
  split
  · exact hs
  · exact .notice (.same hs rfl rfl rfl)

theorem State.Canonical.sagTaken {n : Nat} {reading : Int} (hs : s.Canonical) : (s.sagTaken n reading).Canonical := by
  rw [State.sagTaken]
  exact .ite (.raise (.fire (.ite (.cutUpdate (.nvWatch (.setF (.same hs rfl rfl rfl)))) (.same hs rfl rfl rfl))))
    (.ite (.cutUpdate (.nvWatch (.setF (.same hs rfl rfl rfl)))) (.same hs rfl rfl rfl))

theorem State.Canonical.supplySag {n : Nat} {reading : Int} (hs : s.Canonical) : (s.supplySag n reading).Canonical := by
  rw [State.supplySag]
  exact .ite hs
    (.ite (.askReset (.ite (.supplyLost (.sagTaken hs)) (.sagTaken hs)))
      (.ite (.supplyLost (.sagTaken hs)) (.sagTaken hs)))

theorem State.Canonical.supplySagEnd (hs : s.Canonical) : s.supplySagEnd.Canonical := by
  rw [State.supplySagEnd]
  exact .ite hs (.suppliesRise (.foldl (fun _ _ hu => .ite hu (.same (.draw hu) rfl rfl rfl)) hs))

theorem State.Canonical.nvInhibitClear (hs : s.Canonical) : s.nvInhibitClear.Canonical := by
  rw [State.nvInhibitClear]
  exact .ite hs (.setF (.same hs rfl rfl rfl))

theorem State.Canonical.orderHold {code : Nat} (hs : s.Canonical) : (s.orderHold code).Canonical := by
  unfold State.orderHold
  exact .ite hs
    (.ite (.foldl (fun _ _ hu => .setF (.bankOff hu)) (.withPw (.powerOffAll hs)))
      (.withBt (.foldl (fun _ _ hu => .setF (.bankOff hu)) (.withPw (.powerOffAll hs)))))

theorem State.Canonical.orderLoss (hs : s.Canonical) : s.orderLoss.Canonical := by
  rw [State.orderLoss]
  exact .foldl (fun _ _ hu => .powerLoss hu) hs

theorem State.Canonical.orderError {code : Nat} (hs : s.Canonical) : (s.orderError code).Canonical := by
  rw [State.orderError]
  exact .ite hs
    (.ite (.orderLoss (.ite (.recordOrder hs) (.ite (.same hs rfl rfl rfl) hs)))
      (.orderHold (.ite (.recordOrder hs) (.ite (.same hs rfl rfl rfl) hs))))

/-! #### Machine/System -/

theorem State.Canonical.cmdSysReset_fst {kind id : Nat} (hs : s.Canonical) : (cmdSysReset kind id s).1.Canonical := by
  rw [cmdSysReset]
  exact .ite_fst hs (.same hs rfl rfl rfl)

theorem State.Canonical.cmdSysNotify_fst {h : Hdr} {route id : Nat} (hs : s.Canonical) :
    (cmdSysNotify h route id s).1.Canonical := by
  rw [cmdSysNotify]
  exact .ite_fst hs
    (by
      split
      · exact hs
      · exact .ite_fst hs (.setFn hs))

theorem State.Canonical.cmdSysCancel_fst {h : Hdr} {tag id : Nat} (hs : s.Canonical) :
    (cmdSysCancel h tag id s).1.Canonical := by
  rw [cmdSysCancel]
  exact .foldl (fun _ _ hu => .complete hu) hs

theorem State.Canonical.cmdRingAssign_fst {h : Hdr} {n owner id : Nat} (hs : s.Canonical) :
    (cmdRingAssign h n owner id s).1.Canonical := by
  unfold cmdRingAssign
  split
  · exact hs
  · exact .ite_fst hs (.ite_fst hs (.ite_fst hs (.withHost (.setRing hs))))

/-! #### Machine/Execution -/

theorem runCommand_keepsCanonical (i : Instr) : (runCommand i).KeepsCanonical := by
  intro id s hs
  cases i with
  | sysNop => exact hs
  | sysIdentify => exact hs
  | objRead => exact .cmdObjRead_fst (id := id) hs
  | objWrite => exact .cmdObjWrite_fst (id := id) hs
  | sysReset => exact .cmdSysReset_fst (id := id) hs
  | sysNotify => exact .cmdSysNotify_fst (id := id) hs
  | sysCancel => exact .cmdSysCancel_fst (id := id) hs
  | ringAssign => exact .cmdRingAssign_fst (id := id) hs
  | pwrState => exact .cmdPwrState_fst (id := id) hs
  | pwrDomain => exact .cmdPwrDomain_fst (id := id) hs
  | timeRead => exact hs
  | timeSetEpoch => exact .cmdTimeSetEpoch_fst (id := id) hs
  | timeSwitch => exact .cmdTimeSwitch_fst (id := id) hs
  | timeCaptureRead => exact .cmdTimeCaptureRead_fst (id := id) hs
  | archiveLoad => exact .cmdArchiveLoad_fst (id := id) hs
  | archiveRead => exact .cmdArchiveRead_fst (id := id) hs
  | kernelLoad => exact .cmdKernelLoad_fst (id := id) hs
  | kernelRead => exact .cmdKernelRead_fst (id := id) hs
  | outputEnable => exact .cmdOutputEnable_fst (id := id) hs
  | outputDisable => exact .cmdOutputDisable_fst (id := id) hs
  | outputCommit => exact .cmdOutputCommit_fst (id := id) hs
  | curAccession => exact .cmdCurAccession_fst (id := id) hs
  | curReadback => exact .cmdCurReadback_fst (id := id) hs
  | curStart => exact .cmdCurStart_fst (id := id) hs
  | curStop => exact .cmdCurStop_fst (id := id) hs
  | curBarrier => exact .cmdCurBarrier_fst (id := id) hs
  | frameOp => exact .cmdFrameOp_fst (id := id) hs
  | frameCommit => exact .cmdFrameCommit_fst (id := id) hs
  | readoutCommit => exact .cmdReadoutCommit_fst (id := id) hs
  | discRebase => exact .cmdDiscRebase_fst (id := id) hs
  | discSeedStore => exact .cmdDiscSeedStore_fst (id := id) hs
  | discSeedRestore => exact .cmdDiscSeedRestore_fst (id := id) hs
  | biasWrite => exact .cmdBiasWrite_fst (id := id) hs
  | biasStrobe => exact .cmdBiasStrobe_fst (id := id) hs
  | biasClear => exact .cmdBiasClear_fst (id := id) hs
  | biasCommit => exact .cmdBiasCommit_fst (id := id) hs
  | catCommit => exact .cmdCatCommit_fst (id := id) hs
  | catGroup => exact .cmdCatGroup_fst (id := id) hs
  | vitArm => exact .cmdVitArm_fst (id := id) hs
  | vitTrigger => exact .cmdVitTrigger_fst (id := id) hs
  | vitAbort => exact .cmdVitAbort_fst (id := id) hs
  | calOutput => exact .cmdCalOutput_fst (id := id) hs
  | calInput => exact .cmdCalInput_fst (id := id) hs
  | calBias => exact .cmdCalBias_fst (id := id) hs
  | calSysZero => exact .cmdCalSysZero_fst (id := id) hs
  | calSysFull => exact .cmdCalSysFull_fst (id := id) hs
  | calSysStore => exact .cmdCalSysStore_fst (id := id) hs
  | resume => exact .cmdResume_fst (id := id) hs
  | ldgSnap => exact .cmdLdgSnap_fst (id := id) hs
  | ldgRead => exact .cmdLdgRead_fst (id := id) hs
  | ldgRelease => exact .cmdLdgRelease_fst (id := id) hs
  | ldgStatus => exact hs
  | surveyStart => exact .cmdSurveyStart_fst (id := id) hs
  | surveyStop => exact .cmdSurveyStop_fst (id := id) hs
  | cpLink => exact .cmdCpLink_fst (id := id) hs
  | cpCommit => exact .cmdCpCommit_fst (id := id) hs
  | secPolicy => exact .cmdSecPolicy_fst (id := id) hs
  | secKeyLoad => exact .cmdSecKeyLoad_fst (id := id) hs
  | secFwUpdate => exact .cmdSecFwUpdate_fst (id := id) hs
  | secDebugUnlock => exact .cmdSecDebugUnlock_fst (id := id) hs
  | appStart => exact .cmdAppStart_fst (id := id) hs
  | appStop => exact .cmdAppStop_fst (id := id) hs
  | appRead => exact .cmdAppRead_fst (id := id) hs
  | inputEn => exact .cmdInputEn_fst (id := id) hs
  | fsc => exact .cmdFsc_fst (id := id) hs
  | bankEn => exact .cmdBankEn_fst (id := id) hs
  | tpEn => exact .cmdTpEn_fst (id := id) hs
  | slewEn => exact .cmdSlewEn_fst (id := id) hs
  | domEn => exact .cmdDomEn_fst (id := id) hs
  | ethMode => exact .cmdEthMode_fst (id := id) hs
  | inputCode => exact .cmdInputCode_fst (id := id) hs
  | _ => exact hs

theorem State.Canonical.refusePacket {c : Carried} {tag op : Nat} {rep : Reply} (hs : s.Canonical) :
    (s.refusePacket c tag op rep).Canonical := by
  unfold State.refusePacket
  exact .keepFirst (.queueCompletion (.withCmd (.newId hs)))

theorem State.Canonical.takePacket {c : Carried} {p : BitVec 512} (hs : s.Canonical) : (s.takePacket c p).Canonical := by
  unfold State.takePacket
  dsimp only
  split
  · exact .refusePacket hs
  · split
    · exact .refusePacket hs
    · exact .issue (runCommand_keepsCanonical _) hs

theorem State.Canonical.takeCarrier {path : Path} {peer : BitVec 128} {port : BitVec 16} {mac : BitVec 48} {l : List Byte}
    (hs : s.Canonical) :
    (s.takeCarrier path peer port mac l).Canonical := by
  rw [State.takeCarrier]
  exact .ite (.refusePacket hs) (.takePacket hs)

theorem State.Canonical.ringConsume {k : Nat} (hs : s.Canonical) : (s.ringConsume k).Canonical := by
  rw [State.ringConsume]
  exact .ringCount (.ringWriteBack (.count (.setRing hs)))

theorem State.Canonical.fetchReads {k : Nat} {p : BitVec 512} (hs : s.Canonical) : (s.fetchReads k p).Canonical := by
  rw [State.fetchReads]
  exact .ite (.emit (.emit hs)) (.emit hs)

theorem State.Canonical.commandFetch {k : Fin 3} {packet : BitVec 512} {ext : Option (List Byte)} (hs : s.Canonical) :
    (s.commandFetch k packet ext).Canonical := by
  rw [State.commandFetch]
  exact .ite (.takePacket (.ringConsume (.fetchReads hs))) hs

theorem State.Canonical.dropCommand (hs : s.Canonical) : s.dropCommand.Canonical := by
  rw [State.dropCommand]
  exact .same (.raise hs) rfl rfl rfl

theorem State.Canonical.commandDatagram {rx : EthRx} {port : BitVec 16} {payload : List Byte} (hs : s.Canonical) :
    (s.commandDatagram rx port payload).Canonical := by
  rw [State.commandDatagram]
  exact .ite (.ethTake hs)
    (.ite (.ethDrop (.ethTake hs)) (.ite (.dropCommand (.ethTake hs)) (.takeCarrier (.ethTake hs))))

theorem State.Canonical.h2dTake {m : Fin 8} (hs : s.Canonical) : (s.h2dTake m).Canonical := by
  rw [State.h2dTake]
  exact .ite hs (.takeCarrier (.h2dTaken hs))

theorem State.Canonical.d2hPost {m : Nat} {msg : List Byte} {tmoUs : Nat} (hs : s.Canonical) :
    (s.d2hPost m msg tmoUs).Canonical := by
  unfold State.d2hPost
  exact .ite hs (.fire (.mbCause (.count (.markNow (.withHost (.setMbox hs))))))

theorem State.Canonical.chainStart {p : Path} (hs : s.Canonical) : (s.chainStart p).Canonical := by
  unfold State.chainStart
  split
  · exact hs
  · split
    · exact .startCmd (runCommand_keepsCanonical _) (.acceptNow hs)
    · exact .skipCmd (.acceptNow hs)

theorem State.Canonical.markCmd {id : Nat} {st : CmdState} {late : Bool} (hs : s.Canonical) :
    (s.markCmd id st late).Canonical := by
  rw [State.markCmd]
  exact .same hs rfl rfl rfl

theorem State.Canonical.scheduledExecution (hs : s.Canonical) : s.scheduledExecution.Canonical := by
  unfold State.scheduledExecution
  split
  · exact hs
  · exact .ite (.markCmd hs) (.execute (runCommand_keepsCanonical _) (.markCmd hs))

theorem State.Canonical.deferredExecution (hs : s.Canonical) : s.deferredExecution.Canonical := by
  unfold State.deferredExecution
  split
  · exact hs
  · exact .execute (runCommand_keepsCanonical _) (.markCmd hs)

theorem State.Canonical.deferredTimeout (hs : s.Canonical) : s.deferredTimeout.Canonical := by
  rw [State.deferredTimeout]
  split
  · exact hs
  · exact .complete hs

theorem State.Canonical.recordsWritten {n : Nat} (hs : s.Canonical) : (s.recordsWritten n).2.Canonical := by
  rw [State.recordsWritten]
  exact .ite_snd (.readBack hs) (.draw (.readBack hs))

theorem State.Canonical.spoilFirst {key : Nat → Nat} {len : Nat} {l : List (Nat × Nat)} (hs : s.Canonical) :
    (s.spoilFirst key len l).Canonical := by
  cases l with
  | nil => exact hs
  | cons e l => exact .nvSpoil hs

theorem State.Canonical.finishSeeds {w : Timed} (hs : s.Canonical) : (s.finishSeeds w).Canonical := by
  rw [State.finishSeeds]
  exact .completeId (.spoilFirst (.storeSeeds (.recordsWritten hs)))

theorem State.Canonical.finishStore {w : Timed} (hs : s.Canonical) : (s.finishStore w).Canonical := by
  rw [State.finishStore]
  exact .completeId (.spoilFirst (.storeCorrections (.recordsWritten hs)))

theorem State.Canonical.finishTimed {w : Timed} {c : Cmd} (hs : s.Canonical) : (s.finishTimed w c).Canonical := by
  rw [State.finishTimed]
  split
  · exact .finishAccession hs
  · exact .finishSeeds hs
  · exact .finishStore hs
  · exact .finishPwrDomain hs
  · exact .finishPwrState hs
  · exact .finishPolicy hs
  · exact .finishKey hs
  · exact .finishUpdate hs
  · exact .completeId hs

theorem State.Canonical.timedEnd (hs : s.Canonical) : s.timedEnd.Canonical := by
  rw [State.timedEnd]
  exact .foldl
    (fun _ _ hu => by
      split
      · exact .finishTimed hu
      · exact hu) (.same hs rfl rfl rfl)

/-! #### Machine/Sideband -/

theorem State.Canonical.setCfg {f : Fn} {c : CfgSpace} (hs : s.Canonical) : (s.setCfg f c).Canonical := by
  cases f with
  | pf0 => exact .same hs rfl rfl rfl
  | pf1 => exact .same hs rfl rfl rfl

/-! #### Machine/Reset -/

theorem State.Canonical.cutWrite {w : Timed} (hs : s.Canonical) : (s.cutWrite w).Canonical := by
  rw [State.cutWrite]
  split
  · exact .spoilFirst (.storeSeeds (.draw hs))
  · exact .spoilFirst (.storeCorrections (.draw hs))
  · exact .spoilFirst (.draw hs)
  · exact .spoilFirst (.draw hs)
  · exact .draw hs

theorem State.Canonical.cutWrites (hs : s.Canonical) : s.cutWrites.Canonical := by
  rw [State.cutWrites]
  exact .foldl (fun _ _ hu => .cutWrite hu) hs

theorem reset_canonical : State.reset.Canonical :=
  ⟨by decide, by decide, by decide⟩

theorem State.Canonical.coldReset : s.coldReset.Canonical := by
  unfold State.coldReset
  exact .setF (.foldl (fun _ _ hu => .loadFactories hu) (.foldl (fun _ _ hu => .bankPowerUp hu)
    (.same reset_canonical rfl rfl rfl)))

theorem State.Canonical.overBoxes {l : List Nat} {f : State → Nat → State}
    (hf : ∀ u n, u.Canonical → (f u n).Canonical) (hs : s.Canonical) : (s.overBoxes l f).Canonical :=
  .foldl hf hs

theorem State.Canonical.forgetPaths {keys : List Nat} (hs : s.Canonical) : (s.forgetPaths keys).Canonical := by
  rw [State.forgetPaths]
  exact .same hs rfl rfl rfl

theorem State.Canonical.warmObjects (hs : s.Canonical) : s.warmObjects.Canonical := by
  unfold State.warmObjects
  have h1 : ({ s with
      objs := s.objs.filter (fun e => warmKeeps (keyDom e.1))
      live := s.live.filter (fun e => warmKeeps (keyDom e.1) && decide (e.1 / 65536 ≠ 0x10))
      undo := s.undo.filter (fun u => warmKeeps (keyDom u.key) && decide (u.key / 65536 ≠ 0x10)) } : State).Canonical :=
    ⟨swf_filter _ _ _ hs.objs, swf_filter _ _ _ hs.live, hs.counters⟩
  exact .setPower (.setObj h1)

theorem State.Canonical.warmHost (hs : s.Canonical) : s.warmHost.Canonical := by
  unfold State.warmHost
  exact .overBoxes (fun _ _ hu => .d2hWithdraw hu)
    (.overBoxes (fun _ _ hu => .h2dWithdraw hu) (.withHost (.dropMessages hs)))

theorem State.Canonical.warmLost (hs : s.Canonical) : s.warmLost.Canonical := by
  rw [State.warmLost]
  exact .foldl (fun _ _ hu => .capturesLost hu)
    (.dropQueue (.svDropped (.blockLost (.foldl (fun _ _ hu => .viSettle hu) hs))))

theorem State.Canonical.warmGroups (hs : s.Canonical) (hm : swf (fun _ => 0) s.ldg.mirror = true) :
    s.warmGroups.Canonical where
  objs := hs.objs
  live := hs.live
  counters := hm

theorem State.Canonical.linkLeaves {p : Nat} (hs : s.Canonical) : (s.linkLeaves p).Canonical := by
  rw [State.linkLeaves]
  exact .ite (.leaveUp hs) hs

/-- A warm reset takes the counters from the mirror that it has just written. -/
theorem State.Canonical.warmGroups_mirrored (hs : s.Canonical) : s.mirrorNow.ledgerReset.warmGroups.Canonical :=
  .warmGroups (.ledgerReset (.mirrorNow hs))
    (swf_takeUnits (other := fun d => !s.powered d) (m := s.ldg.mirror) hs.counters)

theorem State.Canonical.warmReset (hs : s.Canonical) : s.warmReset.Canonical := by
  unfold State.warmReset
  have h0 : ([0, 1, 2, 3].foldl State.linkLeaves s).cutWrites.warmLost.Canonical :=
    .warmLost (.cutWrites (.foldl (fun _ _ hu => .linkLeaves hu) hs))
  exact .ite (.foldl (fun _ _ hu => .powerOn hu) (.setF (.warmHost (.warmObjects (.warmGroups_mirrored h0)))))
    (.setF (.warmHost (.warmObjects (.warmGroups_mirrored h0))))

theorem State.Canonical.maybeEffect {c : Cmd} (hs : s.Canonical) : (s.maybeEffect c).Canonical := by
  unfold State.maybeEffect
  dsimp only
  refine .ite (.draw hs) ?_
  split
  · exact .ite (.draw hs) (.finishTimed (.draw hs))
  · split
    · exact .draw hs
    · exact .gated_fst (runCommand_keepsCanonical _) (.draw hs)

theorem State.Canonical.cutCommand {c : Cmd} (hs : s.Canonical) : (s.cutCommand c).Canonical := by
  rw [State.cutCommand]
  exact .same (.maybeEffect (.complete hs)) rfl rfl rfl

theorem State.Canonical.docentDown {cause : Nat} (hs : s.Canonical) : (s.docentDown cause).Canonical := by
  unfold State.docentDown
  exact .forgetPaths
    (.foldl (fun _ _ hu => .cutCommand hu)
      (.overBoxes (fun _ _ hu => .d2hWithdraw hu) (.overBoxes (fun _ _ hu => .h2dMarkReset hu)
        (.same (.dropMessages hs) rfl rfl rfl))))

theorem State.Canonical.watchdogService (hs : s.Canonical) : s.watchdogService.Canonical := by
  rw [State.watchdogService]
  exact .ite (.ite (.same (.draw hs) rfl rfl rfl) (.draw hs)) hs

theorem State.Canonical.docentRestart {cause : Nat} (hs : s.Canonical) : (s.docentRestart cause).Canonical := by
  rw [State.docentRestart]
  exact .ite hs (.docentDown (.same hs rfl rfl rfl))

theorem State.Canonical.flrRings {f : Fn} (hs : s.Canonical) : (s.flrRings f).Canonical := by
  rw [State.flrRings]
  exact .same (.foldl (fun _ _ hu => .setRing hu) (.foldl (fun _ _ hu => .ringLost hu) hs)) rfl rfl rfl

theorem State.Canonical.flrReplies {f : Fn} (hs : s.Canonical) : (s.flrReplies f).Canonical := by
  rw [State.flrReplies]
  exact .foldl
    (fun _ _ hu =>
      .capturesLost
        (by
          split
          · exact .ite hu (.ringLost hu)
          · exact hu)) (.same (.dropMessages hs) rfl rfl rfl)

theorem State.Canonical.flrCommands {f : Fn} (hs : s.Canonical) : (s.flrCommands f).Canonical := by
  unfold State.flrCommands
  exact .forgetPaths (.foldl (fun _ _ hu => .complete hu) (.withCmd hs))

theorem State.Canonical.flr {f : Fn} (hs : s.Canonical) : (s.flr f).Canonical := by
  unfold State.flr
  exact .overBoxes (fun _ _ hu => .d2hMarkReset hu) (.overBoxes (fun _ _ hu => .h2dWithdraw hu)
    (.setCfg (.setFn (.flrRings (.flrReplies (.flrCommands hs))))))

theorem State.Canonical.linkReset (hs : s.Canonical) : s.linkReset.Canonical := by
  rw [State.linkReset]
  exact .setCfg (.setCfg (.flr (.flr hs)))

theorem State.Canonical.wakeUp (hs : s.Canonical) : s.wakeUp.Canonical := by
  rw [State.wakeUp]
  exact .docentDown (.setPower (.foldl (fun _ _ hu => .powerOn hu) hs))

theorem State.Canonical.wake {c : WakeCause} (hs : s.Canonical) : (s.wake c).Canonical := by
  cases c with
  | evt252 => exact .ite (.wakeUp (.delivered hs)) (.busyDrop hs)
  | wakeB => exact .ite (.wakeUp hs) hs

theorem State.Canonical.resetBy {a : ResetAsk} (hs : s.Canonical) : (s.resetBy a).Canonical := by
  cases a with
  | cold => exact .coldReset
  | warm => exact .warmReset hs
  | docent c => exact .docentRestart hs
  | link => exact .ite (.linkReset hs) hs
  | function f => exact .ite (.flr hs) hs

theorem State.Canonical.resetNow {a : ResetAsk} (hs : s.Canonical) : (s.resetNow a).Canonical := by
  rw [State.resetNow]
  exact .ite (.same (.resetBy hs) rfl rfl rfl) hs

theorem State.Canonical.resetRow {a : ResetAsk} (hs : s.Canonical) : (s.resetRow a).Canonical := by
  rw [State.resetRow]
  exact .ite (.askReset hs) (.resetNow hs)

/-! #### Machine/Tick -/

theorem State.Canonical.phaseWork (hs : s.Canonical) : s.phaseWork.Canonical := by
  rw [State.phaseWork]
  split
  · exact .gpioDue hs
  · exact .curatorsBegin hs
  · exact .ite (.readoutTick (.driveSums hs)) hs
  · exact hs

theorem State.Canonical.sampleTick (hs : s.Canonical) : s.sampleTick.Canonical := by
  rw [State.sampleTick]
  exact .hostTickEnd
    (.flushOut
      (.pauseOver
        (.ledgerTickEnd
          (.courierTick (.avsTickEnd (.strobeTick (.vitrineTick (.surveyTick (.driveTick (.sagNotice hs))))))))))

theorem State.Canonical.forget (hs : s.Canonical) : s.forget.Canonical := by
  rw [State.forget]
  exact .same hs rfl rfl rfl

theorem State.Canonical.nextTick (hs : s.Canonical) : s.nextTick.Canonical := by
  unfold State.nextTick
  have h1 : (s.setRaw (s.raw + s.span)).Canonical := .setRaw hs
  generalize s.setRaw (s.raw + s.span) = t at h1
  exact .same h1 rfl rfl rfl

theorem State.Canonical.beginTick (hs : s.Canonical) : s.beginTick.Canonical := by
  rw [State.beginTick]
  exact .timedEnd
    (.ledgerWaits (.strobesAfter (.slewBegin (.supplyRead (.watchdogService (.ite (.demixBegin hs) hs))))))

theorem State.Canonical.closeTick (hs : s.Canonical) : s.closeTick.Canonical := by
  rw [State.closeTick]
  exact .beginTick (.ledgerSnapshot (.nextTick (.forget (.lutTick (.countMerged (.sampleTick hs))))))

theorem State.Canonical.openTick (hs : s.Canonical) : s.openTick.Canonical := by
  rw [State.openTick]
  exact .same hs rfl rfl rfl

theorem State.Canonical.clock (hs : s.Canonical) : s.clock.Canonical := by
  rw [State.clock]
  exact .ite (.openTick (.closeTick (.phaseWork hs))) (.same (.phaseWork hs) rfl rfl rfl)

/-! #### The table -/

theorem State.Canonical.execEvent {i : Instr} (hi : i.hdr = none) (hs : s.Canonical) (e : exec i s = .next t) :
    t.Canonical := by
  cases i with
  | ringLength => cases e; exact .barWrite hs
  | ringProd => cases e; exact .barWrite hs
  | ringCons => cases e; exact .barWrite hs
  | ringEn => cases e; exact .barWrite hs
  | doorbell => cases e; exact .barWrite hs
  | take => cases e; exact .barWrite hs
  | d2hLastWordRead => cases e; exact .barReadActs hs
  | rawLo => cases e; exact .barReadActs hs
  | bootGo => cases e; exact .ite (.bootGo hs) hs
  | msixMaskClear => cases e; exact .ite (canonical_of_leavesUnits (leavesUnits_unmaskVector _ _ _) hs) hs
  | registerWrite => cases e; exact .ite (.regWrite hs) hs
  | d2hDoorbell => cases e; exact .d2hPost hs
  | h2dTake => cases e; exact .h2dTake hs
  | h2dTimeout => cases e; exact .h2dExpire hs
  | d2hTimeout => cases e; exact .d2hExpire hs
  | commandFetch => cases e; exact .commandFetch hs
  | commandDatagram => cases e; exact .commandDatagram hs
  | chainedCommandStart => cases e; exact .chainStart hs
  | scheduledExecution => cases e; exact .scheduledExecution hs
  | deferredExecution => cases e; exact .deferredExecution hs
  | deferredTimeout => cases e; exact .deferredTimeout hs
  | heldCompletionWrite => cases e; exact .heldWrite hs
  | ringIrqTime => cases e; exact .ringIrqTime hs
  | commitApply => cases e; exact .commitApply hs
  | curatorStart => cases e; exact .curatorStart hs
  | wordStart => cases e; exact .wordStart hs
  | waitTimeout => cases e; exact .waitExpire hs
  | barrierRelease => cases e; exact .barrierRelease hs
  | barrierTimeout => cases e; exact .barrierTimeout hs
  | curatorHalt => cases e; exact .curatorHalt hs
  | fscMuteEnd => cases e; exact .fscMuteEnd hs
  | startingEnd => cases e; exact .startingEnd hs
  | pointFormed => cases e; exact .formPoint hs
  | verdictProduced => cases e; exact .produceVerdict hs
  | verdictDelivery => cases e; exact .viVerdicts (.deliverVerdicts hs)
  | recordBlockClose => cases e; exact .recordBlockClose hs
  | surveyRunStart => cases e; exact .surveyRunStart hs
  | surveyBlock => cases e; exact .surveyBlock hs
  | surveyStopTick => cases e; exact .surveyStopTick hs
  | appRunStart => cases e; exact .apRunStart hs
  | appPoint => cases e; exact .apTake hs
  | appRunEnd => cases e; exact .apRunEnd hs
  | vitCaptureStart => cases e; exact .viStart hs
  | levelTrigger => cases e; exact .viLevel hs
  | tbTick => cases e; exact .ite (.viTrigger hs) hs
  | maskViolation => cases e; exact .viViolation hs
  | fillEnd => cases e; exact .viFillEnd hs
  | postTriggerWaitLimit => cases e; exact .viLimit hs
  | vitrineDone => cases e; exact .viDone hs
  | vitrineBlockWrite => cases e; exact .viWrite hs
  | biasUpdateEdge => cases e; exact .biasUpdateEdge hs
  | deglitchEnd => cases e; exact .deglitchEnd hs
  | slewEnApply => cases e; exact .slewEnApply hs
  | ldacB => cases e; exact .addStrobe hs
  | clrB => cases e; exact .clrTaken hs
  | supplyGood => cases e; exact .supplyBecomesGood hs
  | supplyLoss => cases e; exact .supplyLost hs
  | gpioEdge => cases e; exact .gpioInput hs
  | gpioPulseEnd => cases e; exact .gpioPulseEnd hs
  | cueWord => cases e; exact .cueWord hs
  | lutCellOutput => cases e; exact .lutChange hs
  | evtCuratorFlag => cases e; exact .evtFlag hs
  | evtVitrineTrigger => cases e; exact .evtVitrine hs
  | evtAppraiserStart => cases e; exact .evtAppraiser hs
  | evtBiasStrobe => cases e; exact .ite (.addStrobe hs) (.absentDrop hs)
  | timestampCapture => cases e; exact .stampEvent hs
  | evtGpioOutput => cases e; exact .evtGpio hs
  | evtCueOutput => cases e; exact .ite (.evtCue hs) (.absentDrop hs)
  | hostInterrupt =>
    cases e
    exact .ite (.count (.raise hs))
      (.ite (.setFn hs) (.count (canonical_of_leavesUnits (leavesUnits_setCatPending _ _ _) hs)))
  | groupEnable => cases e; exact .groupEvent hs
  | groupDisable => cases e; exact .groupEvent hs
  | evtLedgerSnapshot => cases e; exact .evtLedger hs
  | wake => cases e; exact .wake hs
  | ppsEdge => cases e; exact .ppsEdge hs
  | pulseMiss => cases e; exact .pulseMiss hs
  | domainLock => cases e; exact .domainLock hs
  | loopUpdate => cases e; exact .loopUpdate hs
  | epochStep => cases e; exact .epochStep hs
  | domainSwitch => cases e; exact .domainSwitch hs
  | tpEdge => cases e; exact .tpEdge hs
  | tpPulseEnd => cases e; exact .tpPulseEnd hs
  | ppsOutEdge => cases e; exact .ppsOutEdge hs
  | ppsOutFall => cases e; exact .ppsOutFall hs
  | ptpMessage => cases e; exact .ptpMessage hs
  | ethRequest => cases e; exact .ethRequest hs
  | courierFrame => cases e; exact .courierFrame hs
  | trainingFallback => cases e; exact .trainingFallback hs
  | measureEnd => cases e; exact .measureEnd hs
  | cpLinkTimeout => cases e; exact .linkTimeout hs
  | linkDown => cases e; exact .linkDown hs
  | timeMessage => cases e; exact .timeMessage hs
  | paramMessage => cases e; exact .paramMessage hs
  | ledgerSnapshot => cases e; exact .ledgerSnapshot hs
  | ledgerMirror => cases e; exact .ledgerMirror hs
  | pllUnlock => cases e; exact .pllUnlock hs
  | pllRelock => cases e; exact .pllRelock hs
  | supplySag => cases e; exact .supplySag hs
  | nvInhibitClear => cases e; exact .nvInhibitClear hs
  | orderErr => cases e; exact .orderError hs
  | powerLoss => cases e; exact .powerLoss hs
  | thermalScan => cases e; exact .thermalScan hs
  | thermalTrip => cases e; exact .thermalTrip hs
  | mutePoint => cases e; exact .mutePoint hs
  | tilePowerDown => cases e; exact .tilePowerDown hs
  | avsTarget => cases e; exact .ite (.avsTarget hs) hs
  | interleaveTracking => cases e; exact .interleave hs
  | sourceRotation => cases e; exact .rotateSource hs
  | calOutputEnd => cases e; exact .calOutputEnd hs
  | calInputEnd => cases e; exact .calInputEnd hs
  | calBiasEnd => cases e; exact .calBiasEnd hs
  | sysMeasurementEnd => cases e; exact .sysMeasurementEnd hs
  | dormantEntry => cases e; exact .dormantEntry hs
  | coldReset => cases e; exact .coldReset
  | warmReset => cases e; exact .resetRow hs
  | docentRestart => cases e; exact .ite (.resetRow hs) hs
  | flr => cases e; exact .resetRow hs
  | linkReset => cases e; exact .resetRow hs
  | boot => cases e; exact .bootRun hs
  | clrBRelease => cases e; exact .clrReleased hs
  | frameLock => cases e; exact .frameLock hs
  | ethLinkUp => cases e; exact .ethLinkUp hs
  | ethLinkDown => cases e; exact .ethLinkDown hs
  | cueOutputWordEnd => cases e; exact .cueWordEnd hs
  | supplySagEnd => cases e; exact .supplySagEnd hs
  | adcOvr => cases e; exact .adcOver hs
  | overload => cases e; exact .ite (.count (.raise hs)) hs
  | ptpMessageInterval => cases e; exact .ptpInterval hs
  | pauseFrame => cases e; exact .pauseFrame hs
  | _ => cases hi

/-- The state after a row of the table: for a host command `State.issue`, for an event its own operation. -/
theorem State.Canonical.exec {i : Instr} (hs : s.Canonical) (e : exec i s = .next t) : t.Canonical := by
  cases hi : i.hdr with
  | some h =>
    rw [exec_host hi] at e
    cases e
    exact .issue (runCommand_keepsCanonical i) hs
  | none => exact .execEvent hi hs e

theorem State.Canonical.withPending {l : List Instr} (hs : s.Canonical) : ({ s with pending := l } : State).Canonical :=
  .same hs rfl rfl rfl

/-- Settles O59: the stores are written only by `sset` and `filter`, which keep their form, and by a warm reset's copy of the
ledger's mirror, which it has just written from the counters. -/
theorem stepsKeepTheStoresCanonical : Obligations.StepsKeepTheStoresCanonical := by
  intro s t hs e
  unfold step at e
  split at e
  · cases e
    exact .clock hs
  · exact .exec (.withPending hs) e

end Sys2Proof.Machine
end

/-! ### Refused commands (R354, R372, R414, R499)

Every answer that is neither OK nor later leaves the state as it was, but for a count and for the nonce of SEC_DEBUG_UNLOCK. -/

section
namespace Sys2Proof.Machine

/-- What the refused command with opcode `op` may leave of `s`: `s` itself, `s` with a count, or `s` with another nonce. -/
def RefusalLeaves (op : Nat) (s t : State) : Prop :=
  t = s ∨ ((op = 0x0D01 ∨ op = 0x0901) ∧ ∃ c n e, t = s.count c n e) ∨
    (op = 0x1004 ∧ ∃ v f, t = { s with free := f, bt := { s.bt with nonce := v } })

/-- An answer that is neither later nor OK is a refusal, which leaves the state. -/
def AnswerLeaves (op : Nat) (s : State) (r : State × Reply) : Prop :=
  r.2.later = false → r.2.status ≠ .ok → RefusalLeaves op s r.1

variable {op : Nat} {s t : State} {rep : Reply}

theorem AnswerLeaves.stay : AnswerLeaves op s (s, rep) := fun _ _ => .inl rfl

theorem AnswerLeaves.ok (h : rep.status = .ok) : AnswerLeaves op s (t, rep) := fun _ hn => absurd h hn

theorem AnswerLeaves.wait : AnswerLeaves op s (t, Reply.wait) := .ok rfl

theorem AnswerLeaves.ite {c : Prop} [Decidable c] {a b : State × Reply} (ha : AnswerLeaves op s a)
    (hb : AnswerLeaves op s b) : AnswerLeaves op s (if c then a else b) := by
  split
  · exact ha
  · exact hb

theorem AnswerLeaves.work {id n : Nat} {nv : Bool} {l : List (Nat × Nat)} {u : State} :
    AnswerLeaves op s (u.work id n nv l rep) := .wait

theorem AnswerLeaves.commitOwn {n : Nat} {keys : List Nat} {mk : Nat → Commit} :
    AnswerLeaves op s (commitOwn s n keys mk) := by
  unfold Machine.commitOwn
  refine .ite .stay ?_
  split
  · exact .stay
  · exact .wait

/-- With room for a commit and a tick that is not too early, the command waits. -/
theorem commitOwn_waits {n : Nat} {keys : List Nat} {mk : Nat → Commit} (hf : ¬ s.commitsFull = true)
    (ht : ¬ (s.tickParam n).isNone = true) : (commitOwn s n keys mk).2 = Reply.wait := by
  unfold Machine.commitOwn
  rw [if_neg hf]
  split
  · next h => exact absurd (by rw [h]; rfl) ht
  · rfl

/-! #### Commands of the tables in the order of the model -/

theorem AnswerLeaves.archiveLoad {h : Hdr} {b a c id : Nat} : AnswerLeaves op s (cmdArchiveLoad h b a c id s) :=
  .ite .stay (.ite .stay (.ok rfl))

theorem AnswerLeaves.archiveRead {h : Hdr} {b a c id : Nat} : AnswerLeaves op s (cmdArchiveRead h b a c id s) :=
  .ite .stay (.ite .stay .stay)

theorem AnswerLeaves.kernelLoad {h : Hdr} {a c id : Nat} : AnswerLeaves op s (cmdKernelLoad h a c id s) :=
  .ite .stay (.ite .stay (.ok rfl))

theorem AnswerLeaves.kernelRead {h : Hdr} {a c id : Nat} : AnswerLeaves op s (cmdKernelRead h a c id s) :=
  .ite .stay (.ite .stay .stay)

theorem AnswerLeaves.outputEnable {m id : Nat} : AnswerLeaves op s (cmdOutputEnable m id s) :=
  .ite .stay (.ite .stay (.ite .stay (.ite .stay (.ok rfl))))

theorem AnswerLeaves.outputDisable {m id : Nat} : AnswerLeaves op s (cmdOutputDisable m id s) :=
  .ite .stay (.ok rfl)

theorem AnswerLeaves.outputCommit {n id : Nat} : AnswerLeaves op s (cmdOutputCommit n id s) :=
  .ite .stay .commitOwn

theorem AnswerLeaves.readoutCommit {n id : Nat} : AnswerLeaves op s (cmdReadoutCommit n id s) :=
  .ite .stay .commitOwn

theorem AnswerLeaves.discRebase {h : Hdr} {n id : Nat} : AnswerLeaves op s (cmdDiscRebase h n id s) :=
  .ite .stay (.ite .stay .commitOwn)

theorem AnswerLeaves.discSeedStore {h : Hdr} {id : Nat} : AnswerLeaves op s (cmdDiscSeedStore h id s) :=
  .ite .stay (.ite .stay (.ite .stay (.ite .stay .work)))

theorem AnswerLeaves.discSeedRestore {h : Hdr} {id : Nat} : AnswerLeaves op s (cmdDiscSeedRestore h id s) :=
  .ite .stay (.ite .stay (.ite .stay .work))

theorem AnswerLeaves.appStart {a b c id : Nat} : AnswerLeaves op s (cmdAppStart a b c id s) := by
  unfold cmdAppStart
  refine .ite .stay (.ite .stay (.ite .stay (.ite .stay (.ite .stay (.ite .wait ?_)))))
  split
  · exact .stay
  · exact .wait

theorem AnswerLeaves.appStop {a b id : Nat} : AnswerLeaves op s (cmdAppStop a b id s) :=
  .ite .stay (.ite .stay (.ite .stay (.ite .stay (.ite .wait .wait))))

theorem AnswerLeaves.appRead {h : Hdr} {a id : Nat} : AnswerLeaves op s (cmdAppRead h a id s) :=
  .ite .stay (.ite .stay (.ite .stay (.ite .stay (.ok rfl))))

theorem AnswerLeaves.biasWrite {h : Hdr} {b f c id : Nat} {a : Bool} : AnswerLeaves op s (cmdBiasWrite h b f c a id s) :=
  .ite .stay (.ite .stay (.ite .stay (.ite (.ok rfl) (.ok rfl))))

theorem AnswerLeaves.biasStrobe {m id : Nat} : AnswerLeaves op s (cmdBiasStrobe m id s) :=
  .ite .stay .wait

theorem AnswerLeaves.biasClear {b id : Nat} : AnswerLeaves op s (cmdBiasClear b id s) :=
  .ite .stay (.ite .stay (.ok rfl))

theorem AnswerLeaves.biasCommit {n id : Nat} : AnswerLeaves op s (cmdBiasCommit n id s) :=
  .ite .stay (.ite .stay .commitOwn)

theorem AnswerLeaves.curStart {m n id : Nat} : AnswerLeaves op s (cmdCurStart m n id s) :=
  .ite .stay (.ite .stay (.ite .stay (.ite .stay (.ite .stay (.ite .stay (.ite .stay (.ok rfl)))))))

theorem AnswerLeaves.curStop {m n id : Nat} {a : Bool} : AnswerLeaves op s (cmdCurStop m n a id s) :=
  .ite .stay .wait

theorem AnswerLeaves.curBarrier {b m id : Nat} : AnswerLeaves op s (cmdCurBarrier b m id s) :=
  .ite .stay (.ite .stay (.ok rfl))

theorem AnswerLeaves.curReadback {h : Hdr} {c a n id : Nat} : AnswerLeaves op s (cmdCurReadback h c a n id s) :=
  .ite .stay (.ite .stay .stay)

theorem AnswerLeaves.curAccession {h : Hdr} {id : Nat} : AnswerLeaves op s (cmdCurAccession h id s) :=
  .ite .stay (.ite .stay (.ite .stay (.ite .stay (.ite .stay (.ite .stay .work)))))

theorem AnswerLeaves.calOutput {m id : Nat} : AnswerLeaves op s (cmdCalOutput m id s) :=
  .ite .stay (.ite .stay (.ite .stay .wait))

theorem AnswerLeaves.calInput {m id : Nat} : AnswerLeaves op s (cmdCalInput m id s) :=
  .ite .stay (.ite .stay .wait)

theorem AnswerLeaves.calBias {b id : Nat} : AnswerLeaves op s (cmdCalBias b id s) :=
  .ite .stay (.ite .stay (.ite .stay .wait))

theorem AnswerLeaves.calSysZero {i id : Nat} : AnswerLeaves op s (cmdCalSysZero i id s) := by
  unfold cmdCalSysZero
  refine .ite .stay ?_
  split
  · exact .stay
  · exact .wait

theorem AnswerLeaves.calSysFull {i a f id : Nat} : AnswerLeaves op s (cmdCalSysFull i a f id s) := by
  unfold cmdCalSysFull
  refine .ite .stay (.ite .stay ?_)
  split
  · exact .stay
  · exact .ite .wait .stay

theorem AnswerLeaves.calSysStore {m id : Nat} : AnswerLeaves op s (cmdCalSysStore m id s) :=
  .ite .stay (.ite .stay .work)

theorem AnswerLeaves.catCommit {h : Hdr} {n id : Nat} : AnswerLeaves 0x0901 s (cmdCatCommit h n id s) := by
  have hc : AnswerLeaves 0x0901 s (s.count 0x14 0 1, catReply (s.obj 0x10 0) (s.liveObj 0x10 0) h.extlen.toNat) :=
    fun _ _ => .inr (.inl ⟨.inr rfl, 0x14, 0, 1, rfl⟩)
  unfold cmdCatCommit
  dsimp only
  split
  · exact .stay
  · split
    · exact .stay
    · next hf ht => exact .ite hc (.ite .stay (.ok (congrArg Reply.status (commitOwn_waits hf ht))))

theorem AnswerLeaves.catGroup {m id : Nat} : AnswerLeaves op s (cmdCatGroup m id s) := .ok rfl

theorem AnswerLeaves.timeSwitch {d n id : Nat} {st : Bool} : AnswerLeaves op s (cmdTimeSwitch d st n id s) := by
  unfold cmdTimeSwitch
  refine .ite .stay (.ite .stay ?_)
  split
  · exact .stay
  · exact .wait

theorem AnswerLeaves.timeCaptureRead {h : Hdr} {u id : Nat} : AnswerLeaves op s (cmdTimeCaptureRead h u id s) :=
  .ite .stay (.ok rfl)

theorem AnswerLeaves.vitArm {m n id : Nat} : AnswerLeaves op s (cmdVitArm m n id s) :=
  .ite .stay (.ite .stay (.ite .stay (.ite .stay (.ite .stay (.ite .stay (.ite .stay (.ok rfl)))))))

theorem AnswerLeaves.vitTrigger {m id : Nat} : AnswerLeaves op s (cmdVitTrigger m id s) := .ite .stay (.ok rfl)

theorem AnswerLeaves.vitAbort {m id : Nat} : AnswerLeaves op s (cmdVitAbort m id s) := .ite .stay (.ok rfl)

theorem AnswerLeaves.cpLink {p u id : Nat} : AnswerLeaves op s (cmdCpLink p u id s) :=
  .ite .stay (.ite .stay (.ite (.ok rfl) .wait))

theorem AnswerLeaves.cpCommit {n id : Nat} : AnswerLeaves op s (cmdCpCommit n id s) := .ite .stay .commitOwn

theorem AnswerLeaves.frameOp {f o a id : Nat} : AnswerLeaves op s (cmdFrameOp f o a id s) :=
  .ite .stay (.ite .stay (.ok rfl))

theorem AnswerLeaves.frameCommit {n id : Nat} {k : Bool} : AnswerLeaves op s (cmdFrameCommit n k id s) :=
  .ite .stay .commitOwn

theorem AnswerLeaves.ldgSnap {n id : Nat} {p : Bool} : AnswerLeaves 0x0D01 s (cmdLdgSnap n p id s) := by
  have hc : AnswerLeaves 0x0D01 s (s.count 0x18 0 1, Reply.fail .ledgerHeld) :=
    fun _ _ => .inr (.inl ⟨.inl rfl, 0x18, 0, 1, rfl⟩)
  unfold cmdLdgSnap
  refine .ite hc (.ite .stay ?_)
  split
  · exact .stay
  · exact .wait

theorem AnswerLeaves.ldgRead {h : Hdr} {c f n id : Nat} : AnswerLeaves op s (cmdLdgRead h c f n id s) :=
  .ite .stay (.ite .stay (.ok rfl))

theorem AnswerLeaves.ldgRelease {id : Nat} : AnswerLeaves op s (cmdLdgRelease id s) := .ite (.ok rfl) .stay

theorem AnswerLeaves.surveyStart {m n id : Nat} : AnswerLeaves op s (cmdSurveyStart m n id s) := by
  unfold cmdSurveyStart
  refine .ite .stay (.ite .stay (.ite .stay (.ite .stay (.ite .stay (.ite .stay ?_)))))
  split
  · exact .stay
  · exact .ok rfl

theorem AnswerLeaves.surveyStop {m n id : Nat} : AnswerLeaves op s (cmdSurveyStop m n id s) :=
  .ite .stay (.ite .stay .wait)

theorem AnswerLeaves.pwrDomain {h : Hdr} {m o id : Nat} : AnswerLeaves op s (cmdPwrDomain h m o id s) :=
  .ite .stay (.ite .stay (.ite .stay (.ite .stay .work)))

theorem AnswerLeaves.pwrState {n id : Nat} : AnswerLeaves op s (cmdPwrState n id s) :=
  .ite .stay (.ite .stay (.ite .stay (.ite .stay (.ite (.ite .stay (.ok rfl))
    (.ite (.ite .stay (.ite .stay .work)) (.ite .work (.ite .work .work)))))))

theorem AnswerLeaves.resume {id : Nat} : AnswerLeaves op s (cmdResume id s) := .ite .stay (.ite .stay (.ok rfl))

theorem AnswerLeaves.objRead {h : Hdr} {c n o l id : Nat} : AnswerLeaves op s (cmdObjRead h c n o l id s) :=
  .ite .stay (.ite .stay (.ite .stay (.ite .stay (.ite .stay .stay))))

theorem AnswerLeaves.writeObj {sec : Bool} {c n d m : Nat} : AnswerLeaves op s (s.writeObj sec c n d m) := by
  unfold State.writeObj
  dsimp only
  split
  · exact .stay
  · exact .ok rfl

theorem AnswerLeaves.objWrite {h : Hdr} {c n o l d id : Nat} : AnswerLeaves op s (cmdObjWrite h c n o l d id s) :=
  .ite .stay (.ite .stay (.ite .stay (.ite .stay (.ite .stay .writeObj))))

theorem AnswerLeaves.fieldWrite {h : Hdr} {c n id : Nat} {l : List (Field × Nat)} :
    AnswerLeaves op s (cmdFieldWrite h c n l id s) := .ite .stay .writeObj

theorem AnswerLeaves.secPolicy {p : Bool} {id : Nat} : AnswerLeaves op s (cmdSecPolicy p id s) :=
  .ite .stay (.ite .stay .work)

theorem AnswerLeaves.secKeyLoad {h : Hdr} {n id : Nat} : AnswerLeaves op s (cmdSecKeyLoad h n id s) :=
  .ite .stay (.ite .stay (.ite .stay .work))

theorem AnswerLeaves.secFwUpdate {h : Hdr} {id : Nat} : AnswerLeaves op s (cmdSecFwUpdate h id s) :=
  .ite .stay (.ite .stay (.ite .stay .work))

/-- A wrong signature uses up the nonce; the debug unit, which was closed, stays so. -/
theorem AnswerLeaves.secDebugUnlock {h : Hdr} {id : Nat} : AnswerLeaves 0x1004 s (cmdSecDebugUnlock h id s) := by
  unfold cmdSecDebugUnlock
  refine .ite .stay ?_
  split
  · exact .stay
  · next hs =>
    dsimp only
    generalize ecdsaVerify _ _ _ _ _ = ok
    intro _ hn
    cases ok with
    | true => exact absurd rfl hn
    | false =>
      have hd : s.bt.debugOpen = false := by simpa using fun h => hs (.inr h)
      exact .inr (.inr ⟨rfl, s.draw.1, s.draw.2.free, by simp [State.draw, hd]⟩)

theorem AnswerLeaves.sysReset {k id : Nat} : AnswerLeaves op s (cmdSysReset k id s) := .ite .stay (.ok rfl)

theorem AnswerLeaves.sysNotify {h : Hdr} {r id : Nat} : AnswerLeaves op s (cmdSysNotify h r id s) := by
  unfold cmdSysNotify
  refine .ite .stay ?_
  split
  · exact .stay
  · exact .ite .stay (.ok rfl)

theorem AnswerLeaves.ringAssign {h : Hdr} {n o id : Nat} : AnswerLeaves op s (cmdRingAssign h n o id s) := by
  unfold cmdRingAssign
  split
  · exact .stay
  · exact .ite .stay (.ite .stay (.ite .stay (.ok rfl)))

/-- What an answer of the command leaves, by the table of commands. -/
theorem runCommand_answerLeaves (i : Instr) (id : Nat) (s : State) : AnswerLeaves i.opcode s (runCommand i id s) := by
  cases i with
  | sysNop => exact .stay
  | sysIdentify => exact .stay
  | objRead => exact .objRead (id := id)
  | objWrite => exact .objWrite (id := id)
  | sysReset => exact .sysReset (id := id)
  | sysNotify => exact .sysNotify (id := id)
  | sysCancel => exact .ok rfl
  | ringAssign => exact .ringAssign (id := id)
  | pwrState => exact .pwrState (id := id)
  | pwrDomain => exact .pwrDomain (id := id)
  | timeRead => exact .stay
  | timeSetEpoch => exact .ok rfl
  | timeSwitch => exact .timeSwitch (id := id)
  | timeCaptureRead => exact .timeCaptureRead (id := id)
  | archiveLoad => exact .archiveLoad (id := id)
  | archiveRead => exact .archiveRead (id := id)
  | kernelLoad => exact .kernelLoad (id := id)
  | kernelRead => exact .kernelRead (id := id)
  | outputEnable => exact .outputEnable (id := id)
  | outputDisable => exact .outputDisable (id := id)
  | outputCommit => exact .outputCommit (id := id)
  | curAccession => exact .curAccession (id := id)
  | curReadback => exact .curReadback (id := id)
  | curStart => exact .curStart (id := id)
  | curStop => exact .curStop (id := id)
  | curBarrier => exact .curBarrier (id := id)
  | frameOp => exact .frameOp (id := id)
  | frameCommit => exact .frameCommit (id := id)
  | readoutCommit => exact .readoutCommit (id := id)
  | discRebase => exact .discRebase (id := id)
  | discSeedStore => exact .discSeedStore (id := id)
  | discSeedRestore => exact .discSeedRestore (id := id)
  | biasWrite => exact .biasWrite (id := id)
  | biasStrobe => exact .biasStrobe (id := id)
  | biasClear => exact .biasClear (id := id)
  | biasCommit => exact .biasCommit (id := id)
  | catCommit => exact .catCommit (id := id)
  | catGroup => exact .catGroup (id := id)
  | vitArm => exact .vitArm (id := id)
  | vitTrigger => exact .vitTrigger (id := id)
  | vitAbort => exact .vitAbort (id := id)
  | calOutput => exact .calOutput (id := id)
  | calInput => exact .calInput (id := id)
  | calBias => exact .calBias (id := id)
  | calSysZero => exact .calSysZero (id := id)
  | calSysFull => exact .calSysFull (id := id)
  | calSysStore => exact .calSysStore (id := id)
  | resume => exact .resume (id := id)
  | ldgSnap => exact .ldgSnap (id := id)
  | ldgRead => exact .ldgRead (id := id)
  | ldgRelease => exact .ldgRelease (id := id)
  | ldgStatus => exact .stay
  | surveyStart => exact .surveyStart (id := id)
  | surveyStop => exact .surveyStop (id := id)
  | cpLink => exact .cpLink (id := id)
  | cpCommit => exact .cpCommit (id := id)
  | secPolicy => exact .secPolicy (id := id)
  | secKeyLoad => exact .secKeyLoad (id := id)
  | secFwUpdate => exact .secFwUpdate (id := id)
  | secDebugUnlock => exact .secDebugUnlock (id := id)
  | appStart => exact .appStart (id := id)
  | appStop => exact .appStop (id := id)
  | appRead => exact .appRead (id := id)
  | inputEn => exact .fieldWrite (id := id)
  | fsc => exact .fieldWrite (id := id)
  | bankEn => exact .fieldWrite (id := id)
  | tpEn => exact .fieldWrite (id := id)
  | slewEn => exact .fieldWrite (id := id)
  | domEn => exact .fieldWrite (id := id)
  | ethMode => exact .fieldWrite (id := id)
  | inputCode => exact .fieldWrite (id := id)
  | _ => exact .stay

/-- Settles O58: what a refusal leaves, component by component. -/
theorem refusedCommandsChangeNoUnit : Obligations.RefusedCommandsChangeNoUnit := by
  intro i id s r hl hn
  obtain h | ⟨ho, c, n, e, h⟩ | ⟨ho, v, f, h⟩ := runCommand_answerLeaves i id s hl hn
  · change r.1 = s at h
    rw [h]
    exact ⟨rfl, rfl, rfl, rfl, rfl, rfl, rfl, rfl, rfl, rfl, rfl, rfl, rfl, rfl, rfl, rfl, rfl, rfl, rfl, rfl, rfl, rfl, rfl,
      rfl, fun _ _ => rfl, rfl, fun _ => rfl⟩
  · change r.1 = s.count c n e at h
    rw [h]
    exact ⟨rfl, rfl, rfl, rfl, rfl, rfl, rfl, rfl, rfl, rfl, rfl, rfl, rfl, rfl, rfl, rfl, rfl, rfl, rfl, rfl, rfl, rfl, rfl,
      rfl, fun h1 h2 => absurd ho (by simp [h1, h2]), rfl, fun _ => rfl⟩
  · change r.1 = _ at h
    rw [h]
    exact ⟨rfl, rfl, rfl, rfl, rfl, rfl, rfl, rfl, rfl, rfl, rfl, rfl, rfl, rfl, rfl, rfl, rfl, rfl, rfl, rfl, rfl, rfl, rfl,
      rfl, fun _ _ => rfl, rfl, fun h1 => absurd ho h1⟩

end Sys2Proof.Machine
end

/-! ### Calibration ends and background work (R304, R468 to R481) -/

section
namespace Sys2Proof.Machine

/-! #### The job that is due -/

theorem State.jobDue_single {s : State} {j : CalJob} {kinds : List Nat} (hj : s.cal.jobs = [j]) (he : j.endAt ≤ s.tick)
    (hk : kinds.contains j.kind = true) : s.jobDue kinds = some j := by
  rw [State.jobDue, hj, List.find?_cons_of_pos (by rw [hk, decide_eq_true he]; rfl)]

theorem State.jobDue_none {s : State} {kinds : List Nat} (h : ∀ j ∈ s.cal.jobs, s.tick < j.endAt) :
    s.jobDue kinds = none := by
  rw [State.jobDue, List.find?_eq_none]
  intro j hj
  have := h j hj
  simp only [Bool.and_eq_true, decide_eq_true_eq, not_and]
  omega

theorem calEnds_none {s : State} (h : ∀ j ∈ s.cal.jobs, s.tick < j.endAt) :
    exec .calOutputEnd s = .next s ∧ exec .calInputEnd s = .next s ∧ exec .calBiasEnd s = .next s ∧
      exec .sysMeasurementEnd s = .next s := by
  refine ⟨congrArg Host.Outcome.next ?_, congrArg Host.Outcome.next ?_, congrArg Host.Outcome.next ?_,
    congrArg Host.Outcome.next ?_⟩
  · rw [State.calOutputEnd, State.jobDue_none h]
  · rw [State.calInputEnd, State.jobDue_none h]
  · rw [State.calBiasEnd, State.jobDue_none h]
  · rw [State.sysMeasurementEnd, State.jobDue_none h]

/-- A foreground calibration's end: inputs and banks return, and the job is completed. -/
theorem foregroundEnds {s : State} {j : CalJob} (hj : s.cal.jobs = [j]) (he : j.endAt ≤ s.tick) :
    (j.kind = 0 → s.calOutputEnd = s.completeJob j) ∧
    (j.kind = 1 → s.calInputEnd = ((setPositions (clearMask j.mask j.fail) 32).foldl
      (fun t i => if t.inputState i = 4 then t.setF Fld.input.state i 3 else t) s).completeJob j) ∧
    (j.kind = 2 → s.calBiasEnd =
      ((setPositions (clearMask j.mask j.fail) 4).foldl State.bankCalEnd s).completeJob j) := by
  refine ⟨fun hk => ?_, fun hk => ?_, fun hk => ?_⟩
  · rw [State.calOutputEnd, State.jobDue_single hj he (by rw [hk]; rfl)]
  · rw [State.calInputEnd, State.jobDue_single hj he (by rw [hk]; rfl)]
  · rw [State.calBiasEnd, State.jobDue_single hj he (by rw [hk]; rfl)]

/-! #### System measurements -/

theorem State.sysMeasurementEnd_zero {s : State} {j : CalJob} (hj : s.cal.jobs = [j]) (he : j.endAt ≤ s.tick)
    (hk : j.kind = 3) : s.sysMeasurementEnd =
      ((s.setF Fld.appraiser.state (atOfInput ((setPositions j.mask 32).headD 0)) 0).dropJob j.id).zeroEnd
        ((setPositions j.mask 32).headD 0) j.id (decide (s.inputState ((setPositions j.mask 32).headD 0) = 3)) := by
  rw [State.sysMeasurementEnd, State.jobDue_single hj he (by rw [hk]; rfl)]
  exact if_pos hk

theorem State.sysMeasurementEnd_full {s : State} {j : CalJob} (hj : s.cal.jobs = [j]) (he : j.endAt ≤ s.tick)
    (hk : j.kind = 4) : s.sysMeasurementEnd =
      ((s.setF Fld.appraiser.state (atOfInput ((setPositions j.mask 32).headD 0)) 0).dropJob j.id).fullEnd
        ((setPositions j.mask 32).headD 0) j.id (decide (s.inputState ((setPositions j.mask 32).headD 0) = 3)) := by
  rw [State.sysMeasurementEnd, State.jobDue_single hj he (by rw [hk]; rfl)]
  exact if_neg (by omega)

theorem State.zeroEnd_eq {s : State} {m i : Nat} {w : Nat × Nat × Nat} (hm : s.free = m)
    (hw : s.inputSet i = w) (id : Nat) {p : Prop} [Decidable p] : s.zeroEnd i id (decide p) =
      if p ∧ Config.calPasses m = true ∧ (Config.calOffset m).natAbs ≤ 100 then
        ({ s.draw.2.dropZero i with cal := { (s.draw.2.dropZero i).cal with
          zeros := (i, w, Config.calOffset m) :: (s.draw.2.dropZero i).cal.zeros } }
          ).completeId id Reply.ok
      else s.draw.2.completeId id (Reply.fail .calFail) := by
  subst hm hw
  simp only [State.zeroEnd, State.draw, decide_eq_true_eq]
  rfl

theorem State.fullEnd_eq {s : State} {m : Nat} {zs : List (Nat × (Nat × Nat × Nat) × Int)} (hm : s.free = m)
    (hz : s.cal.zeros = zs) (i id : Nat) {p : Prop} [Decidable p] :
    s.fullEnd i id (decide p) =
      if p ∧ (Config.calDifference m).natAbs ≤ 300 then
        ((s.draw.2.dropZero i).setCorrection i (Config.calDifference m)
          (((zs.find? (fun z => decide (z.1 = i))).map (fun z => z.2.2)).getD 0)).completeId id Reply.ok
      else (s.draw.2.dropZero i).completeId id (Reply.fail .calFail) := by
  subst hm hz
  simp only [State.fullEnd, State.zeroOf, State.draw, decide_eq_true_eq]

theorem State.setF_dropJob_free (s : State) (f : Field) (n v id : Nat) : ((s.setF f n v).dropJob id).free = s.free := rfl

theorem State.setF_dropJob_inputSet (s : State) (f : Field) (n v id i : Nat) :
    ((s.setF f n v).dropJob id).inputSet i = s.inputSet i := rfl

theorem State.setF_dropJob_zeros (s : State) (f : Field) (n v id : Nat) :
    ((s.setF f n v).dropJob id).cal.zeros = s.cal.zeros := rfl

/-! #### Trims -/

theorem State.trimOf_cal (s t : State) (h : t.cal.trims = s.cal.trims) (k : Nat) : t.trimOf k = s.trimOf k := by
  rw [State.trimOf, State.trimOf, h]

/-- Tracking leaves a trim for 1,000,000 ticks, and else moves it by one step or not at all. -/
theorem State.trimOf_trackTrim (s : State) (k : Nat) :
    ((s.trackTrim k).trimOf k = s.trimOf k ∨ (s.trackTrim k).trimOf k = (s.trimOf k + 1) % 2 ^ 16 ∨
      (s.trackTrim k).trimOf k = (s.trimOf k + (2 ^ 16 - 1)) % 2 ^ 16) := by
  unfold State.trackTrim
  dsimp only
  split
  · exact .inl rfl
  · split
    · exact .inl rfl
    · refine .inr ?_
      rw [State.trimOf, sget_sset_same]
      split
      · exact .inl rfl
      · exact .inr rfl

theorem State.trimOf_trackTrim_other (s : State) {k m : Nat} (hm : m ≠ k) :
    (s.trackTrim k).trimOf m = s.trimOf m := by
  unfold State.trackTrim
  dsimp only
  split
  · rfl
  · split
    · rfl
    · rw [State.trimOf, sget_sset_other _ _ _ _ _ hm]
      rfl

/-! #### The obligation -/

theorem State.rotateSource_due {s : State} {o : Nat} (hp : s.powered (domDT (dtOfOutput o)) = true)
    (hs : s.getF Fld.output.state o = 2) (hl : sget (fun _ => 0) s.drv.lastRot o = 0)
    (hq : sget (fun _ => 0) s.drv.lastPlaying o = 0) (hn : s.drv.plays = []) :
    s.rotateSource o = { s with drv := { s.drv with
      lastRot := sset (fun _ => 0) s.drv.lastRot o (s.tick + 1)
      rotations := sset (fun _ => 0) s.drv.rotations o (sget (fun _ => 0) s.drv.rotations o + 1) } } :=
  if_pos ⟨hp, hs, .inl hl, .inl hq, by rw [hn]; rfl⟩

/-- Settles O55: the job that is due by kind, the trims by their sparse store. -/
theorem calibrationsEndAndBackgroundWorkIsNoted : Obligations.CalibrationsEndAndBackgroundWorkIsNoted := by
  refine ⟨fun j s hj he => ?_, fun i diff off s => ⟨rfl, List.mem_cons_self .., rfl, rfl, rfl⟩, fun s h => calEnds_none h,
    fun i s => ⟨fun h => ?_, fun hp hr => ⟨fun hc => ?_, fun hc => ?_⟩⟩, fun k s hw => ⟨fun h0 h1 => if_pos ⟨h0, h1⟩,
      s.trimOf_trackTrim k, fun m hm => s.trimOf_trackTrim_other hm⟩, fun o s hp hs hl hq hn => ?_⟩
  · obtain ⟨h0, h1, h2⟩ := foregroundEnds hj he
    refine ⟨fun hk => congrArg Host.Outcome.next (h0 hk), fun hk => congrArg Host.Outcome.next (h1 hk),
      fun hk => congrArg Host.Outcome.next (h2 hk), fun hk => congrArg Host.Outcome.next ?_,
      fun hk => congrArg Host.Outcome.next ?_⟩
    · exact (State.sysMeasurementEnd_zero hj he hk).trans
        (State.zeroEnd_eq (State.setF_dropJob_free ..) (State.setF_dropJob_inputSet ..) _)
    · exact (State.sysMeasurementEnd_full hj he hk).trans
        (State.fullEnd_eq (State.setF_dropJob_free ..) (State.setF_dropJob_zeros ..) _ _)
  · refine congrArg Host.Outcome.next (if_neg ?_)
    rintro ⟨hp, hr⟩
    rcases h with h | h
    · exact absurd hp (by rw [show domAT (atOfInput i.val) = domAT (i.val / 4) from rfl, h]; simp)
    · exact h hr
  · refine congrArg Host.Outcome.next ((if_pos ⟨hp, hr⟩).trans (if_neg ?_))
    exact (by rw [hc]; simp : ¬ Config.choice s.free = true)
  · exact congrArg Host.Outcome.next ((if_pos ⟨hp, hr⟩).trans (if_pos hc))
  · exact congrArg Host.Outcome.next (State.rotateSource_due hp hs hl hq hn)

end Sys2Proof.Machine
end

/-! ### What keeps raw time and the power unit (R309, R449)

The operations under a power-off, a lost PLL and a reset write neither raw time nor the power unit, and those of a reset not the time
reference or the bias unit either. As for the canonical stores, one lemma per operation. -/

section
namespace Sys2Proof.Machine

/-- `s` has the raw time and the power unit of `ref` and, where `wide` is true, its time reference and bias unit. -/
structure State.Core (s : State) (wide : Bool) (ref : State) : Prop where
  raw : s.raw = ref.raw
  pw : s.pw = ref.pw
  rest : wide = true → s.tm = ref.tm ∧ s.bi = ref.bi

variable {q : Bool} {ref s t : State}

theorem State.Core.refl : s.Core q s := ⟨rfl, rfl, fun _ => ⟨rfl, rfl⟩⟩

theorem State.Core.same (hs : s.Core q ref) (hr : t.raw = s.raw) (hp : t.pw = s.pw) (ht : t.tm = s.tm) (hb : t.bi = s.bi) :
    t.Core q ref :=
  ⟨hr.trans hs.raw, hp.trans hs.pw, fun h => ⟨ht.trans (hs.rest h).1, hb.trans (hs.rest h).2⟩⟩

theorem State.Core.narrow (hs : s.Core q ref) (hr : t.raw = s.raw) (hp : t.pw = s.pw) : t.Core false ref :=
  ⟨hr.trans hs.raw, hp.trans hs.pw, nofun⟩

theorem State.Core.ofLeaves (h : LeavesUnits s t) (hs : s.Core q ref) : t.Core q ref := .same hs h.raw h.pw h.tm h.bi

theorem State.Core.setObj {k n v : Nat} (hs : s.Core q ref) : (s.setObj k n v).Core q ref := .same hs rfl rfl rfl rfl

theorem State.Core.setF {f : Field} {n v : Nat} (hs : s.Core q ref) : (s.setF f n v).Core q ref := .same hs rfl rfl rfl rfl

theorem State.Core.setLiveObj {k n v : Nat} (hs : s.Core q ref) : (s.setLiveObj k n v).Core q ref := .same hs rfl rfl rfl rfl

theorem State.Core.changeLive {k n v : Nat} {b : Bool} (hs : s.Core q ref) : (s.changeLive k n v b).Core q ref :=
  .same hs rfl rfl rfl rfl

theorem State.Core.raise {f : Field} {n : Nat} (hs : s.Core q ref) : (s.raise f n).Core q ref := .same hs rfl rfl rfl rfl

theorem State.Core.setStored {k v : Nat} (hs : s.Core q ref) :
    ({ s with objs := sset objDefault s.objs k v } : State).Core q ref := .same hs rfl rfl rfl rfl

theorem State.Core.countN {k n e x : Nat} (hs : s.Core q ref) : (s.countN k n e x).Core q ref :=
  .ofLeaves (leavesUnits_countN ..) hs

theorem State.Core.count {k n e : Nat} (hs : s.Core q ref) : (s.count k n e).Core q ref := .countN hs

theorem State.Core.foldl {α : Type} {f : State → α → State} {l : List α} (hf : ∀ u x, u.Core q ref → (f u x).Core q ref)
    (hs : s.Core q ref) : (l.foldl f s).Core q ref := by
  induction l generalizing s with
  | nil => exact hs
  | cons x l ih => exact ih (hf s x hs)

theorem State.Core.foldl_snd {α β : Type} {f : β × State → α → β × State} {l : List α} {a : β × State}
    (hf : ∀ a x, a.2.Core q ref → (f a x).2.Core q ref) (ha : a.2.Core q ref) : (l.foldl f a).2.Core q ref := by
  induction l generalizing a with
  | nil => exact ha
  | cons x l ih => exact ih (hf a x ha)

theorem State.Core.ite {p : Prop} [Decidable p] (hs : s.Core q ref) (ht : t.Core q ref) : (if p then s else t).Core q ref := by
  split
  · exact hs
  · exact ht

theorem State.Core.ite_snd {α : Type} {p : Prop} [Decidable p] {a b : α × State} (ha : a.2.Core q ref) (hb : b.2.Core q ref) :
    (if p then a else b).2.Core q ref := by
  split
  · exact ha
  · exact hb

theorem State.Core.withRd {g : RdGroup} (hs : s.Core q ref) : ({ s with rd := g } : State).Core q ref :=
  .same hs rfl rfl rfl rfl

theorem State.Core.withDrv {g : DrvGroup} (hs : s.Core q ref) : ({ s with drv := g } : State).Core q ref :=
  .same hs rfl rfl rfl rfl

theorem State.Core.withHost {g : HostGroup} (hs : s.Core q ref) : ({ s with host := g } : State).Core q ref :=
  .same hs rfl rfl rfl rfl

theorem State.Core.withCmd {g : CmdGroup} (hs : s.Core q ref) : ({ s with cmd := g } : State).Core q ref :=
  .same hs rfl rfl rfl rfl

theorem State.Core.withEth {g : EthGroup} (hs : s.Core q ref) : ({ s with eth := g } : State).Core q ref :=
  .same hs rfl rfl rfl rfl

theorem State.Core.withBi {g : BiGroup} (hs : s.Core q ref) : ({ s with bi := g } : State).Core false ref :=
  .narrow hs rfl rfl

theorem State.Core.withTm {g : TmGroup} (hs : s.Core q ref) : ({ s with tm := g } : State).Core false ref :=
  .narrow hs rfl rfl

theorem State.Core.markNow {key mask : Nat} (hs : s.Core q ref) : (s.markNow key mask).Core q ref :=
  .ofLeaves (leavesUnits_markNow ..) hs

theorem State.Core.nextSeq {src : Nat} (hs : s.Core q ref) : (s.nextSeq src).2.Core q ref := by
  rw [State.nextSeq]
  exact .count hs

theorem State.Core.draw (hs : s.Core q ref) : s.draw.2.Core q ref := by
  rw [State.draw]
  exact .same hs rfl rfl rfl rfl

theorem State.Core.rememberPower {d : Nat} {lost : List (Nat × Nat)} (hs : s.Core q ref) :
    (s.rememberPower d lost).Core q ref := by
  rw [State.rememberPower]
  exact .same hs rfl rfl rfl rfl

theorem State.Core.markLost {src : Nat} (hs : s.Core q ref) : (s.markLost src).Core q ref :=
  .ofLeaves (leavesUnits_markLost ..) hs

theorem State.Core.capturesLost {units : Nat} (hs : s.Core q ref) : (s.capturesLost units).Core q ref :=
  .ofLeaves (leavesUnits_capturesLost ..) hs

theorem State.Core.clearLost {src : Nat} (hs : s.Core q ref) : (s.clearLost src).Core q ref := by
  rw [State.clearLost]
  exact .same hs rfl rfl rfl rfl

theorem State.Core.emit {o : Outgoing} (hs : s.Core q ref) : (s.emit o).Core q ref :=
  .ofLeaves (leavesUnits_emit ..) hs

theorem State.Core.busyDrop {t : Nat} (hs : s.Core q ref) : (s.busyDrop t).Core q ref := by
  rw [State.busyDrop]
  exact .count (.raise hs)

theorem State.Core.delivered {t : Nat} (hs : s.Core q ref) : (s.delivered t).Core q ref := by
  rw [State.delivered]
  exact .count hs

theorem State.Core.reachInput {t r st : Nat} (hs : s.Core q ref) : (s.reachInput t r st).Core q ref := by
  rw [State.reachInput]
  exact .same hs rfl rfl rfl rfl

theorem State.Core.forkEvent {row r : Nat} {ball : Option Nat} (hs : s.Core q ref) :
    (s.forkEvent row r ball).Core q ref := by
  rw [State.forkEvent]
  exact .foldl (fun _ _ hu => .reachInput (.draw hu)) hs

theorem State.Core.gate {p r : Nat} (hs : s.Core q ref) : (s.gate p r).2.Core q ref := by
  rw [State.gate]
  exact .ite_snd (.draw hs) hs

theorem State.Core.fireAt {p r : Nat} {ball : Option Nat} (hs : s.Core q ref) : (s.fireAt p r ball).Core q ref := by
  rw [State.fireAt]
  exact .ite hs
    (.ite (.count (.raise hs))
      (.ite (.count (.gate (.count (.same hs rfl rfl rfl rfl)))) (.forkEvent (.gate (.count (.same hs rfl rfl rfl rfl))))))

theorem State.Core.fire {p : Nat} (hs : s.Core q ref) : (s.fire p).Core q ref := by
  rw [State.fire]
  exact .fireAt hs

theorem State.Core.setMbox {m : Nat} {b : Mbox} (hs : s.Core q ref) : (s.setMbox m b).Core q ref :=
  .ofLeaves (leavesUnits_setMbox ..) hs

theorem State.Core.mbCause {m kind : Nat} (hs : s.Core q ref) : (s.mbCause m kind).Core q ref :=
  .ofLeaves (leavesUnits_mbCause ..) hs

theorem State.Core.ringLost {n k : Nat} (hs : s.Core q ref) : (s.ringLost n k).Core q ref :=
  .ofLeaves (leavesUnits_ringLost ..) hs

theorem State.Core.ringProduce {n : Nat} {entry : List Byte} {tag : Nat} (hs : s.Core q ref) :
    (s.ringProduce n entry tag).1.Core q ref :=
  .ofLeaves (leavesUnits_ringProduce ..) hs

theorem State.Core.dropMessages {gone : Nat × List Byte → Bool} (hs : s.Core q ref) :
    (s.dropMessages gone).Core q ref := by
  rw [State.dropMessages]
  exact .foldl (fun _ _ hu => .capturesLost hu) (.same hs rfl rfl rfl rfl)

theorem State.Core.notice {code r1 r2 r3 : Nat} (hs : s.Core q ref) : (s.notice code r1 r2 r3).Core q ref :=
  .ofLeaves (leavesUnits_notice ..) hs

theorem State.Core.h2dExpire {m : Nat} (hs : s.Core q ref) : (s.h2dExpire m).Core q ref := by
  rw [State.h2dExpire]
  exact .ite (.mbCause (.count (.markNow (.setMbox hs)))) hs

theorem State.Core.d2hExpire {m : Nat} (hs : s.Core q ref) : (s.d2hExpire m).Core q ref := by
  rw [State.d2hExpire]
  exact .ite (.count (.setMbox hs)) hs

theorem State.Core.h2dWithdraw {m : Nat} (hs : s.Core q ref) : (s.h2dWithdraw m).Core q ref := by
  rw [State.h2dWithdraw]
  exact .ite (.mbCause (.count (.markNow (.setMbox (.h2dExpire hs))))) hs

theorem State.Core.d2hWithdraw {m : Nat} (hs : s.Core q ref) : (s.d2hWithdraw m).Core q ref := by
  rw [State.d2hWithdraw]
  exact .ite (.mbCause (.count (.markNow (.setMbox (.d2hExpire hs))))) hs

theorem State.Core.completeId {id : Nat} {rep : Reply} (hs : s.Core q ref) : (s.completeId id rep).Core q ref :=
  .ofLeaves (leavesUnits_completeId ..) hs

theorem State.Core.setCmd {id mask res : Nat} (hs : s.Core q ref) : (s.setCmd id mask res).Core q ref :=
  .ofLeaves (leavesUnits_setCmd ..) hs

theorem State.Core.frameSent {e : TxEntry} (hs : s.Core q ref) : (s.frameSent e).Core q ref := by
  rw [State.frameSent]
  exact .ite (.emit hs) (.countN (.emit hs))

theorem State.Core.streamLost {src : Nat} (hs : s.Core q ref) : (s.streamLost src).Core q ref := by
  rw [State.streamLost]
  split
  · exact .markLost hs
  · exact .same hs rfl rfl rfl rfl

theorem State.Core.frameDropped {e : TxEntry} (hs : s.Core q ref) : (s.frameDropped e).Core q ref := by
  unfold State.frameDropped
  split
  · exact .ite (.capturesLost (.withEth (.raise hs))) (.streamLost (.countN (.raise hs)))
  · exact hs

theorem State.Core.ethSend {e : TxEntry} (hs : s.Core q ref) : (s.ethSend e).Core q ref := by
  rw [State.ethSend]
  exact .ite (.frameDropped hs)
    (.ite (.frameSent hs) (.ite (.frameDropped (.draw hs)) (.same (.draw hs) rfl rfl rfl rfl)))

theorem State.Core.dropQueue (hs : s.Core q ref) : s.dropQueue.Core q ref := by
  rw [State.dropQueue]
  exact .foldl (fun _ _ hu => .frameDropped hu) (.same hs rfl rfl rfl rfl)

theorem State.Core.masterLost (hs : s.Core q ref) : s.masterLost.Core q ref := by
  rw [State.masterLost]
  exact .foldl (fun _ _ hu => .changeLive (.foldl (fun _ _ hu2 => .ite (.changeLive hu2) hu2) hu))
    (.same hs rfl rfl rfl rfl)

theorem State.Core.faultMute {point : Nat} (hs : s.Core q ref) : (s.faultMute point).Core q ref := by
  rw [State.faultMute]
  exact .foldl (fun _ _ hu => .ite (.count (.setF (.raise (.setF (.draw hu))))) hu) hs

theorem State.Core.slotPowerUp {slot : Nat} (hs : s.Core q ref) : (s.slotPowerUp slot).Core q ref := by
  rw [State.slotPowerUp]
  exact .ite hs (.ite (.changeLive (.setF hs)) hs)

theorem State.Core.setFrames {rc : Nat} {l : List (Nat × Nat)} (hs : s.Core q ref) : (s.setFrames rc l).Core q ref := by
  rw [State.setFrames]
  exact .same hs rfl rfl rfl rfl

theorem State.Core.dropFrames {rc : Nat} {starts : List Nat} (hs : s.Core q ref) :
    (s.dropFrames rc starts).Core q ref := by
  rw [State.dropFrames]
  exact .setFrames hs

theorem State.Core.abandon {rc : Nat} {p : Win → Bool} (hs : s.Core q ref) : (s.abandon rc p).Core q ref := by
  rw [State.abandon]
  exact .ite hs (.countN (.raise (.dropFrames (.same hs rfl rfl rfl rfl))))

theorem State.Core.abandonInput {i : Nat} (hs : s.Core q ref) : (s.abandonInput i).Core q ref := by
  rw [State.abandonInput]
  exact .foldl (fun _ _ hu => .abandon hu) hs

theorem State.Core.setNv {key : Nat} {r : NvRec} (hs : s.Core q ref) : (s.setNv key r).Core q ref := by
  rw [State.setNv]
  exact .same hs rfl rfl rfl rfl

theorem State.Core.nvWrite {key len body : Nat} (hs : s.Core q ref) : (s.nvWrite key len body).Core q ref := by
  rw [State.nvWrite]
  exact .setNv hs

theorem State.Core.nvSpoil {key len body : Nat} (hs : s.Core q ref) : (s.nvSpoil key len body).Core q ref := by
  rw [State.nvSpoil]
  exact .setNv hs

theorem State.Core.setCpRt {p : Nat} {r : CpRt} (hs : s.Core q ref) : (s.setCpRt p r).Core q ref := by
  rw [State.setCpRt]
  exact .same hs rfl rfl rfl rfl

theorem State.Core.storeSeeds {l : List (Nat × Nat)} (hs : s.Core q ref) : (s.storeSeeds l).Core q ref := by
  rw [State.storeSeeds]
  exact .foldl (fun _ _ hu => .nvWrite hu) hs

theorem State.Core.storePart {w : Timed} (hs : s.Core q ref) : (s.storePart w).Core q ref := by
  rw [State.storePart]
  exact .storeSeeds (.draw hs)

theorem State.Core.stillBank {k : Nat} (hs : s.Core false ref) : (s.stillBank k).Core false ref := by
  unfold State.stillBank
  exact .withBi (.foldl (fun _ _ hu => .setF (.setF hu)) hs)

theorem State.Core.dropBankWork {k : Nat} (hs : s.Core false ref) : (s.dropBankWork k).Core false ref := by
  rw [State.dropBankWork]
  exact .narrow hs rfl rfl

theorem State.Core.dropJob {id : Nat} (hs : s.Core q ref) : (s.dropJob id).Core q ref := by
  rw [State.dropJob]
  exact .same hs rfl rfl rfl rfl

theorem State.Core.failUnit {kind u : Nat} (hs : s.Core q ref) : (s.failUnit kind u).Core q ref := by
  rw [State.failUnit]
  exact .same hs rfl rfl rfl rfl

theorem State.Core.endEmptyJobs (hs : s.Core q ref) : s.endEmptyJobs.Core q ref := by
  rw [State.endEmptyJobs]
  exact .foldl (fun _ _ hu => .completeId (.dropJob hu)) hs

theorem State.Core.calBiasFail {k : Nat} (hs : s.Core q ref) : (s.calBiasFail k).Core q ref := by
  rw [State.calBiasFail]
  exact .endEmptyJobs (.failUnit hs)

theorem State.Core.bankPowerOff {k : Nat} (hs : s.Core false ref) : (s.bankPowerOff k).Core false ref := by
  unfold State.bankPowerOff
  exact .withBi (.dropBankWork (.stillBank (.ite (.calBiasFail hs) hs)))

theorem State.Core.bankPowerUp {k : Nat} (hs : s.Core q ref) : (s.bankPowerUp k).Core q ref := by
  rw [State.bankPowerUp]
  exact .setF (.setF hs)

theorem State.Core.setCurRt {c : Nat} {r : CurRt} (hs : s.Core q ref) : (s.setCurRt c r).Core q ref := by
  rw [State.setCurRt]
  exact .same hs rfl rfl rfl rfl

theorem State.Core.stopSeen {c byId : Nat} {shot : Bool} (hs : s.Core q ref) : (s.stopSeen c byId shot).Core q ref := by
  rw [State.stopSeen]
  exact .foldl
    (fun _ _ hu => by
      split
      · exact .ite hu (.ite (.completeId (.setCmd hu)) (.setCmd hu))
      · exact hu) hs

theorem State.Core.haltCurator {c reason th : Nat} (hs : s.Core q ref) : (s.haltCurator c reason th).Core q ref := by
  rw [State.haltCurator]
  exact .stopSeen (.count (.setCurRt (.setF (.setF (.setF (.setF (.setF hs)))))))

theorem State.Core.haltBySystem {c : Nat} (hs : s.Core q ref) : (s.haltBySystem c).Core q ref := by
  rw [State.haltBySystem]
  exact .ite (.haltCurator hs) (.setCurRt hs)

theorem State.Core.haltSystem {armedToo runningToo : Bool} (hs : s.Core q ref) :
    (s.haltSystem armedToo runningToo).Core q ref := by
  rw [State.haltSystem]
  exact .foldl (fun _ _ hu => .ite (.haltBySystem hu) hu) hs

theorem State.Core.clusterOff {k : Nat} (hs : s.Core q ref) : (s.clusterOff k).Core q ref := by
  rw [State.clusterOff]
  exact .foldl (fun _ _ hu => .same hu rfl rfl rfl rfl)
    (.foldl
      (fun _ _ hu => by
        split
        · exact .ite (.completeId hu) hu
        · exact .setCmd hu
        · exact hu) hs)

theorem State.Core.setTrims {keys : List Nat} {f : Nat → Nat} (hs : s.Core q ref) : (s.setTrims keys f).Core q ref := by
  rw [State.setTrims]
  exact .same hs rfl rfl rfl rfl

theorem State.Core.loadFactory {u : Nat} {keys : List Nat} (hs : s.Core q ref) : (s.loadFactory u keys).Core q ref := by
  rw [State.loadFactory]
  exact .setTrims hs

theorem State.Core.loadFactories {d : Nat} (hs : s.Core q ref) : (s.loadFactories d).Core q ref := by
  rw [State.loadFactories]
  exact .ite (.foldl (fun _ _ hu => .loadFactory hu) hs)
    (.ite (.foldl (fun _ _ hu => .loadFactory hu) hs) (.ite (.foldl (fun _ _ hu => .loadFactory hu) hs) hs))

theorem State.Core.trimsLost {d : Nat} (hs : s.Core q ref) : (s.trimsLost d).Core q ref := by
  rw [State.trimsLost]
  exact .ite (.same hs rfl rfl rfl rfl) (.ite (.same hs rfl rfl rfl rfl) (.ite (.same hs rfl rfl rfl rfl) hs))

theorem State.Core.calDomainLost {d : Nat} (hs : s.Core q ref) : (s.calDomainLost d).Core q ref := by
  rw [State.calDomainLost]
  exact .foldl (fun _ _ hu => .ite hu (.ite (.dropJob (.completeId hu)) (.same (.completeId hu) rfl rfl rfl rfl))) hs

theorem State.Core.loadTrim {i : Nat} (hs : s.Core q ref) : (s.loadTrim i).Core q ref := by
  rw [State.loadTrim]
  exact .same hs rfl rfl rfl rfl

theorem State.Core.storeCorrections {l : List (Nat × Nat)} (hs : s.Core q ref) : (s.storeCorrections l).Core q ref := by
  rw [State.storeCorrections]
  exact .foldl (fun _ _ hu => .nvWrite hu) hs

theorem State.Core.calTileOff {t : Nat} (hs : s.Core q ref) : (s.calTileOff t).Core q ref := by
  rw [State.calTileOff]
  exact .same hs rfl rfl rfl rfl

theorem State.Core.mirrorNow (hs : s.Core q ref) : s.mirrorNow.Core q ref := by
  rw [State.mirrorNow]
  exact .same hs rfl rfl rfl rfl

theorem State.Core.ledgerResume {d : Nat} (hs : s.Core q ref) : (s.ledgerResume d).Core q ref := .same hs rfl rfl rfl rfl

theorem State.Core.setDom {b : Bool} {d : DomRt} (hs : s.Core false ref) : (s.setDom b d).Core false ref := by
  rw [State.setDom]
  exact .ite (.narrow hs rfl rfl) (.narrow hs rfl rfl)

theorem State.Core.setDomState {b : Bool} {v : Nat} (hs : s.Core q ref) : (s.setDomState b v).Core q ref := by
  rw [State.setDomState]
  exact .setF hs

theorem State.Core.setViRun {v : Nat} {r : ViRun} (hs : s.Core q ref) : (s.setViRun v r).Core q ref := by
  rw [State.setViRun]
  exact .same hs rfl rfl rfl rfl

theorem State.Core.viSettle {v : Nat} (hs : s.Core q ref) : (s.viSettle v).Core q ref := by
  rw [State.viSettle]
  exact .ite hs (.ite (.delivered (.count (.setViRun hs))) (.count (.setViRun hs)))

theorem State.Core.viIgnored {v t : Nat} (hs : s.Core q ref) : (s.viIgnored v t).Core q ref := by
  rw [State.viIgnored]
  exact .ite hs (.count (.setViRun hs))

theorem State.Core.viIgnoreTaken {v : Nat} (hs : s.Core q ref) : (s.viIgnoreTaken v).Core q ref := by
  rw [State.viIgnoreTaken]
  exact .ite (.busyDrop (.setViRun (.viIgnored hs))) (.viIgnored hs)

theorem State.Core.copyF {f : Field} {inst img : Nat} (hs : s.Core q ref) : (s.copyF f inst img).Core q ref := by
  rw [State.copyF]
  exact .setF hs

theorem State.Core.viUntake {v : Nat} (hs : s.Core q ref) : (s.viUntake v).Core q ref := by
  rw [State.viUntake]
  exact .foldl (fun _ _ hu => .copyF hu) (.setViRun (.viIgnoreTaken hs))

theorem State.Core.viIdle {v : Nat} (hs : s.Core q ref) : (s.viIdle v).Core q ref := by
  rw [State.viIdle]
  exact .setViRun hs

theorem State.Core.viLost {v : Nat} (hs : s.Core q ref) : (s.viLost v).Core q ref := by
  rw [State.viLost]
  exact .ite (.viIdle (.count (.raise (.setF (.ite (.viUntake hs) hs))))) (.ite (.setViRun hs) hs)

theorem State.Core.vitrineInputOff {i : Nat} (hs : s.Core q ref) : (s.vitrineInputOff i).Core q ref := by
  rw [State.vitrineInputOff]
  exact .foldl (fun _ _ hu => .ite (.viLost hu) hu) hs

theorem State.Core.vitrineOutputOff {o : Nat} (hs : s.Core q ref) : (s.vitrineOutputOff o).Core q ref := by
  rw [State.vitrineOutputOff]
  exact .foldl (fun _ _ hu => .ite (.viLost hu) hu) hs

theorem State.Core.goDown {p : Nat} (hs : s.Core q ref) : (s.goDown p).Core q ref := by
  rw [State.goDown]
  exact .setCpRt (.setF (.setF hs))

theorem State.Core.leaveUp {p : Nat} (hs : s.Core q ref) : (s.leaveUp p).Core q ref := by
  rw [State.leaveUp]
  exact .notice (.fire (.count (.setF (.raise (.goDown hs)))))

theorem State.Core.courierPowerOff {p : Nat} (hs : s.Core q ref) : (s.courierPowerOff p).Core q ref := by
  rw [State.courierPowerOff]
  exact .setCpRt (.ite (.leaveUp hs) hs)

theorem State.Core.setSvRun {n : Nat} {r : SvRun} (hs : s.Core q ref) : (s.setSvRun n r).Core q ref := by
  rw [State.setSvRun]
  exact .same hs rfl rfl rfl rfl

theorem State.Core.svClip {n : Nat} {clip : Bool} (hs : s.Core q ref) : (s.svClip n clip).Core q ref := by
  rw [State.svClip]
  exact .ite (.count (.raise hs)) hs

theorem State.Core.svTake {n m : Nat} (hs : s.Core q ref) : (s.svTake n m).Core q ref := by
  rw [State.svTake]
  exact .ite (.setSvRun hs)
    (.ite (.setSvRun (.svClip (.svClip hs)))
      (.ite (.setSvRun (.svClip (.svClip (.svClip hs))))
        (.setSvRun (.ite (.setF (.svClip (.svClip (.svClip hs)))) (.svClip (.svClip (.svClip hs)))))))

theorem State.Core.svNext {n m : Nat} (hs : s.Core q ref) : (s.svNext n m).Core q ref := by
  rw [State.svNext]
  exact .ite (.svTake hs) hs

theorem State.Core.streamsLost {l : List Nat} (hs : s.Core q ref) : (s.streamsLost l).Core q ref := by
  rw [State.streamsLost]
  exact .foldl (fun _ _ hu => .markLost hu) hs

theorem State.Core.svSend {n : Nat} (hs : s.Core q ref) : (s.svSend n).Core q ref := by
  rw [State.svSend]
  exact .ite hs (.ethSend (.setSvRun hs))

theorem State.Core.svDropped (hs : s.Core q ref) : s.svDropped.Core q ref := by
  rw [State.svDropped]
  exact .foldl (fun _ _ hu => .ite hu (.markLost (.countN hu))) hs

theorem State.Core.closeBlock {n : Nat} (hs : s.Core q ref) : (s.closeBlock n).Core q ref := by
  rw [State.closeBlock]
  exact .ite
    (.ite
      (.streamsLost
        (.ringProduce
          (.count (.setSvRun (.clearLost (.ite (.count (.count (.nextSeq hs))) (.count (.nextSeq hs))))))))
      (.streamsLost
        (.count (.ringLost (.setSvRun (.clearLost (.ite (.count (.count (.nextSeq hs))) (.count (.nextSeq hs)))))))))
    (.ite (.svSend (.setSvRun (.setSvRun (.clearLost (.ite (.count (.count (.nextSeq hs))) (.count (.nextSeq hs)))))))
      (.setSvRun (.setSvRun (.clearLost (.ite (.count (.count (.nextSeq hs))) (.count (.nextSeq hs)))))))

theorem State.Core.svIdleSeen {n byId : Nat} (hs : s.Core q ref) : (s.svIdleSeen n byId).Core q ref := by
  rw [State.svIdleSeen]
  exact .foldl
    (fun _ _ hu => by
      split
      · exact .ite hu (.ite (.completeId (.setCmd hu)) (.setCmd hu))
      · exact hu) hs

theorem State.Core.svHalt {n cause : Nat} (hs : s.Core q ref) : (s.svHalt n cause).Core q ref := by
  rw [State.svHalt]
  exact .svIdleSeen
    (.ite
      (.raise (.same (.ite (.setSvRun (.setF (.setF (.setF hs)))) (.setF (.setF (.setF (.setF hs))))) rfl rfl rfl rfl))
      (.same (.ite (.setSvRun (.setF (.setF (.setF hs)))) (.setF (.setF (.setF (.setF hs))))) rfl rfl rfl rfl))

theorem State.Core.svFull {n : Nat} (hs : s.Core q ref) : (s.svFull n).Core q ref := by
  rw [State.svFull]
  exact .ite (.closeBlock hs) hs

theorem State.Core.svFinish {n : Nat} (hs : s.Core q ref) : (s.svFinish n).Core q ref := by
  rw [State.svFinish]
  exact .foldl (fun _ _ hu => .ite (.svNext (.svFull hu)) hu) hs

theorem State.Core.surveySourceOff {i : Nat} (hs : s.Core q ref) : (s.surveySourceOff i).Core q ref := by
  rw [State.surveySourceOff]
  exact .foldl (fun _ _ hu => .ite (.svFinish (.ite (.svHalt hu) hu)) hu) hs

theorem State.Core.surveyAllOff (hs : s.Core q ref) : s.surveyAllOff.Core q ref := by
  rw [State.surveyAllOff]
  exact .foldl (fun _ _ hu => .ite (.svHalt hu) hu) hs

theorem State.Core.absentCommands {d : Nat} (hs : s.Core q ref) : (s.absentCommands d).Core q ref := by
  unfold State.absentCommands
  refine .foldl (fun u c hu => ?_) hs
  refine .ite (.completeId (.withCmd ?_)) hu
  split
  · exact .storePart hu
  · exact hu

theorem State.Core.restage {keys seeds : List Nat} (hs : s.Core q ref) : (s.restage keys seeds).Core q ref := by
  unfold State.restage
  exact .foldl (fun _ _ hu => .setStored hu) hs

theorem State.Core.cancelCommits {d : Nat} (hs : s.Core q ref) : (s.cancelCommits d).Core q ref := by
  rw [State.cancelCommits]
  exact .foldl (fun _ _ hu => .completeId (.restage hu)) (.same hs rfl rfl rfl rfl)

theorem State.Core.dacTileOff {t : Nat} (hs : s.Core q ref) : (s.dacTileOff t).Core q ref := by
  unfold State.dacTileOff
  exact .withDrv (.foldl (fun _ _ hu => .vitrineOutputOff hu) hs)

theorem State.Core.adcTileOff {t : Nat} (hs : s.Core q ref) : (s.adcTileOff t).Core q ref := by
  unfold State.adcTileOff
  have h1 : ([0, 1, 2, 3].foldl (fun u j => ((u.abandonInput (4 * t + j)).surveySourceOff (4 * t + j)).vitrineInputOff
      (4 * t + j)) s).Core q ref :=
    .foldl (fun _ _ hu => .vitrineInputOff (.surveySourceOff (.abandonInput hu))) hs
  dsimp only
  generalize [0, 1, 2, 3].foldl _ s = u at h1 ⊢
  exact .calTileOff (.same h1 rfl rfl rfl rfl)

theorem State.Core.archiveOff {n : Nat} (hs : s.Core q ref) : (s.archiveOff n).Core q ref := by
  rw [State.archiveOff]
  exact .same hs rfl rfl rfl rfl

theorem State.Core.pcieOff (hs : s.Core q ref) : s.pcieOff.Core q ref := by
  rw [State.pcieOff]
  exact .same hs rfl rfl rfl rfl

theorem State.Core.blockLost (hs : s.Core q ref) : s.blockLost.Core q ref := by
  rw [State.blockLost]
  exact .ite hs (.markLost (.ringLost (.same hs rfl rfl rfl rfl)))

theorem State.Core.hubOff (hs : s.Core q ref) : s.hubOff.Core q ref := by
  rw [State.hubOff]
  exact .same (.blockLost hs) rfl rfl rfl rfl

theorem State.Core.ethOff (hs : s.Core q ref) : s.ethOff.Core q ref := by
  rw [State.ethOff]
  exact .same (.dropQueue hs) rfl rfl rfl rfl

theorem State.Core.vitOff (hs : s.Core q ref) : s.vitOff.Core q ref := by
  unfold State.vitOff
  have h1 : ((List.range 8).foldl State.viSettle s).svDropped.Core q ref := .svDropped (.foldl (fun _ _ hu => .viSettle hu) hs)
  generalize ((List.range 8).foldl State.viSettle s).svDropped = u at h1
  exact .same h1 rfl rfl rfl rfl

theorem State.Core.unitsOff {d : Nat} (hs : s.Core false ref) : (s.unitsOff d).Core false ref := by
  rw [State.unitsOff]
  exact .ite (.masterLost hs)
    (.ite (.hubOff hs)
      (.ite (.pcieOff hs)
        (.ite (.ethOff hs)
          (.ite (.courierPowerOff hs)
            (.ite (.dacTileOff hs)
              (.ite (.adcTileOff hs)
                (.ite (.clusterOff hs) (.ite (.bankPowerOff hs) (.ite (.vitOff hs) (.ite (.archiveOff hs) hs))))))))))

theorem State.Core.domUnlock {b : Bool} (hs : s.Core false ref) : (s.domUnlock b).Core false ref := by
  rw [State.domUnlock]
  exact .ite (.setDomState (.setDom hs)) (.setDom hs)

theorem State.Core.pllUnlock (hs : s.Core false ref) : s.pllUnlock.Core false ref := by
  unfold State.pllUnlock
  exact .ite hs
    (.withTm (.domUnlock (.domUnlock (.count (.raise (.setF (.notice (.fire (.haltSystem (.faultMute hs))))))))))

theorem State.Core.spoilFirst {key : Nat → Nat} {len : Nat} {l : List (Nat × Nat)} (hs : s.Core q ref) :
    (s.spoilFirst key len l).Core q ref := by
  cases l with
  | nil => exact hs
  | cons e l => exact .nvSpoil hs

theorem State.Core.cutWrite {w : Timed} (hs : s.Core q ref) : (s.cutWrite w).Core q ref := by
  rw [State.cutWrite]
  split
  · exact .spoilFirst (.storeSeeds (.draw hs))
  · exact .spoilFirst (.storeCorrections (.draw hs))
  · exact .spoilFirst (.draw hs)
  · exact .spoilFirst (.draw hs)
  · exact .draw hs

theorem State.Core.cutWrites (hs : s.Core q ref) : s.cutWrites.Core q ref := by
  rw [State.cutWrites]
  exact .foldl (fun _ _ hu => .cutWrite hu) hs

theorem State.Core.overBoxes {l : List Nat} {f : State → Nat → State}
    (hf : ∀ u n, u.Core q ref → (f u n).Core q ref) (hs : s.Core q ref) : (s.overBoxes l f).Core q ref :=
  .foldl hf hs

theorem State.Core.warmHost (hs : s.Core q ref) : s.warmHost.Core q ref := by
  unfold State.warmHost
  exact .overBoxes (fun _ _ hu => .d2hWithdraw hu)
    (.overBoxes (fun _ _ hu => .h2dWithdraw hu) (.withHost (.dropMessages hs)))

theorem State.Core.warmLost (hs : s.Core q ref) : s.warmLost.Core q ref := by
  rw [State.warmLost]
  exact .foldl (fun _ _ hu => .capturesLost hu)
    (.dropQueue (.svDropped (.blockLost (.foldl (fun _ _ hu => .viSettle hu) hs))))

theorem State.Core.linkLeaves {p : Nat} (hs : s.Core q ref) : (s.linkLeaves p).Core q ref := by
  rw [State.linkLeaves]
  exact .ite (.leaveUp hs) hs

/-! #### A power-off -/

theorem State.takePower_stays {s : State} {d : Nat} (h : ¬ (s.powered d = true ∧ d ≠ domAON)) (planned : Bool) :
    s.takePower d planned = s :=
  if_pos (by simpa [Classical.or_iff_not_imp_left] using h)

/-- A power-off changes no part of the power unit but the bit of its domain. -/
theorem State.takePower_kept {s : State} {d : Nat} (h : s.powered d = true ∧ d ≠ domAON) (planned : Bool) :
    (s.takePower d planned).raw = s.raw ∧
      (s.takePower d planned).pw = { s.pw with on := clearMask s.pw.on (1 <<< d) } := by
  unfold State.takePower
  rw [if_neg (by simp [h.1, h.2])]
  have h0 : (((((s.calDomainLost d).trimsLost d).unitsOff d).cancelCommits d).absentCommands d).Core false s :=
    .absentCommands (.cancelCommits (.unitsOff (.trimsLost (.calDomainLost .refl))))
  generalize ((((s.calDomainLost d).trimsLost d).unitsOff d).cancelCommits d).absentCommands d = t at h0
  have h1 : (if planned then t.mirrorNow else t).Core false s := .ite (.mirrorNow h0) h0
  exact ⟨h1.raw, by rw [← h1.pw]; rfl⟩

theorem bit_clearMask_one (x d k : Nat) : bit (clearMask x (1 <<< d)) k = (bit x k && !decide (k = d)) := by
  rw [bit, bit, testBit_clearMask, Nat.one_shiftLeft, Nat.testBit_two_pow]
  simp only [eq_comm]

theorem State.powered_takePower (s : State) (d k : Nat) (planned : Bool) :
    (s.takePower d planned).powered k = (s.powered k && !decide (k = d ∧ k ≠ domAON)) := by
  by_cases h : s.powered d = true ∧ d ≠ domAON
  · rw [State.powered, (State.takePower_kept h planned).2, bit_clearMask_one]
    by_cases hk : k = d
    · simp [hk, h.2]
    · simp [hk, State.powered]
  · rw [State.takePower_stays h]
    by_cases hk : k = d
    · subst hk
      cases hp : s.powered k with
      | false => rfl
      | true => simpa [hp] using h
    · simp [hk]

/-- Domains that are powered off are off, and the others stay as they were. -/
theorem State.powered_powerOffAll (ds : List Nat) (s : State) (k : Nat) :
    (s.powerOffAll ds).powered k = (s.powered k && !decide (k ∈ ds ∧ k ≠ domAON)) := by
  unfold State.powerOffAll
  induction ds generalizing s with
  | nil => simp
  | cons d ds ih =>
    rw [List.foldl_cons, ih, State.powerOff, s.powered_takePower d k true]
    by_cases ha : k = domAON
    · simp [ha]
    · by_cases hk : k = d
      · subst hk
        simp [ha]
      · simp [hk, ha]

theorem State.powerOffAll_kept (ds : List Nat) (s : State) : (s.powerOffAll ds).raw = s.raw ∧
    (s.powerOffAll ds).pw = { s.pw with on := (s.powerOffAll ds).pw.on } := by
  unfold State.powerOffAll
  induction ds generalizing s with
  | nil => exact ⟨rfl, rfl⟩
  | cons d ds ih =>
    obtain ⟨hr, hp⟩ := ih (s.powerOff d)
    rw [List.foldl_cons]
    by_cases h : s.powered d = true ∧ d ≠ domAON
    · obtain ⟨hr', hp'⟩ := State.takePower_kept h true
      exact ⟨hr.trans hr', hp.trans (by rw [State.powerOff, hp'])⟩
    · rw [State.powerOff, State.takePower_stays h] at hr hp
      rw [State.powerOff, State.takePower_stays h]
      exact ⟨hr, hp⟩


end Sys2Proof.Machine
end

/-! ### Temperature, trips, power-down, Dormant and the core voltage (R453 to R465) -/

section
namespace Sys2Proof.Machine

/-! #### Scans -/

theorem hottest_lt {b : Int} (l : List Int) (k : Nat) (m : Int × Nat) (hm : m.1 < b) (hl : ∀ x ∈ l, x < b) :
    (hottest k l m).1 < b := by
  induction l generalizing k m with
  | nil => exact hm
  | cons v l ih =>
    refine ih (k + 1) _ ?_ (fun x hx => hl x (List.mem_cons_of_mem _ hx))
    split
    · exact hl v List.mem_cons_self
    · exact hm

/-- The hottest of readings below a positive bound is below it. -/
theorem hottest_of_readings {b : Int} (hb : 0 < b) {l : List Int} (hl : ∀ x ∈ l, x < b) :
    (hottest 1 (l.drop 1) (l.headD 0, 0)).1 < b := by
  cases l with
  | nil => exact hb
  | cons v l => exact hottest_lt l 1 _ (hl v List.mem_cons_self) (fun x hx => hl x (List.mem_cons_of_mem _ hx))

theorem State.scanTrims_raw (s : State) : s.scanTrims.raw = s.raw := by
  rw [State.scanTrims]
  split <;> rfl

theorem State.scanTrims_pw (s : State) : s.scanTrims.pw = s.pw := by
  rw [State.scanTrims]
  split <;> rfl

/-- Two fields of one object without a common bit. -/
def Field.Apart (g f : Field) : Prop := g.cls = f.cls ∧ (g.lsb + g.width ≤ f.lsb ∨ f.lsb + f.width ≤ g.lsb)

theorem State.getF_setF_of_apart {g f : Field} (h : g.Apart f) (s : State) (n v : Nat) : (s.setF f n v).getF g n = s.getF g n :=
  State.getF_setF_apart s f g n v h.1 h.2

theorem State.getF_scanTrims (s : State) {g : Field} (h : g.Apart Fld.thermal.bandReq) :
    s.scanTrims.getF g 0 = s.getF g 0 := by
  have h0 : ∀ ks f, (s.draw.2.setTrims ks f).getF g 0 = s.getF g 0 := fun ks f => getF_of_objs_eq rfl g 0
  rw [State.scanTrims]
  split
  · rw [State.getF_setF_of_apart h, h0]
  · exact h0 _ _

/-- A scan's readings in the record, with the hottest sensor. -/
def State.scanned (s : State) (temps : List Nat) (h : Int × Nat) : State :=
  ({ s.scanTrims with pw := { s.scanTrims.pw with temps := temps, scanRaw := s.scanTrims.raw } }.setF Fld.thermal.tjMax 0 (ofS 16 h.1)).setF
    Fld.thermal.tjMaxSensor 0 h.2

theorem State.getF_scanned (s : State) (temps : List Nat) (h : Int × Nat) {g : Field} (hb : g.Apart Fld.thermal.bandReq)
    (ht : g.Apart Fld.thermal.tjMax) (hs : g.Apart Fld.thermal.tjMaxSensor) : (s.scanned temps h).getF g 0 = s.getF g 0 := by
  rw [State.scanned, State.getF_setF_of_apart hs, State.getF_setF_of_apart ht, ← State.getF_scanTrims s hb]
  exact getF_of_objs_eq rfl g 0

theorem State.scanned_eq (s : State) (temps : List Nat) (h : Int × Nat) : s.scanned temps h =
    ({ s.scanTrims with pw := { s.pw with temps := temps, scanRaw := s.raw } }.setF Fld.thermal.tjMax 0 (ofS 16 h.1)).setF
      Fld.thermal.tjMaxSensor 0 h.2 := by
  have hx : ∀ x : State, x.pw = s.pw → x.raw = s.raw → ({ x with pw := { x.pw with temps := temps, scanRaw := x.raw } } :
      State) = { x with pw := { s.pw with temps := temps, scanRaw := s.raw } } := fun x hp hr => by rw [← hp, ← hr]
  rw [State.scanned, hx _ s.scanTrims_pw s.scanTrims_raw]

theorem State.scanDue_iff (s : State) :
    s.scanDue = true ↔ roundUp s.tm.lookFrom 16000000 < s.tm.lookTo ∧ s.pw.scanRaw ≠ s.raw := by
  simp [State.scanDue, State.crosses]

/-- A scan is its record, the warning, and a stop or a trip where the hottest sensor reaches their thresholds. -/
theorem State.thermalScan_of_cool {s t : State} {given temps : List Nat} {h : Int × Nat} (hd : s.scanDue = true)
    (ht : given.take 48 ++ s.scanTrims.pw.temps.drop given.length = temps)
    (hh : hottest 1 ((temps.map (toS 16)).drop 1) ((temps.map (toS 16)).headD 0, 0) = h)
    (hw : (s.scanned temps h).thermalWarn h.1 h.2 = t)
    (hs : ¬ ((t.getF Fld.thermal.stopT 0 : Int) * 256 ≤ h.1 ∧ t.thermalState = 0)) (htr : ¬ 115 * 256 ≤ h.1) :
    s.thermalScan given = t := by
  rw [State.scanned] at hw
  rw [State.thermalScan, hd, Bool.not_true, if_neg Bool.false_ne_true]
  dsimp only
  rw [ht, hh, hw]
  exact (if_neg hs).trans (if_neg htr)

/-- A scan with every reading below the thresholds is only recorded. -/
theorem State.thermalScan_quiet {s : State} {given temps : List Nat} {h : Int × Nat} (hd : s.scanDue = true)
    (htm : given.take 48 ++ s.pw.temps.drop given.length = temps)
    (hh : hottest 1 ((temps.map (toS 16)).drop 1) ((temps.map (toS 16)).headD 0, 0) = h)
    (hv : ∀ x ∈ temps.map (toS 16), x < 95 * 256)
    (hw : s.flag Fld.thermal.warnActive 0 = false) (ht : 95 ≤ s.getF Fld.thermal.stopT 0) :
    s.thermalScan given = s.scanned temps h := by
  have hlt : h.1 < 95 * 256 := hh ▸ hottest_of_readings (by decide) hv
  have hstop : (s.scanned temps h).getF Fld.thermal.stopT 0 = s.getF Fld.thermal.stopT 0 :=
    s.getF_scanned temps h ⟨rfl, .inl (by decide)⟩ ⟨rfl, .inl (by decide)⟩ ⟨rfl, .inl (by decide)⟩
  have hflag : (s.scanned temps h).flag Fld.thermal.warnActive 0 = false := by
    rw [State.flag, s.getF_scanned temps h (g := Fld.thermal.warnActive) ⟨rfl, .inl (by decide)⟩ ⟨rfl, .inr (by decide)⟩
      ⟨rfl, .inr (by decide)⟩]
    exact hw
  refine State.thermalScan_of_cool hd (by rw [State.scanTrims_pw]; exact htm) hh ?_ ?_ (by omega)
  · rw [State.thermalWarn, hflag]
    exact (if_neg (by omega)).trans (if_neg (fun hb => absurd hb.1 Bool.false_ne_true))
  · rw [hstop]
    rintro ⟨h1, -⟩
    omega

/-! #### Trips, the mute point and the power-down -/

theorem State.getF_raise_same (s : State) (f : Field) (n : Nat) : (s.raise f n).getF f n = 1 % 2 ^ f.width :=
  (getF_of_objs_eq rfl f n).trans (State.getF_setF_same s f n 1)

/-- A running curator at the end of the grace shows in GRACE_EXPIRED. -/
theorem State.getF_graceMissed {s : State} {miss : List Nat} (h : miss ≠ []) (v : Nat) :
    ((s.graceMissed miss).setF Fld.thermal.muteTick 0 v).getF Fld.thermal.graceExpired 0 = 1 := by
  rw [State.getF_setF_of_apart (g := Fld.thermal.graceExpired) (f := Fld.thermal.muteTick) ⟨rfl, .inl (by decide)⟩,
    State.graceMissed, if_neg h, State.getF_raise_same]
  rfl

theorem State.thermalTrip_kept {s : State} (h : s.thermalState ≠ 3) (v : Int) (n : Nat) :
    (s.thermalTrip v n).pw.hold = true ∧ (s.thermalTrip v n).pw.tripGated = true ∧
      (s.thermalTrip v n).pw.tileOff = (if s.pw.tileOff = 0 then roundUp s.tick 2 + 1000
        else min s.pw.tileOff (roundUp s.tick 2 + 1000)) := by
  rw [State.thermalTrip, if_neg h]
  exact ⟨rfl, rfl, rfl⟩

/-- In the grace of a stop that has not come to its mute point, a trip notes the curators that run. -/
theorem State.thermalTrip_grace {s : State} (h1 : s.thermalState = 1) (hm : s.pw.muteAt = 0) (v : Int) (n : Nat) :
    ∃ (u : State) (p : PwGroup), s.thermalTrip v n =
      { (u.graceMissed s.running).setF Fld.thermal.muteTick 0 (roundUp s.tick 2) with pw := p } := by
  refine ⟨_, _, (if_neg (by omega)).trans (congrArg (fun x : State => { x with pw := { x.pw with
    hold := true, tripGated := true, tileOff := if s.pw.tileOff = 0 then roundUp s.tick 2 + 1000
      else min s.pw.tileOff (roundUp s.tick 2 + 1000) } }) ((if_neg ?_).trans (if_neg ?_)))⟩
  · simp [h1]
  · simp [hm]

theorem State.flag_withPw {s w : State} {p : PwGroup} {f : Field} {n : Nat} (h : w.getF f n = 1)
    (hs : s = { w with pw := p }) : s.flag f n = true := by
  have h1 : s.getF f n = 1 := by
    rw [hs]
    exact (getF_of_objs_eq (s := w) rfl f n).trans h
  exact decide_eq_true (fun h0 => by omega)

theorem State.flag_thermalTrip_grace {s : State} (h1 : s.thermalState = 1) (hm : s.pw.muteAt = 0) (hr : s.running ≠ [])
    (v : Int) (n : Nat) : (s.thermalTrip v n).flag Fld.thermal.graceExpired 0 = true := by
  obtain ⟨u, p, hu⟩ := State.thermalTrip_grace h1 hm v n
  exact State.flag_withPw (State.getF_graceMissed hr _) hu

theorem State.mutePoint_eq {s : State} (h : s.muteDue = true) : ∃ u : State,
    s.mutePoint = { u with pw := { u.pw with muteAt := s.tick, tileOff := s.tick + 1000 } } :=
  ⟨_, if_neg (by simp [h])⟩

theorem State.setPower_kept (s : State) (v : Nat) : (s.setPower v).pw.on = s.pw.on ∧
    (s.setPower v).pw.tileOff = s.pw.tileOff ∧ (s.setPower v).pw.dormantAt = s.pw.dormantAt ∧ (s.setPower v).bt = s.bt := by
  have hp : (s.setF Fld.thermal.powerState 0 v).pw = s.pw := State.setF_pw ..
  have hb : (s.setF Fld.thermal.powerState 0 v).bt = s.bt := State.setF_bt ..
  unfold State.setPower
  generalize s.setF Fld.thermal.powerState 0 v = t at hp hb
  have h1 : ∀ u : State, u = (if v = 0 then t else { t with pw := { t.pw with avsSince := 0 } }) →
      u.pw.on = s.pw.on ∧ u.pw.tileOff = s.pw.tileOff ∧ u.pw.dormantAt = s.pw.dormantAt ∧ u.bt = s.bt := by
    rintro u rfl
    rw [← hp, ← hb]
    split <;> exact ⟨rfl, rfl, rfl, rfl⟩
  dsimp only
  generalize he : (if v = 0 then t else { t with pw := { t.pw with avsSince := 0 } }) = u
  split
  · rw [State.setF_pw, State.setF_bt]
    exact h1 u he.symm
  · exact h1 u he.symm

theorem State.powered_of_on {s t : State} (h : t.pw.on = s.pw.on) (d : Nat) : t.powered d = s.powered d := by
  rw [State.powered, h, State.powered]

/-- The power-down of the tiles: no tile is powered, and the rest of the power unit is as it was. -/
theorem State.tilesOff_kept (s : State) : s.tilesOff.pw = { s.pw with on := s.tilesOff.pw.on } ∧
    ∀ d : Fin 32, s.tilesOff.powered (9 + d.val) = false := by
  have h : s.surveyAllOff.Core true s := .surveyAllOff .refl
  refine ⟨?_, fun d => ?_⟩
  · rw [State.tilesOff, (State.powerOffAll_kept _ _).2, h.pw]
  · have hm : 9 + d.val ∈ tileDomains ∧ 9 + d.val ≠ domAON :=
      ⟨List.mem_map.2 ⟨d.val, List.mem_range.2 d.isLt, rfl⟩, by rw [domAON]; omega⟩
    rw [State.tilesOff, State.powered_powerOffAll, decide_eq_true hm]
    simp

theorem State.tilePowerDown_kept {s : State} (h : s.tileOffDue = true) : s.tilePowerDown.pw.tileOff = 0 ∧
    ∀ d : Fin 32, s.tilePowerDown.powered (9 + d.val) = false := by
  rw [State.tilePowerDown, h, Bool.not_true, if_neg Bool.false_ne_true]
  obtain ⟨hp, hd⟩ := ({ s with pw := { s.pw with tileOff := 0 } } : State).tilesOff_kept
  dsimp only
  generalize ({ s with pw := { s.pw with tileOff := 0 } } : State).tilesOff = t at hp hd ⊢
  have h1 : t.pw.tileOff = 0 := by rw [hp]
  have h2 : (if t.powerState ≤ 1 then t.setPower 2 else t).pw.tileOff = 0 ∧
      (if t.powerState ≤ 1 then t.setPower 2 else t).pw.on = t.pw.on := by
    split
    · exact ⟨(t.setPower_kept 2).2.1.trans h1, (t.setPower_kept 2).1⟩
    · exact ⟨h1, rfl⟩
  generalize (if t.powerState ≤ 1 then t.setPower 2 else t) = u at h2 ⊢
  have h3 : (if u.thermalState = 1 then u.setF Fld.thermal.thermalState 0 2 else u).pw = u.pw := by
    split
    · rw [State.setF_pw]
    · rfl
  exact ⟨by rw [h3, h2.1], fun d => (State.powered_of_on (by rw [h3, h2.2]) _).trans (hd d)⟩

/-! #### Dormant -/

theorem State.Core.completeIds {q : Bool} {ref s : State} (l : List Cmd) (f : Cmd → Reply) (hs : s.Core q ref) :
    (l.foldl (fun t c => t.completeId c.id (f c)) s).Core q ref :=
  .foldl (fun _ _ hu => .completeId hu) hs

theorem State.dormantEntry_kept {s : State} (h : s.dormantDue = true) : s.dormantEntry.bt.ready = false ∧
    s.dormantEntry.pw.dormantAt = 0 ∧ ∀ d : Fin 55, s.dormantEntry.powered (1 + d.val) = false := by
  rw [State.dormantEntry, h, Bool.not_true, if_neg Bool.false_ne_true]
  have hd : ∀ d : Fin 55, (s.powerOffAll ((List.range 55).map (fun k => k + 1))).powered (1 + d.val) = false := by
    intro d
    have hm : 1 + d.val ∈ (List.range 55).map (fun k => k + 1) ∧ 1 + d.val ≠ domAON :=
      ⟨List.mem_map.2 ⟨d.val, List.mem_range.2 d.isLt, Nat.add_comm _ _⟩, by rw [domAON]; omega⟩
    rw [State.powered_powerOffAll, decide_eq_true hm]
    simp
  dsimp only
  generalize s.powerOffAll _ = t at hd ⊢
  have hc : (t.cmd.open_.foldl (fun t c => t.completeId c.id (dormantReply c)) t).Core true t := .completeIds _ _ .refl
  generalize t.cmd.open_.foldl _ t = u at hc ⊢
  obtain ⟨hon, -, hda, hbt⟩ := State.setPower_kept { u with
      cmd := { u.cmd with timed := [] }, bt := { u.bt with ready := false }, pw := { u.pw with dormantAt := 0 } } 3
  have ht : u.pw.on = t.pw.on := congrArg PwGroup.on hc.pw
  exact ⟨by rw [hbt], by rw [hda], fun d => (State.powered_of_on (hon.trans ht) _).trans (hd d)⟩

/-! #### The core voltage -/

theorem State.avsTarget_idle {s : State} (hp : s.powerState = 1) (ha : s.flag Fld.thermal.avsEn 0 = true) :
    s.avsTarget = ((s.draw.2).setF Fld.thermal.vcoreTarget 0 (s.clampVcore (Config.vcoreTarget s.free))).avsWrite
      (10 * ((s.clampVcore (Config.vcoreTarget s.free) + 5) / 10)) := by
  have hg : ∀ (g : Field) (v : Nat), g.Apart Fld.thermal.vcoreTarget →
      (s.draw.2.setF Fld.thermal.vcoreTarget 0 v).getF g 0 = s.getF g 0 := fun g v h =>
    (State.getF_setF_of_apart h _ _ _).trans (getF_of_objs_eq rfl g 0)
  have h1 : (s.draw.2.setF Fld.thermal.vcoreTarget 0 (s.clampVcore (Config.vcoreTarget s.free))).powerState = 1 :=
    (hg Fld.thermal.powerState _ ⟨rfl, .inr (by decide)⟩).trans hp
  have h2 : (s.draw.2.setF Fld.thermal.vcoreTarget 0 (s.clampVcore (Config.vcoreTarget s.free))).flag Fld.thermal.avsEn 0 =
      true := by
    rw [State.flag, hg Fld.thermal.avsEn _ ⟨rfl, .inl (by decide)⟩]
    exact ha
  exact if_pos ⟨h1, h2⟩

/-! #### The obligation -/

/-- Settles O54: equations for what stays, and for the rest what the power unit holds afterwards. -/
theorem temperatureStopsTripsAndPowersDown : Obligations.TemperatureStopsTripsAndPowersDown := by
  refine ⟨fun l s => ⟨fun hd => congrArg Host.Outcome.next ?_, fun hd hs hv hw ht _ => congrArg Host.Outcome.next ?_⟩,
    fun n v s => ⟨fun h => congrArg Host.Outcome.next (if_pos h), fun h => ⟨_, rfl, ?_⟩⟩,
    fun s => ⟨fun h => congrArg Host.Outcome.next ?_, fun h => ⟨_, rfl, ?_⟩, fun h => congrArg Host.Outcome.next ?_,
      fun h => ⟨_, rfl, s.tilePowerDown_kept h⟩, fun h => congrArg Host.Outcome.next ?_,
      fun h => ⟨_, rfl, s.dormantEntry_kept h⟩⟩,
    fun s => ⟨fun hd => congrArg Host.Outcome.next ?_, fun hd _ hp ha => congrArg Host.Outcome.next ?_⟩⟩
  · exact if_pos (by rw [Bool.not_eq_true', Bool.eq_false_iff]; exact fun h => hd (s.scanDue_iff.1 h))
  · rw [State.thermalScan_quiet (given := l.map BitVec.toNat) (s.scanDue_iff.2 hd) (by rw [List.length_map]) rfl hv hw ht,
      State.scanned_eq]
    rfl
  · obtain ⟨h1, h2, h3⟩ := State.thermalTrip_kept h v.toInt n.toNat
    exact ⟨h1, h2, h3, fun h4 h5 h6 _ => State.flag_thermalTrip_grace h4 h5 h6 _ _⟩
  · exact if_pos (by simp [h])
  · obtain ⟨u, hu⟩ := State.mutePoint_eq h
    rw [hu]
    exact ⟨rfl, rfl⟩
  · exact if_pos (by simp [h])
  · exact if_pos (by simp [h])
  · exact if_neg (by simpa [State.avsDue, State.crosses] using hd)
  · exact (if_pos (by simpa [State.avsDue, State.crosses] using hd)).trans (State.avsTarget_idle hp ha)

end Sys2Proof.Machine
end

/-! ### Supplies, ordering errors, the PLL and power losses (R27, R442 to R450) -/

section
namespace Sys2Proof.Machine

/-! #### The mask of unplanned losses -/

/-- The mask of the domains that were lost unplanned is `m`. -/
def State.LossyIs (m : Nat) (s : State) : Prop := s.ldg.lossy = m

section
variable {m : Nat} {s t : State}

theorem State.LossyIs.same (hs : s.LossyIs m) (h : t.ldg = s.ldg) : t.LossyIs m := (congrArg LdgGroup.lossy h).trans hs

theorem State.LossyIs.countN {c n e k : Nat} (hs : s.LossyIs m) : (s.countN c n e k).LossyIs m := hs

theorem State.LossyIs.ite {p : Prop} [Decidable p] (hs : s.LossyIs m) (ht : t.LossyIs m) :
    (if p then s else t).LossyIs m := by
  split
  · exact hs
  · exact ht

theorem State.LossyIs.foldl {α : Type} {f : State → α → State} {l : List α} (hf : ∀ u x, u.LossyIs m → (f u x).LossyIs m)
    (hs : s.LossyIs m) : (l.foldl f s).LossyIs m := by
  induction l generalizing s with
  | nil => exact hs
  | cons x l ih => exact ih (hf s x hs)

theorem State.LossyIs.setFn {f : Fn} {r : FnRegs} (hs : s.LossyIs m) : (s.setFn f r).LossyIs m :=
  .same hs (State.setFn_ldg ..)

theorem State.LossyIs.setRing {n : Nat} {r : Ring} (hs : s.LossyIs m) : (s.setRing n r).LossyIs m :=
  .same hs (State.setRing_ldg ..)

theorem State.LossyIs.emit {o : Outgoing} (hs : s.LossyIs m) : (s.emit o).LossyIs m := .same hs (State.emit_ldg ..)

theorem State.LossyIs.setF {f : Field} {n v : Nat} (hs : s.LossyIs m) : (s.setF f n v).LossyIs m :=
  .same hs (State.setF_ldg ..)

theorem State.LossyIs.raise {f : Field} {n : Nat} (hs : s.LossyIs m) : (s.raise f n).LossyIs m :=
  .same hs (State.raise_ldg ..)

theorem State.LossyIs.raiseVector {f : Fn} {v : Nat} (hs : s.LossyIs m) : (s.raiseVector f v).LossyIs m := by
  unfold State.raiseVector
  exact .ite hs (.ite (.setFn hs) (.emit (.setFn hs)))

theorem State.LossyIs.ringCauseSet {n : Nat} (hs : s.LossyIs m) : (s.ringCauseSet n).LossyIs m := by
  unfold State.ringCauseSet
  have h1 : ({ s with host := { s.host with ringCause := s.host.ringCause ||| (1 <<< n) } }.markNow nowRing (1 <<< n)
    ).LossyIs m := .same hs rfl
  exact .ite h1 (.raiseVector h1)

theorem State.LossyIs.ringCount {n : Nat} (hs : s.LossyIs m) : (s.ringCount n).LossyIs m := by
  unfold State.ringCount State.ringIrqCount
  exact .ite (.ringCauseSet (.setRing (.setRing hs))) (.setRing hs)

theorem State.LossyIs.ringWriteBack {n i : Nat} (hs : s.LossyIs m) : (s.ringWriteBack n i).LossyIs m := by
  unfold State.ringWriteBack
  exact .ite (.emit hs) hs

theorem State.LossyIs.ringLost {n k : Nat} (hs : s.LossyIs m) : (s.ringLost n k).LossyIs m := by
  unfold State.ringLost
  exact .ite hs (.countN (.same hs rfl))

theorem State.LossyIs.ringProduce {n : Nat} {e : List Byte} {tag : Nat} (hs : s.LossyIs m) :
    (s.ringProduce n e tag).1.LossyIs m := by
  unfold State.ringProduce
  exact .ringCount (.ringWriteBack (.ringLost (.ite (.countN (.setRing (.countN (.emit hs)))) (.setRing (.countN (.emit hs))))))

theorem State.LossyIs.postEntry {n f : Nat} {b : Bool} {e : List Byte} (hs : s.LossyIs m) :
    (s.postEntry n b f e).LossyIs m := by
  unfold State.postEntry
  exact .ite (.ringProduce hs) (.same hs rfl)

theorem State.LossyIs.noticeTo {f : Fn} {a b c d : Nat} (hs : s.LossyIs m) : (s.noticeTo f a b c d).LossyIs m := by
  unfold State.noticeTo
  exact .ite hs (.ite (.ite (.countN (.setFn hs)) (.postEntry (.setFn hs))) (.same (.setFn hs) rfl))

theorem State.LossyIs.notice {a b c d : Nat} (hs : s.LossyIs m) : (s.notice a b c d).LossyIs m :=
  .noticeTo (.noticeTo hs)

theorem State.LossyIs.faultMute {p : Nat} (hs : s.LossyIs m) : (s.faultMute p).LossyIs m := by
  unfold State.faultMute
  exact .foldl (fun _ _ hu => .ite (.countN (.setF (.raise (.setF (.same hu (State.draw_ldg _)))))) hu) hs

end

/-! #### A power loss -/

/-- A power loss takes the power of its domain, which is LOSSY from then on, and leaves the rest of the power unit. -/
theorem State.powerLoss_kept {s : State} {d : Nat} (h : s.powered d = true ∧ d ≠ domAON) :
    (s.powerLoss d).pw = { s.pw with on := clearMask s.pw.on (1 <<< d) } ∧ bit (s.powerLoss d).ldg.lossy d = true := by
  unfold State.powerLoss
  rw [if_neg (by simp [h.1, h.2])]
  have hp := (State.takePower_kept h false).2
  generalize s.takePower d false = t at hp
  have hc : ((((t.ledgerLoss d).faultMute s.tick).notice 0x07 d 0 0)).Core true (t.ledgerLoss d) :=
    .ofLeaves (leavesUnits_notice ..) (.faultMute .refl)
  have hl : ((((t.ledgerLoss d).faultMute s.tick).notice 0x07 d 0 0)).LossyIs (t.ldg.lossy ||| (1 <<< d)) :=
    .notice (.faultMute rfl)
  dsimp only
  generalize ((t.ledgerLoss d).faultMute s.tick).notice 0x07 d 0 0 = u at hc hl
  have hb : bit u.ldg.lossy d = true := by
    rw [hl, bit, Nat.testBit_or, Nat.one_shiftLeft, Nat.testBit_two_pow_self, Bool.or_true]
  have hu : u.pw = { s.pw with on := clearMask s.pw.on (1 <<< d) } := hc.pw.trans hp
  split
  · exact ⟨hu, hb⟩
  · exact ⟨hu, hb⟩

theorem State.powerLoss_stays {s : State} {d : Nat} (h : ¬ (s.powered d = true ∧ d ≠ domAON)) : s.powerLoss d = s :=
  if_pos (by simpa [Classical.or_iff_not_imp_left] using h)

theorem State.powered_powerLoss (s : State) (d k : Nat) :
    (s.powerLoss d).powered k = (s.powered k && !decide (k = d ∧ k ≠ domAON)) := by
  by_cases h : s.powered d = true ∧ d ≠ domAON
  · rw [State.powered, (State.powerLoss_kept h).1, bit_clearMask_one]
    by_cases hk : k = d
    · simp [hk, h.2]
    · simp [hk, State.powered]
  · rw [State.powerLoss_stays h]
    by_cases hk : k = d
    · subst hk
      cases hp : s.powered k with
      | false => rfl
      | true => simpa [hp] using h
    · simp [hk]

theorem State.powered_powerLosses (ds : List Nat) (s : State) {k : Nat} (hk : k ∈ ds) (ha : k ≠ domAON) :
    (ds.foldl State.powerLoss s).powered k = false := by
  have hstay : ∀ (ds : List Nat) (s : State), s.powered k = false → (ds.foldl State.powerLoss s).powered k = false := by
    intro ds
    induction ds with
    | nil => exact fun s h => h
    | cons d ds ih => exact fun s h => ih _ (by rw [State.powered_powerLoss, h, Bool.false_and])
  induction ds generalizing s with
  | nil => cases hk
  | cons d ds ih =>
    rw [List.foldl_cons]
    rcases List.mem_cons.1 hk with rfl | hk
    · exact hstay ds _ (by rw [State.powered_powerLoss]; simp [ha])
    · exact ih _ hk

/-! #### Ordering errors -/

theorem State.recordOrder_pw (s : State) (c : Nat) : (s.recordOrder c).pw = s.pw := by
  rw [State.recordOrder, State.raise_pw]
  split
  · rw [State.setF_pw]
  · rfl

/-- An ordering error is recorded, or noted until VAUX is good; the power and the sags stay. -/
def State.orderNoted (s : State) (code : Nat) : State :=
  if s.supplyGood 0 then s.recordOrder code
  else if s.pw.orderWait = 0 then { s with pw := { s.pw with orderWait := code } } else s

theorem State.orderNoted_kept (s : State) (code : Nat) :
    (s.orderNoted code).pw.sagged = s.pw.sagged ∧ (s.orderNoted code).pw.on = s.pw.on := by
  rw [State.orderNoted]
  split
  · rw [State.recordOrder_pw]
    exact ⟨rfl, rfl⟩
  · split <;> exact ⟨rfl, rfl⟩

theorem State.orderError_eq {s : State} {code : Nat} (h : 1 ≤ code) (h' : code ≤ 6) : s.orderError code =
    if code = 6 then (s.orderNoted code).orderLoss else (s.orderNoted code).orderHold code :=
  if_neg (by omega)

theorem mem_setPositions {m n k : Nat} : k ∈ setPositions m n ↔ k < n ∧ bit m k = true := by
  rw [setPositions, List.mem_filter, List.mem_range]

/-- What waits for supplies that are not good is held unpowered. -/
theorem State.powered_orderHold {s : State} {code d : Nat} (hn : ∃ n ∈ orderNeeds code, bit s.pw.sagged n = true)
    (hd : d < 56) (ha : d ≠ domAON) (hm : bit (orderMask code) d = true) : (s.orderHold code).powered d = false := by
  obtain ⟨n, hn, hb⟩ := hn
  have hg : ¬ (orderNeeds code).all s.supplyGood = true := by
    rw [List.all_eq_true]
    exact fun h => absurd (h n hn) (by simp [State.supplyGood, hb])
  unfold State.orderHold
  rw [if_neg hg]
  have h0 : (s.powerOffAll (setPositions (s.pw.on &&& orderMask code) 56)).powered d = false := by
    rw [State.powered_powerOffAll]
    cases hp : s.powered d with
    | false => rfl
    | true =>
      have : d ∈ setPositions (s.pw.on &&& orderMask code) 56 :=
        mem_setPositions.2 ⟨hd, by rw [bit, Nat.testBit_and]; exact Bool.and_eq_true_iff.2 ⟨hp, hm⟩⟩
      simp [this, ha]
  have hoff : ∀ (l : List Nat) (t : State),
      (l.foldl (fun (u : State) k => (u.bankOff k).setF Fld.biasbank.bankEn k 0) t).pw = t.pw := fun l t =>
    foldl_keeps State.pw (fun u k => by rw [State.setF_pw, State.bankOff_pw]) l t
  dsimp only
  generalize s.powerOffAll _ = t at h0
  have hend : ∀ u : State, u.pw.on = t.pw.on → (if u.powered domMGMT0 = true ∧ u.powered domMGMT1 = true then u
      else { u with bt := { u.bt with ready := false } }).powered d = false := by
    intro u hu
    split <;> exact (State.powered_of_on (s := t) hu d).trans h0
  exact hend _ (by rw [hoff])

theorem State.powered_orderLoss {s : State} {d : Nat} (hn : ∃ n ∈ railsOf d, bit s.pw.sagged n = true) (hd : d < 56)
    (ha : d ≠ domAON) : s.orderLoss.powered d = false := by
  obtain ⟨n, hn, hb⟩ := hn
  refine State.powered_powerLosses _ s (List.mem_filter.2 ⟨List.mem_range.2 hd, ?_⟩) ha
  exact List.any_eq_true.2 ⟨n, hn, by simp [State.supplyGood, hb]⟩

theorem State.orderHold_good {s : State} {code : Nat} (h : s.pw.sagged = 0) : s.orderHold code = s := by
  refine if_pos (List.all_eq_true.2 (fun n _ => ?_))
  rw [State.supplyGood, h, bit, Nat.zero_testBit, Bool.not_false]

theorem State.orderNoted_good {s : State} {code : Nat} (h : s.pw.sagged = 0) : s.orderNoted code = s.recordOrder code :=
  if_pos (by rw [State.supplyGood, h, bit, Nat.zero_testBit, Bool.not_false])

/-- With every supply good an ordering error of steps 1 to 5 is only recorded. -/
theorem State.orderError_good {s : State} {code : Nat} (h1 : 1 ≤ code) (h5 : code ≤ 5) (hz : s.pw.sagged = 0) :
    s.orderError code = s.recordOrder code := by
  rw [State.orderError_eq h1 (by omega), if_neg (by omega), State.orderHold_good, State.orderNoted_good hz]
  rw [(s.orderNoted_kept code).1, hz]

/-- No ordering error holds PD_AON. -/
theorem bit_orderMask_zero (code : Nat) : bit (orderMask code) 0 = false := by
  unfold orderMask
  split <;> decide

/-! #### The PLL -/

theorem State.pllUnlock_kept {s : State} (h : s.tm.unlocked = false) :
    s.pllUnlock.tm.unlocked = true ∧ s.pllUnlock.raw = s.raw := by
  have hc : s.pllUnlock.Core false s := .pllUnlock .refl
  have hu : ∃ u : State, s.pllUnlock = { u with tm := { u.tm with unlocked := true } } := ⟨_, if_neg (by simp [h])⟩
  obtain ⟨u, hu⟩ := hu
  exact ⟨by rw [hu], hc.raw⟩

/-- A relock puts raw time on the first multiple of 16 at or above the value that it has reached. -/
theorem roundUp_16 (n : Nat) : roundUp n 16 % 16 = 0 ∧ n ≤ roundUp n 16 ∧ roundUp n 16 < n + 16 := by
  rw [roundUp]
  omega

/-- The tick after a relock starts at the value that the relock has put raw time on. -/
theorem nextTick_raw_of_relock {s t : State} {v r : Nat} (ht : t.raw = s.raw) (hsp : t.tm.span = max 16 (r - s.raw))
    (hr : roundUp (s.raw + v) 16 = r) (h0 : s.raw % 16 = 0) (hv : 0 < v) : t.nextTick.raw = w64 r := by
  have h1 := roundUp_16 (s.raw + v)
  rw [hr] at h1
  have h2 : t.raw + t.span = r := by
    rw [State.span, hsp, ht]
    omega
  exact congrArg w64 h2

/-! #### Sags -/

theorem sagReading_iff {k : Nat} (hk : k ≤ 10) (v : Int) : sagReading k v = true ↔ if k = 10 then -5500000 < v else
    v < ([2600000, 620000, 760000, 950000, 950000, 810000, 1140000, 1710000, 1710000, 5500000] : List Int).getD k 0 := by
  have hcases : k = 0 ∨ k = 1 ∨ k = 2 ∨ k = 3 ∨ k = 4 ∨ k = 5 ∨ k = 6 ∨ k = 7 ∨ k = 8 ∨ k = 9 ∨ k = 10 := by omega
  rcases hcases with rfl | rfl | rfl | rfl | rfl | rfl | rfl | rfl | rfl | rfl | rfl <;> simp [sagReading, sagLevels]

theorem State.nvWatch_setInhibit (s : State) : (s.setF Fld.thermal.nvInhibit 0 1).nvWatch false =
    { s.setF Fld.thermal.nvInhibit 0 1 with pw := { s.pw with nvClear := 0 } } := by
  have hf : (s.setF Fld.thermal.nvInhibit 0 1).flag Fld.thermal.nvInhibit 0 = true := by
    rw [State.flag, State.getF_setF_same]
    rfl
  have hp := State.setF_pw s Fld.thermal.nvInhibit 0 1
  generalize s.setF Fld.thermal.nvInhibit 0 1 = u at hf hp ⊢
  rw [State.nvWatch, hf, ← hp]
  exact (if_neg Bool.false_ne_true).trans (if_pos rfl)

/-- What a sag of supply `k` records. -/
def State.sagNoted (s : State) (k : Nat) (v : Int) : State := { s with pw := { s.pw with
  sagged := s.pw.sagged ||| (1 <<< k)
  sagOnset := if s.pw.sagged = 0 ∨ (s.pw.sagOnset ≠ 0 ∧ bit s.pw.sagged k = false) then s.pw.sagOnset ||| (1 <<< k)
    else s.pw.sagOnset
  readings := s.pw.readings.set k v } }

theorem State.sagTaken_eq (s : State) (k : Nat) (v : Int) :
    let t := s.sagNoted k v
    let u := if k < 2 then ({ t.setF Fld.thermal.nvInhibit 0 1 with pw := { t.pw with nvClear := 0 } } : State).cutUpdate
      else t
    s.sagTaken k v = if s.pw.sagged = 0 then (u.fire 218).raise Fld.thermal.sagSeen 0 else u := by
  intro t u
  have ht : t = s.sagNoted k v := rfl
  have hu : u = if k < 2 then ((t.setF Fld.thermal.nvInhibit 0 1).nvWatch false).cutUpdate else t := by
    rw [State.nvWatch_setInhibit]
  clear_value u
  subst hu
  have hs : ({ s with pw := { s.pw with
      sagged := s.pw.sagged ||| (1 <<< k)
      sagOnset := if decide (s.pw.sagged = 0) = true ∨ (s.pw.sagOnset ≠ 0 ∧ s.supplyGood k = true) then
        s.pw.sagOnset ||| (1 <<< k) else s.pw.sagOnset
      readings := s.pw.readings.set k v } } : State) = t := by
    rw [ht, State.sagNoted]
    simp only [decide_eq_true_eq, State.supplyGood, Bool.not_eq_true']
  unfold State.sagTaken
  dsimp only at hs ⊢
  rw [hs]
  exact ite_congr (propext decide_eq_true_iff) (fun _ => rfl) (fun _ => rfl)

theorem State.supplySag_eq {s : State} {k : Nat} {v : Int} (hk : k ≤ 10) (hl : sagReading k v = true) :
    s.supplySag k v = if k = 0 ∧ v < 2450000 then
      (if 9 ≤ k then (s.sagTaken k v).supplyLost else s.sagTaken k v).askReset .cold
    else if 9 ≤ k then (s.sagTaken k v).supplyLost else s.sagTaken k v :=
  if_neg (by rw [hl]; simp; omega)

/-- The lowest position of a mask comes first. -/
theorem setPositions_eq_cons {m n N : Nat} (hn : n < N) (hb : bit m n = true) (hlow : ∀ k, k < n → bit m k = false) :
    ∃ l, setPositions m N = n :: l := by
  have hmem : n ∈ setPositions m N := mem_setPositions.2 ⟨hn, hb⟩
  have hsort : (setPositions m N).Pairwise (· < ·) := List.pairwise_lt_range.filter _
  cases h : setPositions m N with
  | nil => rw [h] at hmem; cases hmem
  | cons a l =>
    rw [h] at hmem hsort
    rcases List.mem_cons.1 hmem with rfl | hl
    · exact ⟨l, rfl⟩
    · have ha : bit m a = true := (mem_setPositions.1 (h ▸ List.mem_cons_self : a ∈ setPositions m N)).2
      exact absurd ha (by rw [hlow a ((List.pairwise_cons.1 hsort).1 n hl)]; decide)

theorem State.sagNotice_of_lowest {s : State} {n : Nat} (hn : n < 11) (hb : bit s.pw.sagOnset n = true)
    (hlow : ∀ k, k < n → bit s.pw.sagOnset k = false) :
    s.sagNotice = ({ s with pw := { s.pw with sagOnset := 0 } }).notice 0x08 n (ofS 32 (s.pw.readings.getD n 0)) 0 := by
  obtain ⟨l, hl⟩ := setPositions_eq_cons hn hb hlow
  rw [State.sagNotice, hl]
  rfl

/-! #### The end of a sag -/

theorem foldl_stays {α β : Type} {f : β → α → β} {b : β} {l : List α} (h : ∀ x ∈ l, f b x = b) : l.foldl f b = b := by
  induction l with
  | nil => rfl
  | cons x l ih =>
    rw [List.foldl_cons, h x List.mem_cons_self]
    exact ih (fun y hy => h y (List.mem_cons_of_mem _ hy))

theorem clearMask_self (x : Nat) : clearMask x x = 0 := by
  apply Nat.eq_of_testBit_eq
  intro k
  rw [testBit_clearMask, Nat.zero_testBit, Bool.and_not_self]

theorem State.endHolds_none {t : State} (h : t.pw.orderHolds = []) : t.endHolds = t := by
  have hp : ({ t.pw with orderHolds := [] } : PwGroup) = t.pw := by rw [← h]
  rw [State.endHolds, h]
  exact congrArg (fun p => { t with pw := p }) hp

theorem State.suppliesRise_quiet {s t : State} {mask : Nat}
    (ht : ({ s with pw := { s.pw with sagged := clearMask s.pw.sagged mask } } : State) = t) (hw : t.pw.orderWait = 0)
    (hh : t.pw.orderHolds = []) : s.suppliesRise mask = t.nvWatch (t.supplyGood 0 && t.supplyGood 1) := by
  subst ht
  have hn : ∀ p : Prop, ¬ (s.pw.orderWait ≠ 0 ∧ p) := fun p h => h.1 hw
  unfold State.suppliesRise
  dsimp only
  rw [if_neg (hn _), State.endHolds_none hh]

/-- With every supply good again and nothing held back, only the inhibit's time is left to start. -/
theorem State.supplySagEnd_good {s : State} (hs : s.pw.sagged ≠ 0)
    (hg : ∀ n ∈ s.sagList, goodReading n (s.pw.readings.getD n 0) = true) (hw : s.pw.orderWait = 0)
    (hh : s.pw.orderHolds = []) :
    s.supplySagEnd = ({ s with pw := { s.pw with sagged := 0 } } : State).nvWatch true := by
  rw [State.supplySagEnd, if_neg hs]
  dsimp only
  rw [foldl_stays (fun n hn => if_pos (hg n hn)),
    State.suppliesRise_quiet (t := { s with pw := { s.pw with sagged := 0 } }) (by rw [clearMask_self]) hw hh]
  simp only [State.supplyGood, bit, Nat.zero_testBit, Bool.not_false, Bool.and_self]

theorem State.nvWatch_good (s : State) : s.nvWatch true = if s.flag Fld.thermal.nvInhibit 0 = true then
    { s with pw := { s.pw with nvClear := if s.pw.nvClear = 0 then s.tick + 10000000 else s.pw.nvClear } } else s := by
  unfold State.nvWatch
  cases hf : s.flag Fld.thermal.nvInhibit 0 with
  | false => rfl
  | true =>
    by_cases hz : s.pw.nvClear = 0
    · simp [hz]
    · simp [hz]

theorem State.flag_setPw (s : State) (p : PwGroup) (f : Field) (n : Nat) :
    ({ s with pw := p } : State).flag f n = s.flag f n := rfl

/-! #### The obligation -/

theorem supplySags (n : BitVec 6) (v : BitVec 32) (s : State) :
    let k := n.toNat
    let low := if k = 10 then -5500000 < v.toInt else v.toInt <
      ([2600000, 620000, 760000, 950000, 950000, 810000, 1140000, 1710000, 1710000, 5500000] : List Int).getD k 0
    (10 < k ∨ ¬ low → exec (.supplySag n v) s = .next s) ∧
    (k ≤ 10 → low → s.Canonical →
      let t := s.sagNoted k v.toInt
      let u := if k < 2 then
          ({ t.setF Fld.thermal.nvInhibit 0 1 with pw := { t.pw with nvClear := 0 } } : State).cutUpdate
        else t
      let w := if s.pw.sagged = 0 then (u.fire 218).raise Fld.thermal.sagSeen 0 else u
      let x := if 9 ≤ k then w.supplyLost else w
      exec (.supplySag n v) s = .next (if k = 0 ∧ v.toInt < 2450000 then x.askReset .cold else x)) := by
  refine ⟨fun h => congrArg Host.Outcome.next (if_pos ?_), fun hk hl _ => congrArg Host.Outcome.next ?_⟩
  · rcases Nat.lt_or_ge 10 n.toNat with hk | hk
    · exact .inl hk
    · refine .inr ?_
      rw [Bool.not_eq_true', Bool.eq_false_iff]
      exact fun hr => h.elim (fun h10 => absurd h10 (by omega)) (fun hl => hl ((sagReading_iff hk _).1 hr))
  · rw [State.supplySag_eq hk ((sagReading_iff hk _).2 hl), State.sagTaken_eq]

/-- Settles O53: equations, and for the losses of power the bits of the power unit. -/
theorem suppliesOrderAndPllEventsAreRecorded : Obligations.SuppliesOrderAndPllEventsAreRecorded := by
  refine ⟨supplySags, fun n s hb hlow => State.sagNotice_of_lowest n.isLt hb hlow,
    fun s => ⟨fun h => congrArg Host.Outcome.next (if_pos h), fun hs _ hg hw hh => ⟨fun hf => ?_, fun hf => ?_⟩,
      fun h1 h2 => congrArg Host.Outcome.next (if_neg (by simp [State.nvClearDue, h1, h2])),
      fun h => congrArg Host.Outcome.next (if_pos ?_)⟩,
    fun c s => ⟨fun h => congrArg Host.Outcome.next (if_pos h), fun h1 h5 hz ho => ?_, fun h1 h5 hz ho => ?_,
      fun h1 h5 hn => ⟨_, rfl, fun d hd hm => ?_⟩, fun h6 => ⟨_, rfl, fun d h0 hd hn => ?_⟩⟩,
    fun f s => ⟨fun h => congrArg Host.Outcome.next (if_pos h), fun h => ⟨_, rfl, State.pllUnlock_kept h⟩,
      fun h => congrArg Host.Outcome.next (if_pos (by simp [h])), fun hu => ⟨?_, fun he => ?_, fun he => ?_⟩⟩,
    fun d s => ⟨fun h => ?_, fun hp hd => ⟨_, rfl, ?_⟩⟩⟩
  · refine congrArg Host.Outcome.next ((State.supplySagEnd_good hs hg hw hh).trans ((State.nvWatch_good _).trans (if_neg ?_)))
    rw [State.flag_setPw, hf]
    exact Bool.false_ne_true
  · refine congrArg Host.Outcome.next ((State.supplySagEnd_good hs hg hw hh).trans ((State.nvWatch_good _).trans (if_pos ?_)))
    rw [State.flag_setPw]
    exact hf
  · rcases h with h | h
    · simp [State.nvClearDue, h]
    · simp [State.nvClearDue, Nat.not_le.2 h]
  · exact congrArg Host.Outcome.next ((State.orderError_good h1 h5 hz).trans
      (congrArg (State.raise · Fld.thermal.orderErr 0) (if_pos ho)))
  · exact congrArg Host.Outcome.next ((State.orderError_good h1 h5 hz).trans
      (congrArg (State.raise · Fld.thermal.orderErr 0) (if_neg ho)))
  · refine (congrArg (State.powered · d) (State.orderError_eq h1 (by omega))).trans ?_
    rw [if_neg (by omega)]
    refine State.powered_orderHold ?_ hd (fun h0 => ?_) hm
    · rw [(s.orderNoted_kept _).1]
      exact hn
    · subst h0
      exact absurd hm (by rw [domAON, bit_orderMask_zero]; exact Bool.false_ne_true)
  · refine (congrArg (State.powered · d) (State.orderError_eq (by omega) (by omega))).trans ?_
    rw [if_pos h6]
    exact State.powered_orderLoss (by rw [(s.orderNoted_kept _).1]; exact hn) hd (by rw [domAON]; omega)
  · obtain ⟨ha, hb, hc⟩ := roundUp_16 (s.raw + f.toNat % 320)
    exact ⟨ha, hb, hc, fun h0 hv => nextTick_raw_of_relock rfl rfl rfl h0 hv⟩
  · exact congrArg Host.Outcome.next ((if_neg (by simp [hu])).trans (if_neg (by simp [he])))
  · exact congrArg Host.Outcome.next ((if_neg (by simp [hu])).trans (if_pos he))
  · refine congrArg Host.Outcome.next (State.powerLoss_stays ?_)
    rintro ⟨hp, hd⟩
    rcases h with h | h
    · exact absurd hp (by rw [h]; exact Bool.false_ne_true)
    · exact hd h
  · obtain ⟨hpw, hl⟩ := State.powerLoss_kept ⟨hp, hd⟩
    refine ⟨?_, hl⟩
    rw [State.powered, hpw, bit_clearMask_one]
    simp

end Sys2Proof.Machine
end

/-! ### Which reset acts, wakes and boots (R487 to R496) -/

section
namespace Sys2Proof.Machine

/-! #### Resets that are asked for -/

theorem State.resetRow_asks {s : State} (h : s.phase ≤ 10) (a : ResetAsk) :
    s.resetRow a = { s with bt := { s.bt with asked := s.bt.asked ++ [a] } } := if_pos h

theorem State.resetRow_acts {s : State} (h : 10 < s.phase) {a : ResetAsk} (hw : s.bt.widest < a.rank) :
    s.resetRow a = { s.resetBy a with bt := { (s.resetBy a).bt with widest := a.rank } } :=
  (if_neg (by omega)).trans (if_pos (by rw [State.resetActs, decide_eq_true hw, Bool.true_or]))

theorem State.resetRow_acts_narrow {s : State} (h : 10 < s.phase) {a : ResetAsk} (hw : s.bt.widest < 2) (ha : a.rank = 1) :
    s.resetRow a = { s.resetBy a with bt := { (s.resetBy a).bt with widest := 1 } } := by
  have h1 : s.resetActs a = true := by
    rw [State.resetActs, ha]
    rcases Nat.lt_or_ge s.bt.widest 1 with h0 | h0
    · rw [decide_eq_true h0, Bool.true_or]
    · rw [decide_eq_true (p := 1 = 1 ∧ s.bt.widest = 1) ⟨rfl, by omega⟩, Bool.or_true]
  rw [State.resetRow, if_neg (by omega), State.resetNow, if_pos h1, ha]

theorem State.resetRow_stays {s : State} (h : 10 < s.phase) {a : ResetAsk} (hw : a.rank ≤ s.bt.widest)
    (ha : 2 ≤ s.bt.widest) : s.resetRow a = s := by
  refine (if_neg (by omega)).trans (if_neg ?_)
  rw [State.resetActs, decide_eq_false (by omega), decide_eq_false (by omega)]
  exact Bool.false_ne_true

theorem resets_asked (f : Fn) (c : BitVec 8) (s : State) (h : s.phase ≤ 10) :
    let ask := fun (a : ResetAsk) => { s with bt := { s.bt with asked := s.bt.asked ++ [a] } }
    exec .warmReset s = .next (ask .warm) ∧ exec .linkReset s = .next (ask .link) ∧ exec (.flr f) s = .next (ask (.function f)) ∧
      (s.restartCause c.toNat = true → exec (.docentRestart c) s = .next (ask (.docent c.toNat))) :=
  ⟨congrArg Host.Outcome.next (State.resetRow_asks h _), congrArg Host.Outcome.next (State.resetRow_asks h _),
    congrArg Host.Outcome.next (State.resetRow_asks h _),
    fun hc => congrArg Host.Outcome.next ((if_pos hc).trans (State.resetRow_asks h _))⟩

theorem resets_late (f : Fn) (c : BitVec 8) (s : State) (h : 10 < s.phase) :
    (3 ≤ s.bt.widest → exec .warmReset s = .next s) ∧
    (2 ≤ s.bt.widest → exec (.docentRestart c) s = .next s ∧ exec (.flr f) s = .next s ∧ exec .linkReset s = .next s) := by
  refine ⟨fun hw => congrArg Host.Outcome.next (State.resetRow_stays h hw (by omega)), fun hw =>
    ⟨congrArg Host.Outcome.next ?_,
      congrArg Host.Outcome.next (State.resetRow_stays h (Nat.le_trans (show 1 ≤ 2 by decide) hw) hw),
      congrArg Host.Outcome.next (State.resetRow_stays h (Nat.le_trans (show 1 ≤ 2 by decide) hw) hw)⟩⟩
  rw [State.resetRow_stays (a := .docent c.toNat) h hw hw]
  exact ite_self _

theorem resets_widest (s : State) (hw : s.warmDue = false) (hr : s.restartDue = false) (hd : s.watchdogDue = false) :
    (.cold ∈ s.bt.asked → s.resetEvents = [.coldReset]) ∧
    (.cold ∉ s.bt.asked → .warm ∈ s.bt.asked → s.resetEvents = [.warmReset]) ∧
    (∀ c, s.bt.asked = [.link, .docent c] → c < 256 → s.resetEvents = [.docentRestart (BitVec.ofNat 8 c)]) ∧
    (s.bt.asked = [.function .pf0, .link] → s.resetEvents = [.linkReset]) ∧
    (s.bt.asked = [.function .pf1, .function .pf0] → s.resetEvents = [.flr .pf0, .flr .pf1]) := by
  unfold State.resetEvents
  simp only [hw, hr, hd, Bool.false_eq_true, if_false, List.append_nil]
  refine ⟨fun hc => if_pos (by simpa using hc), fun hc hm => (if_neg (by simpa using hc)).trans (if_pos (by simpa using hm)),
    fun c hc hl => ?_, fun hc => ?_, fun hc => ?_⟩
  · rw [hc]
    by_cases h1 : c = 1
    · subst h1
      rfl
    · simp [h1, ResetAsk.rank]
  · rw [hc]
    rfl
  · rw [hc]
    rfl

/-! #### Power-on -/

/-- What the loads of a domain's start values leave as it is. -/
def State.startFrame (s : State) : Nat × List Instr × TmGroup × BiGroup × HostGroup × CmdGroup × PwGroup × BtGroup × PortGroup ×
    LdgGroup :=
  (s.raw, s.pending, s.tm, s.bi, s.host, s.cmd, s.pw, s.bt, s.port, s.ldg)

theorem State.startFrame_setF (s : State) (f : Field) (n v : Nat) : (s.setF f n v).startFrame = s.startFrame := rfl

theorem State.startFrame_bankPowerUp (s : State) (k : Nat) : (s.bankPowerUp k).startFrame = s.startFrame := by
  rw [State.bankPowerUp, State.startFrame_setF, State.startFrame_setF]

theorem State.startFrame_loadFactory (s : State) (u : Nat) (ks : List Nat) :
    (s.loadFactory u ks).startFrame = s.startFrame := rfl

theorem State.startFrame_loadFactories (s : State) (d : Nat) : (s.loadFactories d).startFrame = s.startFrame := by
  unfold State.loadFactories
  have h : ∀ (g : Nat → Nat) (ks : Nat → List Nat) (l : List Nat),
      (l.foldl (fun u j => u.loadFactory (g j) (ks j)) s).startFrame = s.startFrame := fun g ks l =>
    foldl_keeps State.startFrame (fun u j => State.startFrame_loadFactory u (g j) (ks j)) l s
  split
  · exact h (fun j => 4 * (d - 9) + j) (fun j => outputTrims (4 * (d - 9) + j)) _
  · split
    · exact h (fun j => 96 + (4 * (d - 33) + j)) (fun j => inputTrims (4 * (d - 33) + j)) _
    · split
      · exact h (fun j => 128 + (32 * (d - 49) + j)) (fun j => biasTrims (32 * (d - 49) + j)) _
      · rfl

theorem State.startFrame_slotPowerUp (s : State) (k : Nat) : (s.slotPowerUp k).startFrame = s.startFrame := by
  have h : ∀ (t : State) (c n v : Nat) (b : Bool), (t.changeLive c n v b).startFrame = t.startFrame :=
    fun _ _ _ _ _ => rfl
  unfold State.slotPowerUp
  split
  · rfl
  · dsimp only
    split
    · rw [h, State.startFrame_setF]
    · rfl

theorem State.startFrame_loadTrim (s : State) (i : Nat) : (s.loadTrim i).startFrame = s.startFrame := rfl

/-- The record of a domain that gets its power, with its counters taken from the mirror. -/
def State.powerTaken (s : State) (d : Nat) : State :=
  ({ s.rememberPower d [] with pw := { (s.rememberPower d []).pw with on := (s.rememberPower d []).pw.on ||| (1 <<< d) } }
    ).ledgerResume d

theorem State.startFrame_powerOn {s : State} {d : Nat} (h : s.powered d = false ∧ s.railsGood d = true) :
    (s.powerOn d).startFrame = (s.powerTaken d).startFrame := by
  have h0 := State.startFrame_loadFactories (s.powerTaken d) d
  unfold State.powerOn
  rw [if_neg (by simp [h.1, h.2])]
  dsimp only [State.powerTaken] at h0 ⊢
  generalize State.loadFactories _ d = u at h0 ⊢
  rw [← h0]
  split
  · exact foldl_keeps State.startFrame (fun u k => State.startFrame_slotPowerUp u _) _ u
  · split
    · exact foldl_keeps State.startFrame (fun u j => State.startFrame_loadTrim u _) _ u
    · split
      · exact State.startFrame_bankPowerUp u _
      · split
        · exact State.startFrame_setF u _ _ _
        · rfl

theorem State.powerOn_stays {s : State} {d : Nat} (h : ¬ (s.powered d = false ∧ s.railsGood d = true)) : s.powerOn d = s := by
  refine if_pos ?_
  cases hp : s.powered d with
  | true => exact .inl rfl
  | false => exact .inr (by simpa [hp] using h)

/-- What a power-on leaves as it is: the power unit but for the bit of its domain among it. -/
def State.powerFrame (s : State) : Nat × List Instr × TmGroup × BiGroup × HostGroup × CmdGroup × PwGroup × BtGroup × PortGroup ×
    Nat :=
  (s.raw, s.pending, s.tm, s.bi, s.host, s.cmd, { s.pw with on := 0 }, s.bt, s.port, s.ldg.st)

theorem powerFrame_of_startFrame {s t : State} (h : t.startFrame = s.startFrame) : t.powerFrame = s.powerFrame :=
  congrArg (fun x : Nat × List Instr × TmGroup × BiGroup × HostGroup × CmdGroup × PwGroup × BtGroup × PortGroup × LdgGroup =>
    (x.1, x.2.1, x.2.2.1, x.2.2.2.1, x.2.2.2.2.1, x.2.2.2.2.2.1, ({ x.2.2.2.2.2.2.1 with on := 0 } : PwGroup),
      x.2.2.2.2.2.2.2.1, x.2.2.2.2.2.2.2.2.1, x.2.2.2.2.2.2.2.2.2.st)) h

theorem State.powerFrame_powerOn (s : State) (d : Nat) : (s.powerOn d).powerFrame = s.powerFrame := by
  by_cases h : s.powered d = false ∧ s.railsGood d = true
  · exact (powerFrame_of_startFrame (s := s.powerTaken d) (State.startFrame_powerOn h)).trans rfl
  · rw [State.powerOn_stays h]

theorem State.powerFrame_powerOns (ds : List Nat) (s : State) : (ds.foldl State.powerOn s).powerFrame = s.powerFrame :=
  foldl_keeps State.powerFrame State.powerFrame_powerOn ds s

theorem State.powered_powerOn (s : State) (d k : Nat) :
    (s.powerOn d).powered k = (s.powered k || (decide (k = d) && s.railsGood d)) := by
  by_cases h : s.powered d = false ∧ s.railsGood d = true
  · have hon : (s.powerOn d).pw.on = s.pw.on ||| (1 <<< d) := congrArg (·.2.2.2.2.2.2.1.on) (State.startFrame_powerOn h)
    rw [State.powered, hon, h.2, Bool.and_true, bit, Nat.testBit_or, Nat.one_shiftLeft, Nat.testBit_two_pow,
      State.powered, bit]
    simp only [eq_comm]
  · rw [State.powerOn_stays h]
    by_cases hk : k = d
    · subst hk
      cases hp : s.powered k with
      | true => rfl
      | false => simpa [hp] using h
    · simp [hk]

/-- With no supply sagged and nothing held back, every rail is good. -/
theorem State.railsGood_of_frame {s t : State} (h : t.powerFrame = s.powerFrame) (hs : ∀ n, bit s.pw.sagged n = false)
    (hh : s.pw.orderHolds = []) (d : Nat) : t.railsGood d = true := by
  have hs' : t.pw.sagged = s.pw.sagged := congrArg (·.2.2.2.2.2.2.1.sagged) h
  have hh' : t.pw.orderHolds = s.pw.orderHolds := congrArg (·.2.2.2.2.2.2.1.orderHolds) h
  have hb : t.heldBack d = false := by rw [State.heldBack, hh', hh]; rfl
  rw [State.railsGood, hb, Bool.not_false, Bool.and_true, List.all_eq_true]
  intro n _
  rw [State.supplyGood, hs', hs, Bool.not_false, Bool.or_true]

/-- Then every domain that is powered on has its power. -/
theorem State.powered_powerOns {ds : List Nat} {s : State} (hs : ∀ n, bit s.pw.sagged n = false)
    (hh : s.pw.orderHolds = []) {k : Nat} (hk : k ∈ ds ∨ s.powered k = true) :
    (ds.foldl State.powerOn s).powered k = true := by
  have key : ∀ (ds : List Nat) (t : State), t.powerFrame = s.powerFrame → k ∈ ds ∨ t.powered k = true →
      (ds.foldl State.powerOn t).powered k = true := by
    intro ds
    induction ds with
    | nil => exact fun t _ hk => hk.resolve_left List.not_mem_nil
    | cons d ds ih =>
      intro t ht hk
      refine ih _ ((t.powerFrame_powerOn d).trans ht) ?_
      rw [State.powered_powerOn, State.railsGood_of_frame ht hs hh]
      rcases hk with hk | hk
      · rcases List.mem_cons.1 hk with rfl | hk
        · exact .inr (by simp)
        · exact .inl hk
      · exact .inr (by rw [hk, Bool.true_or])
  exact key ds s rfl hk

/-! #### Boots -/

/-- A boot finds Quiet's domains powered. -/
theorem State.powered_booted {s : State} (hs : ∀ n, bit s.pw.sagged n = false) (hh : s.pw.orderHolds = [])
    (img : List Byte) (n : Nat) (alt : Bool) {d : Nat} (hd : d < 56) (hq : bit quietOn d = true) :
    (s.booted img n alt).powered d = true := by
  have h1 := State.powered_powerOns (ds := setPositions quietOn 56) hs hh (.inl (mem_setPositions.2 ⟨hd, hq⟩))
  unfold State.booted
  generalize (setPositions quietOn 56).foldl State.powerOn s = t at h1
  dsimp only
  split
  · exact h1
  · exact (State.powered_of_on (congrArg PwGroup.on (leavesUnits_notice ..).pw) d).trans h1

theorem State.bootRun_waits {s : State} (h : s.bt.booting = false ∨ s.bt.waitGo = true ∨ s.tm.everLocked = false ∨
    bit s.pw.sagged 0 = true) : s.bootRun = s := by
  refine if_pos ?_
  simpa [State.supplyGood] using h

theorem State.powerFrame_bootPower (s : State) : s.bootPower.powerFrame = s.powerFrame :=
  (State.powerFrame_powerOn _ _).trans (State.powerFrame_powerOn _ _)

/-- The boot ROM's choice, by the straps. -/
theorem State.bootRun_starts {s : State} (hb : s.bt.booting = true) (hg : s.bt.waitGo = false) (hl : s.tm.everLocked = true)
    (hv : bit s.pw.sagged 0 = false) : s.bootRun =
    if bit s.pw.straps 3 then (s.bootPower.bootAlt false).bootHalt 0x30
    else if bits s.pw.straps 1 2 = 3 then (s.bootPower.bootAlt false).bootHalt 0x15
    else if bits s.pw.straps 1 2 = 1 then (s.bootPower.bootAlt false).bootWait (waitCode s.bt.code)
    else match trySlots s.bootPower 0x10 false s.bootSlots with
      | .inl t => t
      | .inr code =>
        if bits s.pw.straps 1 2 = 2 then (s.bootPower.bootAlt (decide (s.bootSlots ≠ []))).bootWait code
        else (s.bootPower.bootAlt (decide (s.bootSlots ≠ []))).bootHalt code := by
  have hf := s.powerFrame_bootPower
  have hst : s.bootPower.pw.straps = s.pw.straps := congrArg (·.2.2.2.2.2.2.1.straps) hf
  have hbt : s.bootPower.bt = s.bt := congrArg (·.2.2.2.2.2.2.2.1) hf
  have hsl : s.bootPower.bootSlots = s.bootSlots := by rw [State.bootSlots, State.bootSlots, hbt]
  unfold State.bootRun
  dsimp only
  rw [if_neg (by simp [hb, hg, hl, hv, State.supplyGood])]
  generalize s.bootPower.pw.straps = straps at hst ⊢
  generalize s.bootPower.bootSlots = slots at hsl ⊢
  generalize s.bootPower.bt = bt at hbt ⊢
  subst hst hsl hbt
  rfl

theorem trySlots_first {s : State} {src : Nat} {d : Slot} {l : List (Nat × Slot)} (h : s.imageCode d.content = 1) :
    trySlots s 0x10 false ((src, d) :: l) = .inl (s.booted d.content src false) := if_pos h

theorem boots_wait (s : State) (h : s.bt.booting = false ∨ s.bt.waitGo = true ∨ s.tm.everLocked = false ∨
    bit s.pw.sagged 0 = true) : exec .boot s = .next s :=
  congrArg Host.Outcome.next (State.bootRun_waits h)

theorem State.bootSlots_none {s : State} (ha : s.bt.slotA.valid = false) (hb : s.bt.slotB.valid = false) :
    s.bootSlots = [] := by
  rw [State.bootSlots, ha, hb]

theorem State.bootSlots_a {s : State} (ha : s.bt.slotA.valid = true)
    (hb : s.bt.slotB.valid = false ∨ s.bt.slotB.seq ≤ s.bt.slotA.seq) : ∃ l, s.bootSlots = (0, s.bt.slotA) :: l := by
  rw [State.bootSlots, ha]
  cases hv : s.bt.slotB.valid with
  | false => exact ⟨[], rfl⟩
  | true => exact ⟨_, if_neg (Nat.not_lt.2 (hb.resolve_left (by rw [hv]; decide)))⟩

theorem State.bootSlots_b {s : State} (hb : s.bt.slotB.valid = true)
    (ha : s.bt.slotA.valid = false ∨ s.bt.slotA.seq < s.bt.slotB.seq) : ∃ l, s.bootSlots = (1, s.bt.slotB) :: l := by
  rw [State.bootSlots, hb]
  cases hv : s.bt.slotA.valid with
  | false => exact ⟨[], rfl⟩
  | true => exact ⟨_, if_pos (ha.resolve_left (by rw [hv]; decide))⟩

theorem boots_start (s : State) (hb : s.bt.booting = true) (hg : s.bt.waitGo = false) (hl : s.tm.everLocked = true)
    (hv : bit s.pw.sagged 0 = false) :
    let b := (s.powerOn domMGMT0).powerOn domMGMT1
    (bit s.pw.straps 3 = true → exec .boot s = .next ((b.bootAlt false).bootHalt 0x30)) ∧
    (bit s.pw.straps 3 = false → bits s.pw.straps 1 2 = 3 → exec .boot s = .next ((b.bootAlt false).bootHalt 0x15)) ∧
    (bit s.pw.straps 3 = false → bits s.pw.straps 1 2 = 1 → exec .boot s = .next ((b.bootAlt false).bootWait
      (if 0x10 ≤ s.bt.code ∧ s.bt.code ≤ 0x15 then s.bt.code else 0x20))) ∧
    (bit s.pw.straps 3 = false → bits s.pw.straps 1 2 = 0 → s.bt.slotA.valid = false → s.bt.slotB.valid = false →
      exec .boot s = .next ((b.bootAlt false).bootHalt 0x10)) ∧
    (bit s.pw.straps 3 = false → bits s.pw.straps 1 2 = 0 → s.bt.slotA.valid = true →
      s.bt.slotB.valid = false ∨ s.bt.slotB.seq ≤ s.bt.slotA.seq → b.imageCode s.bt.slotA.content = 1 →
      exec .boot s = .next (b.booted s.bt.slotA.content 0 false)) ∧
    (bit s.pw.straps 3 = false → bits s.pw.straps 1 2 = 0 → s.bt.slotB.valid = true →
      s.bt.slotA.valid = false ∨ s.bt.slotA.seq < s.bt.slotB.seq → b.imageCode s.bt.slotB.content = 1 →
      exec .boot s = .next (b.booted s.bt.slotB.content 1 false)) := by
  have hr := State.bootRun_starts hb hg hl hv
  have htry : bit s.pw.straps 3 = false → bits s.pw.straps 1 2 = 0 → s.bootRun =
      match trySlots s.bootPower 0x10 false s.bootSlots with
      | .inl t => t
      | .inr code => (s.bootPower.bootAlt (decide (s.bootSlots ≠ []))).bootHalt code := by
    intro h3 h0
    rw [hr, h3, h0]
    rfl
  refine ⟨fun h3 => congrArg Host.Outcome.next (hr.trans (if_pos h3)), fun h3 h12 => congrArg Host.Outcome.next ?_,
    fun h3 h12 => congrArg Host.Outcome.next ?_, fun h3 h12 ha hb => congrArg Host.Outcome.next ?_,
    fun h3 h12 ha hs hc => congrArg Host.Outcome.next ?_, fun h3 h12 hb hs hc => congrArg Host.Outcome.next ?_⟩
  · rw [hr, h3, h12]
    rfl
  · rw [hr, h3, h12]
    rfl
  · rw [htry h3 h12, State.bootSlots_none ha hb]
    rfl
  · obtain ⟨l, hl⟩ := State.bootSlots_a ha hs
    rw [htry h3 h12, hl, trySlots_first (s := s.bootPower) hc]
    rfl
  · obtain ⟨l, hl⟩ := State.bootSlots_b hb hs
    rw [htry h3 h12, hl, trySlots_first (s := s.bootPower) hc]
    rfl

/-! #### Wakes -/

theorem wakes (s : State) :
    (s.powerState ≠ 3 → exec (.wake .evt252) s = .next (s.busyDrop 252) ∧ exec (.wake .wakeB) s = .next s) ∧
    (s.powerState = 3 → exec (.wake .wakeB) s =
        .next (((setPositions quietOn 56).foldl State.powerOn s).setPower 2 |>.docentDown 3) ∧
      exec (.wake .evt252) s =
        .next (((setPositions quietOn 56).foldl State.powerOn (s.count 0x12 252 0)).setPower 2 |>.docentDown 3)) :=
  ⟨fun h => ⟨congrArg Host.Outcome.next (if_neg h), congrArg Host.Outcome.next (if_neg h)⟩,
    fun h => ⟨congrArg Host.Outcome.next (if_pos h), congrArg Host.Outcome.next (if_pos h)⟩⟩

end Sys2Proof.Machine
end

/-! ### Cold, warm, function-level and link resets, Docent restarts (R397, R487 to R489) -/

section
namespace Sys2Proof.Machine

/-! #### Cold reset -/

/-- What a strongroom write that is cut short leaves as it is. -/
def State.cutFrame (s : State) : List Instr × Sparse Nat × Slot × Slot := (s.pending, s.bt.fk, s.bt.slotA, s.bt.slotB)

theorem State.cutFrame_spoilFirst (s : State) (key : Nat → Nat) (len : Nat) (l : List (Nat × Nat)) :
    (s.spoilFirst key len l).cutFrame = s.cutFrame := by
  cases l with
  | nil => rfl
  | cons e l => rfl

theorem State.cutFrame_nvWrite (s : State) (key len body : Nat) : (s.nvWrite key len body).cutFrame = s.cutFrame := rfl

theorem State.cutFrame_storeSeeds (s : State) (l : List (Nat × Nat)) : (s.storeSeeds l).cutFrame = s.cutFrame := by
  rw [State.storeSeeds]
  exact foldl_keeps State.cutFrame (fun u _ => State.cutFrame_nvWrite u _ _ _) l s

theorem State.cutFrame_storeCorrections (s : State) (l : List (Nat × Nat)) :
    (s.storeCorrections l).cutFrame = s.cutFrame := by
  rw [State.storeCorrections]
  exact foldl_keeps State.cutFrame (fun u _ => State.cutFrame_nvWrite u _ _ _) l s

theorem State.cutFrame_cutWrite (s : State) (w : Timed) : (s.cutWrite w).cutFrame = s.cutFrame := by
  have hd : s.draw.2.cutFrame = s.cutFrame := rfl
  unfold State.cutWrite
  dsimp only
  split
  · exact (State.cutFrame_spoilFirst ..).trans ((State.cutFrame_storeSeeds ..).trans hd)
  · exact (State.cutFrame_spoilFirst ..).trans ((State.cutFrame_storeCorrections ..).trans hd)
  · exact (State.cutFrame_spoilFirst ..).trans hd
  · exact (State.cutFrame_spoilFirst ..).trans hd
  · exact hd

theorem State.cutFrame_cutWrites (s : State) : s.cutWrites.cutFrame = s.cutFrame :=
  foldl_keeps State.cutFrame State.cutFrame_cutWrite _ s

theorem State.cutWrites_none {s : State} (h : ∀ w ∈ s.cmd.timed, w.nv = false) : s.cutWrites = s := by
  rw [State.cutWrites, List.filter_eq_nil_iff.2 (fun w hw => by rw [h w hw]; exact Bool.false_ne_true)]
  rfl

/-- The state that a cold reset puts in place of `s`, before the bias banks load their start values. -/
def State.coldStart (s : State) : State :=
  { State.reset with
    pending := s.pending, sent := s.sent, free := s.draw.2.free
    bi := { State.reset.bi with supplyGood := s.bi.supplyGood, clrLow := s.bi.clrLow }
    cat := { State.reset.cat with gpioIn := s.cat.gpioIn, gpioSeen := s.cat.gpioSeen }
    pw := { State.reset.pw with straps := Config.straps s.draw.1 % 16, readings := s.pw.readings }
    bt := { s.bt with
      addr := 0, len := 0, code := 0, src := 0, alt := false, ready := false, booting := true, waitGo := false
      cause := 0, version := 0, debugOpen := false, nonce := s.draw.1, asked := [], widest := 0, served := 0 } }

theorem State.startFrame_coldReset (s : State) : s.coldReset.startFrame = s.cutWrites.coldStart.startFrame :=
  (State.startFrame_setF _ _ _ _).trans ((foldl_keeps State.startFrame (fun u d => State.startFrame_loadFactories u d) _ _).trans
    (foldl_keeps State.startFrame (fun u k => State.startFrame_bankPowerUp u k) _ _))

theorem coldResets (s : State) : ∃ t, exec .coldReset s = .next t ∧ t.raw = 0 ∧ t.cmd.open_ = [] ∧ t.ldg.cnt = [] ∧
    t.pw.on = State.reset.pw.on ∧ ((∀ w ∈ s.cmd.timed, w.nv = false) → t.bt.nv = s.bt.nv) ∧
    t.bt.fk = s.bt.fk ∧ t.bt.slotA = s.bt.slotA ∧ t.bt.slotB = s.bt.slotB ∧ t.bt.ready = false ∧ t.bt.booting = true ∧
    t.port = State.reset.port ∧ t.pending = s.pending := by
  refine ⟨s.coldReset, rfl, ?_⟩
  have hf := s.startFrame_coldReset
  have hc := s.cutFrame_cutWrites
  simp only [State.startFrame, Prod.mk.injEq] at hf
  simp only [State.cutFrame, Prod.mk.injEq] at hc
  obtain ⟨hraw, hpend, -, -, -, hcmd, hpw, hbt, hport, hldg⟩ := hf
  obtain ⟨hp, hfk, ha, hb⟩ := hc
  rw [hraw, hpend, hcmd, hpw, hbt, hport, hldg]
  exact ⟨rfl, rfl, rfl, rfl, fun h => congrArg (·.bt.nv) (State.cutWrites_none h), hfk, ha, hb, rfl, rfl, rfl, hp⟩

end Sys2Proof.Machine
end

/-! ### Function-level and link resets (R397, R487) -/

section
namespace Sys2Proof.Machine

/-! #### What a mailbox operation leaves as it is -/

/-- The pending catalogue vectors and the MSI-X tables of both functions. -/
def State.fnFrame (s : State) : Nat × Sparse Nat × Nat × Sparse Nat :=
  (s.host.pf0.catPending, s.host.pf0.msix, s.host.pf1.catPending, s.host.pf1.msix)

/-- `t` has every unit of `s` and its pending catalogue vectors and MSI-X tables. -/
structure KeepsFns (s t : State) : Prop where
  units : LeavesUnits s t
  fns : t.fnFrame = s.fnFrame

/-- `t` has also the commands, the ledger's state and the rings of `s`. -/
structure KeepsQueues (s t : State) : Prop extends KeepsFns s t where
  cmd : t.cmd = s.cmd
  st : t.ldg.st = s.ldg.st
  rings : t.host.rings = s.host.rings

variable {s t u : State}

theorem KeepsFns.trans (a : KeepsFns s t) (b : KeepsFns t u) : KeepsFns s u :=
  ⟨leavesUnits_trans a.units b.units, b.fns.trans a.fns⟩

theorem KeepsFns.refl : KeepsFns s s := ⟨leavesUnits_refl s, rfl⟩

theorem KeepsFns.foldl {α : Type} {f : State → α → State} (hf : ∀ v x, KeepsFns v (f v x)) (l : List α) (s : State) :
    KeepsFns s (l.foldl f s) := by
  induction l generalizing s with
  | nil => exact .refl
  | cons x l ih => exact (hf s x).trans (ih _)

theorem KeepsQueues.trans (a : KeepsQueues s t) (b : KeepsQueues t u) : KeepsQueues s u :=
  ⟨a.toKeepsFns.trans b.toKeepsFns, b.cmd.trans a.cmd, b.st.trans a.st, b.rings.trans a.rings⟩

theorem KeepsQueues.refl : KeepsQueues s s := ⟨.refl, rfl, rfl, rfl⟩

theorem KeepsQueues.ite {p : Prop} [Decidable p] (a : KeepsQueues s t) (b : KeepsQueues s u) :
    KeepsQueues s (if p then t else u) := by
  split
  · exact a
  · exact b

theorem KeepsQueues.foldl {α : Type} {f : State → α → State} (hf : ∀ v x, KeepsQueues v (f v x)) (l : List α) (s : State) :
    KeepsQueues s (l.foldl f s) := by
  induction l generalizing s with
  | nil => exact .refl
  | cons x l ih => exact (hf s x).trans (ih _)

theorem keepsQueues_setMbox (s : State) (m : Nat) (b : Mbox) : KeepsQueues s (s.setMbox m b) :=
  ⟨⟨leavesUnits_setMbox s m b, rfl⟩, rfl, rfl, rfl⟩

theorem keepsQueues_markNow (s : State) (k m : Nat) : KeepsQueues s (s.markNow k m) :=
  ⟨⟨leavesUnits_markNow s k m, rfl⟩, rfl, rfl, rfl⟩

theorem keepsQueues_countN (s : State) (c n e k : Nat) : KeepsQueues s (s.countN c n e k) :=
  ⟨⟨leavesUnits_countN s c n e k, rfl⟩, rfl, rfl, rfl⟩

theorem keepsQueues_count (s : State) (c n e : Nat) : KeepsQueues s (s.count c n e) := keepsQueues_countN s c n e 1

theorem keepsQueues_markLost (s : State) (k : Nat) : KeepsQueues s (s.markLost k) :=
  ⟨⟨leavesUnits_markLost s k, rfl⟩, rfl, rfl, rfl⟩

theorem keepsQueues_capturesLost (s : State) (m : Nat) : KeepsQueues s (s.capturesLost m) :=
  .foldl (fun v k => keepsQueues_markLost v (82 + k)) _ s

theorem keepsQueues_emit (s : State) (o : Outgoing) : KeepsQueues s (s.emit o) :=
  ⟨⟨leavesUnits_emit s o, rfl⟩, rfl, rfl, rfl⟩

/-- New registers of a function with its pending vectors and its table. -/
theorem keepsQueues_setFn (s : State) (f : Fn) (r : FnRegs) (hc : r.catPending = (s.fnRegs f).catPending)
    (hm : r.msix = (s.fnRegs f).msix) : KeepsQueues s (s.setFn f r) := by
  cases f with
  | pf0 => exact ⟨⟨leavesUnits_setFn s .pf0 r, Prod.ext hc (Prod.ext hm rfl)⟩, rfl, rfl, rfl⟩
  | pf1 => exact ⟨⟨leavesUnits_setFn s .pf1 r, Prod.ext rfl (Prod.ext rfl (Prod.ext hc hm))⟩, rfl, rfl, rfl⟩

theorem keepsQueues_raiseVector (s : State) (f : Fn) (v : Nat) : KeepsQueues s (s.raiseVector f v) := by
  unfold State.raiseVector
  exact .ite .refl (.ite (keepsQueues_setFn s f _ (by rfl) (by rfl)) 
    ((keepsQueues_setFn s f _ (by rfl) (by rfl)).trans (keepsQueues_emit _ _)))

theorem keepsQueues_mbCause (s : State) (m k : Nat) : KeepsQueues s (s.mbCause m k) := by
  have h : ∀ b, KeepsQueues s ((s.setFn (mbFn m) { s.fnRegs (mbFn m) with
      mbCause := (s.fnRegs (mbFn m)).mbCause ||| (1 <<< b) }).markNow (nowMb (mbFn m)) (1 <<< b)) := fun b =>
    (keepsQueues_setFn s _ _ (by rfl) (by rfl)).trans (keepsQueues_markNow _ _ _)
  unfold State.mbCause
  exact .ite .refl (.ite (h _) ((h _).trans (keepsQueues_raiseVector _ _ _)))

theorem keepsQueues_h2dExpire (s : State) (m : Nat) : KeepsQueues s (s.h2dExpire m) := by
  rw [State.h2dExpire]
  exact .ite ((((keepsQueues_setMbox s m _).trans (keepsQueues_markNow _ _ _)).trans (keepsQueues_count _ _ _ _)).trans
    (keepsQueues_mbCause _ _ _)) .refl

theorem keepsQueues_d2hExpire (s : State) (m : Nat) : KeepsQueues s (s.d2hExpire m) := by
  rw [State.d2hExpire]
  exact .ite ((keepsQueues_setMbox s m _).trans (keepsQueues_count _ _ _ _)) .refl

theorem keepsQueues_h2dWithdraw (s : State) (m : Nat) : KeepsQueues s (s.h2dWithdraw m) := by
  rw [State.h2dWithdraw]
  exact .ite (((((keepsQueues_h2dExpire s m).trans (keepsQueues_setMbox _ m _)).trans (keepsQueues_markNow _ _ _)).trans
    (keepsQueues_count _ _ _ _)).trans (keepsQueues_mbCause _ _ _)) .refl

theorem keepsQueues_d2hWithdraw (s : State) (m : Nat) : KeepsQueues s (s.d2hWithdraw m) := by
  rw [State.d2hWithdraw]
  exact .ite (((((keepsQueues_d2hExpire s m).trans (keepsQueues_setMbox _ m _)).trans (keepsQueues_markNow _ _ _)).trans
    (keepsQueues_count _ _ _ _)).trans (keepsQueues_mbCause _ _ _)) .refl

theorem keepsQueues_h2dMarkReset (s : State) (m : Nat) : KeepsQueues s (s.h2dMarkReset m) := by
  rw [State.h2dMarkReset]
  exact .ite (((keepsQueues_setMbox s m _).trans (keepsQueues_count _ _ _ _)).trans (keepsQueues_mbCause _ _ _)) .refl

theorem keepsQueues_d2hMarkReset (s : State) (m : Nat) : KeepsQueues s (s.d2hMarkReset m) := by
  rw [State.d2hMarkReset]
  exact .ite (((keepsQueues_setMbox s m _).trans (keepsQueues_count _ _ _ _)).trans (keepsQueues_mbCause _ _ _)) .refl

theorem keepsQueues_dropMessages (s : State) (gone : Nat × List Byte → Bool) : KeepsQueues s (s.dropMessages gone) := by
  rw [State.dropMessages]
  refine KeepsQueues.trans ?_ (.foldl (fun v (e : Nat × List Byte) => keepsQueues_capturesLost v (unitsIn e.2)) _ _)
  exact ⟨⟨leavesUnits_host s _, rfl⟩, rfl, rfl, rfl⟩

/-! #### Function-level reset -/

theorem keepsFns_cmd (s : State) (g : CmdGroup) : KeepsFns s { s with cmd := g } := ⟨leavesUnits_cmd s g, rfl⟩

theorem keepsFns_setRing (s : State) (n : Nat) (r : Ring) : KeepsFns s (s.setRing n r) := ⟨leavesUnits_setRing s n r, rfl⟩

theorem keepsFns_ringLost (s : State) (n k : Nat) : KeepsFns s (s.ringLost n k) := by
  refine ⟨leavesUnits_ringLost s n k, ?_⟩
  unfold State.ringLost
  split
  · rfl
  · rfl

theorem keepsFns_answerCompletion (s : State) (d : Bool) (k : Nat) (i : Instr) (h : Hdr) (rep : Reply) (c : Nat) :
    KeepsFns s (s.answerCompletion d k i h rep c) := by
  unfold State.answerCompletion
  dsimp only
  split
  · refine KeepsFns.trans ?_ (keepsQueues_capturesLost _ _).toKeepsFns
    split
    · exact keepsFns_ringLost _ _ _
    · exact .refl
  · split
    · exact keepsFns_cmd _ _
    · split
      · exact keepsFns_cmd _ _
      · exact (keepsQueues_capturesLost _ _).toKeepsFns

theorem keepsFns_complete (s : State) (k : Nat) (i : Instr) (h : Hdr) (rep : Reply) (c : Nat) :
    KeepsFns s (s.complete k i h rep c) := by
  unfold State.complete
  exact (keepsFns_cmd s _).trans (keepsFns_answerCompletion _ _ _ _ _ _ _)

theorem keepsFns_flrCommands (s : State) (f : Fn) : KeepsFns s (s.flrCommands f) :=
  ((keepsFns_cmd s _).trans (.foldl (fun v (c : Cmd) => keepsFns_complete v c.id c.instr c.h (Reply.fail .state) 4) _ _)).trans
    (keepsFns_cmd _ _)

theorem keepsFns_flrReplies (s : State) (f : Fn) : KeepsFns s (s.flrReplies f) := by
  refine ((keepsQueues_dropMessages s _).toKeepsFns.trans (keepsFns_cmd _ _)).trans (.foldl (fun v (e : OutEntry) => ?_) _ _)
  refine KeepsFns.trans ?_ (keepsQueues_capturesLost _ _).toKeepsFns
  split
  · split
    · exact .refl
    · exact keepsFns_ringLost _ _ _
  · exact .refl

theorem keepsFns_flrRings (s : State) (f : Fn) : KeepsFns s (s.flrRings f) := by
  unfold State.flrRings
  extract_lets ns gone s0 s1
  have h0 : KeepsFns s s0 := .foldl (fun v (e : HeldEntry) => keepsFns_ringLost v e.ring 1) _ s
  have h1 : KeepsFns s0 s1 := .foldl (fun v n => keepsFns_setRing v n (Ring.fresh (v.ring n).owner)) _ s0
  exact (h0.trans h1).trans ⟨leavesUnits_host s1 _, rfl⟩

/-- The state in which a function's reset has cleared the function's registers. -/
def State.flrCleared (s : State) (f : Fn) : State :=
  (s.setFn f (s.fnRegs f).cleared).setCfg f ((s.cfg f).cleared true)

theorem keepsQueues_overBoxes {g : State → Nat → State} (hg : ∀ v m, KeepsQueues v (g v m)) (s : State) (l : List Nat) :
    KeepsQueues s (s.overBoxes l g) := .foldl hg l s

/-- A function's reset leaves the units as they are and clears the function's registers. -/
theorem State.flr_steps (s : State) (f : Fn) :
    ∃ u, KeepsFns s u ∧ KeepsQueues (u.flrCleared f) (s.flr f) := by
  refine ⟨((s.flrCommands f).flrReplies f).flrRings f,
    ((keepsFns_flrCommands s f).trans (keepsFns_flrReplies _ f)).trans (keepsFns_flrRings _ f), ?_⟩
  unfold State.flr
  exact (keepsQueues_overBoxes keepsQueues_h2dWithdraw _ _).trans (keepsQueues_overBoxes keepsQueues_d2hMarkReset _ _)

/-- Pending catalogue vectors and MSI-X table of a function. -/
theorem fnRegs_of_frame {s t : State} (h : t.fnFrame = s.fnFrame) (f : Fn) :
    (t.fnRegs f).catPending = (s.fnRegs f).catPending ∧ (t.fnRegs f).msix = (s.fnRegs f).msix := by
  simp only [State.fnFrame, Prod.mk.injEq] at h
  obtain ⟨h0, h1, h2, h3⟩ := h
  cases f with
  | pf0 => exact ⟨h0, h1⟩
  | pf1 => exact ⟨h2, h3⟩

theorem State.flrCleared_kept (s : State) (f : Fn) : (s.flrCleared f).objs = s.objs ∧ (s.flrCleared f).live = s.live ∧
    (s.flrCleared f).raw = s.raw ∧ ((s.flrCleared f).fnRegs f).catPending = 0 ∧ ((s.flrCleared f).fnRegs f).msix = [] := by
  cases f with
  | pf0 => exact ⟨rfl, rfl, rfl, rfl, rfl⟩
  | pf1 => exact ⟨rfl, rfl, rfl, rfl, rfl⟩

theorem State.flrCleared_other {s : State} {f g : Fn} (h : g ≠ f) : (s.flrCleared f).fnRegs g = s.fnRegs g := by
  cases f with
  | pf0 => cases g with
    | pf0 => exact absurd rfl h
    | pf1 => rfl
  | pf1 => cases g with
    | pf0 => rfl
    | pf1 => exact absurd rfl h

/-- What a function's reset leaves alone, and what it clears. -/
theorem State.flr_kept (s : State) (f : Fn) : (s.flr f).objs = s.objs ∧ (s.flr f).live = s.live ∧ (s.flr f).raw = s.raw ∧
    ((s.flr f).fnRegs f).catPending = 0 ∧ ((s.flr f).fnRegs f).msix = [] := by
  obtain ⟨u, hu, hq⟩ := s.flr_steps f
  obtain ⟨ho, hl, hr, hc, hm⟩ := u.flrCleared_kept f
  obtain ⟨hqc, hqm⟩ := fnRegs_of_frame hq.fns f
  exact ⟨hq.units.objs.trans (ho.trans hu.units.objs), hq.units.live.trans (hl.trans hu.units.live),
    hq.units.raw.trans (hr.trans hu.units.raw), hqc.trans hc, hqm.trans hm⟩

theorem State.flr_catPending_other {s : State} {f g : Fn} (h : g ≠ f) :
    ((s.flr f).fnRegs g).catPending = (s.fnRegs g).catPending := by
  obtain ⟨u, hu, hq⟩ := s.flr_steps f
  rw [(fnRegs_of_frame hq.fns g).1, State.flrCleared_other h, (fnRegs_of_frame hu.fns g).1]

/-- Payload sizes back at their reset values. -/
theorem State.setCfg_cleared (s : State) (c d : CfgSpace) (f : Fn) :
    ((s.setCfg .pf0 (c.cleared false)).setCfg .pf1 (d.cleared false)).objs = s.objs ∧
    ((s.setCfg .pf0 (c.cleared false)).setCfg .pf1 (d.cleared false)).fnRegs f = s.fnRegs f ∧
    (((s.setCfg .pf0 (c.cleared false)).setCfg .pf1 (d.cleared false)).cfg f).maxPayload = 128 := by
  cases f with
  | pf0 => exact ⟨rfl, rfl, rfl⟩
  | pf1 => exact ⟨rfl, rfl, rfl⟩

/-- What a link reset clears, and that it leaves the objects. -/
theorem State.linkReset_kept (s : State) (f : Fn) : s.linkReset.objs = s.objs ∧ (s.linkReset.fnRegs f).catPending = 0 ∧
    (s.linkReset.cfg f).maxPayload = 128 := by
  obtain ⟨ho0, -, -, hc0, -⟩ := s.flr_kept .pf0
  obtain ⟨ho1, -, -, hc1, -⟩ := (s.flr .pf0).flr_kept .pf1
  have hc : (((s.flr .pf0).flr .pf1).fnRegs f).catPending = 0 := by
    cases f with
    | pf0 => exact (State.flr_catPending_other (by decide)).trans hc0
    | pf1 => exact hc1
  have ho2 := ho1.trans ho0
  unfold State.linkReset
  generalize (s.flr .pf0).flr .pf1 = u at hc ho2
  obtain ⟨ho, hf, hm⟩ := u.setCfg_cleared (u.cfg .pf0) ((u.setCfg .pf0 ((u.cfg .pf0).cleared false)).cfg .pf1) f
  exact ⟨ho.trans ho2, (congrArg FnRegs.catPending hf).trans hc, hm⟩

theorem State.fnRegs_withBt (s : State) (g : BtGroup) (f : Fn) : ({ s with bt := g } : State).fnRegs f = s.fnRegs f := by
  cases f with
  | pf0 => rfl
  | pf1 => rfl

theorem State.cfg_withBt (s : State) (g : BtGroup) (f : Fn) : ({ s with bt := g } : State).cfg f = s.cfg f := by
  cases f with
  | pf0 => rfl
  | pf1 => rfl

theorem functionResets (f : Fn) (s : State) (hp : 10 < s.phase) (hw : s.bt.widest < 2) :
    let acted := fun (t : State) => { t with bt := { t.bt with widest := 1 } }
    (s.powered domPCIE = false → exec (.flr f) s = .next (acted s) ∧ exec .linkReset s = .next (acted s)) ∧
    (s.powered domPCIE = true → ∃ t, exec (.flr f) s = .next t ∧ (t.fnRegs f).catPending = 0 ∧
      (t.fnRegs f).msix = [] ∧ t.objs = s.objs ∧ t.live = s.live ∧ t.raw = s.raw) ∧
    (s.powered domPCIE = true → ∃ t, exec .linkReset s = .next t ∧ (t.fnRegs f).catPending = 0 ∧ t.objs = s.objs ∧
      (t.cfg f).maxPayload = 128) := by
  have hflr := State.resetRow_acts_narrow hp (a := .function f) hw rfl
  have hlink := State.resetRow_acts_narrow hp (a := .link) hw rfl
  refine ⟨fun ho => ?_, fun ho => ?_, fun ho => ?_⟩
  · have hf : s.resetBy (.function f) = s := if_neg (by rw [ho]; decide)
    have hl : s.resetBy .link = s := if_neg (by rw [ho]; decide)
    rw [hf] at hflr
    rw [hl] at hlink
    exact ⟨congrArg Host.Outcome.next hflr, congrArg Host.Outcome.next hlink⟩
  · have hf : s.resetBy (.function f) = s.flr f := if_pos ho
    rw [hf] at hflr
    obtain ⟨h1, h2, h3, h4, h5⟩ := s.flr_kept f
    generalize s.flr f = u at hflr h1 h2 h3 h4 h5
    exact ⟨_, congrArg Host.Outcome.next hflr, by rw [State.fnRegs_withBt, h4], by rw [State.fnRegs_withBt, h5], h1, h2, h3⟩
  · have hl : s.resetBy .link = s.linkReset := if_pos ho
    rw [hl] at hlink
    obtain ⟨h1, h2, h3⟩ := s.linkReset_kept f
    generalize s.linkReset = u at hlink h1 h2 h3
    exact ⟨_, congrArg Host.Outcome.next hlink, by rw [State.fnRegs_withBt, h2], h1, by rw [State.cfg_withBt, h3]⟩

end Sys2Proof.Machine
end

/-! ### Docent restarts and warm resets (R397, R487 to R489) -/

section
namespace Sys2Proof.Machine

/-! #### Docent restart -/

/-- A Docent that goes down with no command in flight. -/
theorem State.docentDown_idle {s : State} (h : s.cmd.open_ = []) (c : Nat) :
    (s.docentDown c).bt = { s.bt with ready := false, booting := true, waitGo := false, cause := c } ∧
    (s.docentDown c).objs = s.objs ∧ (s.docentDown c).live = s.live ∧ (s.docentDown c).cmd.commits = s.cmd.commits := by
  have h0 := keepsQueues_dropMessages s (fun _ => true)
  unfold State.docentDown
  dsimp only
  generalize s.dropMessages (fun _ => true) = u at h0 ⊢
  have h1 := (keepsQueues_overBoxes keepsQueues_h2dMarkReset
    { u with bt := { u.bt with ready := false, booting := true, waitGo := false, cause := c } } (List.range 8)).trans
    (keepsQueues_overBoxes keepsQueues_d2hWithdraw _ (List.range 8))
  generalize ((State.overBoxes _ _ _).overBoxes _ _ : State) = v at h1 ⊢
  have hv : v.cmd = s.cmd := h1.cmd.trans h0.cmd
  rw [hv, h, ← hv, ← h0.units.bt, ← h0.units.objs, ← h0.units.live]
  exact ⟨h1.units.bt, h1.units.objs, h1.units.live, rfl⟩

/-- The state in which a requested restart that is due has been taken. -/
def State.restartTaken (s : State) : State :=
  { s with cmd := { s.cmd with resetAt := s.cmd.resetAt.filter (fun e => !decide (e.1 ≤ s.tick ∧ e.2 = 1)) } }

theorem State.docentRestart_up {s : State} (h3 : s.powerState ≠ 3) (hr : s.restartDue = false) (hb : s.bt.booting = false)
    (c : Nat) : s.docentRestart c = s.restartTaken.docentDown c := by
  unfold State.docentRestart
  rw [if_neg h3, if_neg (by simp [hr, hb]), if_neg (by simp [hb])]
  rfl

theorem docentRestarts (c : BitVec 8) (s : State) (hc : s.restartCause c.toNat = true) (hp : 10 < s.phase)
    (hw : s.bt.widest < 2) (h3 : s.powerState ≠ 3) (hr : s.restartDue = false) (hb : s.bt.booting = false)
    (ho : s.cmd.open_ = []) :
    ∃ t, exec (.docentRestart c) s = .next t ∧ t.bt.ready = false ∧ t.bt.booting = true ∧ t.bt.cause = c.toNat ∧
      t.objs = s.objs ∧ t.live = s.live ∧ t.cmd.commits = s.cmd.commits := by
  obtain ⟨hbt, hobj, hlive, hcom⟩ := State.docentDown_idle (s := s.restartTaken) ho c.toNat
  have hact := State.resetRow_acts hp (a := .docent c.toNat) hw
  have hby : s.resetBy (.docent c.toNat) = s.restartTaken.docentDown c.toNat := State.docentRestart_up h3 hr hb c.toNat
  rw [hby] at hact
  generalize s.restartTaken.docentDown c.toNat = u at hact hbt hobj hlive hcom
  refine ⟨_, congrArg Host.Outcome.next ((if_pos hc).trans hact), ?_, ?_, ?_, hobj, hlive, hcom⟩
  · exact congrArg BtGroup.ready hbt
  · exact congrArg BtGroup.booting hbt
  · exact congrArg BtGroup.cause hbt

/-! #### Links that leave UP keep the power state -/

theorem State.powerState_same {s t : State} (h : t.objs = s.objs) : t.powerState = s.powerState := getF_of_objs_eq h _ _

/-- The object of the power state is no object of a class below its own. -/
theorem powerKey_ne {c n : Nat} (hc : c < 0x12) (hn : n < 65536) : okey Fld.thermal.powerState.cls 0 ≠ okey c n := by
  rw [okey, okey, show Fld.thermal.powerState.cls = 0x12 from rfl]
  omega

theorem State.powerState_setF (s : State) (f : Field) (n v : Nat) (hc : f.cls < 0x12) (hn : n < 65536) :
    (s.setF f n v).powerState = s.powerState := State.getF_setF_other s f _ n 0 v (powerKey_ne hc hn)

theorem State.powerState_raise (s : State) (f : Field) (n : Nat) (hc : f.cls < 0x12) (hn : n < 65536) :
    (s.raise f n).powerState = s.powerState :=
  (State.powerState_same (leavesUnits_markNow _ _ _).objs).trans (State.powerState_setF s f n 1 hc hn)

theorem State.powerState_count (s : State) (c n e : Nat) : (s.count c n e).powerState = s.powerState :=
  State.powerState_same (leavesUnits_count s c n e).objs

theorem State.powerState_reachInput (s : State) (t r st : Nat) : (s.reachInput t r st).powerState = s.powerState := rfl

theorem State.powerState_draw (s : State) : s.draw.2.powerState = s.powerState := rfl

theorem State.powerState_forkEvent (s : State) (row r : Nat) (ball : Option Nat) :
    (s.forkEvent row r ball).powerState = s.powerState := by
  rw [State.forkEvent]
  refine foldl_keeps State.powerState (fun u t => ?_) _ _
  dsimp only
  rw [State.powerState_reachInput, State.powerState_draw]

theorem State.powerState_gate (s : State) (p r : Nat) : (s.gate p r).2.powerState = s.powerState := by
  rw [State.gate]
  split
  · rfl
  · rfl

theorem State.powerState_fireAt (s : State) (p r : Nat) (ball : Option Nat) : (s.fireAt p r ball).powerState = s.powerState := by
  rw [State.fireAt]
  dsimp only
  split
  · rfl
  · split
    · rw [State.powerState_count, State.powerState_raise _ _ _ (show 0x10 < 0x12 by decide) (by decide)]
    · split
      · rw [State.powerState_count, State.powerState_gate, State.powerState_count]
        exact State.powerState_same rfl
      · rw [State.powerState_forkEvent, State.powerState_gate, State.powerState_count]
        exact State.powerState_same rfl

theorem State.powerState_setCpRt (s : State) (p : Nat) (r : CpRt) : (s.setCpRt p r).powerState = s.powerState := rfl

theorem State.powerState_goDown (s : State) {p : Nat} (h : p < 4) : (s.goDown p).powerState = s.powerState := by
  have hn : p < 65536 := by omega
  have h11 : 0x11 < 0x12 := by decide
  rw [State.goDown, State.powerState_setCpRt, State.powerState_setF _ _ _ _ h11 hn, State.powerState_setF _ _ _ _ h11 hn]

theorem State.powerState_leaveUp (s : State) {p : Nat} (h : p < 4) : (s.leaveUp p).powerState = s.powerState := by
  have hn : p < 65536 := by omega
  have h11 : 0x11 < 0x12 := by decide
  rw [State.leaveUp, State.powerState_same (leavesUnits_notice ..).objs, State.fire, State.powerState_fireAt,
    State.powerState_count, State.powerState_setF _ _ _ _ h11 hn, State.powerState_raise _ _ _ h11 hn,
    State.powerState_goDown s h]

theorem State.powerState_linkLeaves (s : State) {p : Nat} (h : p < 4) : (s.linkLeaves p).powerState = s.powerState := by
  unfold State.linkLeaves
  split
  · exact s.powerState_leaveUp h
  · rfl

/-- The state in which every courier port that was UP has left it. -/
def State.linksLeft (s : State) : State := [0, 1, 2, 3].foldl State.linkLeaves s

theorem State.powerState_linksLeft (s : State) : s.linksLeft.powerState = s.powerState :=
  (State.powerState_linkLeaves _ (by decide)).trans ((State.powerState_linkLeaves _ (by decide)).trans
    ((State.powerState_linkLeaves _ (by decide)).trans (State.powerState_linkLeaves _ (by decide))))

theorem State.linksLeft_none {s : State} (h : ∀ p : Fin 4, s.linkState p.val ≠ 3) : s.linksLeft = s :=
  foldl_stays fun p hp => if_neg (h ⟨p, by
    simp only [List.mem_cons, List.not_mem_nil, or_false] at hp
    omega⟩)

/-! #### Warm reset -/

/-- What is left of the records and strongroom writes under way at a warm reset, and of the ledger. -/
def State.warmStart (s : State) : State := s.cutWrites.warmLost.mirrorNow.ledgerReset

theorem State.Core.withLdg {q : Bool} {s ref : State} {g : LdgGroup} (hs : s.Core q ref) :
    ({ s with ldg := g } : State).Core q ref := .same hs rfl rfl rfl rfl

theorem State.Core.warmStart {q : Bool} {s ref : State} (hs : s.Core q ref) : s.warmStart.Core q ref := by
  rw [State.warmStart, State.ledgerReset, State.mirrorNow]
  exact .withLdg (.withLdg hs.cutWrites.warmLost)

theorem State.Core.linksLeft {q : Bool} {s ref : State} (hs : s.Core q ref) : s.linksLeft.Core q ref :=
  .foldl (fun _ _ hu => hu.linkLeaves) hs

/-- What the objects' return to their reset values leaves as it is. -/
def State.objectFrame (s : State) : Nat × CmdGroup × LdgGroup × TmGroup × BiGroup × BtGroup × HostGroup × Nat × List (Nat × Nat) :=
  (s.raw, s.cmd, s.ldg, s.tm, s.bi, s.bt, s.host, s.pw.sagged, s.pw.orderHolds)

theorem State.objectFrame_setF (s : State) (f : Field) (n v : Nat) : (s.setF f n v).objectFrame = s.objectFrame := by
  rw [State.objectFrame, State.setF_raw, State.setF_cmd, State.setF_ldg, State.setF_tm, State.setF_bi, State.setF_bt, State.setF_host,
    State.setF_pw]
  rfl

theorem State.objectFrame_avsSince (s : State) (p : Prop) [Decidable p] :
    (if p then s else { s with pw := { s.pw with avsSince := 0 } }).objectFrame = s.objectFrame := by
  split
  · rfl
  · rfl

theorem State.objectFrame_setPower (s : State) (v : Nat) : (s.setPower v).objectFrame = s.objectFrame := by
  have h := ((s.setF Fld.thermal.powerState 0 v).objectFrame_avsSince (v = 0)).trans (s.objectFrame_setF _ _ _)
  unfold State.setPower
  dsimp only
  generalize (if v = 0 then _ else _ : State) = u at h
  split
  · rw [State.objectFrame_setF, h]
  · exact h

/-- The stores with what a warm reset keeps of them. -/
def State.storesKept (s : State) : State :=
  { s with
    objs := s.objs.filter (fun e => warmKeeps (keyDom e.1))
    live := s.live.filter (fun e => warmKeeps (keyDom e.1) && decide (e.1 / 65536 ≠ 0x10))
    undo := s.undo.filter (fun u => warmKeeps (keyDom u.key) && decide (u.key / 65536 ≠ 0x10)) }

theorem State.objectFrame_setObj (s : State) (c n v : Nat) : (s.setObj c n v).objectFrame = s.objectFrame := rfl

theorem State.warmObjects_eq (s : State) : s.warmObjects =
    (s.storesKept.setObj 0x10 0 (warmCatalogue (s.obj 0x10 0))).setPower 2 := by
  unfold State.warmObjects State.storesKept
  rfl

theorem State.objectFrame_storesKept (s : State) : s.storesKept.objectFrame = s.objectFrame := rfl

theorem State.objectFrame_warmObjects (s : State) : s.warmObjects.objectFrame = s.objectFrame := by
  rw [State.warmObjects_eq, State.objectFrame_setPower, State.objectFrame_setObj, State.objectFrame_storesKept]

/-- The host link with its rings and registers at their reset values. -/
def State.hostCleared (s : State) : State :=
  { s with host := { s.host with rings := [], ringCause := 0, pf0 := FnRegs.fresh 1, pf1 := FnRegs.fresh 0, held := [] } }

theorem State.warmHost_eq (s : State) : s.warmHost =
    (((s.dropMessages (fun _ => true)).hostCleared.overBoxes (List.range 8) State.h2dWithdraw).overBoxes (List.range 8)
      State.d2hWithdraw) := rfl

/-- The host link's return to its reset values. -/
theorem State.warmHost_kept (s : State) : LeavesUnits s s.warmHost ∧ s.warmHost.cmd = s.cmd ∧ s.warmHost.ldg.st = s.ldg.st ∧
    s.warmHost.host.rings = [] := by
  have h0 := keepsQueues_dropMessages s (fun _ => true)
  rw [State.warmHost_eq]
  generalize s.dropMessages (fun _ => true) = u at h0 ⊢
  have h1 : LeavesUnits u u.hostCleared := leavesUnits_host u _
  have h2 := (keepsQueues_overBoxes keepsQueues_h2dWithdraw u.hostCleared (List.range 8)).trans
    (keepsQueues_overBoxes keepsQueues_d2hWithdraw _ (List.range 8))
  exact ⟨leavesUnits_trans h0.units (leavesUnits_trans h1 h2.units), h2.cmd.trans h0.cmd, h2.st.trans h0.st, h2.rings⟩

theorem State.dropMessages_none {s : State} (h : s.host.mbq = []) (gone : Nat × List Byte → Bool) : s.dropMessages gone = s := by
  rw [State.dropMessages, h]
  show { s with host := { s.host with mbq := [] } } = s
  rw [← h]

theorem State.overBoxes_empty {s : State} {f : State → Nat → State} (h : ∀ m < 8, f s m = s) : s.overBoxes (List.range 8) f = s :=
  foldl_stays fun m hm => h m (List.mem_range.1 hm)

theorem State.warmHost_idle {s : State} (hq : s.host.mbq = [])
    (hb : ∀ m : Fin 8, (s.mbox m.val).h2dFull = false ∧ (s.mbox m.val).d2hFull = false) : s.warmHost.ldg = s.ldg := by
  have hh : ∀ t : State, t.host.mbs = s.host.mbs → ∀ m < 8, t.h2dWithdraw m = t := fun t ht m hm =>
    if_neg (by rw [State.mbox, ht]; exact Bool.eq_false_iff.1 (hb ⟨m, hm⟩).1)
  have hd : ∀ t : State, t.host.mbs = s.host.mbs → ∀ m < 8, t.d2hWithdraw m = t := fun t ht m hm =>
    if_neg (by rw [State.mbox, ht]; exact Bool.eq_false_iff.1 (hb ⟨m, hm⟩).2)
  rw [State.warmHost_eq, State.dropMessages_none hq, State.overBoxes_empty (hh s.hostCleared rfl), State.overBoxes_empty (hd s.hostCleared rfl)]
  rfl

theorem State.viSettle_none {s : State} (h : s.vi.run = []) (v : Nat) : s.viSettle v = s := by
  have hr : s.viRun v = ViRun.none := by rw [State.viRun, h]; rfl
  rw [State.viSettle, hr]
  rfl

theorem State.warmLost_idle {s : State} (hb : s.vd.block = []) (hsv : s.sv.run = []) (hvi : s.vi.run = []) (hq : s.eth.txq = [])
    (ho : s.cmd.outbox = []) : s.warmLost = { s with eth := { s.eth with txq := [], pauseEnd := 0 } } := by
  have h1 : (List.range 8).foldl State.viSettle s = s := foldl_stays fun v _ => State.viSettle_none hvi v
  have h2 : s.blockLost = s := if_pos hb
  have h3 : s.svDropped = s := by
    rw [State.svDropped, hsv]
    rfl
  unfold State.warmLost
  rw [h1, h2, h3, State.dropQueue, hq]
  dsimp only [List.foldl_nil]
  rw [ho]
  rfl

theorem State.warmStart_st (s : State) : s.warmStart.ldg.st = 0 := rfl

/-- A warm reset but for the power of the bias banks. -/
def State.warmEnd (s : State) : State :=
  (s.linksLeft.warmStart.warmGroups.warmObjects.warmHost).setF Fld.eth.macAddr 0 s.linksLeft.stationMac

theorem State.warmReset_eq (s : State) : s.warmReset =
    if s.powerState = 3 then [49, 50, 51, 52].foldl State.powerOn s.warmEnd else s.warmEnd := by
  rw [← s.powerState_linksLeft]
  rfl

/-- The units' groups after a warm reset. -/
theorem State.warmGroups_kept (s : State) : s.warmGroups.raw = s.raw ∧ s.warmGroups.cmd.open_ = [] ∧
    s.warmGroups.ldg.st = s.ldg.st ∧ s.warmGroups.tm = { s.tm with stamps := [], switches := [], epoch := [] } ∧
    s.warmGroups.bi = s.bi ∧ s.warmGroups.bt.ready = false ∧ s.warmGroups.bt.booting = true ∧
    s.warmGroups.pw.sagged = s.pw.sagged ∧ s.warmGroups.pw.orderHolds = s.pw.orderHolds :=
  ⟨rfl, rfl, rfl, rfl, rfl, rfl, rfl, rfl, rfl⟩

theorem State.warmEnd_kept (s : State) : s.warmEnd.raw = s.raw ∧ s.warmEnd.cmd.open_ = [] ∧ s.warmEnd.ldg.st = 0 ∧
    s.warmEnd.tm = { s.tm with stamps := [], switches := [], epoch := [] } ∧ s.warmEnd.bi = s.bi ∧
    s.warmEnd.bt.ready = false ∧ s.warmEnd.bt.booting = true ∧ s.warmEnd.pw.sagged = s.pw.sagged ∧
    s.warmEnd.pw.orderHolds = s.pw.orderHolds ∧ s.warmEnd.host.rings = [] := by
  have hc : s.linksLeft.warmStart.Core true s := .warmStart (.linksLeft .refl)
  have hst := s.linksLeft.warmStart_st
  unfold State.warmEnd
  rw [State.setF_raw, State.setF_cmd, State.setF_ldg, State.setF_tm, State.setF_bi, State.setF_bt, State.setF_pw, State.setF_host]
  generalize s.linksLeft.warmStart = v at hc hst ⊢
  obtain ⟨htm, hbi⟩ := hc.rest rfl
  obtain ⟨wraw, wopen, wst, wtm, wbi, wready, wboot, wsag, whold⟩ := v.warmGroups_kept
  generalize v.warmGroups = w at wraw wopen wst wtm wbi wready wboot wsag whold ⊢
  have ho := w.objectFrame_warmObjects
  generalize w.warmObjects = x at ho ⊢
  simp only [State.objectFrame, Prod.mk.injEq] at ho
  obtain ⟨xraw, xcmd, xldg, xtm, xbi, xbt, -, xsag, xhold⟩ := ho
  obtain ⟨hu, ycmd, yst, yrings⟩ := x.warmHost_kept
  generalize x.warmHost = y at hu ycmd yst yrings ⊢
  rw [hu.raw, hu.tm, hu.bi, hu.bt, hu.pw, ycmd, yst, xraw, xcmd, xldg, xtm, xbi, xbt, xsag, xhold, wraw, wopen, wst, wtm, wbi,
    wready, wboot, wsag, whold, hst, htm, hbi, hc.raw, hc.pw]
  exact ⟨rfl, rfl, rfl, rfl, rfl, rfl, rfl, rfl, rfl, yrings⟩

theorem State.warmStart_idle {s : State} (hb : s.vd.block = []) (hsv : s.sv.run = []) (hvi : s.vi.run = []) (hq : s.eth.txq = [])
    (ho : s.cmd.outbox = []) (hn : ∀ w ∈ s.cmd.timed, w.nv = false) :
    s.warmStart.ldg.mirror = s.supplied ∧ s.warmStart.host = s.host := by
  rw [State.warmStart, State.cutWrites_none hn, State.warmLost_idle hb hsv hvi hq ho]
  exact ⟨rfl, rfl⟩

/-- Where a warm reset discards nothing, the counters are those that the units supply. -/
theorem State.warmEnd_counters {s : State} (hl : ∀ p : Fin 4, s.linkState p.val ≠ 3) (hb : s.vd.block = [])
    (hsv : s.sv.run = []) (hvi : s.vi.run = []) (hq : s.eth.txq = []) (ho : s.cmd.outbox = [])
    (hn : ∀ w ∈ s.cmd.timed, w.nv = false) (hm : s.host.mbq = [])
    (hx : ∀ m : Fin 8, (s.mbox m.val).h2dFull = false ∧ (s.mbox m.val).d2hFull = false) : s.warmEnd.ldg.cnt = s.supplied := by
  obtain ⟨hmir, hhost⟩ := State.warmStart_idle hb hsv hvi hq ho hn
  unfold State.warmEnd
  rw [State.linksLeft_none hl, State.setF_ldg]
  generalize s.warmStart = v at hmir hhost ⊢
  have wcnt : v.warmGroups.ldg.cnt = v.ldg.mirror := rfl
  have whost : v.warmGroups.host = v.host := rfl
  generalize v.warmGroups = w at wcnt whost ⊢
  have hf := w.objectFrame_warmObjects
  generalize w.warmObjects = x at hf ⊢
  simp only [State.objectFrame, Prod.mk.injEq] at hf
  obtain ⟨-, -, xldg, -, -, -, xhost, -, -⟩ := hf
  have hxh : x.host = s.host := xhost.trans (whost.trans hhost)
  have hxm : ∀ m, x.mbox m = s.mbox m := fun m => by rw [State.mbox, hxh, State.mbox]
  rw [State.warmHost_idle (by rw [hxh, hm]) (fun m => by rw [hxm]; exact hx m), xldg, wcnt, hmir]

theorem State.warmReset_kept (s : State) : s.warmReset.raw = s.raw ∧ s.warmReset.cmd.open_ = [] ∧ s.warmReset.ldg.st = 0 ∧
    s.warmReset.tm = { s.tm with stamps := [], switches := [], epoch := [] } ∧ s.warmReset.bi = s.bi ∧
    s.warmReset.bt.ready = false ∧ s.warmReset.bt.booting = true ∧ s.warmReset.host.rings = [] := by
  obtain ⟨hraw, hopen, hst, htm, hbi, hready, hboot, -, -, hrings⟩ := s.warmEnd_kept
  rw [State.warmReset_eq]
  generalize s.warmEnd = u at hraw hopen hst htm hbi hready hboot hrings ⊢
  split
  · have hf := u.powerFrame_powerOns [49, 50, 51, 52]
    generalize [49, 50, 51, 52].foldl State.powerOn u = t at hf ⊢
    simp only [State.powerFrame, Prod.mk.injEq] at hf
    obtain ⟨f1, -, f3, f4, f5, f6, -, f8, -, f10⟩ := hf
    rw [f1, f3, f4, f5, f6, f8, f10]
    exact ⟨hraw, hopen, hst, htm, hbi, hready, hboot, hrings⟩
  · exact ⟨hraw, hopen, hst, htm, hbi, hready, hboot, hrings⟩

theorem exec_warmReset {s : State} (hp : 10 < s.phase) (hw : s.bt.widest < 3) :
    exec .warmReset s = .next { s.warmReset with bt := { s.warmReset.bt with widest := 3 } } :=
  congrArg Host.Outcome.next (State.resetRow_acts hp (a := .warm) hw)

theorem warmResets (s : State) (hp : 10 < s.phase) (hw : s.bt.widest < 3) :
    ∃ t, exec .warmReset s = .next t ∧ t.raw = s.raw ∧ t.cmd.open_ = [] ∧
     (s.vd.block = [] → s.sv.run = [] → s.vi.run = [] → s.eth.txq = [] → s.cmd.outbox = [] → s.host.mbq = [] →
       s.powerState ≠ 3 → (∀ w ∈ s.cmd.timed, w.nv = false) → (∀ p : Fin 4, s.linkState p.val ≠ 3) →
       (∀ m : Fin 8, (s.mbox m.val).h2dFull = false ∧ (s.mbox m.val).d2hFull = false) → t.ldg.cnt = s.supplied) ∧
     t.ldg.st = 0 ∧ t.tm.now = s.tm.now ∧ t.tm.switches = [] ∧ t.tm.epoch = [] ∧ t.bt.ready = false ∧ t.bt.booting = true ∧
     t.host.rings = [] ∧ (s.powerState ≠ 3 → t.bi = s.bi) ∧ t.bt.widest = 3 := by
  obtain ⟨hraw, hopen, hst, htm, hbi, hready, hboot, hrings⟩ := s.warmReset_kept
  have hcnt : s.vd.block = [] → s.sv.run = [] → s.vi.run = [] → s.eth.txq = [] → s.cmd.outbox = [] → s.host.mbq = [] →
      s.powerState ≠ 3 → (∀ w ∈ s.cmd.timed, w.nv = false) → (∀ p : Fin 4, s.linkState p.val ≠ 3) →
      (∀ m : Fin 8, (s.mbox m.val).h2dFull = false ∧ (s.mbox m.val).d2hFull = false) → s.warmReset.ldg.cnt = s.supplied :=
    fun hb hsv hvi hq ho hm h3 hn hl hx => by
      rw [State.warmReset_eq, if_neg h3]
      exact State.warmEnd_counters hl hb hsv hvi hq ho hn hm hx
  have hexec := exec_warmReset hp hw
  generalize s.warmReset = u at hexec hraw hopen hst htm hbi hready hboot hrings hcnt
  have hnow := congrArg TmGroup.now htm
  have hswitches := congrArg TmGroup.switches htm
  have hepoch := congrArg TmGroup.epoch htm
  exact ⟨_, hexec, hraw, hopen, hcnt, hst, hnow, hswitches, hepoch, hready, hboot, hrings, fun _ => hbi, rfl⟩

/-- Out of Dormant a warm reset powers the bias banks. -/
theorem dormantResets (s : State) (h3 : s.powerState = 3) (hp : 10 < s.phase) (hw : s.bt.widest < 3) :
    ∃ t, exec .warmReset s = .next t ∧ t.bt.booting = true ∧
      ((∀ n, bit s.pw.sagged n = false) → s.pw.orderHolds = [] → ∀ k : Fin 4, t.powered (49 + k.val) = true) := by
  obtain ⟨-, -, -, -, -, -, hboot, -⟩ := s.warmReset_kept
  obtain ⟨-, -, -, -, -, -, -, hsag, hhold, -⟩ := s.warmEnd_kept
  have hon : (∀ n, bit s.pw.sagged n = false) → s.pw.orderHolds = [] → ∀ k : Fin 4, s.warmReset.powered (49 + k.val) = true := by
    intro hs hh k
    rw [State.warmReset_eq, if_pos h3]
    refine State.powered_powerOns (by rw [hsag]; exact hs) (hhold.trans hh) (.inl ?_)
    simp only [List.mem_cons, List.not_mem_nil, or_false]
    omega
  have hexec := exec_warmReset hp hw
  generalize s.warmReset = u at hexec hboot hon
  exact ⟨_, hexec, hboot, hon⟩

/-- Settles O56: one clause at a time. A reset from outside is asked for up to the tick's end and acts there or later by its width;
a cold and a warm reset go through what each of their stages keeps, a function's and a link's through the registers that they clear,
and boots follow the straps and the slots. -/
theorem resetsAndRestarts : Obligations.ResetsAndRestarts := by
  unfold Obligations.ResetsAndRestarts
  exact ⟨⟨resets_asked, resets_late, resets_widest⟩, ⟨coldResets, warmResets, functionResets⟩,
    ⟨fun _ _ h => congrArg Host.Outcome.next (if_neg (by rw [h]; decide)), docentRestarts, wakes, dormantResets⟩,
    ⟨boots_wait, boots_start, fun img n alt _ hs hh _ hd hq => State.powered_booted hs hh img n alt hd hq⟩⟩

end Sys2Proof.Machine
end
